-- ==== Sys2Proof/Word.lean ====
section
/-!
DEFINITION. The word types of the register window and of memory (00 R4): 32-bit register words and bytes.
-/

namespace Sys2Proof

/-- A 32-bit register word of the window (R21). -/
abbrev Word := BitVec 32

/-- A byte of DRAM or of host memory (R4: multi-byte values are little-endian). -/
abbrev Byte := BitVec 8

end Sys2Proof
end

