-- ==== Sys2Proof/Syntax.lean ====
section
/-!
DEFINITION. The commands of the part: one constructor per row of spec/opcode_table.json, in the table's order. Operands
name the instance (a page, a queue, a channel …), the requester number of R41 (`req`) where the command is an access,
and what arrives from outside (levels, words, frames, outcomes). `b3` is byte 3 of a ring frame's header: SHADOW[0],
HOPS[4:1], PFAULT[5] (R382).
-/

namespace Sys2Proof

/-- The commands of the part (the rows of the operation table). -/
inductive Instr where
  /-- A write to a register field that has no row of its own takes effect by that field's change class. (R8) -/
  | registerWrite (off size value req : Nat)
  /-- A write of CTRL.EN = 1 moves the page from OFF to IDLE. (R30) -/
  | ctrlEnable (page req : Nat)
  /-- A write of CTRL.EN = 0 moves the page to OFF, dropping the output of the period in progress and clearing a
  fault. (R30) -/
  | ctrlDisable (page req : Nat)
  /-- A write of CTRL.RUN = 1 moves the page from IDLE to RUN so that periods start at their triggers. (R30) -/
  | ctrlRun (page req : Nat)
  /-- A write of CTRL.RUN = 0 moves the page from RUN to DRAIN. (R30) -/
  | ctrlStop (page req : Nat)
  /-- When the period in progress completes in DRAIN the page enters IDLE and stored S writes take effect. (R30)
  -/
  | drainComplete (page : Nat)
  /-- A write of CTRL.SRST returns the block's registers and datapath to reset and sets STATE OFF. (R32) -/
  | softReset (page req : Nat)
  /-- A write of CTRL.FREEZE halts or releases the block where the debug level permits. (R27) -/
  | freeze (page : Nat) (on : Bool) (req : Nat)
  /-- A read of LOGDATA returns the oldest log entry and removes it. (R39) -/
  | logdataPop (page req : Nat)
  /-- A write of LOGCTL.CLR empties the error log and clears LOST. (R39) -/
  | logClr (page req : Nat)
  /-- A write of 1 to OWNER.LOCK makes OWNER read-only until a reset of the page. (R43) -/
  | ownerLock (page req : Nat)
  /-- A write of APPLY.APPLYNOW makes the pending B set of the page active at once and increments GEN. (R34) -/
  | applynow (page req : Nat)
  /-- At the end of a violation window the violation count of the interface restarts. (R45) -/
  | violationWindowEnd (page : Nat)
  /-- An encoder input level that holds for FILT + 1 samples is accepted by the glitch filter. (R47) -/
  | filteredLevelChange (enc : Nat) (a b z : Bool) (held : Nat)
  /-- Every SERPER cycles the device starts an SSI or BiSS-C request, or skips it while a transfer is in
  progress. (R54) -/
  | serialRequest (enc : Nat) (dataLow : Bool)
  /-- An accepted serial position word becomes a count step added to ENC.COUNT. (R55) -/
  | serialWord (enc position crc : Nat) (nE nW parity : Bool) (delay : Nat)
  /-- No start bit within SWTMO cycles makes the word an error, replaced by extrapolation. (R56) -/
  | startBitTimeout (enc : Nat)
  /-- Each POSCLK cycle the observer updates position, speed and acceleration and forms WPOS_R and WPOS_S. (R60)
  -/
  | observerUpdate (dom : Nat)
  /-- COASTMAX cycles of coasting with v not 0 move the observer to HALT and the page to FAULT. (R62) -/
  | coastmaxExpiry (dom : Nat)
  /-- A write of CMD.REPAIR re-forms a pair left by a mismatch. (R62) -/
  | repair (dom req : Nat)
  /-- CMD.SNAP or the SNAP task captures WPOS_R, WPOS_S, speed, acceleration and the cycle count of one cycle.
  (R68) -/
  | snap (dom : Nat) (byTask : Bool) (req : Nat)
  /-- A write of EMU CFG.EN takes the current position as origin, or is refused for a bad PITCH or MINEDGE.
  (R65) -/
  | emuEnable (ch req : Nat)
  /-- An emulation channel whose count differs from its target emits one quadrature step once MINEDGE has
  passed. (R65) -/
  | emuStep (ch : Nat)
  /-- A write to a mark entry is accepted or refused by the ARM test. (R71) -/
  | markWrite (mark off value : Nat) (wide : Bool) (req : Nat)
  /-- A mark write takes effect in the second POSCLK cycle after it reaches the table, with the arming
  evaluation. (R73) -/
  | markWriteEffect
  /-- Each POSCLK cycle every armed mark is compared with WPOS_S of its domain and changes state. (R74) -/
  | markEvaluation
  /-- Marks beyond eight per domain in a cycle fire in later cycles in target order. (R76) -/
  | deferredFire (dom : Nat)
  /-- A write of PSC.DISARM disarms every mark of the named domains. (R85) -/
  | disarm (doms req : Nat)
  /-- SLOT.CTRL.LOAD moves an EMPTY slot to LOADING and starts reading the header and repeat table. (R94) -/
  | load (slot req : Nat)
  /-- The end of a load puts the slot in READY, or in ERROR on a format, tag or DRAM fault. (R94) -/
  | loaddone (slot : Nat)
  /-- SLOT.CTRL.UNLOAD returns a slot to EMPTY unless an enabled cursor is bound to it. (R94) -/
  | unload (slot req : Nat)
  /-- SLOT.CTRL.VERIFY starts a background check of every unchecked tile of the slot. (R98) -/
  | verify (slot req : Nat)
  /-- The end of a VERIFY pass sets STAT.VDONE and raises VDONE. (R98) -/
  | vdone (slot : Nat)
  /-- The end of a tile check writes its verdict to the verdict map. (R96) -/
  | tileCheck (slot verdict : Nat)
  /-- A write of a bar cursor's EN is refused when the band buffers would overflow. (R101) -/
  | cursorEnable (bar : Nat) (en : Bool) (req : Nat)
  /-- A Steeple lane takes the earliest eligible line whose contone data is ready. (R124) -/
  | laneStart (stp : Nat)
  /-- A lane completes a line and writes its drop codes for the owned columns to DSTORE. (R119) -/
  | lineScreened (stp slot : Nat)
  /-- An access of STP.SCRDATA stores or returns a screen cell and increments SCRADDR. (R123) -/
  | scrdataAccess (stp : Nat) (write : Bool) (value req : Nat)
  /-- A bar that has started its swap line with no older line in a lane flips its front buffer. (R142) -/
  | handover (bar : Nat)
  /-- A write of SWCMD.FORCE hands over every waiting bar as soon as no lane holds a line of it. (R142) -/
  | swcmdForce (req : Nat)
  /-- The end of copy-forward returns the swap engine to IDLE or moves it to DRAIN of held writes. (R144) -/
  | copyForwardDone
  /-- Applying the last held write returns the swap engine from DRAIN to IDLE. (R145) -/
  | heldQueueDrained
  /-- A write through the nozzle window goes to the back record or both buffers, or is held during a swap.
  (R135) -/
  | nozzleWindowWrite (off value : Nat) (wide : Bool) (req : Nat)
  /-- A write through the curve window goes to the back curve buffer, or is held during a swap. (R135) -/
  | curveWindowWrite (off value : Nat) (wide : Bool) (req : Nat)
  /-- A write of IMGCMD.LOAD starts the table image loader in CHECK. (R150) -/
  | imageLoad (req : Nat)
  /-- The end of the image check moves the loader to WRITE, or to ERROR on a fault. (R150) -/
  | imageCheckDone
  /-- The end of the image write returns the loader to IDLE and raises IMGDONE. (R150) -/
  | imgdone
  /-- A LINE task trigger starts bar line k in RUN, or is discarded in other states. (R156) -/
  | line (bar : Nat)
  /-- In cycle n + 4 FIRE computes T(k) from the latched speed and overshoot. (R161) -/
  | fireInstant (bar : Nat)
  /-- At floor(D(k)) a line not complete in DSTORE becomes VOID and LATEDATA is raised. (R166) -/
  | lineDeadline (bar : Nat)
  /-- A write of a PBA entry is refused for range, a used channel or an excess nozzle count. (R155) -/
  | entryWrite (bar entry : Nat) (map : Bool) (value req : Nat)
  /-- A head link sends the LINE and FIRE or BLANK frames of a bar line's channels at their start time. (R181)
  -/
  | lineSet (link : Nat)
  /-- Block lock with ALIGN LOCKED held for 1,024 blocks ends the LOCK step and sends CMD IDENT. (R182) -/
  | lockDone (link : Nat)
  /-- A received STAT IDENT is checked and advances training to MEASURE or ends it with IDENT. (R190) -/
  | statIdent (link boardid pver chmask intake nnozmax minper : Nat)
  /-- Every SYNCPER cycles in TRAIN or UP the device sends a SYNC frame to the board. (R186) -/
  | syncSend (link : Nat)
  /-- A SYNC answer updates RTT, completes MEASURE after 8 answers, or is NAKed as stale. (R186) -/
  | syncAnswer (link t1 t2 t3 seq : Nat)
  /-- Training not ended within TRNTMO cycles ends with reason TRNTMO and the link goes DOWN. (R182) -/
  | trntmo (link : Nat)
  /-- A valid STAT HB restarts the heartbeat timer and updates board status, temperature and fault flags. (R191)
  -/
  | statHb (link hbcnt flags rxerr latefire : Nat) (temps : List Nat) (alignres : Nat)
  /-- 16,000 cycles without a valid STAT HB put the link DOWN with reason HB. (R184) -/
  | hbTimeout (link : Nat)
  /-- Loss of block lock on a head link puts the link DOWN with reason BLOCK. (R173) -/
  | blockLockLoss (link : Nat)
  /-- A write of LCMD.RETRAIN sends the link from UP or DOWN to TRAIN. (R184) -/
  | retrain (link req : Nat)
  /-- With AUTORT = 1, 250,000 cycles in DOWN start retraining. (R184) -/
  | autort (link : Nat)
  /-- A write of HLK TUNCMD.GO captures the operation and sends a CMD RD or WR. (R189) -/
  | tuncmd (link : Nat) (wr : Bool) (req : Nat)
  /-- A matching ACK ends the tunnel operation OK; an unmatched one is answered NAK SEQ. (R189) -/
  | ack (link cmdSeq data seq : Nat)
  /-- A received NAK is logged and ends a matching tunnel operation. (R194) -/
  | nak (link reason cmdSeq : Nat)
  /-- TUNTMO cycles without ACK or NAK end the tunnel operation with TMO. (R189) -/
  | tuntmo (link : Nat)
  /-- A STAT NCHK frame is written to DRAM at NCHKBASE and raises NCHK, or is discarded. (R192) -/
  | statNchk (link ch : Nat) (payload : List (BitVec 8))
  /-- A board frame with bad CRC, type, length or framing is dropped and NAKed as the table states. (R194) -/
  | hlkFrameError (link reason type seq : Nat)
  /-- Loss of lane lock or no valid packet within LINKTMO puts the camera port DOWN. (R198) -/
  | camDown (port lock : Nat)
  /-- Camera port returns to UP when lock and a valid packet hold again. (R198) -/
  | camUp (port lock : Nat)
  /-- A TRIG task trigger latches the speed for camera line k. (R200) -/
  | trig (port : Nat)
  /-- In cycle n + 4 the port computes T_trig(k). (R200) -/
  | triggerInstant (port : Nat)
  /-- At T_trig the port sends the trigger by packet or pin and enters it in the pending queue. (R201) -/
  | triggerSend (port : Nat)
  /-- A received line is matched to the oldest pending trigger, corrected and delivered. (R203) -/
  | camLine (port : Nat) (sensor : List (List Nat))
  /-- A pending trigger older than LTMO expires and its line is missing. (R203) -/
  | triggerExpiry (port : Nat)
  /-- BLKTMO cycles without progress close the block with the lines delivered, flagged SHORT. (R205) -/
  | blktmo (port : Nat)
  /-- An access of FTDATA reads or writes a back-bank correction word and increments FTADDR. (R210) -/
  | ftdataAccess (port : Nat) (write : Bool) (value req : Nat)
  /-- A write of EXPCMD.GO captures exposure and gain and writes them to the camera. (R212) -/
  | expcmd (port gen req : Nat)
  /-- Acknowledgement of the last exposure write fixes K_w and L of the new generation. (R212) -/
  | expdone (port : Nat)
  /-- A write of CCCMD.GO sends one control packet to the camera. (R218) -/
  | cccmd (port : Nat) (wr : Bool) (req : Nat)
  /-- A control acknowledgement ends the operation OK or ERROR, or a wait acknowledgement restarts the timer.
  (R218) -/
  | ccAck (port kind code data : Nat)
  /-- CCTMO cycles without acknowledgement end the control operation with TMO. (R218) -/
  | cctmo (port : Nat)
  /-- A valid camera event packet becomes a 64-byte entry on the EVT queue, or is dropped. (R219) -/
  | eventPacket (port : Nat) (payload : List (BitVec 8))
  /-- Every HBPER cycles while UP the port sends a heartbeat packet. (R220) -/
  | camHeartbeat (port : Nat)
  /-- A malformed, CRC-failed or unmatched camera packet is dropped and counted. (R221) -/
  | malformedPacket (port kind lane : Nat)
  /-- A home line enters the home hold, or forces the oldest held line on or overruns when full. (R229) -/
  | homeLine (cup : Nat)
  /-- A further port's line is stored in its ring, overwriting an untaken line on overrun. (R226) -/
  | furtherLine (cup slot : Nat)
  /-- A staged line read back from DRAM enters the LSTORE ring, or is missing on an error. (R226) -/
  | stagingRead (cup slot : Nat)
  /-- FWAIT cycles after a home line let it enter stage 2 with missing further lines. (R228) -/
  | fwaitExpiry (cup : Nat)
  /-- A stitched line with its inputs present enters colour, stitch, reference and compare. (R228) -/
  | stage2Entry (cup : Nat)
  /-- When the last line of a block leaves stage 5 the block is handed to DEF. (R230) -/
  | blkdone (cup : Nat)
  /-- An access of TCDATA reads or writes a back-bank tone curve entry and increments TCADDR. (R233) -/
  | tcdataAccess (cup : Nat) (write : Bool) (value req : Nat)
  /-- An access of ICDATA reads or writes a back-bank ink curve entry and increments ICADDR. (R233) -/
  | icdataAccess (cup : Nat) (write : Bool) (value req : Nat)
  /-- DEF joins the runs of a marked line into components and closes those no run joins. (R248) -/
  | defLine (unit : Nat)
  /-- A snippet compression ends and its slot is written or its record marked NOSNP. (R259) -/
  | snippetDone (unit : Nat)
  /-- When the queue has room DEF publishes all of a block's records with one producer advance. (R261) -/
  | blkpost (unit : Nat)
  /-- A pending DROPPED record is published once the queue has room for one entry. (R263) -/
  | droppedPost (unit : Nat)
  /-- CLP accumulates the eligible columns of a stitched line into the active bank. (R271) -/
  | clpLine (cup : Nat)
  /-- A WIN task event closes window w of its group, fixing KW_n. (R273) -/
  | win (group : Nat)
  /-- Once every Cupola has passed KW_n the bars change bank and evaluation starts. (R274) -/
  | bankChange (group : Nat)
  /-- At the end of evaluation CLP posts one correction record per binding and starts auto-apply. (R274) -/
  | correctionRecord (group : Nat)
  /-- After the write passes of a group CLP requests a swap of the written bars. (R280) -/
  | clpSwapRequest
  /-- A COMPRESS command compresses its input into a framed or raw stream. (R287) -/
  | compress (eng : Nat)
  /-- A DECOMPRESS command inflates and checks a framed or raw stream. (R292) -/
  | decompress (eng : Nat)
  /-- An ABORT command closes an open stream without final block or trailer. (R290) -/
  | abort (eng : Nat)
  /-- The end of a compression job posts a completion with its code. (R295) -/
  | cmpJobEnd (eng : Nat)
  /-- A write setting queue CFG.EN zeroes the indices and activates the queue, or is refused. (R305) -/
  | queueEnable (queue value req : Nat)
  /-- A write clearing queue CFG.EN disables the queue after the transfer in progress. (R305) -/
  | queueDisable (queue value req : Nat)
  /-- A write of a queue's BIND binds it to a unit port or makes it a software queue. (R307) -/
  | queueBind (queue value req : Nat)
  /-- A write of a new PIDX by software is checked and sets the index. (R308) -/
  | producerDoorbell (queue value req : Nat) (array : Bool)
  /-- A write of a new CIDX by software is checked, sets the index and restarts the timer. (R308) -/
  | consumerDoorbell (queue value req : Nat) (array : Bool)
  /-- ITMO µs after the interrupt timer starts the queue level rises. (R311) -/
  | itmoExpiry (queue : Nat)
  /-- A PCIe completion of a device read delivers data or ends the request with a host error. (R313) -/
  | hostCompletion (tag status : Nat) (ep : Bool) (data : List (BitVec 8))
  /-- A device read without completion times out and ends its requester with a host error. (R313) -/
  | completionTimeout (tag : Nat)
  /-- A malformed TLP or ECRC error is discarded and logged. (R313) -/
  | malformedTlp
  /-- A host access through PF1 BAR0 reaches DRAM, or gets UR beyond installed DRAM. (R300) -/
  | deviceMemoryAccess (write : Bool) (addr len : Nat) (data : List (BitVec 8)) (ep : Bool)
  /-- A function level reset disables that function's queues, clears its MSI-X and ends its DMA chains. (R302)
  -/
  | flr (fn : Nat)
  /-- A write of CTL.START or a START task makes the channel PENDING at DESC. (R315) -/
  | dmaStart (ch req : Nat) (byTask : Bool)
  /-- A write of CTL.STOP stops a pending channel or stops a running one at the next descriptor. (R315) -/
  | dmaStop (ch req : Nat)
  /-- A write of CTL.RESUME makes a STOPPED channel PENDING at CUR. (R315) -/
  | dmaResume (ch req : Nat)
  /-- When the engine is free it takes the highest-priority PENDING channel and checks its descriptor. (R314) -/
  | dmaTake
  /-- A completed descriptor advances the chain or ends it with a completion entry and DONE. (R315) -/
  | descriptorDone
  /-- A Belfry source input or edge arrives and moves the source toward PENDING. (R325) -/
  | sourceInput (source : Nat)
  /-- A read of CLAIMc claims the highest-priority pending source of the core. (R326) -/
  | claim (core req : Nat)
  /-- A write of COMPLETEc completes a source claimed by the core. (R326) -/
  | complete (core source req : Nat)
  /-- A read of PCLAIMp claims a pending source of pin p. (R328) -/
  | pclaim (pin req : Nat)
  /-- A write of PCOMPLETE completes a source claimed by a pin. (R328) -/
  | pcomplete (source req : Nat)
  /-- A write of HCMP0 or HCMP1 completes a source claimed by MSI-X. (R327) -/
  | hcmp (fn source req : Nat)
  /-- A write of SWSET gives an edge to a software source. (R323) -/
  | swset (swi req : Nat)
  /-- An asynchronous latch catches its edge, hands it to Belfry and may wake the device. (R330) -/
  | latchCatch (latch : Nat) (rising : Bool)
  /-- A 64-bit write of SWFIRE fires a channel with the ARG written. (R509) -/
  | swfire (ch arg req : Nat)
  /-- A 32-bit write at 0x1EC stores the ARG for later fires. (R509) -/
  | swfireArg (value req : Nat)
  /-- A 32-bit write at 0x1E8 fires a channel with the stored ARG. (R509) -/
  | swfireCh (ch req : Nat)
  /-- Two cycles after entering a channel an event reaches its tasks, apply subscribers and Belfry source.
  (R333) -/
  | eventDelivery (ch : Nat)
  /-- A write to an event channel entry is checked against owner and lock. (R337) -/
  | channelWrite (off value req : Nat)
  /-- A channel entry write takes effect in the second POSCLK cycle after it reaches EVF. (R337) -/
  | channelWriteEffect
  /-- A filtered GPIO input edge raises EVF event 64 + g. (R344) -/
  | gpioInputEdge (pin : Nat) (level : Bool) (held : Nat)
  /-- PW cycles after a PULSE the GPIO output returns to 0. (R344) -/
  | pulseEnd (pin : Nat)
  /-- A write of GPIOOUT sets the output levels. (R344) -/
  | gpioout (value req : Nat)
  /-- A START task or CMD.START engages the gear and starts the next segment or holds. (R354) -/
  | axisStart (axis : Nat) (byTask : Bool) (req : Nat)
  /-- A STOP ends the profile at the segment end and disengages the gear. (R354) -/
  | axisStop (axis : Nat) (byTask : Bool) (req : Nat)
  /-- An ABORT holds XPROF at once, disengages the gear and raises PDONE. (R354) -/
  | axisAbort (axis req : Nat)
  /-- A write of SEGHEAD supplies segments, or is ignored when it exceeds 64 ahead. (R353) -/
  | seghead (axis value req : Nat)
  /-- Each POSCLK cycle the axis forms XGEAR, XPROF and the commanded position X. (R347) -/
  | axisCycle (axis : Nat)
  /-- After DUR cycles a segment ends, raises SEGDONE and starts the next or holds. (R352) -/
  | segmentEnd (axis : Nat)
  /-- The step generator emits one step toward the target once the spacing limits allow. (R348) -/
  | step (axis : Nat)
  /-- STANDTMO cycles without a step put the coil pins in the standstill mode. (R350) -/
  | standstill (axis : Nat)
  /-- WAKE cycles after leaving standstill the held steps are released. (R350) -/
  | coilWakeEnd (axis : Nat)
  /-- Every SPPER cycles a serial axis sends a 64-bit set-point frame. (R351) -/
  | setpointFrame (axis : Nat)
  /-- Each decimated SDF output is filtered, detected and posted to the OUT queue. (R363) -/
  | sdfOutput (ch : Nat) (bits : List Bool)
  /-- A data input at one level for STUCKN clocks enters the stuck condition. (R359) -/
  | stuck (ch : Nat) (level : Bool) (clocks : Nat)
  /-- A read of PKMAX or PKMIN returns the value and restarts it. (R364) -/
  | peakRead (ch : Nat) (max : Bool) (req : Nat)
  /-- A write of PTP.INC changes the rate of device time. (R373) -/
  | incWrite (value req : Nat)
  /-- A write of OFSADJ adds an offset to device time. (R373) -/
  | ofsadj (value req : Nat)
  /-- A write of TSETFRAC sets device time to TSETNS and TSETFRAC. (R373) -/
  | tset (frac req : Nat)
  /-- In cycle m the pending TSET, OFSADJ and INC writes act in order and NB = m. (R373) -/
  | timeParametersApply
  /-- A 64-bit read of TIMENS captures T, F and N for the requester. (R374) -/
  | timensCapture (req : Nat)
  /-- A STAMP task captures T, its fraction and N and raises STAMP. (R374) -/
  | stamp
  /-- A TX queue entry is sent as a frame, or refused, and consumed. (R370) -/
  | txEntry (port : Nat)
  /-- A 64-bit read of TXTSQ1 returns and removes the oldest stamp. (R377) -/
  | txtsq1Pop (port req : Nat)
  /-- A received frame is written to its slot with an RX entry, or dropped for lack of room. (R371) -/
  | rxFrame (port : Nat) (data : List (BitVec 8))
  /-- A frame with FCS, length or code error is dropped and counted. (R378) -/
  | ethFrameError (port kind len : Nat)
  /-- Loss of PCS lock or negotiation puts the Ethernet link DOWN. (R378) -/
  | ethLinkDown (port : Nat)
  /-- The Ethernet link returns to UP when lock and negotiation hold. (R378) -/
  | ethLinkUp (port : Nat)
  /-- Loss of lock on a Toltur lane puts the port DOWN and starts retraining. (R381) -/
  | tlkLaneLockLoss (portB : Bool) (lane : Nat)
  /-- A PING from the neighbour is answered, or an answer completes training of the port. (R383) -/
  | ping (portB answer : Bool) (src hops t1 t2 t3 : Nat)
  /-- Every 1,024 cycles the device sends a RING frame. (R384) -/
  | ringSend
  /-- A received RING frame updates the hop counts and is forwarded. (R384) -/
  | ringFrame (portB : Bool) (src b3 seq role rsize : Nat)
  /-- An ACTIVE manager sends a TB frame every 32 cycles. (R385) -/
  | tbSend
  /-- An accepted TB frame updates the worker's domains, or the standby's comparison. (R387) -/
  | tbFrame (portB shadow pfault : Bool) (src hops dly : Nat) (words : List Nat)
  /-- TBMAX frame periods without a TB frame set TBLOST. (R388) -/
  | tblost
  /-- TBHALT cycles without a TB frame send every timebase domain to HALT. (R388) -/
  | tbhalt
  /-- An RSEND task sends a remote event in an EVT frame. (R389) -/
  | rsend
  /-- An accepted EVT frame raises the remote events on the device. (R389) -/
  | evtFrame (portB shadow pfault : Bool) (src hops seq : Nat) (words : List Nat)
  /-- A write of TLK TUNCMD.GO sends a TREQ to the target device. (R390) -/
  | tlkTuncmd (wr wide : Bool) (req : Nat)
  /-- A received TREQ is performed as requester 0x8 and answered with a TRSP. (R390) -/
  | treq (portB : Bool) (src dst b3 seq off : Nat) (wide wr : Bool) (data : Nat)
  /-- A received TRSP ends the tunnel operation with its code. (R390) -/
  | trsp (portB : Bool) (src dst b3 seq code data : Nat)
  /-- TUNTMO cycles without TRSP end the Toltur tunnel with TMO. (R390) -/
  | tlkTuntmo
  /-- The manager accepts or NAKs a forwarded record frame by its FSEQ. (R391) -/
  | fwdFrame (portB : Bool) (src dst b3 : Nat) (words : List Nat)
  /-- A received FACK acknowledges frames or, with NAK, makes the worker resend. (R391) -/
  | fack (portB : Bool) (src dst b3 ackseq : Nat) (nak : Bool)
  /-- 1,024 cycles after its last FACK the manager sends a FACK. (R391) -/
  | fackSend (worker : Nat)
  /-- FWTMO cycles without acknowledgement make the worker resend every unacknowledged frame. (R391) -/
  | fwtmo
  /-- A received CLPD frame is taken by CLP as an imported Cupola line. (R394) -/
  | clpdFrame (portB : Bool) (src dst b3 cup : Nat) (words : List Nat)
  /-- A standby applies mirrored host writes in MSEQ order, or diverges on a gap. (R396) -/
  | mirFrame (portB : Bool) (src dst b3 : Nat) (words : List Nat)
  /-- 104 cycles without an accepted TB frame make an AUTO standby take over. (R399) -/
  | tbLoss
  /-- A write of RED CMD.TAKEOVER makes the standby ACTIVE with MEPOCH + 1. (R399) -/
  | takeover (req : Nat)
  /-- A write of CMD.DECLFAIL sets PFAULT in the manager's frames. (R395) -/
  | declfail (req : Nat)
  /-- A write of CMD.ALIGN realigns a diverged standby at the next TB frame. (R398) -/
  | align (req : Nat)
  /-- A corrected SRAM word is written back when its bank is free. (R404) -/
  | eccWriteback (part word : Nat)
  /-- Every SCRUBPER cycles the scrubber reads one SRAM word. (R406) -/
  | scrub (flips : Nat)
  /-- A write of SRAM.INJECT flips bits of a word at its next read. (R404) -/
  | inject (value req : Nat)
  /-- A request enters a DRAM channel's bank queue, or gets an error response. (R412) -/
  | dramRequest (who : Nat) (write : Bool) (addr len : Nat) (data : List (BitVec 8)) (ce ue : List Nat)
  /-- Each DMC cycle the channel issues at most one command for the first eligible bank. (R414) -/
  | dramCommand (ch ready : Nat)
  /-- A bank owing refresh receives a per-bank refresh, forced at 8 owed. (R417) -/
  | refresh (ch bank intervals : Nat)
  /-- IDLETMO cycles without a request to a bank close its row. (R416) -/
  | rowClose (ch bank : Nat)
  /-- Every SCRUB.PER cycles the DMC scrubber reads one chunk under inline ECC. (R411) -/
  | dmcScrub (ch : Nat) (ce ue : List Nat)
  /-- A write of CALC CMD.GO requests a calibration of one instance. (R424) -/
  | calGo (dom inst : Nat) (force : Bool) (req : Nat)
  /-- An eye width below EYEMIN + 16 with AUTO set requests a calibration. (R424) -/
  | calDrift (dom inst width : Nat)
  /-- A calibration ends and installs its values or keeps the old ones with CALFAIL. (R425) -/
  | calEnd (dom width : Nat) (converged : Bool)
  /-- A head-link recalibration starts in a web gap or when forced. (R428) -/
  | recalStart
  /-- GAPWAIT cycles without a web gap force a head-link recalibration. (R428) -/
  | gapwaitExpiry
  /-- A DMC retraining starts, stalling the channel for at most 2 µs. (R429) -/
  | dramRetrain
  /-- Lantern reads its ageing and thermal monitors at least every 10 ms. (R432) -/
  | monitorRead (kind idx value : Nat)
  /-- PERIOD seconds of RUN since the last plan start a plan. (R434) -/
  | planInterval
  /-- A write of LANT CMD.PLAN starts a plan. (R434) -/
  | plan (req : Nat)
  /-- A plan takes its next voltage or PXCLK step after READ_VOUT settles or SETTLE passes. (R435) -/
  | planStep
  /-- A PMBus transaction ends with its data or a NACK, PEC or mode violation. (R437) -/
  | pmbusTransaction (cmd outcome value : Nat)
  /-- SCL or SDA low for 35 ms makes LANT send nine clocks and STOP. (R437) -/
  | busStuck
  /-- Keep finishes checking a signed object and accepts it or rejects it with a code. (R447) -/
  | objectVerify (src : Nat) (data : List (BitVec 8)) (pmbus : Bool)
  /-- A data strobe absent for 64 clocks ends the xSPI read and retries it. (R443) -/
  | dqsTimeout (kind : Nat)
  /-- A write of BLDCTL.START opens a PCIe boot object load. (R443) -/
  | bldctlStart (req : Nat)
  /-- A write of BLDDATA adds a 64-bit word to the object and its hash. (R443) -/
  | blddata (value req : Nat)
  /-- A write of BLDLEN ends the load and starts the object check. (R443) -/
  | bldlen (value req : Nat)
  /-- The per-boot subtree is ready, stage 6 begins and ATTREADY is raised. (R455) -/
  | attready
  /-- ATTEST writes a signed attestation report over the nonce. (R459) -/
  | attest
  /-- LOADKEY unwraps a key blob into a job key slot. (R460) -/
  | loadkey
  /-- CLEARKEY empties a job key slot unless a JOB slot uses it. (R461) -/
  | clearkey
  /-- GETPUB writes the three device public keys. (R456) -/
  | getpub
  /-- COMMIT raises the counters of the running images to their SVNs. (R449) -/
  | commit
  /-- A signed PROVISION writes the device secret and moves BLANK to DEV. (R462) -/
  | provision
  /-- A signed ENROLL stores an owner anchor at an index. (R458) -/
  | enroll
  /-- A signed REVOKE clears an owner anchor. (R458) -/
  | revoke
  /-- A signed TOPROD moves the lifecycle from DEV to PROD. (R462) -/
  | toprod
  /-- A signed TORMA clears anchors and keys and moves to RMA. (R462) -/
  | torma
  /-- A signed ROOTREV revokes a vendor root in OTP. (R458) -/
  | rootrev
  /-- A write of DBGC.RELOCK lowers the debug level. (R464) -/
  | relock (value req : Nat)
  /-- A write of TKCTL.START opens an unlock token load. (R466) -/
  | tkctlStart (req : Nat)
  /-- A write of TKDATA adds a word to the token. (R466) -/
  | tkdata (value req : Nat)
  /-- A write of TKLEN ends the token load and starts its check. (R466) -/
  | tklen (value req : Nat)
  /-- The end of a token check raises the level or fails, and draws a new nonce. (R466) -/
  | token
  /-- The IDCODE instruction returns the 32-bit identity. (R468) -/
  | idcode
  /-- The BYPASS instruction selects the 1-bit bypass register. (R468) -/
  | bypass
  /-- EXTEST drives the pins from the boundary register. (R468) -/
  | extest (shift : List Bool)
  /-- SAMPLE/PRELOAD samples or loads the boundary register. (R468) -/
  | samplePreload (pins shift : List Bool)
  /-- HIGHZ places the outputs in high impedance. (R468) -/
  | highz
  /-- CLAMP holds the outputs at the boundary values. (R468) -/
  | clamp
  /-- A DMI scan performs a DBGC access as requester 0x7 after Update-DR. (R469) -/
  | dmi (op addr data : Nat)
  /-- The TAP WAKE instruction with Update-DR of 1 requests a wake. (R477) -/
  | wakeInstruction (dr : Bool)
  /-- A write of CCTL.HALTREQ halts the core after its current instruction. (R470) -/
  | haltreq (core req : Nat)
  /-- A write of CCTL.RESUMEREQ resumes a halted core at DPC. (R470) -/
  | resumereq (core req : Nat)
  /-- A write of REGSEL.GO reads or writes a register of a halted core. (R470) -/
  | regselGo (core value req : Nat)
  /-- A breakpoint match halts the core or raises TRIG. (R471) -/
  | breakpoint (core addr : Nat)
  /-- A watchpoint match halts the core after the access or raises TRIG. (R471) -/
  | watchpoint (core addr len : Nat) (store : Bool)
  /-- The DBGC HALT task halts the cores of HALTMASK. (R472) -/
  | halt
  /-- The DBGC RESUME task resumes the cores of RESMASK. (R472) -/
  | resume
  /-- FRZCMD.FREEZE freezes every page of the freeze set in one cycle. (R472) -/
  | frzcmdFreeze (req : Nat)
  /-- FRZCMD.RELEASE unfreezes the pages of the freeze set. (R472) -/
  | frzcmdRelease (req : Nat)
  /-- A write of SBADDR sets the system-bus address and reads when RDONADDR = 1. (R473) -/
  | sbaddrWrite (value req : Nat)
  /-- A write of SBDATA writes the system-bus address. (R473) -/
  | sbdataWrite (value req : Nat)
  /-- A read of SBDATA with RDONDATA = 1 reads the system-bus address. (R473) -/
  | sbdataRead (req : Nat)
  /-- A write of REQ.STATE = IDLE requests entry to IDLE or is refused. (R475) -/
  | reqIdle (req : Nat)
  /-- A write of REQ.STATE = HOLD requests entry to HOLD or is refused. (R475) -/
  | reqHold (req : Nat)
  /-- A write of REQ.STATE = SLEEP requests entry to SLEEP or is refused. (R475) -/
  | reqSleep (req : Nat)
  /-- A write of REQ.STATE = OFF requests power-off or is refused. (R475) -/
  | reqOff (req : Nat)
  /-- A write of REQ.STATE = RUN from IDLE returns the device to RUN. (R476) -/
  | reqRun (req : Nat)
  /-- The entry steps complete and the device rests in the requested low-power state. (R475) -/
  | powerEntryDone
  /-- A PWRC WAKE task ends a low-power state. (R477) -/
  | wake
  /-- A host memory request or L1 exit ends a low-power state. (R477) -/
  | hostWake
  /-- WAKETMR AONCLK ticks after entry wake the device. (R477) -/
  | aonTimer (ticks : Nat)
  /-- The wake sequence ends and PSTAT.STATE reads RUN. (R478) -/
  | wakeComplete (ticks : Nat)
  /-- A power-on reset resets every page and starts the power-on sequence. (R480) -/
  | por (bootsel : Nat)
  /-- RSTn low for 1 µs gives an abrupt warm reset. (R480) -/
  | pinReset
  /-- RSTC.CMD with the key and CHIP = 1 gives an orderly warm reset. (R480) -/
  | swReset (value req : Nat)
  /-- RSTC.CMD with the key and CORES = 1 reloads and restarts the control cores. (R481) -/
  | coreReset (value req : Nat)
  /-- REFCLK absence or PLL unlock over 1 µs gives a CLK reset; a shorter loss is logged. (R480) -/
  | clkLoss (pll long : Bool)
  /-- PERST#, hot reset or link disable resets the PCIe endpoint. (R480) -/
  | perst
  /-- Watchdog expiry raises WDWARN, or on a second expiry triggers a WDT reset. (R490) -/
  | watchdogExpiry
  /-- A write of 0x4B49 to WDKICK restarts the watchdog. (R490) -/
  | wdkick (value req : Nat)
  /-- A write of OUTCTL.REL = 1 releases RSTOUTn. (R488) -/
  | outctlRel (value req : Nat)
  /-- After SRAM zeroing and NCT fill the register window opens to all requesters. (R484) -/
  | winopen
  /-- A DMC channel finishes initial training and sets TRAINED or reports CALFAIL. (R486) -/
  | dramTraining (ch width : Nat) (converged : Bool)
  /-- The PCIe link completes negotiation and training and comes up, raising the LINKUP event. (R299) -/
  | pcieLinkUp (speed width : Nat)
  /-- The PCIe link is lost without a reset, raising the LINKDOWN event. (R299) -/
  | pcieLinkDown
  /-- A host configuration request is answered, with Retry Status before the window opens, and may change Bus
  Master Enable or MSI-X masking. (R484) -/
  | pcieConfigRequest (fn kind vec value data : Nat)
  /-- An unfiltered GPIO input edge or unit event enters an asynchronous channel and drives its GPIO outputs and
  WAKE task without a clock. (R341) -/
  | asyncChannelEdge (ch pin : Nat) (rising : Bool)
  /-- A Toltur frame with a CRC error, or a wrong VER, TYPE, DST or LEN, or a framing error, is dropped, logged
  and counted as a violation. (R401) -/
  | tolturFrameError (portB crc : Bool)
  /-- Block lock and deskew held for 1,024 blocks on every lane of a Toltur port end the first training step,
  and the port starts sending PINGs. (R381) -/
  | tolturLockDone (portB : Bool)
  /-- An ALIGN block received during LOCK whose RATE differs from CFG.RATE ends training with reason IDENT, and
  the link goes DOWN. (R182) -/
  | hlkAlignRate (link rate : Nat)
  /-- The temperature reported in MR4 changes the refresh rate, so DSTAT.DERATE changes and, with AUTO bit 5, a
  DRAM retraining is requested. (R429) -/
  | derateChange (ch rate : Nat)
  /-- TRIGW cycles after a pin-mode trigger rises, TRIGn falls. (R201) -/
  | trigPulseEnd (port : Nat)
  /-- TRSTn low, or the TMS sequence to Test-Logic-Reset, resets the TAP controller and its instruction
  register. (R468) -/
  | tapReset
deriving DecidableEq, Repr

end Sys2Proof
end

