-- ==== Sys2Proof/Decode.lean ====
section
/-!
DEFINITION. The reading of a word as a command. The operation table of this part gives no row any bits (its commands are
register accesses, events and arrivals from outside), so no word spells a command.
-/

namespace Sys2Proof

/-- The command a word of the table's bits spells: none, since no row of the table gives bits. -/
def decodeTableWord (_nbits _w : Nat) : Option Instr := none

end Sys2Proof
end

