-- ==== Sys2Proof/Machine/Bits.lean ====
section
/-!
DEFINITION. Bit fields, two's complement, rounding, saturation and little-endian bytes (00 R4, R5): the plain
arithmetic every meaning uses.
-/

namespace Sys2Proof.Machine

/-- FIELD[hi:lo] of `x` (R4). -/
def bits (x hi lo : Nat) : Nat := (x >>> lo) % 2 ^ (hi + 1 - lo)

/-- Bit `i` of `x` as a Bool. -/
def bit (x i : Nat) : Bool := (x >>> i) % 2 == 1

/-- `x` with FIELD[hi:lo] replaced by the low bits of `v`. -/
def setBits (x hi lo v : Nat) : Nat :=
  let m := 2 ^ (hi + 1 - lo)
  x - bits x hi lo * 2 ^ lo + (v % m) * 2 ^ lo

/-- The bits of `mask` taken from `new`, the others from `old` (words of 32 bits). -/
def mix (old new mask : Nat) : Nat := (old &&& (0xFFFFFFFF ^^^ mask)) ||| (new &&& mask)

/-- A Bool as a bit. -/
def b2n (b : Bool) : Nat := if b then 1 else 0

/-- A two's-complement value of `w` bits (R5). -/
def sgn (w x : Nat) : Int := if x % 2 ^ w < 2 ^ (w - 1) then (x % 2 ^ w : Nat) else (x % 2 ^ w : Nat) - (2 ^ w : Nat)

/-- The `w`-bit two's-complement encoding of an integer. -/
def enc2 (w : Nat) (i : Int) : Nat := (i % (2 ^ w : Nat)).toNat

/-- Floor of a quotient by a positive natural number. -/
def fdiv (a : Int) (b : Nat) : Int := Int.fdiv a b

/-- Floor of `i / 2^k`. -/
def shr (i : Int) (k : Nat) : Int := Int.fdiv i (2 ^ k : Nat)

/-- `i / 2^k` rounded to the nearest, half up. -/
def rnd (i : Int) (k : Nat) : Int := if k = 0 then i else Int.fdiv (i + (2 ^ (k - 1) : Nat)) (2 ^ k : Nat)

/-- `a / b` rounded to the nearest; at a tie `up` decides (a free value, log entry 12). -/
def nearest (a b : Int) (up : Bool) : Int :=
  let q := Int.fdiv (2 * a + b) (2 * b)
  if !up && decide (q * (2 * b) = 2 * a + b) then q - 1 else q

/-- `lo ≤ · ≤ hi` by clamping. -/
def clamp (lo hi i : Int) : Int := if i < lo then lo else if hi < i then hi else i

/-- A counter of `w` bits that saturates (the register tables' "saturating"). -/
def satAdd (w x n : Nat) : Nat := min (2 ^ w - 1) (x + n)

/-- The `n` little-endian bytes of `v` (R4). -/
def leBytes : Nat → Nat → List Byte
  | 0, _ => []
  | n + 1, v => BitVec.ofNat 8 v :: leBytes n (v / 256)

/-- The value of little-endian bytes (R4). -/
def leVal : List Byte → Nat
  | [] => 0
  | b :: bs => b.toNat + 256 * leVal bs

/-- The value of `n` bytes at offset `o` of a byte string, bytes past its end reading 0. -/
def leAt (bs : List Byte) (o n : Nat) : Nat := leVal ((bs.drop o).take n)

/-- Parity of the low `w` bits: true when the number of ones is odd. -/
def oddOnes : Nat → Nat → Bool
  | 0, _ => false
  | w + 1, x => (bit x w) != oddOnes w x

/-- One step of a CRC of width `w` over one bit, most significant bit first. -/
def crcStep (w poly crc : Nat) (b : Bool) : Nat :=
  let top := bit crc (w - 1) != b
  let c := (crc * 2) % 2 ^ w
  if top then c ^^^ poly else c

/-- A CRC over the bits of `x` from bit `n - 1` down to bit 0, initial value 0. -/
def crcBits (w poly : Nat) : Nat → Nat → Nat → Nat
  | 0, _, crc => crc
  | n + 1, x, crc => crcBits w poly n x (crcStep w poly crc (bit x n))

/-- One bit of a reflected CRC of 32 bits. -/
def crc32Bit (poly crc : Nat) : Nat := if crc % 2 = 1 then (crc / 2) ^^^ poly else crc / 2

/-- One byte of a reflected CRC of 32 bits. -/
def crc32Byte (poly crc : Nat) (b : Byte) : Nat :=
  let f := crc32Bit poly
  f (f (f (f (f (f (f (f (crc ^^^ b.toNat))))))))

/-- A reflected CRC-32 with initial value and final XOR of all ones; `poly` is the reflected polynomial. -/
def crc32 (poly : Nat) (bs : List Byte) : Nat :=
  (bs.foldl (crc32Byte poly) 0xFFFFFFFF) ^^^ 0xFFFFFFFF

/-- The reflected polynomial of CRC-32C (Castagnoli). -/
def polyC : Nat := 0x82F63B78

/-- The reflected polynomial of the CRC-32 of IEEE 802.3 and of gzip. -/
def polyE : Nat := 0xEDB88320

/-- The numbers `a` to `a + n - 1`. -/
def span (a n : Nat) : List Nat := (List.range n).map (a + ·)

/-- The integer square root (floor), by bits from bit `k` down. -/
def isqrtGo : Nat → Nat → Nat → Nat
  | 0, _, r => r
  | k + 1, x, r => let t := r + 2 ^ k; isqrtGo k x (if t * t ≤ x then t else r)

/-- The integer square root (floor) of a number below 2^128. -/
def isqrt (x : Nat) : Nat := isqrtGo 64 x 0

/-- Binary logarithm (floor) of a positive number below 2^k; 0 for 0. -/
def log2Go : Nat → Nat → Nat
  | 0, _ => 0
  | k + 1, x => if 2 ^ (k + 1) ≤ x then k + 1 else log2Go k x

end Sys2Proof.Machine
end

