-- ==== Sys2Proof/Machine/Inflate.lean ====
section
/-!
DEFINITION. DEFLATE decoding (RFC 1951) with an output limit, as tiles (05 R91, R96) and DECOMPRESS (14 R292) need it.
-/

namespace Sys2Proof.Machine

/-- The bits of a byte string, least significant first. -/
def bitsOf (bs : List Byte) : List Bool := bs.flatMap (fun b => (List.range 8).map (fun i => bit b.toNat i))

/-- `n` bits as a number, least significant first, and the rest. -/
def takeNum : Nat → List Bool → Option (Nat × List Bool)
  | 0, l => some (0, l)
  | _ + 1, [] => none
  | n + 1, b :: l => (takeNum n l).map (fun r => (b2n b + 2 * r.1, r.2))

/-- A canonical prefix code: codes per length 0 to 15, symbols in code order. -/
structure Huff where
  counts : List Nat
  syms : List Nat
deriving DecidableEq, Repr

/-- The canonical code of a list of lengths by symbol. -/
def Huff.ofLens (lens : List Nat) : Huff :=
  let idx := lens.zipIdx
  ⟨(List.range 16).map (fun n => if n = 0 then 0 else lens.countP (· == n)),
   (span 1 15).flatMap (fun n => (idx.filter (fun e => e.1 == n)).map (·.2))⟩

/-- More codes than the lengths admit. -/
def Huff.oversubscribed (h : Huff) : Bool :=
  ((List.range 16).foldl (fun (a : Int) n => if n = 0 ∨ a < 0 then a else a * 2 - h.counts.getD n 0) 1) < 0

/-- One symbol, lengths `len` to 15. -/
def Huff.go (h : Huff) : Nat → Nat → Nat → Nat → Nat → List Bool → Option (Nat × List Bool)
  | 0, _, _, _, _, _ => none
  | _ + 1, _, _, _, _, [] => none
  | fuel + 1, len, code, first, index, b :: l =>
    let code := code + b2n b
    let n := h.counts.getD len 0
    if code < first + n then (h.syms[index + (code - first)]?).map (fun y => (y, l))
    else h.go fuel (len + 1) (code * 2) ((first + n) * 2) (index + n) l

/-- The next symbol of a code. -/
def Huff.sym (h : Huff) (l : List Bool) : Option (Nat × List Bool) := h.go 15 1 0 0 0 l

/-- Why no symbol stands at the head of `l`: 3 the input ended inside a code, 1 no code begins so. The bits left are the
head of a code when the lowest of their continuations is one. -/
def Huff.fail (h : Huff) (l : List Bool) : Nat := if (h.sym (l ++ List.replicate 15 false)).isSome then 3 else 1

def lenBase : List Nat := [3, 4, 5, 6, 7, 8, 9, 10, 11, 13, 15, 17, 19, 23, 27, 31, 35, 43, 51, 59, 67, 83, 99, 115, 131,
  163, 195, 227, 258]
def lenExtra : List Nat := [0, 0, 0, 0, 0, 0, 0, 0, 1, 1, 1, 1, 2, 2, 2, 2, 3, 3, 3, 3, 4, 4, 4, 4, 5, 5, 5, 5, 0]
def distBase : List Nat := [1, 2, 3, 4, 5, 7, 9, 13, 17, 25, 33, 49, 65, 97, 129, 193, 257, 385, 513, 769, 1025, 1537,
  2049, 3073, 4097, 6145, 8193, 12289, 16385, 24577]
def distExtra : List Nat := [0, 0, 0, 0, 1, 1, 2, 2, 3, 3, 4, 4, 5, 5, 6, 6, 7, 7, 8, 8, 9, 9, 10, 10, 11, 11, 12, 12,
  13, 13]

/-- A copy of `n` bytes from distance `d`; output newest first. -/
def copyBack : Nat → Nat → List Byte → List Byte
  | 0, _, out => out
  | n + 1, d, out => copyBack n d (out.getD (d - 1) 0 :: out)

/-- Why decoding stops without a result: 1 malformed, 2 the output limit, 3 the input ended; output newest first; bits
left. -/
abbrev InfErr := Nat × List Byte × Nat

/-- The symbols of one block; output newest first; `lim` is the output limit by the bits left, `win` the reach. -/
def inflateSyms (h d : Huff) (lim : Nat → Nat) (win : Nat) : Nat → List Byte → List Bool → Except InfErr (List Byte × List Bool)
  | 0, out, l => .error (3, out, l.length)
  | fuel + 1, out, l =>
    match h.sym l with
    | none => .error (h.fail l, out, l.length)
    | some (y, l) =>
      if y = 256 then .ok (out, l)
      else if y < 256 then
        if lim l.length ≤ out.length then .error (2, out, l.length)
        else inflateSyms h d lim win fuel (BitVec.ofNat 8 y :: out) l
      else if 285 < y then .error (1, out, l.length)
      else
        match takeNum (lenExtra.getD (y - 257) 0) l with
        | none => .error (3, out, l.length)
        | some (e, l) =>
          match d.sym l with
          | none => .error (d.fail l, out, l.length)
          | some (z, l) =>
            if 29 < z then .error (1, out, l.length)
            else
              match takeNum (distExtra.getD z 0) l with
              | none => .error (3, out, l.length)
              | some (f, l) =>
                let n := lenBase.getD (y - 257) 0 + e
                let dist := distBase.getD z 0 + f
                let m := lim l.length
                if out.length < dist ∨ win < dist then .error (1, out, l.length)
                else if m < out.length + n then .error (2, copyBack (m - out.length) dist out, l.length)
                else inflateSyms h d lim win fuel (copyBack n dist out) l

/-- The fixed codes of RFC 1951. -/
def fixedLit : Huff := Huff.ofLens (List.replicate 144 8 ++ List.replicate 112 9 ++ List.replicate 24 7 ++
  List.replicate 8 8)
def fixedDist : Huff := Huff.ofLens (List.replicate 30 5)

/-- Code lengths of a dynamic block; lengths newest first. -/
def readLens (h : Huff) (total : Nat) : Nat → List Nat → List Bool → Except Nat (List Nat × List Bool)
  | 0, _, _ => .error 3
  | fuel + 1, out, l =>
    if total < out.length then .error 1
    else if out.length = total then .ok (out.reverse, l)
    else
      match h.sym l with
      | none => .error (h.fail l)
      | some (y, l) =>
        if y < 16 then readLens h total fuel (y :: out) l
        else
          let w := if y = 16 then 2 else if y = 17 then 3 else 7
          match takeNum w l with
          | none => .error 3
          | some (r, l) =>
            if y = 16 then
              match out with
              | [] => .error 1
              | p :: _ => readLens h total fuel (List.replicate (3 + r) p ++ out) l
            else readLens h total fuel (List.replicate ((if y = 17 then 3 else 11) + r) 0 ++ out) l

def clOrder : List Nat := [16, 17, 18, 0, 8, 7, 9, 6, 10, 5, 11, 4, 12, 3, 13, 2, 14, 1, 15]

/-- `n` three-bit lengths of the code-length code. -/
def readCl : Nat → List Bool → Option (List Nat × List Bool)
  | 0, l => some ([], l)
  | n + 1, l =>
    match takeNum 3 l with
    | none => none
    | some (x, l) => (readCl n l).map (fun r => (x :: r.1, r.2))

/-- The two codes of a dynamic block. -/
def dynCodes (l : List Bool) : Except Nat (Huff × Huff × List Bool) :=
  match takeNum 14 l with
  | none => .error 3
  | some (x, l) =>
    let hlit := 257 + bits x 4 0
    let hdist := 1 + bits x 9 5
    let hcl := 4 + bits x 13 10
    match readCl hcl l with
    | none => .error 3
    | some (cl, l) =>
      let lens := (List.range 19).map (fun y => cl.getD (clOrder.idxOf y) 0)
      let h := Huff.ofLens lens
      if h.oversubscribed ∨ 286 < hlit then .error 1
      else
        match readLens h (hlit + hdist) (hlit + hdist + 1) [] l with
        | .error e => .error e
        | .ok (all, l) =>
          let a := Huff.ofLens (all.take hlit)
          let b := Huff.ofLens (all.drop hlit)
          if a.oversubscribed ∨ b.oversubscribed ∨ all.getD 256 0 = 0 then .error 1 else .ok (a, b, l)

/-- The bytes of a stored block; bits from a byte boundary on. -/
def storedBytes (lim : Nat → Nat) : Nat → List Byte → List Bool → Except InfErr (List Byte × List Bool)
  | 0, out, l => .ok (out, l)
  | n + 1, out, l =>
    match takeNum 8 l with
    | none => .error (3, out, l.length)
    | some (x, l) =>
      if lim l.length ≤ out.length then .error (2, out, l.length) else storedBytes lim n (BitVec.ofNat 8 x :: out) l

/-- Blocks up to and including the final one; output newest first. -/
def inflateBlocks (lim : Nat → Nat) (win : Nat) : Nat → List Byte → List Bool → Except InfErr (List Byte × List Bool)
  | 0, out, l => .error (3, out, l.length)
  | fuel + 1, out, l =>
    match takeNum 3 l with
    | none => .error (3, out, l.length)
    | some (x, l) =>
      let r : Except InfErr (List Byte × List Bool) :=
        match bits x 2 1 with
        | 0 =>
          let l := l.drop (l.length % 8)
          match takeNum 32 l with
          | none => .error (3, out, l.length)
          | some (y, l) =>
            let n := y % 65536
            if y / 65536 ≠ 65535 - n then .error (1, out, l.length) else storedBytes lim n out l
        | 1 => inflateSyms fixedLit fixedDist lim win (l.length + 1) out l
        | 2 =>
          match dynCodes l with
          | .error e => .error (e, out, l.length)
          | .ok (a, b, l) => inflateSyms a b lim win (l.length + 1) out l
        | _ => .error (1, out, l.length)
      match r with
      | .error e => .error e
      | .ok (out, l) => if bit x 0 then .ok (out, l) else inflateBlocks lim win fuel out l

/-- A raw DEFLATE stream at the head of `bs`: its output and the bytes after the stream. -/
def inflate (max win : Nat) (bs : List Byte) : Except Nat (List Byte × List Byte) :=
  let l := bitsOf bs
  match inflateBlocks (fun _ => max) win (l.length + 1) [] l with
  | .error e => .error e.1
  | .ok (out, r) => .ok (out.reverse, bs.drop (bs.length - r.length / 8))

/-- A raw stream under the limits of R293: what it gives (0 ended, else why it stopped), output, bytes used. -/
def inflateLim (maxout ratio : Nat) (bs : List Byte) : Nat × List Byte × Nat :=
  let l := bitsOf bs
  let used := fun (r : Nat) => (l.length - r + 7) / 8
  let lim := fun (r : Nat) => min maxout (ratio * used r + 4096)
  match inflateBlocks lim 32768 (l.length + 1) [] l with
  | .error e => (e.1, e.2.1.reverse, used e.2.2)
  | .ok (out, r) => (0, out.reverse, used r.length)

end Sys2Proof.Machine
end

