-- ==== Sys2Proof/Config.lean ====
section
/-!
DEFINITION. What a part fixes and what the spec leaves open: the four variants (R3) and the FREE VALUES, opaque
constants without a body, so that no proof can see a value of them (log entry 3 names them all).
-/

namespace Sys2Proof

/-- The four parts of R3. -/
inductive Variant where
  | kry4812 | kry4812I | kry4812P | kry2406
deriving DecidableEq, Repr

namespace Config

/-- FREE: the n-th value the device draws that the spec leaves open (random words of Keep, undefined contents). -/
opaque draw : Nat → Nat

/-- FREE: what a byte of DRAM reads as after its content became undefined (R481), by epoch and address. -/
opaque lostByte : Nat → Nat → BitVec 8

/-- FREE: content of a memory the spec leaves undefined: memory, epoch, index (R123, R148). -/
opaque undefCell : Nat → Nat → Nat → Nat

/-- FREE: the bits of a dynamic-Huffman block, whose codes the spec leaves open (R288), by level, bit alignment, earlier
input of the stream, input of the block, last block. The model uses them only where they are such a block. -/
opaque deflate : Nat → Nat → List (BitVec 8) → List (BitVec 8) → Bool → List Bool

/-- FREE: the hash of three bytes that selects a chain of the match search (R287): the spec does not give it. -/
opaque hash3 : Nat → Nat → Nat → Nat

/-- Primitive of a standard the spec only names: SHA-384 (R444 to R447, R459). -/
opaque sha384 : List (BitVec 8) → List (BitVec 8)

/-- Primitive of a standard the spec only names: an ECDSA P-384 signature check: key, message, signature. -/
opaque ecdsaOk : List (BitVec 8) → List (BitVec 8) → List (BitVec 8) → Bool

/-- Primitive of a standard the spec only names: an HSS/LMS signature check: key, message, signature. -/
opaque hssOk : List (BitVec 8) → List (BitVec 8) → List (BitVec 8) → Bool

/-- Primitives of a standard the spec only names: the AES-256-GCM tag of a ciphertext: key, nonce, associated data,
ciphertext; and byte `n` of the key stream: key, nonce, n. -/
opaque gcmTag : List (BitVec 8) → List (BitVec 8) → List (BitVec 8) → List (BitVec 8) → List (BitVec 8)
opaque gcmByte : List (BitVec 8) → List (BitVec 8) → Nat → BitVec 8

/-- FREE: what the ROM and OTP of a part hold of Keep, by kind and index: the anchor hashes of the vendor roots (R445), the
labels of the identity keys (R453: "a distinct label for each key"). -/
opaque keepBytes : Nat → Nat → List (BitVec 8)

/-- Primitive of a standard the spec only names: HKDF-SHA-384 of RFC 5869 (R453, R460): salt, input, information, length. -/
opaque hkdf : List (BitVec 8) → List (BitVec 8) → List (BitVec 8) → Nat → List (BitVec 8)

/-- Primitive of a standard the spec only names: the P-384 public key of a private scalar, an uncompressed point (R453). -/
opaque ecPub : Nat → List (BitVec 8)

/-- Primitive of a standard the spec only names: an ECDSA P-384 signature, r then s (R459): private scalar, random value,
message. -/
opaque ecdsaSign : Nat → Nat → List (BitVec 8) → List (BitVec 8)

/-- Primitive of a standard the spec only names: the x-coordinate of an ECDH product on P-384 (R460): scalar, point. -/
opaque ecdh : Nat → List (BitVec 8) → List (BitVec 8)

/-- Primitive of a standard the spec only names: AES-256 key unwrap of RFC 3394 (R460): key, wrap; none where the integrity
value fails. -/
opaque keyUnwrap : List (BitVec 8) → List (BitVec 8) → Option (List (BitVec 8))

/-- Primitives of RFC 8554, which the spec only names (R453 to R459), of a tree of a height with a seed and an identifier: its
root; the authentication path of leaf q; the traversal state that forms the next paths; the randomiser and chains of
leaf q's one-time signature (W8) of a message. -/
opaque lmsRoot : Nat → List (BitVec 8) → List (BitVec 8) → List (BitVec 8)
opaque lmsPath : Nat → List (BitVec 8) → List (BitVec 8) → Nat → List (BitVec 8)
opaque lmsTrav : Nat → List (BitVec 8) → List (BitVec 8) → Nat → List (BitVec 8)
opaque lmots : List (BitVec 8) → List (BitVec 8) → Nat → List (BitVec 8) → List (BitVec 8)

/-- FREE: a measured value of the outside world, by kind and index (clock monitors, sensors, eyes). -/
opaque measure : Nat → Nat → Nat

/-- FREE: the observer's correction within the tolerance of R59: gain kind, bandwidth, error. -/
opaque observerGain : Nat → Nat → Int

/-- FREE: FIR coefficient j of an SDF preset (R360, where the spec gives no number). -/
opaque firCoef : Nat → Nat → Int

/-- FREE: which way a quotient exactly between two values rounds, where the spec says "to the nearest" only. -/
opaque tieUp : Nat → Bool

/-- The timeout of the encoder attached to a front end, in POSCLK cycles (R54): the spec gives no length. -/
opaque encTimeout : Nat → Nat

/-- FREE: identity values from the part's OTP and MRAM at first power-on: serial, anchors, counters, by index. -/
opaque otp : Nat → Nat

/-- FREE: which word of an SRAM partition holds an item of a unit's buffer (R402 gives sizes only): partition, page, item. -/
opaque sramWord : Nat → Nat → Nat → Nat

/-- FREE: the slack in ps of an SRAM read margin in mV (R434: "their stated sensitivity", which the spec does not state). -/
opaque sramSlack : Nat → Int → Int

/-- FREE: what corrects the slack of a margin-log entry to a plan's temperature, in 1/256 ps, from the entry and the plan
(R436 gives no coefficient, and the entry holds no temperature). -/
opaque tempSlack : List Nat → Nat → Int

/-- Primitive of a standard the spec only names: the P-384 curve equation of an uncompressed point (R460). -/
opaque onCurve : List (BitVec 8) → Bool

/-- FREE: whether the control cores implement a CSR (R470; the spec lists none). -/
opaque coreCsr : Nat → Bool

end Config

end Sys2Proof
end

