-- ==== Sys2Proof/Machine/RegMap.lean ====
section
/-!
DEFINITION. The register map of the spec: the blocks and their pages (02 R23, R25), the offset of every register by
its name, and for every 32-bit register word its writable bits by change class (S, B, L of R8) and its reset value, as
the register tables of the chapters give them.
-/

namespace Sys2Proof.Machine

/-- The blocks of R23, in the order of their PRESENT indices. -/
inductive Blk where
  | chip | clkc | pwrc | rstc | lant | calc | keep | dbgc | enc | obs | psc | emu | axs | sdf | cam | cup | def_ | clp | job | stp | nct | pba | fire | hlk | cmp | hqf | pcie | dma | bic | evf | ptp | eth | tlk | red | dmc | sram
deriving DecidableEq, Repr

/-- The PRESENT index of instance 0 of a block (R23). -/
def Blk.first : Blk → Nat
  | .chip => 0
  | .clkc => 1
  | .pwrc => 2
  | .rstc => 3
  | .lant => 4
  | .calc => 5
  | .keep => 6
  | .dbgc => 7
  | .enc => 8
  | .obs => 24
  | .psc => 28
  | .emu => 29
  | .axs => 30
  | .sdf => 46
  | .cam => 62
  | .cup => 74
  | .def_ => 78
  | .clp => 82
  | .job => 83
  | .stp => 84
  | .nct => 116
  | .pba => 117
  | .fire => 133
  | .hlk => 134
  | .cmp => 198
  | .hqf => 206
  | .pcie => 207
  | .dma => 208
  | .bic => 209
  | .evf => 210
  | .ptp => 211
  | .eth => 212
  | .tlk => 214
  | .red => 215
  | .dmc => 216
  | .sram => 224

/-- The number of instances of a block on the full part (R23). -/
def Blk.insts : Blk → Nat
  | .chip => 1
  | .clkc => 1
  | .pwrc => 1
  | .rstc => 1
  | .lant => 1
  | .calc => 1
  | .keep => 1
  | .dbgc => 1
  | .enc => 16
  | .obs => 4
  | .psc => 1
  | .emu => 1
  | .axs => 16
  | .sdf => 16
  | .cam => 12
  | .cup => 4
  | .def_ => 4
  | .clp => 1
  | .job => 1
  | .stp => 32
  | .nct => 1
  | .pba => 16
  | .fire => 1
  | .hlk => 64
  | .cmp => 8
  | .hqf => 1
  | .pcie => 1
  | .dma => 1
  | .bic => 1
  | .evf => 1
  | .ptp => 1
  | .eth => 2
  | .tlk => 1
  | .red => 1
  | .dmc => 8
  | .sram => 1

/-- All blocks, in the order of R23. -/
def Blk.all : List Blk :=
  [.chip, .clkc, .pwrc, .rstc, .lant, .calc, .keep, .dbgc, .enc, .obs, .psc, .emu, .axs, .sdf, .cam, .cup, .def_, .clp, .job, .stp, .nct, .pba, .fire, .hlk, .cmp, .hqf, .pcie, .dma, .bic, .evf, .ptp, .eth, .tlk, .red, .dmc, .sram]

/-- The page of instance `n` of a block, as its PRESENT index (R23). -/
def Blk.page (b : Blk) (n : Nat) : Nat := b.first + n

/-- The block of a PRESENT index (R23). -/
def blkOf (p : Nat) : Option Blk := Blk.all.find? (fun b => decide (b.first ≤ p) && decide (p < b.first + b.insts))

/-- The instance number of a page. -/
def instOf (p : Nat) : Nat :=
  match blkOf p with
  | some b => p - b.first
  | none => 0

/-- How many instances of a block a part contains (R3). -/
def unitCount (v : Variant) (b : Blk) : Nat :=
  match v, b with
  | .kry4812P, .cam => 4
  | .kry2406, .cam => 6
  | .kry4812P, .cup => 1
  | .kry4812P, .def_ => 1
  | .kry2406, .cup => 2
  | .kry2406, .def_ => 2
  | .kry4812I, .stp => 0
  | .kry4812I, .pba => 0
  | .kry4812I, .hlk => 0
  | .kry4812I, .nct => 0
  | .kry4812I, .fire => 0
  | .kry4812I, .clp => 0
  | .kry2406, .stp => 16
  | .kry2406, .pba => 8
  | .kry2406, .hlk => 32
  | .kry2406, .cmp => 4
  | .kry2406, .dmc => 4
  | .kry2406, .eth => 1
  | _, b => b.insts

/-- The page of a PRESENT index is present on the part (R25). -/
def unitPresent (v : Variant) (p : Nat) : Bool :=
  match blkOf p with
  | some b => decide (p - b.first < unitCount v b)
  | none => false

/-- One or more register words at `base + i × stride`, `i < count`: writable bits by class (R8) and reset value. -/
structure RegRow where
  base : Nat
  count : Nat
  stride : Nat
  s : Nat
  b : Nat
  l : Nat
  rst : Nat
deriving DecidableEq, Repr

/-- Offset `o` is one of the row's words. -/
def RegRow.hits (r : RegRow) (o : Nat) : Bool :=
  decide (r.base ≤ o) && decide ((o - r.base) % r.stride = 0) && decide ((o - r.base) / r.stride < r.count)

/-- Register words of a CHIP page that hold a writable bit or a reset value other than 0. -/
def rowsCHIP : List RegRow := [
  ⟨0x104, 1, 0x4, 0x0, 0x0, 0x0, 0x1⟩,
  ⟨0x108, 1, 0x4, 0x0, 0x0, 0x0, 0x2b7⟩]

/-- Register words of a CLKC page that hold a writable bit or a reset value other than 0. -/
def rowsCLKC : List RegRow := [
  ⟨0x104, 1, 0x4, 0x0, 0x0, 0x0, 0x3e80004⟩,
  ⟨0x110, 1, 0x4, 0x0, 0x0, 0xffffffff, 0x0⟩]

/-- Register words of a PWRC page that hold a writable bit or a reset value other than 0. -/
def rowsPWRC : List RegRow := [
  ⟨0x108, 1, 0x4, 0x0, 0x0, 0x1f, 0xe⟩,
  ⟨0x10c, 1, 0x4, 0x0, 0x0, 0xffffffff, 0x0⟩,
  ⟨0x110, 1, 0x4, 0x0, 0x0, 0xffffffff, 0x0⟩,
  ⟨0x114, 1, 0x4, 0x0, 0x0, 0xffffffff, 0x0⟩,
  ⟨0x118, 1, 0x4, 0x0, 0x0, 0xffffffff, 0x0⟩,
  ⟨0x11c, 1, 0x4, 0x0, 0x0, 0xffffffff, 0x0⟩,
  ⟨0x120, 1, 0x4, 0x0, 0x0, 0xffffffff, 0x0⟩]

/-- Register words of a RSTC page that hold a writable bit or a reset value other than 0. -/
def rowsRSTC : List RegRow := [
  ⟨0x100, 1, 0x4, 0x0, 0x0, 0x0, 0x1⟩,
  ⟨0x108, 1, 0x4, 0x0, 0x0, 0xf1, 0x0⟩,
  ⟨0x10c, 1, 0x4, 0x0, 0x0, 0xffffff, 0xf424⟩,
  ⟨0x118, 1, 0x4, 0x0, 0x0, 0x1, 0x0⟩]

/-- Register words of a LANT page that hold a writable bit or a reset value other than 0. -/
def rowsLANT : List RegRow := [
  ⟨0x100, 1, 0x4, 0x1771, 0x0, 0x0, 0x1041⟩,
  ⟨0x104, 1, 0x4, 0xffffffff, 0x0, 0x0, 0x15180⟩,
  ⟨0x108, 1, 0x4, 0x0, 0x0, 0xffff, 0x14⟩,
  ⟨0x10c, 1, 0x4, 0x0, 0x0, 0xffff, 0x5⟩,
  ⟨0x110, 1, 0x4, 0xffffffff, 0x0, 0x0, 0x35202ee⟩,
  ⟨0x114, 1, 0x4, 0x1ff7f, 0x0, 0x0, 0x10040⟩,
  ⟨0x118, 1, 0x4, 0x0, 0x0, 0xffff00ff, 0xc8000a⟩,
  ⟨0x12c, 1, 0x4, 0x0, 0x0, 0x0, 0xffffffff⟩,
  ⟨0x134, 1, 0x4, 0x0, 0x0, 0xffffffff, 0x0⟩,
  ⟨0x140, 1, 0x4, 0x0, 0x0, 0xff07, 0x0⟩,
  ⟨0x148, 1, 0x4, 0x0, 0x0, 0xffffffff, 0x690⟩,
  ⟨0x150, 1, 0x4, 0x0, 0x0, 0xffff, 0x10⟩,
  ⟨0x158, 1, 0x4, 0x0, 0x0, 0xffffffff, 0x0⟩,
  ⟨0x15c, 1, 0x4, 0x0, 0x0, 0xffffffff, 0x0⟩,
  ⟨0x160, 1, 0x4, 0x0, 0x0, 0xffffffff, 0x0⟩,
  ⟨0x164, 1, 0x4, 0x0, 0x0, 0xffffffff, 0x0⟩,
  ⟨0x170, 1, 0x4, 0x0, 0x0, 0x77ff, 0x0⟩]

/-- Register words of a CALC page that hold a writable bit or a reset value other than 0. -/
def rowsCALC : List RegRow := [
  ⟨0x108, 1, 0x4, 0x0, 0x0, 0xff01, 0xff00⟩,
  ⟨0x10c, 1, 0x4, 0x0, 0x0, 0xffffffff, 0xee6b280⟩,
  ⟨0x110, 1, 0x4, 0x0, 0x0, 0xff, 0x4d⟩,
  ⟨0x114, 1, 0x4, 0x0, 0x0, 0xff, 0x40⟩,
  ⟨0x118, 1, 0x4, 0x0, 0x0, 0xffff00ff, 0x400010⟩,
  ⟨0x11c, 1, 0x4, 0x0, 0x0, 0xffffff1f, 0x40000a⟩,
  ⟨0x180, 1, 0x4, 0x0, 0x0, 0xffffffff, 0x0⟩,
  ⟨0x188, 1, 0x4, 0x0, 0x0, 0x37ff, 0x0⟩,
  ⟨0x200, 8, 0x20, 0x0, 0x0, 0xffffffff, 0x0⟩,
  ⟨0x204, 8, 0x20, 0x0, 0x0, 0xffffffff, 0x0⟩]

/-- Register words of a KEEP page that hold a writable bit or a reset value other than 0. -/
def rowsKEEP : List RegRow := [
  ⟨0x14c, 1, 0x4, 0x0, 0x0, 0xffffffff, 0x0⟩,
  ⟨0x158, 1, 0x4, 0x0, 0x0, 0x3f, 0x0⟩,
  ⟨0x164, 1, 0x4, 0x0, 0x0, 0xffffffff, 0x0⟩,
  ⟨0x168, 1, 0x4, 0x0, 0x0, 0xffffffff, 0x0⟩,
  ⟨0x16c, 1, 0x4, 0x0, 0x0, 0xffff, 0x10⟩,
  ⟨0x170, 1, 0x4, 0x0, 0x0, 0xffffffff, 0x0⟩]

/-- Register words of a DBGC page that hold a writable bit or a reset value other than 0. -/
def rowsDBGC : List RegRow := [
  ⟨0x10c, 1, 0x4, 0x0, 0x0, 0xffffffff, 0x0⟩,
  ⟨0x140, 4, 0x8, 0x0, 0x0, 0xffffffff, 0x0⟩,
  ⟨0x144, 4, 0x8, 0x0, 0x0, 0xffffffff, 0x0⟩,
  ⟨0x168, 1, 0x4, 0x0, 0x0, 0xfff, 0x0⟩,
  ⟨0x170, 1, 0x4, 0x0, 0x0, 0xffffffff, 0x0⟩,
  ⟨0x174, 1, 0x4, 0x0, 0x0, 0xffffffff, 0x0⟩,
  ⟨0x178, 1, 0x4, 0x0, 0x0, 0xffffffff, 0x0⟩,
  ⟨0x17c, 1, 0x4, 0x0, 0x0, 0xffffffff, 0x0⟩,
  ⟨0x180, 1, 0x4, 0x0, 0x0, 0x301f, 0x2⟩,
  ⟨0x200, 4, 0x100, 0x0, 0x0, 0xc, 0x0⟩,
  ⟨0x208, 4, 0x100, 0x0, 0x0, 0xffffffff, 0x0⟩,
  ⟨0x20c, 4, 0x100, 0x0, 0x0, 0xffffffff, 0x0⟩,
  ⟨0x210, 4, 0x100, 0x0, 0x0, 0x11fff, 0x0⟩,
  ⟨0x214, 4, 0x100, 0x0, 0x0, 0xf, 0x0⟩,
  ⟨0x218, 4, 0x100, 0x0, 0x0, 0xffffffff, 0x0⟩,
  ⟨0x21c, 4, 0x100, 0x0, 0x0, 0xffffffff, 0x0⟩,
  ⟨0x220, 4, 0x100, 0x0, 0x0, 0xffffffff, 0x0⟩,
  ⟨0x224, 4, 0x100, 0x0, 0x0, 0xffffffff, 0x0⟩,
  ⟨0x228, 4, 0x100, 0x0, 0x0, 0xffffffff, 0x0⟩,
  ⟨0x22c, 4, 0x100, 0x0, 0x0, 0xffffffff, 0x0⟩,
  ⟨0x230, 4, 0x100, 0x0, 0x0, 0xffffffff, 0x0⟩,
  ⟨0x234, 4, 0x100, 0x0, 0x0, 0xffffffff, 0x0⟩,
  ⟨0x238, 4, 0x100, 0x0, 0x0, 0xffffffff, 0x0⟩,
  ⟨0x23c, 4, 0x100, 0x0, 0x0, 0xffffffff, 0x0⟩] ++ [
  ⟨0x240, 4, 0x100, 0x0, 0x0, 0xffffffff, 0x0⟩,
  ⟨0x244, 4, 0x100, 0x0, 0x0, 0xffffffff, 0x0⟩,
  ⟨0x248, 4, 0x100, 0x0, 0x0, 0xffffffff, 0x0⟩,
  ⟨0x24c, 4, 0x100, 0x0, 0x0, 0xffffffff, 0x0⟩,
  ⟨0x250, 4, 0x100, 0x0, 0x0, 0xffffffff, 0x0⟩,
  ⟨0x254, 4, 0x100, 0x0, 0x0, 0xffffffff, 0x0⟩,
  ⟨0x258, 4, 0x100, 0x0, 0x0, 0xffffffff, 0x0⟩,
  ⟨0x25c, 4, 0x100, 0x0, 0x0, 0xffffffff, 0x0⟩,
  ⟨0x260, 4, 0x100, 0x0, 0x0, 0xffffffff, 0x0⟩,
  ⟨0x264, 4, 0x100, 0x0, 0x0, 0xffffffff, 0x0⟩,
  ⟨0x268, 4, 0x100, 0x0, 0x0, 0x3f7, 0x0⟩,
  ⟨0x270, 4, 0x100, 0x0, 0x0, 0xffffffff, 0x0⟩,
  ⟨0x274, 4, 0x100, 0x0, 0x0, 0xffffffff, 0x0⟩,
  ⟨0x278, 4, 0x100, 0x0, 0x0, 0x3f7, 0x0⟩,
  ⟨0x280, 4, 0x100, 0x0, 0x0, 0xffffffff, 0x0⟩,
  ⟨0x284, 4, 0x100, 0x0, 0x0, 0xffffffff, 0x0⟩,
  ⟨0x288, 4, 0x100, 0x0, 0x0, 0x3f7, 0x0⟩,
  ⟨0x290, 4, 0x100, 0x0, 0x0, 0xffffffff, 0x0⟩,
  ⟨0x294, 4, 0x100, 0x0, 0x0, 0xffffffff, 0x0⟩,
  ⟨0x298, 4, 0x100, 0x0, 0x0, 0x3f7, 0x0⟩]

/-- Register words of a ENC page that hold a writable bit or a reset value other than 0. -/
def rowsENC : List RegRow := [
  ⟨0x100, 1, 0x4, 0x3ff3, 0x0, 0x0, 0x30⟩,
  ⟨0x104, 1, 0x4, 0x3ff0f3f, 0x0, 0x0, 0x3030618⟩,
  ⟨0x108, 1, 0x4, 0x7ff, 0x0, 0x0, 0xc⟩,
  ⟨0x10c, 1, 0x4, 0xfffff, 0x0, 0x0, 0x9c4⟩,
  ⟨0x110, 1, 0x4, 0xffff, 0x0, 0x0, 0x3e8⟩,
  ⟨0x114, 1, 0x4, 0xff, 0x0, 0x0, 0x0⟩,
  ⟨0x118, 1, 0x4, 0xffffffff, 0x0, 0x0, 0x4000⟩,
  ⟨0x11c, 1, 0x4, 0xffffffff, 0x0, 0x0, 0x0⟩,
  ⟨0x140, 1, 0x4, 0x0, 0x0, 0xffffffff, 0x0⟩,
  ⟨0x144, 1, 0x4, 0x0, 0x0, 0xffffffff, 0x0⟩,
  ⟨0x148, 1, 0x4, 0x0, 0x0, 0xffffffff, 0x0⟩,
  ⟨0x14c, 1, 0x4, 0x0, 0x0, 0xffffffff, 0x0⟩,
  ⟨0x150, 1, 0x4, 0x0, 0x0, 0xffffffff, 0x0⟩,
  ⟨0x154, 1, 0x4, 0x0, 0x0, 0xffffffff, 0x0⟩,
  ⟨0x158, 1, 0x4, 0x0, 0x0, 0x1fffff, 0x120010⟩,
  ⟨0x160, 1, 0x4, 0xffffffff, 0x0, 0x0, 0x0⟩,
  ⟨0x164, 1, 0x4, 0xffffffff, 0x0, 0x0, 0x10000⟩]

/-- Register words of a OBS page that hold a writable bit or a reset value other than 0. -/
def rowsOBS : List RegRow := [
  ⟨0x100, 1, 0x4, 0x70f0f, 0x0, 0x0, 0x0⟩,
  ⟨0x104, 1, 0x4, 0x0, 0xffff, 0x0, 0x3e8⟩,
  ⟨0x108, 1, 0x4, 0x0, 0xffff, 0x0, 0x8000⟩,
  ⟨0x10c, 1, 0x4, 0x0, 0xff, 0x0, 0x2⟩,
  ⟨0x110, 1, 0x4, 0x0, 0xffffffff, 0x0, 0x1000000⟩,
  ⟨0x114, 1, 0x4, 0xffffffff, 0x0, 0x0, 0x3d090⟩,
  ⟨0x118, 1, 0x4, 0x0, 0xff, 0x0, 0x0⟩,
  ⟨0x120, 1, 0x4, 0xffffffff, 0x0, 0x0, 0x0⟩,
  ⟨0x124, 1, 0x4, 0xffffffff, 0x0, 0x0, 0x0⟩,
  ⟨0x134, 1, 0x4, 0x0, 0x0, 0xffffffff, 0x0⟩,
  ⟨0x138, 1, 0x4, 0x0, 0x0, 0xffffffff, 0x0⟩]

/-- Register words of a PSC page that hold a writable bit or a reset value other than 0. -/
def rowsPSC : List RegRow := [
  ⟨0x110, 1, 0x4, 0x0, 0x0, 0xffffffff, 0x0⟩,
  ⟨0x114, 1, 0x4, 0x0, 0x0, 0xffffffff, 0x0⟩,
  ⟨0x118, 1, 0x4, 0x0, 0x0, 0xffffffff, 0x0⟩,
  ⟨0x11c, 1, 0x4, 0x0, 0x0, 0xffffffff, 0x0⟩,
  ⟨0x120, 1, 0x4, 0x0, 0x0, 0xffffffff, 0x0⟩,
  ⟨0x124, 1, 0x4, 0x0, 0x0, 0xffffffff, 0x0⟩,
  ⟨0x128, 1, 0x4, 0x0, 0x0, 0xffffffff, 0x0⟩,
  ⟨0x12c, 1, 0x4, 0x0, 0x0, 0xffffffff, 0x0⟩,
  ⟨0x130, 1, 0x4, 0x0, 0x0, 0xffffffff, 0x0⟩,
  ⟨0x134, 1, 0x4, 0x0, 0x0, 0xffffffff, 0x0⟩,
  ⟨0x138, 1, 0x4, 0x0, 0x0, 0xffffffff, 0x0⟩,
  ⟨0x13c, 1, 0x4, 0x0, 0x0, 0xffffffff, 0x0⟩,
  ⟨0x150, 1, 0x4, 0x0, 0x0, 0x0, 0xffffffff⟩,
  ⟨0x154, 1, 0x4, 0x0, 0x0, 0x0, 0x7fffffff⟩,
  ⟨0x158, 1, 0x4, 0x0, 0x0, 0x0, 0xffffffff⟩,
  ⟨0x15c, 1, 0x4, 0x0, 0x0, 0x0, 0x7fffffff⟩,
  ⟨0x160, 1, 0x4, 0x0, 0x0, 0x0, 0xffffffff⟩,
  ⟨0x164, 1, 0x4, 0x0, 0x0, 0x0, 0x7fffffff⟩,
  ⟨0x168, 1, 0x4, 0x0, 0x0, 0x0, 0xffffffff⟩,
  ⟨0x16c, 1, 0x4, 0x0, 0x0, 0x0, 0x7fffffff⟩]

/-- Register words of a EMU page that hold a writable bit or a reset value other than 0. -/
def rowsEMU : List RegRow := [
  ⟨0x100, 8, 0x20, 0x1e, 0x0, 0x1, 0x0⟩,
  ⟨0x104, 8, 0x20, 0xffff, 0x0, 0x0, 0xa⟩,
  ⟨0x108, 8, 0x20, 0xffffffff, 0x0, 0x0, 0x0⟩,
  ⟨0x10c, 8, 0x20, 0xffffffff, 0x0, 0x0, 0x10000⟩,
  ⟨0x110, 8, 0x20, 0xffffffff, 0x0, 0x0, 0x0⟩,
  ⟨0x114, 8, 0x20, 0xff, 0x0, 0x0, 0x10⟩,
  ⟨0x11c, 8, 0x20, 0x0, 0x0, 0xffffffff, 0x0⟩]

/-- Register words of a AXS page that hold a writable bit or a reset value other than 0. -/
def rowsAXS : List RegRow := [
  ⟨0x100, 1, 0x4, 0x37, 0x0, 0x0, 0x0⟩,
  ⟨0x104, 1, 0x4, 0xffff, 0x0, 0x0, 0xa⟩,
  ⟨0x108, 1, 0x4, 0x0, 0xffff, 0x0, 0x404⟩,
  ⟨0x10c, 1, 0x4, 0xffff, 0x0, 0x0, 0x10⟩,
  ⟨0x110, 1, 0x4, 0x0, 0x0, 0xffffffff, 0x3d090⟩,
  ⟨0x114, 1, 0x4, 0xffffffff, 0x0, 0x0, 0x61a8⟩,
  ⟨0x118, 1, 0x4, 0x7ff, 0x0, 0x0, 0x4⟩,
  ⟨0x11c, 1, 0x4, 0x0, 0xffffffff, 0x0, 0x4e2⟩,
  ⟨0x120, 1, 0x4, 0x0, 0xffffffff, 0x0, 0x0⟩,
  ⟨0x124, 1, 0x4, 0x0, 0xffffffff, 0x0, 0x0⟩,
  ⟨0x128, 1, 0x4, 0x0, 0x1, 0x0, 0x0⟩,
  ⟨0x130, 1, 0x4, 0xffffffff, 0x0, 0x0, 0x0⟩,
  ⟨0x134, 1, 0x4, 0xffffffff, 0x0, 0x0, 0x0⟩,
  ⟨0x138, 1, 0x4, 0x0, 0x0, 0xffffffff, 0x0⟩,
  ⟨0x160, 1, 0x4, 0x0, 0x0, 0xffffffff, 0x0⟩,
  ⟨0x164, 1, 0x4, 0x0, 0x0, 0xffffffff, 0x0⟩,
  ⟨0x400, 64, 0x10, 0x0, 0x0, 0xffffffff, 0x0⟩,
  ⟨0x404, 64, 0x10, 0x0, 0x0, 0xffffffff, 0x0⟩,
  ⟨0x408, 64, 0x10, 0x0, 0x0, 0xffffffff, 0x0⟩,
  ⟨0x40c, 64, 0x10, 0x0, 0x0, 0xffffffff, 0x0⟩]

/-- Register words of a SDF page that hold a writable bit or a reset value other than 0. -/
def rowsSDF : List RegRow := [
  ⟨0x100, 1, 0x4, 0x7f1f, 0x0, 0x0, 0x0⟩,
  ⟨0x104, 1, 0x4, 0x0, 0xf3, 0x0, 0x0⟩,
  ⟨0x108, 1, 0x4, 0x0, 0x1ffff, 0x0, 0x10001⟩,
  ⟨0x10c, 1, 0x4, 0x0, 0x1f, 0x0, 0xa⟩,
  ⟨0x110, 1, 0x4, 0x0, 0x1f, 0x0, 0xa⟩,
  ⟨0x114, 1, 0x4, 0x0, 0x7, 0x0, 0x0⟩,
  ⟨0x118, 1, 0x4, 0x0, 0xffffffff, 0x0, 0x7fffff⟩,
  ⟨0x11c, 1, 0x4, 0x0, 0xffffffff, 0x0, 0xff800001⟩,
  ⟨0x120, 1, 0x4, 0x0, 0xffffffff, 0x0, 0x0⟩,
  ⟨0x124, 1, 0x4, 0xffffffff, 0x0, 0x0, 0x1000⟩,
  ⟨0x128, 1, 0x4, 0x0, 0x0, 0xffff, 0x10⟩,
  ⟨0x148, 1, 0x4, 0x0, 0x0, 0xffffffff, 0x0⟩,
  ⟨0x14c, 1, 0x4, 0x0, 0x0, 0xffffffff, 0x0⟩,
  ⟨0x150, 1, 0x4, 0x0, 0x0, 0xffffffff, 0x0⟩,
  ⟨0x154, 1, 0x4, 0x0, 0x0, 0xffffffff, 0x0⟩]

/-- Register words of a CAM page that hold a writable bit or a reset value other than 0. -/
def rowsCAM : List RegRow := [
  ⟨0x100, 1, 0x4, 0x73df73, 0x0, 0x0, 0x262⟩,
  ⟨0x104, 1, 0x4, 0x1ffff, 0x0, 0x0, 0x4000⟩,
  ⟨0x108, 1, 0x4, 0x1fff, 0x0, 0x0, 0x100⟩,
  ⟨0x10c, 1, 0x4, 0x0, 0xffff, 0x0, 0x3e8⟩,
  ⟨0x110, 1, 0x4, 0x0, 0xffff, 0x0, 0x0⟩,
  ⟨0x114, 1, 0x4, 0x0, 0xffffffff, 0x0, 0x0⟩,
  ⟨0x118, 1, 0x4, 0x0, 0xffff, 0x0, 0x19⟩,
  ⟨0x11c, 1, 0x4, 0xffffffff, 0x0, 0x0, 0x61a8⟩,
  ⟨0x120, 1, 0x4, 0xffffffff, 0x0, 0x0, 0x2625a0⟩,
  ⟨0x124, 1, 0x4, 0xffffffff, 0x0, 0x0, 0x3d090⟩,
  ⟨0x128, 1, 0x4, 0xffffffff, 0x0, 0x0, 0x3d090⟩,
  ⟨0x12c, 1, 0x4, 0x0, 0xfff, 0x0, 0x0⟩,
  ⟨0x130, 1, 0x4, 0x0, 0x0, 0xff, 0x2⟩,
  ⟨0x134, 1, 0x4, 0x0, 0xf, 0x0, 0x0⟩,
  ⟨0x138, 1, 0x4, 0x0, 0x0, 0x1ffff, 0x0⟩,
  ⟨0x140, 8, 0x4, 0x0, 0xfff, 0x0, 0x0⟩,
  ⟨0x160, 1, 0x4, 0x0, 0x0, 0xffffffff, 0x0⟩,
  ⟨0x164, 1, 0x4, 0x0, 0x0, 0xffffffff, 0x0⟩,
  ⟨0x168, 1, 0x4, 0xffffffff, 0x0, 0x0, 0x40⟩,
  ⟨0x170, 1, 0x4, 0x0, 0x0, 0xffffffff, 0x0⟩,
  ⟨0x174, 1, 0x4, 0x0, 0x0, 0xffffffff, 0x0⟩,
  ⟨0x178, 1, 0x4, 0x0, 0x0, 0xffffffff, 0x0⟩,
  ⟨0x17c, 1, 0x4, 0x0, 0x0, 0xffffffff, 0x0⟩,
  ⟨0x190, 1, 0x4, 0x0, 0x0, 0xffffffff, 0x0⟩] ++ [
  ⟨0x194, 1, 0x4, 0x0, 0x0, 0xffffffff, 0x0⟩,
  ⟨0x1a0, 1, 0x4, 0x0, 0x0, 0xffffffff, 0x3d090⟩,
  ⟨0x1a8, 1, 0x4, 0x0, 0x0, 0xffff, 0x10⟩,
  ⟨0x1c0, 1, 0x4, 0x0, 0x0, 0xffffffff, 0x0⟩,
  ⟨0x1c4, 1, 0x4, 0x0, 0x0, 0xffffffff, 0x0⟩,
  ⟨0x1c8, 1, 0x4, 0x0, 0x0, 0xffffffff, 0x0⟩,
  ⟨0x1cc, 1, 0x4, 0x0, 0x0, 0xffffffff, 0x0⟩,
  ⟨0x1d0, 1, 0x4, 0x0, 0x0, 0xffffffff, 0x0⟩,
  ⟨0x1d4, 1, 0x4, 0x0, 0x0, 0xffffffff, 0x0⟩,
  ⟨0x1d8, 1, 0x4, 0x0, 0x0, 0xffffffff, 0x0⟩,
  ⟨0x1dc, 1, 0x4, 0x0, 0x0, 0xffffffff, 0x0⟩,
  ⟨0x1e0, 1, 0x4, 0x0, 0x0, 0xffffffff, 0x0⟩,
  ⟨0x1e4, 1, 0x4, 0x0, 0x0, 0xffffffff, 0x0⟩,
  ⟨0x1e8, 1, 0x4, 0x0, 0x0, 0xffffffff, 0x0⟩,
  ⟨0x1ec, 1, 0x4, 0x0, 0x0, 0xffffffff, 0x0⟩,
  ⟨0x1f0, 1, 0x4, 0x0, 0x0, 0xffffffff, 0x0⟩,
  ⟨0x1f4, 1, 0x4, 0x0, 0x0, 0xffffffff, 0x0⟩,
  ⟨0x1f8, 1, 0x4, 0x0, 0x0, 0xffffffff, 0x0⟩,
  ⟨0x1fc, 1, 0x4, 0x0, 0x0, 0xffffffff, 0x0⟩]

/-- Register words of a CUP page that hold a writable bit or a reset value other than 0. -/
def rowsCUP : List RegRow := [
  ⟨0x100, 1, 0x4, 0x3, 0x0, 0x0, 0x0⟩,
  ⟨0x104, 1, 0x4, 0x8f8f, 0x0, 0x0, 0x0⟩,
  ⟨0x108, 1, 0x4, 0xffffffff, 0x0, 0x0, 0x0⟩,
  ⟨0x10c, 1, 0x4, 0xffffffff, 0x0, 0x0, 0x61a8⟩,
  ⟨0x110, 1, 0x4, 0x3ffffc0, 0x0, 0x0, 0x0⟩,
  ⟨0x114, 1, 0x4, 0x3ffffc0, 0x0, 0x0, 0x0⟩,
  ⟨0x118, 1, 0x4, 0xffffffff, 0x0, 0x0, 0x0⟩,
  ⟨0x11c, 1, 0x4, 0xffffffff, 0x0, 0x0, 0x0⟩,
  ⟨0x120, 1, 0x4, 0xffffffff, 0x0, 0x0, 0x0⟩,
  ⟨0x124, 1, 0x4, 0xffffffff, 0x0, 0x0, 0x0⟩,
  ⟨0x128, 1, 0x4, 0x1ffff, 0x0, 0x0, 0x4000⟩,
  ⟨0x130, 1, 0x4, 0x0, 0xffffffff, 0x0, 0x0⟩,
  ⟨0x134, 1, 0x4, 0x0, 0xffffffff, 0x0, 0x0⟩,
  ⟨0x138, 1, 0x4, 0x0, 0xffffffff, 0x0, 0xaaaaaaab⟩,
  ⟨0x13c, 1, 0x4, 0x0, 0xffffff, 0x0, 0x152a⟩,
  ⟨0x1a0, 1, 0x4, 0x0, 0xfff000f, 0x0, 0x1000000⟩,
  ⟨0x1a4, 1, 0x4, 0x0, 0xffffffff, 0x0, 0x40004000⟩,
  ⟨0x1a8, 1, 0x4, 0x0, 0xffff, 0x0, 0x4000⟩,
  ⟨0x1ac, 1, 0x4, 0x0, 0xffffffff, 0x0, 0x2000⟩,
  ⟨0x1b0, 1, 0x4, 0x0, 0xffffffff, 0x0, 0x0⟩,
  ⟨0x1b4, 1, 0x4, 0x0, 0xffffffff, 0x0, 0x2000⟩,
  ⟨0x1b8, 1, 0x4, 0x0, 0xffffffff, 0x0, 0x0⟩,
  ⟨0x1bc, 1, 0x4, 0x0, 0xffff, 0x0, 0x2000⟩,
  ⟨0x1c0, 1, 0x4, 0x0, 0x0, 0x3fff, 0x0⟩] ++ [
  ⟨0x200, 1, 0x4, 0x0, 0xffffffff, 0x0, 0x0⟩,
  ⟨0x204, 1, 0x4, 0x0, 0xffffffff, 0x0, 0x0⟩,
  ⟨0x208, 1, 0x4, 0x0, 0xffffffff, 0x0, 0xaaaaaaab⟩,
  ⟨0x20c, 1, 0x4, 0x0, 0xffffff, 0x0, 0x152a⟩,
  ⟨0x210, 1, 0x4, 0x0, 0xfff0fff, 0x0, 0xfff0fff⟩,
  ⟨0x214, 1, 0x4, 0x0, 0xfff, 0x0, 0xfff⟩,
  ⟨0x218, 1, 0x4, 0x0, 0x1, 0x0, 0x0⟩,
  ⟨0x21c, 1, 0x4, 0x0, 0x0, 0x3fff, 0x0⟩,
  ⟨0x240, 1, 0x4, 0x33f, 0x0, 0x0, 0x8⟩,
  ⟨0x248, 1, 0x4, 0xffffffff, 0x0, 0x0, 0x0⟩,
  ⟨0x24c, 1, 0x4, 0xffffffff, 0x0, 0x0, 0x0⟩,
  ⟨0x260, 3, 0x8, 0x0, 0xfff0fff, 0x0, 0x0⟩,
  ⟨0x264, 3, 0x8, 0x0, 0xfff0fff, 0x0, 0x0⟩,
  ⟨0x290, 1, 0x4, 0x0, 0x0, 0xffffffff, 0x0⟩,
  ⟨0x294, 1, 0x4, 0x0, 0x0, 0xffffffff, 0x0⟩,
  ⟨0x298, 1, 0x4, 0x0, 0x0, 0xffffffff, 0x0⟩,
  ⟨0x29c, 1, 0x4, 0x0, 0x0, 0xffffffff, 0x0⟩,
  ⟨0x2a0, 1, 0x4, 0x0, 0x0, 0xffffffff, 0x0⟩,
  ⟨0x2a4, 1, 0x4, 0x0, 0x0, 0xffffffff, 0x0⟩,
  ⟨0x2a8, 1, 0x4, 0x0, 0x0, 0xffffffff, 0x0⟩,
  ⟨0x2ac, 1, 0x4, 0x0, 0x0, 0xffffffff, 0x0⟩,
  ⟨0x140, 3, 0x20, 0x0, 0xffffffff, 0x0, 0x0⟩,
  ⟨0x144, 3, 0x20, 0x0, 0xffffffff, 0x0, 0x0⟩,
  ⟨0x148, 3, 0x20, 0x0, 0xffffffff, 0x0, 0xaaaaaaab⟩] ++ [
  ⟨0x14c, 3, 0x20, 0x0, 0xffffffff, 0x0, 0x152a⟩,
  ⟨0x150, 3, 0x20, 0x0, 0xffffffff, 0x0, 0x0⟩]

/-- Register words of a DEF page that hold a writable bit or a reset value other than 0. -/
def rowsDEF : List RegRow := [
  ⟨0x100, 1, 0x4, 0xf73f, 0x0, 0x0, 0x6200⟩,
  ⟨0x104, 1, 0x4, 0xf, 0x0, 0x0, 0x2⟩,
  ⟨0x108, 1, 0x4, 0x7fff, 0x0, 0x0, 0x1000⟩,
  ⟨0x10c, 1, 0x4, 0x0, 0xffffffff, 0x0, 0x1⟩,
  ⟨0x110, 1, 0x4, 0x0, 0x1fffffff, 0x0, 0x400010⟩,
  ⟨0x118, 1, 0x4, 0xffffffff, 0x0, 0x0, 0x0⟩,
  ⟨0x11c, 1, 0x4, 0xffffffff, 0x0, 0x0, 0x0⟩,
  ⟨0x120, 1, 0x4, 0xffffffff, 0x0, 0x0, 0x0⟩,
  ⟨0x124, 1, 0x4, 0xffffffff, 0x0, 0x0, 0x0⟩,
  ⟨0x128, 1, 0x4, 0xffffffff, 0x0, 0x0, 0x31000⟩,
  ⟨0x12c, 1, 0x4, 0x1ffffff, 0x0, 0x0, 0x100⟩,
  ⟨0x134, 1, 0x4, 0x0, 0x0, 0xffffff, 0x0⟩,
  ⟨0x140, 1, 0x4, 0x0, 0x0, 0xffffffff, 0x0⟩,
  ⟨0x144, 1, 0x4, 0x0, 0x0, 0xffffffff, 0x0⟩,
  ⟨0x148, 1, 0x4, 0x0, 0x0, 0xffffffff, 0x0⟩,
  ⟨0x14c, 1, 0x4, 0x0, 0x0, 0xffffffff, 0x0⟩,
  ⟨0x150, 1, 0x4, 0x0, 0x0, 0xffffffff, 0x0⟩,
  ⟨0x154, 1, 0x4, 0x0, 0x0, 0xffffffff, 0x0⟩,
  ⟨0x158, 1, 0x4, 0x0, 0x0, 0xffffffff, 0x0⟩,
  ⟨0x15c, 1, 0x4, 0x0, 0x0, 0xffffffff, 0x0⟩,
  ⟨0x160, 1, 0x4, 0x0, 0x0, 0xffffffff, 0x0⟩,
  ⟨0x164, 1, 0x4, 0x0, 0x0, 0xffffffff, 0x0⟩]

/-- Register words of a CLP page that hold a writable bit or a reset value other than 0. -/
def rowsCLP : List RegRow := [
  ⟨0x100, 1, 0x4, 0x0, 0x3f3f, 0x0, 0x208⟩,
  ⟨0x104, 1, 0x4, 0x0, 0xffffffff, 0x0, 0xccd3333⟩,
  ⟨0x108, 1, 0x4, 0x0, 0xffffffff, 0x0, 0x8008000⟩,
  ⟨0x10c, 1, 0x4, 0x0, 0xffffffff, 0x0, 0x100000⟩,
  ⟨0x110, 1, 0x4, 0x0, 0xffffffff, 0x0, 0x1000000⟩,
  ⟨0x114, 1, 0x4, 0x0, 0xffffffff, 0x0, 0x0⟩,
  ⟨0x118, 1, 0x4, 0x0, 0xffffffff, 0x0, 0x100000⟩,
  ⟨0x120, 1, 0x4, 0xffffffff, 0x0, 0x0, 0x0⟩,
  ⟨0x124, 1, 0x4, 0xffffffff, 0x0, 0x0, 0x0⟩,
  ⟨0x128, 1, 0x4, 0xffffffff, 0x0, 0x0, 0x4⟩,
  ⟨0x12c, 1, 0x4, 0x0, 0x0, 0xffff, 0x0⟩,
  ⟨0x134, 1, 0x4, 0x0, 0x0, 0xffffffff, 0x0⟩,
  ⟨0x138, 1, 0x4, 0x0, 0x0, 0xffffffff, 0x0⟩,
  ⟨0x13c, 1, 0x4, 0x0, 0x0, 0xffffffff, 0x0⟩,
  ⟨0x140, 1, 0x4, 0x0, 0x0, 0xffffffff, 0x0⟩,
  ⟨0x144, 1, 0x4, 0x0, 0x0, 0xffffffff, 0x0⟩,
  ⟨0x200, 16, 0x20, 0x37f, 0x0, 0x0, 0x0⟩]

/-- Register words of a JOB page that hold a writable bit or a reset value other than 0. -/
def rowsJOB : List RegRow := [
  ⟨0x104, 1, 0x4, 0x0, 0x0, 0xffffffff, 0x0⟩,
  ⟨0x108, 1, 0x4, 0x0, 0x0, 0xffffffff, 0x0⟩,
  ⟨0x10c, 1, 0x4, 0x0, 0x0, 0xffffffff, 0x0⟩,
  ⟨0x110, 1, 0x4, 0x0, 0x0, 0xffffffff, 0x0⟩,
  ⟨0x114, 1, 0x4, 0x0, 0x0, 0xffffffff, 0x0⟩,
  ⟨0x200, 8, 0x20, 0x0, 0x0, 0xffffffff, 0x0⟩,
  ⟨0x204, 8, 0x20, 0x0, 0x0, 0xffffffff, 0x0⟩,
  ⟨0x208, 8, 0x20, 0x0, 0x0, 0xffffffff, 0x0⟩,
  ⟨0x20c, 8, 0x20, 0x0, 0x0, 0xffffffff, 0x0⟩,
  ⟨0x210, 8, 0x20, 0x0, 0x0, 0xff0, 0x0⟩,
  ⟨0x300, 16, 0x40, 0x0, 0x1ffe, 0x1, 0x0⟩,
  ⟨0x304, 16, 0x40, 0x0, 0xffff, 0x0, 0x1000⟩,
  ⟨0x308, 16, 0x40, 0x0, 0xffffffff, 0x0, 0x0⟩,
  ⟨0x30c, 16, 0x40, 0x0, 0xffffffff, 0x0, 0x0⟩,
  ⟨0x310, 16, 0x40, 0x0, 0xffffffff, 0x0, 0x0⟩,
  ⟨0x314, 16, 0x40, 0x0, 0x0, 0xffffffff, 0x0⟩,
  ⟨0x328, 16, 0x40, 0x0, 0x0, 0xffffffff, 0x0⟩,
  ⟨0x700, 4, 0x40, 0x0, 0xe, 0x1, 0x0⟩,
  ⟨0x704, 4, 0x40, 0x0, 0xffff, 0x0, 0x0⟩,
  ⟨0x708, 4, 0x40, 0x0, 0xffffffff, 0x0, 0x0⟩,
  ⟨0x70c, 4, 0x40, 0x0, 0xffffffff, 0x0, 0x0⟩,
  ⟨0x710, 4, 0x40, 0x0, 0xffffffff, 0x0, 0x1000000⟩,
  ⟨0x714, 4, 0x40, 0x0, 0xffff, 0x0, 0x1000⟩,
  ⟨0x718, 4, 0x40, 0x0, 0xffffffff, 0x0, 0x0⟩] ++ [
  ⟨0x71c, 4, 0x40, 0x0, 0xffffffff, 0x0, 0x1⟩,
  ⟨0x728, 4, 0x40, 0x0, 0x0, 0xffffffff, 0x0⟩,
  ⟨0x72c, 4, 0x40, 0x0, 0x0, 0xffffffff, 0x0⟩]

/-- Register words of a STP page that hold a writable bit or a reset value other than 0. -/
def rowsSTP : List RegRow := [
  ⟨0x100, 1, 0x4, 0xffff, 0x0, 0x0, 0x0⟩,
  ⟨0x200, 4, 0x80, 0xf7f, 0x0, 0x0, 0x0⟩,
  ⟨0x204, 4, 0x80, 0xfffff, 0x0, 0x0, 0x0⟩,
  ⟨0x208, 4, 0x80, 0xffff, 0x0, 0x0, 0x8000⟩,
  ⟨0x20c, 4, 0x80, 0x0, 0x3, 0x0, 0x2⟩,
  ⟨0x210, 4, 0x80, 0xffffffff, 0x0, 0x0, 0x0⟩,
  ⟨0x214, 4, 0x80, 0xffff, 0x0, 0x0, 0x0⟩,
  ⟨0x218, 4, 0x80, 0x0, 0xffffffff, 0x0, 0x30000070⟩,
  ⟨0x21c, 4, 0x80, 0x0, 0xffffffff, 0x0, 0x1050⟩,
  ⟨0x220, 4, 0x80, 0x0, 0xffffffff, 0x0, 0x0⟩,
  ⟨0x224, 4, 0x80, 0x0, 0xffffffff, 0x0, 0xaaaa5555⟩,
  ⟨0x228, 4, 0x80, 0x0, 0xffffffff, 0x0, 0x2aabffff⟩,
  ⟨0x22c, 4, 0x80, 0x0, 0xffffffff, 0x0, 0xd5558000⟩,
  ⟨0x230, 4, 0x80, 0x0, 0xffffffff, 0x0, 0x0⟩,
  ⟨0x234, 4, 0x80, 0x0, 0xffffffff, 0x0, 0x0⟩,
  ⟨0x238, 4, 0x80, 0x0, 0xffffffff, 0x0, 0x0⟩,
  ⟨0x250, 4, 0x80, 0x0, 0x0, 0xffffffff, 0x0⟩,
  ⟨0x254, 4, 0x80, 0x0, 0x0, 0xffffffff, 0x0⟩,
  ⟨0x258, 4, 0x80, 0x0, 0x0, 0xffffffff, 0x0⟩,
  ⟨0x25c, 4, 0x80, 0x0, 0x0, 0xffffffff, 0x0⟩,
  ⟨0x260, 4, 0x80, 0x0, 0x0, 0xffffffff, 0x0⟩,
  ⟨0x264, 4, 0x80, 0x0, 0x0, 0xffffffff, 0x0⟩,
  ⟨0x268, 4, 0x80, 0x0, 0x0, 0xffffffff, 0x0⟩,
  ⟨0x26c, 4, 0x80, 0x0, 0x0, 0xffffffff, 0x0⟩] ++ [
  ⟨0x270, 4, 0x80, 0x0, 0x0, 0xffffffff, 0x0⟩,
  ⟨0x274, 4, 0x80, 0x0, 0x0, 0xffffffff, 0x0⟩]

/-- Register words of a NCT page that hold a writable bit or a reset value other than 0. -/
def rowsNCT : List RegRow := [
  ⟨0x100, 1, 0x4, 0x0, 0x1ffff, 0x0, 0x0⟩,
  ⟨0x104, 1, 0x4, 0x0, 0x0, 0x3, 0x0⟩,
  ⟨0x118, 1, 0x4, 0x0, 0x0, 0xffffffff, 0x0⟩,
  ⟨0x11c, 1, 0x4, 0x0, 0x0, 0xffffffff, 0x0⟩,
  ⟨0x120, 1, 0x4, 0x0, 0x0, 0xffffffff, 0x0⟩,
  ⟨0x124, 1, 0x4, 0x0, 0x0, 0xffffffff, 0x0⟩,
  ⟨0x128, 1, 0x4, 0x0, 0x0, 0xffffffff, 0x0⟩,
  ⟨0x12c, 1, 0x4, 0x0, 0x0, 0xffffffff, 0x0⟩,
  ⟨0x138, 1, 0x4, 0x0, 0x0, 0xffffffff, 0x0⟩,
  ⟨0x13c, 1, 0x4, 0x0, 0x0, 0xffffffff, 0x0⟩,
  ⟨0x200, 16, 0x8, 0x800fffff, 0x0, 0x0, 0x0⟩,
  ⟨0x204, 16, 0x8, 0x1fffff, 0x0, 0x0, 0x0⟩]

/-- Register words of a PBA page that hold a writable bit or a reset value other than 0. -/
def rowsPBA : List RegRow := [
  ⟨0x100, 1, 0x4, 0xf7f37, 0x0, 0x0, 0x14⟩,
  ⟨0x104, 1, 0x4, 0xff, 0x0, 0x0, 0x0⟩,
  ⟨0x108, 1, 0x4, 0x1ffffc0, 0x0, 0x0, 0x0⟩,
  ⟨0x110, 1, 0x4, 0xffffffff, 0x0, 0x0, 0xaaaaaaab⟩,
  ⟨0x114, 1, 0x4, 0xffffff, 0x0, 0x0, 0x152a⟩,
  ⟨0x118, 1, 0x4, 0x0, 0xffffffff, 0x0, 0x0⟩,
  ⟨0x11c, 1, 0x4, 0x0, 0xff, 0x0, 0x0⟩,
  ⟨0x120, 1, 0x4, 0x0, 0xffffffff, 0x0, 0x0⟩,
  ⟨0x124, 1, 0x4, 0x0, 0xffffffff, 0x0, 0x0⟩,
  ⟨0x130, 1, 0x4, 0x0, 0x0, 0xffffffff, 0x0⟩,
  ⟨0x134, 1, 0x4, 0x0, 0x0, 0xffffffff, 0x0⟩,
  ⟨0x138, 1, 0x4, 0x0, 0x0, 0xffffffff, 0x0⟩,
  ⟨0x13c, 1, 0x4, 0x0, 0x0, 0xffffffff, 0x0⟩,
  ⟨0x140, 1, 0x4, 0x0, 0x0, 0xffffffff, 0x0⟩,
  ⟨0x144, 1, 0x4, 0x0, 0x0, 0xffffffff, 0x0⟩,
  ⟨0x200, 64, 0x18, 0xffffff, 0x0, 0x0, 0x0⟩,
  ⟨0x204, 64, 0x18, 0xffff1fff, 0x0, 0x0, 0x0⟩,
  ⟨0x208, 64, 0x18, 0x0, 0xffffff, 0x0, 0x0⟩,
  ⟨0x20c, 64, 0x18, 0x0, 0xffffff, 0x0, 0x0⟩,
  ⟨0x210, 64, 0x18, 0x0, 0xffffff, 0x0, 0x0⟩,
  ⟨0x214, 64, 0x18, 0x0, 0xffffff, 0x0, 0x0⟩]

/-- Register words of a FIRE page that hold a writable bit or a reset value other than 0. -/
def rowsFIRE : List RegRow := [
  ⟨0x100, 1, 0x4, 0x0, 0x0, 0xffff, 0x1f4⟩,
  ⟨0x108, 1, 0x4, 0x0, 0x0, 0xffffffff, 0x0⟩,
  ⟨0x10c, 1, 0x4, 0x0, 0x0, 0xffffffff, 0x1⟩]

/-- Register words of a HLK page that hold a writable bit or a reset value other than 0. -/
def rowsHLK : List RegRow := [
  ⟨0x100, 1, 0x4, 0xff1f, 0x0, 0x0, 0xff13⟩,
  ⟨0x104, 1, 0x4, 0xffff, 0x0, 0x0, 0xfa0⟩,
  ⟨0x108, 1, 0x4, 0xffffffff, 0x0, 0x0, 0x3d090⟩,
  ⟨0x10c, 1, 0x4, 0x0, 0x0, 0xffff, 0x0⟩,
  ⟨0x110, 1, 0x4, 0x0, 0x0, 0xffff, 0x10⟩,
  ⟨0x114, 1, 0x4, 0x0, 0x0, 0xffffffff, 0x61a8⟩,
  ⟨0x118, 1, 0x4, 0x0, 0x0, 0xffffffff, 0x7d0⟩,
  ⟨0x11c, 1, 0x4, 0x0, 0x0, 0xffff, 0x460⟩,
  ⟨0x158, 1, 0x4, 0x0, 0x0, 0xffffffff, 0x0⟩,
  ⟨0x15c, 1, 0x4, 0x0, 0x0, 0xffffffff, 0x0⟩,
  ⟨0x160, 1, 0x4, 0x0, 0x0, 0xffffffff, 0x0⟩,
  ⟨0x164, 1, 0x4, 0x0, 0x0, 0xffffffff, 0x0⟩,
  ⟨0x170, 1, 0x4, 0x0, 0x0, 0xffffffff, 0x0⟩,
  ⟨0x174, 1, 0x4, 0x0, 0x0, 0xffffffff, 0x0⟩,
  ⟨0x178, 1, 0x4, 0x0, 0x0, 0xffffffff, 0x0⟩,
  ⟨0x17c, 1, 0x4, 0x0, 0x0, 0xffffffff, 0x0⟩,
  ⟨0x180, 1, 0x4, 0x0, 0x0, 0xffffffff, 0x0⟩,
  ⟨0x184, 1, 0x4, 0x0, 0x0, 0xffffffff, 0x0⟩,
  ⟨0x1c0, 8, 0x4, 0x1fff, 0x0, 0x0, 0x1000⟩]

/-- Register words of a CMP page that hold a writable bit or a reset value other than 0. -/
def rowsCMP : List RegRow := [
  ⟨0x100, 1, 0x4, 0x3, 0x0, 0x0, 0x3⟩,
  ⟨0x108, 1, 0x4, 0x0, 0x0, 0xffffffff, 0x0⟩,
  ⟨0x10c, 1, 0x4, 0x0, 0x0, 0xffffffff, 0x0⟩,
  ⟨0x110, 1, 0x4, 0x0, 0x0, 0xffffffff, 0x0⟩,
  ⟨0x114, 1, 0x4, 0x0, 0x0, 0xffffffff, 0x0⟩,
  ⟨0x118, 1, 0x4, 0x0, 0x0, 0xffffffff, 0x0⟩,
  ⟨0x11c, 1, 0x4, 0x0, 0x0, 0xffffffff, 0x0⟩,
  ⟨0x120, 1, 0x4, 0x0, 0x0, 0xffffffff, 0x0⟩]

/-- Register words of a HQF page that hold a writable bit or a reset value other than 0. -/
def rowsHQF : List RegRow := [
  ⟨0x104, 1, 0x4, 0x0, 0x0, 0xffffffff, 0x0⟩,
  ⟨0x108, 1, 0x4, 0x0, 0x0, 0xffffffff, 0x0⟩]

/-- Register words of a PCIE page that hold a writable bit or a reset value other than 0. -/
def rowsPCIE : List RegRow := [
  ⟨0x104, 1, 0x4, 0x0, 0x0, 0xffff, 0x10⟩,
  ⟨0x10c, 1, 0x4, 0x0, 0x0, 0xffffffff, 0x0⟩,
  ⟨0x110, 1, 0x4, 0x0, 0x0, 0xffffffff, 0x0⟩,
  ⟨0x114, 1, 0x4, 0x0, 0x0, 0xffffffff, 0x0⟩,
  ⟨0x118, 1, 0x4, 0x0, 0x0, 0xffffffff, 0x0⟩,
  ⟨0x11c, 1, 0x4, 0x0, 0x0, 0xffffffff, 0x0⟩,
  ⟨0x120, 1, 0x4, 0x0, 0x0, 0xffffffff, 0x0⟩]

/-- Register words of a DMA page that hold a writable bit or a reset value other than 0. -/
def rowsDMA : List RegRow := [
  ⟨0x108, 1, 0x4, 0x0, 0x0, 0xffffffff, 0x0⟩,
  ⟨0x10c, 1, 0x4, 0x0, 0x0, 0xffffffff, 0x0⟩,
  ⟨0x110, 1, 0x4, 0x0, 0x0, 0xffffffff, 0x0⟩,
  ⟨0x200, 16, 0x20, 0x0, 0x0, 0xffffffff, 0x0⟩,
  ⟨0x204, 16, 0x20, 0x0, 0x0, 0xffffffff, 0x0⟩,
  ⟨0x208, 16, 0x20, 0x0, 0x0, 0x130, 0x0⟩,
  ⟨0x218, 16, 0x20, 0x0, 0x0, 0xffffffff, 0x0⟩,
  ⟨0x21c, 16, 0x20, 0x0, 0x0, 0xffffffff, 0x0⟩]

/-- Register words of a BIC page that hold a writable bit or a reset value other than 0. -/
def rowsBIC : List RegRow := [
  ⟨0x100, 4, 0x10, 0x0, 0x0, 0xf, 0x0⟩,
  ⟨0x104, 4, 0x10, 0x0, 0x0, 0x0, 0x1fff⟩,
  ⟨0x140, 16, 0x4, 0x0, 0x0, 0x0, 0x1fff⟩,
  ⟨0x184, 1, 0x4, 0x0, 0x0, 0xffff, 0xffff⟩,
  ⟨0x194, 1, 0x4, 0x0, 0x0, 0xffffffff, 0x0⟩,
  ⟨0x198, 1, 0x4, 0x0, 0x0, 0xffffffff, 0x0⟩,
  ⟨0x200, 32, 0x4, 0x0, 0x0, 0x133f03, 0x0⟩]

/-- Register words of a EVF page that hold a writable bit or a reset value other than 0. -/
def rowsEVF : List RegRow := [
  ⟨0x100, 1, 0x4, 0x0, 0x0, 0xffffffff, 0x0⟩,
  ⟨0x104, 1, 0x4, 0x0, 0x0, 0xffffffff, 0x0⟩,
  ⟨0x108, 1, 0x4, 0x0, 0x0, 0xffffffff, 0x0⟩,
  ⟨0x10c, 1, 0x4, 0x0, 0x0, 0xffffffff, 0x0⟩,
  ⟨0x1f8, 1, 0x4, 0x0, 0x0, 0xff, 0x0⟩,
  ⟨0x200, 1, 0x4, 0x0, 0x0, 0xf03, 0xf00⟩,
  ⟨0x204, 1, 0x4, 0x0, 0x0, 0x7fff, 0xff⟩,
  ⟨0x208, 1, 0x4, 0x0, 0x0, 0xffffffff, 0x0⟩,
  ⟨0x20c, 1, 0x4, 0x0, 0x0, 0xffffffff, 0x0⟩,
  ⟨0x210, 8, 0x4, 0x0, 0x0, 0x7fff, 0xff⟩,
  ⟨0x234, 1, 0x4, 0x0, 0x0, 0xffffffff, 0x0⟩,
  ⟨0x300, 64, 0x4, 0xffff03f7, 0x0, 0x0, 0x0⟩,
  ⟨0x408, 1, 0x4, 0x0, 0x0, 0xffffffff, 0x0⟩,
  ⟨0x40c, 1, 0x4, 0x0, 0x0, 0xffffffff, 0x0⟩]

/-- Register words of a PTP page that hold a writable bit or a reset value other than 0. -/
def rowsPTP : List RegRow := [
  ⟨0x120, 1, 0x4, 0x0, 0x0, 0xffffffff, 0x0⟩,
  ⟨0x124, 1, 0x4, 0x0, 0x0, 0xffff, 0x4000⟩,
  ⟨0x130, 1, 0x4, 0x0, 0x0, 0xffffffff, 0x0⟩,
  ⟨0x134, 1, 0x4, 0x0, 0x0, 0xffffffff, 0x0⟩,
  ⟨0x15c, 1, 0x4, 0x0, 0x0, 0xffffffff, 0x0⟩]

/-- Register words of a ETH page that hold a writable bit or a reset value other than 0. -/
def rowsETH : List RegRow := [
  ⟨0x100, 1, 0x4, 0x3f, 0x0, 0x0, 0xa⟩,
  ⟨0x104, 1, 0x4, 0xfff, 0x0, 0x0, 0x5f2⟩,
  ⟨0x108, 1, 0x4, 0xffffffff, 0x0, 0x0, 0x0⟩,
  ⟨0x10c, 1, 0x4, 0xffff, 0x0, 0x0, 0x0⟩,
  ⟨0x110, 1, 0x4, 0xffffffff, 0x0, 0x0, 0x0⟩,
  ⟨0x114, 1, 0x4, 0xffffffff, 0x0, 0x0, 0x0⟩,
  ⟨0x118, 1, 0x4, 0x0, 0x0, 0xffffffff, 0x0⟩,
  ⟨0x11c, 1, 0x4, 0x0, 0x0, 0xffffffff, 0x0⟩,
  ⟨0x124, 1, 0x4, 0x0, 0x0, 0xffff, 0x10⟩,
  ⟨0x140, 1, 0x4, 0x0, 0x0, 0xffffffff, 0x0⟩,
  ⟨0x144, 1, 0x4, 0x0, 0x0, 0xffffffff, 0x0⟩,
  ⟨0x148, 1, 0x4, 0x0, 0x0, 0xffffffff, 0x0⟩,
  ⟨0x14c, 1, 0x4, 0x0, 0x0, 0xffffffff, 0x0⟩,
  ⟨0x150, 1, 0x4, 0x0, 0x0, 0xffffffff, 0x0⟩,
  ⟨0x154, 1, 0x4, 0x0, 0x0, 0xffffffff, 0x0⟩,
  ⟨0x158, 1, 0x4, 0x0, 0x0, 0xffffffff, 0x0⟩,
  ⟨0x15c, 1, 0x4, 0x0, 0x0, 0xffffffff, 0x0⟩,
  ⟨0x160, 1, 0x4, 0x0, 0x0, 0xffffffff, 0x0⟩]

/-- Register words of a TLK page that hold a writable bit or a reset value other than 0. -/
def rowsTLK : List RegRow := [
  ⟨0x100, 1, 0x4, 0x3ff, 0x0, 0x0, 0x310⟩,
  ⟨0x114, 1, 0x4, 0xff, 0x0, 0x0, 0x8⟩,
  ⟨0x118, 1, 0x4, 0xffffffff, 0x0, 0x0, 0x3d090⟩,
  ⟨0x124, 1, 0x4, 0xff0f, 0x0, 0x0, 0x4000⟩,
  ⟨0x128, 1, 0x4, 0xffffffff, 0x0, 0x0, 0x61a8⟩,
  ⟨0x134, 4, 0x4, 0xff3f1, 0x0, 0x0, 0x0⟩,
  ⟨0x144, 4, 0x4, 0xf3ff1, 0x0, 0x0, 0x0⟩,
  ⟨0x154, 1, 0x4, 0x0, 0x0, 0xf, 0x0⟩,
  ⟨0x158, 1, 0x4, 0x0, 0x0, 0x3fffff, 0x0⟩,
  ⟨0x160, 1, 0x4, 0x0, 0x0, 0xffffffff, 0x0⟩,
  ⟨0x164, 1, 0x4, 0x0, 0x0, 0xffffffff, 0x0⟩,
  ⟨0x170, 1, 0x4, 0x0, 0x0, 0xffffffff, 0x61a8⟩,
  ⟨0x174, 1, 0x4, 0x0, 0x0, 0xffff, 0x10⟩,
  ⟨0x17c, 1, 0x4, 0x0, 0x0, 0xffffffff, 0x0⟩,
  ⟨0x180, 1, 0x4, 0x0, 0x0, 0xffffffff, 0x0⟩,
  ⟨0x184, 1, 0x4, 0x0, 0x0, 0xffffffff, 0x0⟩,
  ⟨0x188, 1, 0x4, 0x0, 0x0, 0xffffffff, 0x0⟩,
  ⟨0x18c, 1, 0x4, 0x0, 0x0, 0xffffffff, 0x0⟩,
  ⟨0x190, 1, 0x4, 0x0, 0x0, 0xffffffff, 0x0⟩,
  ⟨0x194, 1, 0x4, 0x0, 0x0, 0xffffffff, 0x0⟩,
  ⟨0x198, 1, 0x4, 0x0, 0x0, 0xffffffff, 0x0⟩,
  ⟨0x19c, 1, 0x4, 0x0, 0x0, 0xffffffff, 0x0⟩,
  ⟨0x1a0, 1, 0x4, 0x0, 0x0, 0xffffffff, 0x0⟩]

/-- Register words of a RED page that hold a writable bit or a reset value other than 0. -/
def rowsRED : List RegRow := [
  ⟨0x100, 1, 0x4, 0xf13, 0x0, 0x0, 0xf02⟩,
  ⟨0x104, 1, 0x4, 0x0, 0x0, 0xffffffff, 0x10000⟩,
  ⟨0x108, 1, 0x4, 0x0, 0x0, 0xff, 0x4⟩,
  ⟨0x118, 1, 0x4, 0x0, 0x0, 0xffffffff, 0x0⟩,
  ⟨0x11c, 1, 0x4, 0x0, 0x0, 0xffffffff, 0x0⟩,
  ⟨0x120, 1, 0x4, 0x0, 0x0, 0xffffffff, 0x0⟩]

/-- Register words of a DMC page that hold a writable bit or a reset value other than 0. -/
def rowsDMC : List RegRow := [
  ⟨0x100, 1, 0x4, 0x1f7, 0x0, 0x0, 0x85⟩,
  ⟨0x104, 1, 0x4, 0x0, 0x0, 0xffff, 0x40⟩,
  ⟨0x108, 1, 0x4, 0x0, 0x0, 0xf, 0x4⟩,
  ⟨0x118, 1, 0x4, 0x0, 0x0, 0xffffffff, 0x0⟩,
  ⟨0x11c, 1, 0x4, 0x0, 0x0, 0xffffffff, 0x0⟩,
  ⟨0x120, 1, 0x4, 0x0, 0x0, 0xffffffff, 0x0⟩,
  ⟨0x124, 1, 0x4, 0x0, 0x0, 0xffffffff, 0x0⟩,
  ⟨0x128, 1, 0x4, 0x0, 0x0, 0xffffffff, 0x0⟩,
  ⟨0x12c, 1, 0x4, 0x0, 0x0, 0xffffffff, 0x0⟩,
  ⟨0x130, 1, 0x4, 0x0, 0x0, 0xffffffff, 0x0⟩,
  ⟨0x134, 1, 0x4, 0x0, 0x0, 0xffffffff, 0x0⟩,
  ⟨0x138, 1, 0x4, 0x0, 0x0, 0xffffffff, 0x0⟩,
  ⟨0x13c, 1, 0x4, 0x0, 0x0, 0xffffffff, 0x0⟩,
  ⟨0x140, 1, 0x4, 0x0, 0x0, 0xffffffff, 0x0⟩,
  ⟨0x144, 1, 0x4, 0x0, 0x0, 0xffffffff, 0x0⟩,
  ⟨0x154, 1, 0x4, 0x0, 0x0, 0xffffff01, 0x0⟩,
  ⟨0x200, 8, 0x10, 0x0, 0x0, 0xfffff007, 0x0⟩,
  ⟨0x204, 8, 0x10, 0x0, 0x0, 0xff, 0x0⟩,
  ⟨0x208, 8, 0x10, 0x0, 0x0, 0xfffff000, 0x0⟩,
  ⟨0x20c, 8, 0x10, 0x0, 0x0, 0xff, 0x0⟩]

/-- Register words of a SRAM page that hold a writable bit or a reset value other than 0. -/
def rowsSRAM : List RegRow := [
  ⟨0x110, 1, 0x4, 0x0, 0x0, 0xffffff03, 0x4002⟩,
  ⟨0x120, 4, 0x4, 0x0, 0x0, 0xffffffff, 0x0⟩,
  ⟨0x130, 4, 0x4, 0x0, 0x0, 0xffffffff, 0x0⟩]

/-- The register rows of a block. -/
def Blk.rows : Blk → List RegRow
  | .chip => rowsCHIP
  | .clkc => rowsCLKC
  | .pwrc => rowsPWRC
  | .rstc => rowsRSTC
  | .lant => rowsLANT
  | .calc => rowsCALC
  | .keep => rowsKEEP
  | .dbgc => rowsDBGC
  | .enc => rowsENC
  | .obs => rowsOBS
  | .psc => rowsPSC
  | .emu => rowsEMU
  | .axs => rowsAXS
  | .sdf => rowsSDF
  | .cam => rowsCAM
  | .cup => rowsCUP
  | .def_ => rowsDEF
  | .clp => rowsCLP
  | .job => rowsJOB
  | .stp => rowsSTP
  | .nct => rowsNCT
  | .pba => rowsPBA
  | .fire => rowsFIRE
  | .hlk => rowsHLK
  | .cmp => rowsCMP
  | .hqf => rowsHQF
  | .pcie => rowsPCIE
  | .dma => rowsDMA
  | .bic => rowsBIC
  | .evf => rowsEVF
  | .ptp => rowsPTP
  | .eth => rowsETH
  | .tlk => rowsTLK
  | .red => rowsRED
  | .dmc => rowsDMC
  | .sram => rowsSRAM

/-- The row of a register word. -/
def regRow (b : Blk) (o : Nat) : Option RegRow := b.rows.find? (·.hits o)

/-- The reset value of a register word: the tables', SDF.CFG and SDF.SEL by instance. -/
def resetWord (p o : Nat) : Nat :=
  match blkOf p with
  | some b =>
    let n := p - b.first
    if b = .sdf ∧ o = 0x100 then 0x9 + n * 0x100
    else if b = .sdf ∧ o = 0x104 then 0x1 + n * 0x10
    else ((regRow b o).map (·.rst)).getD 0
  | none => 0

/-! Offsets of the registers by name. An indexed register is a function of its index. -/

namespace Reg.CHIP
abbrev VARIANT : Nat := 0x100
abbrev STEPPING : Nat := 0x104
abbrev MANUF : Nat := 0x108
abbrev SERIAL : Nat := 0x110
abbrev POSCNT : Nat := 0x118
abbrev PRESENT0 : Nat := 0x140
abbrev PRESENT1 : Nat := 0x148
abbrev PRESENT2 : Nat := 0x150
abbrev PRESENT3 : Nat := 0x158
end Reg.CHIP

namespace Reg.CLKC
abbrev PLLSTAT : Nat := 0x100
abbrev PXCLK : Nat := 0x104
abbrev REFMON : Nat := 0x108
abbrev DMCCLK : Nat := 0x10c
abbrev LOSSCNT : Nat := 0x110
end Reg.CLKC

namespace Reg.PWRC
abbrev REQ : Nat := 0x100
abbrev PSTAT : Nat := 0x104
abbrev WAKEEN : Nat := 0x108
abbrev WAKETMR : Nat := 0x10c
abbrev RESUMEVEC : Nat := 0x110
abbrev WAKECNT : Nat := 0x118
abbrev REFUSECNT : Nat := 0x11c
abbrev WAKEEARLY : Nat := 0x120
abbrev LPTIME : Nat := 0x124
end Reg.PWRC

namespace Reg.RSTC
abbrev CAUSE : Nat := 0x100
abbrev CMD : Nat := 0x104
abbrev CFG : Nat := 0x108
abbrev WDTO : Nat := 0x10c
abbrev WDKICK : Nat := 0x110
abbrev BOOT : Nat := 0x114
abbrev OUTCTL : Nat := 0x118
abbrev TWIN : Nat := 0x120
abbrev TCORES : Nat := 0x128
abbrev TATT : Nat := 0x130
abbrev RSTCNT : Nat := 0x138
end Reg.RSTC

namespace Reg.LANT
abbrev CFG : Nat := 0x100
abbrev PERIOD : Nat := 0x104
abbrev SLACKT : Nat := 0x108
abbrev DRIFTTH : Nat := 0x10c
abbrev VRANGE : Nat := 0x110
abbrev PMBCFG : Nat := 0x114
abbrev VTOL : Nat := 0x118
abbrev PSTAT : Nat := 0x11c
abbrev SLACK : Nat := 0x120
abbrev SENS : Nat := 0x124
abbrev MODELK : Nat := 0x128
abbrev REMAIN : Nat := 0x12c
abbrev RUNH : Nat := 0x130
abbrev PLANCNT : Nat := 0x134
abbrev LASTPLAN : Nat := 0x138
abbrev MONSEL : Nat := 0x140
abbrev MONVAL : Nat := 0x144
abbrev TMAXC : Nat := 0x148
abbrev CMD : Nat := 0x14c
abbrev VIOL : Nat := 0x150
abbrev VIOLCNT : Nat := 0x154
abbrev NACKCNT : Nat := 0x158
abbrev PECCNT : Nat := 0x15c
abbrev VMISCNT : Nat := 0x160
abbrev VMODECNT : Nat := 0x164
abbrev MLOGSEL : Nat := 0x170
abbrev MLOGDATA : Nat := 0x178
end Reg.LANT

namespace Reg.CALC
abbrev CMD : Nat := 0x100
abbrev CSTAT : Nat := 0x104
abbrev CFG : Nat := 0x108
abbrev GAPWAIT : Nat := 0x10c
abbrev EYEMIN : Nat := 0x110
abbrev DRMIN : Nat := 0x114
abbrev FFCFG : Nat := 0x118
abbrev OFFCFG : Nat := 0x11c
abbrev SDFOFF (n : Nat) : Nat := 0x140 + n * 0x4
abbrev RECALLINES : Nat := 0x180
abbrev HSEL : Nat := 0x188
abbrev HDATA : Nat := 0x190
abbrev CNT (n : Nat) : Nat := 0x200 + n * 0x20
abbrev FAILCNT (n : Nat) : Nat := 0x204 + n * 0x20
abbrev LASTPTP (n : Nat) : Nat := 0x208 + n * 0x20
abbrev QUAL (n : Nat) : Nat := 0x210 + n * 0x20
end Reg.CALC

namespace Reg.KEEP
abbrev LCS : Nat := 0x100
abbrev SERIAL : Nat := 0x108
abbrev BSTAT : Nat := 0x110
abbrev KEEPSVN : Nat := 0x114
abbrev CORESVN : Nat := 0x118
abbrev CORESEC : Nat := 0x11c
abbrev NONCE (n : Nat) : Nat := 0x120 + n * 0x4
abbrev TOPLEFT : Nat := 0x140
abbrev SUBLEFT : Nat := 0x144
abbrev BLDCTL : Nat := 0x148
abbrev BLDLEN : Nat := 0x14c
abbrev BLDDATA : Nat := 0x150
abbrev CTRSEL : Nat := 0x158
abbrev CTRVAL : Nat := 0x15c
abbrev KEYMAP : Nat := 0x160
abbrev CMDCNT : Nat := 0x164
abbrev CMDERRCNT : Nat := 0x168
abbrev VIOL : Nat := 0x16c
abbrev XERRCNT : Nat := 0x170
end Reg.KEEP

namespace Reg.DBGC
abbrev LEVEL : Nat := 0x100
abbrev RELOCK : Nat := 0x104
abbrev TKCTL : Nat := 0x108
abbrev TKLEN : Nat := 0x10c
abbrev TKDATA : Nat := 0x110
abbrev TKSTAT : Nat := 0x118
abbrev TKNONCE (n : Nat) : Nat := 0x120 + n * 0x4
abbrev FRZSET (n : Nat) : Nat := 0x140 + n * 0x8
abbrev FRZCMD : Nat := 0x160
abbrev FRZSTAT : Nat := 0x164
abbrev XTRIG : Nat := 0x168
abbrev SBADDR : Nat := 0x170
abbrev SBDATA : Nat := 0x178
abbrev SBCS : Nat := 0x180
abbrev coreCCTL (n : Nat) : Nat := 0x200 + n * 0x100
abbrev coreCSTAT (n : Nat) : Nat := 0x204 + n * 0x100
abbrev coreDPC (n : Nat) : Nat := 0x208 + n * 0x100
abbrev coreREGSEL (n : Nat) : Nat := 0x210 + n * 0x100
abbrev coreCCFG (n : Nat) : Nat := 0x214 + n * 0x100
abbrev coreREGDATA (n : Nat) : Nat := 0x218 + n * 0x100
abbrev coreBP (c i : Nat) : Nat := 0x220 + c * 0x100 + i * 0x8
abbrev coreWP (c i : Nat) : Nat := 0x260 + c * 0x100 + i * 0x10
end Reg.DBGC

namespace Reg.ENC
abbrev CFG : Nat := 0x100
abbrev SERCFG : Nat := 0x104
abbrev SCLK : Nat := 0x108
abbrev SERPER : Nat := 0x10c
abbrev SWTMO : Nat := 0x110
abbrev SSIDLY : Nat := 0x114
abbrev MAXDELTA : Nat := 0x118
abbrev CPR : Nat := 0x11c
abbrev COUNT : Nat := 0x120
abbrev LASTWORD : Nat := 0x128
abbrev ZLATCH : Nat := 0x130
abbrev ZTIME : Nat := 0x138
abbrev ILLEGCNT : Nat := 0x140
abbrev GLITCHCNT : Nat := 0x144
abbrev SERRCNT : Nat := 0x148
abbrev WARNCNT : Nat := 0x14c
abbrev ZERRCNT : Nat := 0x150
abbrev SKIPCNT : Nat := 0x154
abbrev VIOL : Nat := 0x158
abbrev DELAY : Nat := 0x15c
abbrev C2WU : Nat := 0x160
abbrev INSTAT : Nat := 0x168
end Reg.ENC

namespace Reg.OBS
abbrev SRC : Nat := 0x100
abbrev BW : Nat := 0x104
abbrev WA : Nat := 0x108
abbrev GATE : Nat := 0x10c
abbrev MISMATCH : Nat := 0x110
abbrev COASTMAX : Nat := 0x114
abbrev LEAD : Nat := 0x118
abbrev CMD : Nat := 0x11c
abbrev PRESET : Nat := 0x120
abbrev EPOCH : Nat := 0x128
abbrev OSTAT : Nat := 0x130
abbrev REVCNT : Nat := 0x134
abbrev MISCNT : Nat := 0x138
abbrev WPOS_R : Nat := 0x140
abbrev WPOS_S : Nat := 0x148
abbrev SPEED : Nat := 0x150
abbrev ACCEL : Nat := 0x158
abbrev SNAP_TIME : Nat := 0x160
abbrev SNAP_WPOS_R : Nat := 0x168
abbrev SNAP_WPOS_S : Nat := 0x170
abbrev SNAP_SPEED : Nat := 0x178
abbrev SNAP_ACCEL : Nat := 0x180
end Reg.OBS

namespace Reg.PSC
abbrev ARMSTAT : Nat := 0x100
abbrev DISARM : Nat := 0x104
abbrev LASTLATE : Nat := 0x108
abbrev LATECNT0 : Nat := 0x110
abbrev LATECNT1 : Nat := 0x114
abbrev LATECNT2 : Nat := 0x118
abbrev LATECNT3 : Nat := 0x11c
abbrev DEFERCNT0 : Nat := 0x120
abbrev DEFERCNT1 : Nat := 0x124
abbrev DEFERCNT2 : Nat := 0x128
abbrev DEFERCNT3 : Nat := 0x12c
abbrev FIRECNT0 : Nat := 0x130
abbrev FIRECNT1 : Nat := 0x134
abbrev FIRECNT2 : Nat := 0x138
abbrev FIRECNT3 : Nat := 0x13c
abbrev NEXT0 : Nat := 0x150
abbrev NEXT1 : Nat := 0x158
abbrev NEXT2 : Nat := 0x160
abbrev NEXT3 : Nat := 0x168
end Reg.PSC

namespace Reg.EMU
abbrev chCFG (n : Nat) : Nat := 0x100 + n * 0x20
abbrev chMINEDGE (n : Nat) : Nat := 0x104 + n * 0x20
abbrev chPITCH (n : Nat) : Nat := 0x108 + n * 0x20
abbrev chZPER (n : Nat) : Nat := 0x110 + n * 0x20
abbrev chLAGMAX (n : Nat) : Nat := 0x114 + n * 0x20
abbrev chOUTCNT (n : Nat) : Nat := 0x118 + n * 0x20
abbrev chOVRCNT (n : Nat) : Nat := 0x11c + n * 0x20
end Reg.EMU

namespace Reg.AXS
abbrev CFG : Nat := 0x100
abbrev MINSTEP : Nat := 0x104
abbrev STEPT : Nat := 0x108
abbrev LAGMAX : Nat := 0x10c
abbrev STANDTMO : Nat := 0x110
abbrev WAKE : Nat := 0x114
abbrev SPCFG : Nat := 0x118
abbrev SPPER : Nat := 0x11c
abbrev GRATIO : Nat := 0x120
abbrev GCTL : Nat := 0x128
abbrev CMD : Nat := 0x12c
abbrev PSET : Nat := 0x130
abbrev SEGHEAD : Nat := 0x138
abbrev SEGTAIL : Nat := 0x13c
abbrev XCMD : Nat := 0x140
abbrev EPOS : Nat := 0x148
abbrev ASTAT : Nat := 0x14c
abbrev XGEAR : Nat := 0x150
abbrev GORG : Nat := 0x158
abbrev LATECNT : Nat := 0x160
abbrev STEPCNT : Nat := 0x164
abbrev LASTIDX : Nat := 0x168
abbrev SEG (n : Nat) : Nat := 0x400 + n * 0x10
abbrev SEGVEL (n : Nat) : Nat := 0x404 + n * 0x10
abbrev SEGPOS (n : Nat) : Nat := 0x408 + n * 0x10
end Reg.AXS

namespace Reg.SDF
abbrev CFG : Nat := 0x100
abbrev SEL : Nat := 0x104
abbrev OUTCTL : Nat := 0x108
abbrev RMSWIN : Nat := 0x10c
abbrev ENVDEC : Nat := 0x110
abbrev LIM : Nat := 0x114
abbrev LIMHI : Nat := 0x118
abbrev LIMLO : Nat := 0x11c
abbrev HYST : Nat := 0x120
abbrev STUCKN : Nat := 0x124
abbrev VIOL : Nat := 0x128
abbrev VIOLCNT : Nat := 0x12c
abbrev LAST : Nat := 0x130
abbrev LSTAT : Nat := 0x134
abbrev PKMAX : Nat := 0x138
abbrev PKMIN : Nat := 0x13c
abbrev RMS : Nat := 0x140
abbrev ENV : Nat := 0x144
abbrev OUTCNT : Nat := 0x148
abbrev DROPCNT : Nat := 0x14c
abbrev STUCKCNT : Nat := 0x150
abbrev SATCNT : Nat := 0x154
abbrev LTIME : Nat := 0x158
end Reg.SDF

namespace Reg.CAM
abbrev CFG : Nat := 0x100
abbrev WIDTH : Nat := 0x104
abbrev BLEN : Nat := 0x108
abbrev TDEL : Nat := 0x10c
abbrev LMINPER : Nat := 0x110
abbrev ULAT : Nat := 0x114
abbrev TRIGW : Nat := 0x118
abbrev LTMO : Nat := 0x11c
abbrev BLKTMO : Nat := 0x120
abbrev LINKTMO : Nat := 0x124
abbrev HBPER : Nat := 0x128
abbrev PADVAL : Nat := 0x12c
abbrev CAMLAT : Nat := 0x130
abbrev FECTL : Nat := 0x134
abbrev FTADDR : Nat := 0x138
abbrev FTDATA : Nat := 0x13c
abbrev BLACK (n : Nat) : Nat := 0x140 + n * 0x4
abbrev STATBASE : Nat := 0x160
abbrev STATSLOTS : Nat := 0x168
abbrev EXPADDR : Nat := 0x170
abbrev GAINADDR : Nat := 0x174
abbrev EXPVAL : Nat := 0x178
abbrev GAINVAL : Nat := 0x17c
abbrev EXPCMD : Nat := 0x180
abbrev EXPSTAT : Nat := 0x184
abbrev EXPLINE : Nat := 0x188
abbrev CCADDR : Nat := 0x190
abbrev CCDATA : Nat := 0x194
abbrev CCCMD : Nat := 0x198
abbrev CCSTAT : Nat := 0x19c
abbrev CCTMO : Nat := 0x1a0
abbrev LSTAT : Nat := 0x1a4
abbrev VIOL : Nat := 0x1a8
abbrev VIOLCNT : Nat := 0x1ac
abbrev CURBLK : Nat := 0x1b0
abbrev LASTK : Nat := 0x1b8
abbrev LINECNT : Nat := 0x1c0
abbrev PADCNT : Nat := 0x1c4
abbrev MISSCNT : Nat := 0x1c8
abbrev TRIGSKIP : Nat := 0x1cc
abbrev TQFULL : Nat := 0x1d0
abbrev UNTRIG : Nat := 0x1d4
abbrev SHORTLN : Nat := 0x1d8
abbrev LONGLN : Nat := 0x1dc
abbrev SHORTBLK : Nat := 0x1e0
abbrev MIXEDBLK : Nat := 0x1e4
abbrev CRCCNT : Nat := 0x1e8
abbrev CODECNT : Nat := 0x1ec
abbrev MALFCNT : Nat := 0x1f0
abbrev DOWNCNT : Nat := 0x1f4
abbrev STATDROP : Nat := 0x1f8
abbrev EVTDROP : Nat := 0x1fc
end Reg.CAM

namespace Reg.CUP
abbrev CFG : Nat := 0x100
abbrev PORTS : Nat := 0x104
abbrev STAG : Nat := 0x108
abbrev FWAIT : Nat := 0x10c
abbrev LSBASE1 : Nat := 0x110
abbrev LSBASE2 : Nat := 0x114
abbrev STGBASE1 : Nat := 0x118
abbrev STGBASE2 : Nat := 0x120
abbrev OUTW : Nat := 0x128
abbrev LSUSE : Nat := 0x12c
abbrev X0 : Nat := 0x130
abbrev SP : Nat := 0x138
abbrev CCTL : Nat := 0x1a0
abbrev WB01 : Nat := 0x1a4
abbrev WB2 : Nat := 0x1a8
abbrev MAT0 : Nat := 0x1ac
abbrev MAT1 : Nat := 0x1b0
abbrev MAT2 : Nat := 0x1b4
abbrev MAT3 : Nat := 0x1b8
abbrev MAT4 : Nat := 0x1bc
abbrev TCADDR : Nat := 0x1c0
abbrev TCDATA : Nat := 0x1c4
abbrev RXORG : Nat := 0x200
abbrev RXP : Nat := 0x208
abbrev PW01 : Nat := 0x210
abbrev PW2 : Nat := 0x214
abbrev RCTL : Nat := 0x218
abbrev ICADDR : Nat := 0x21c
abbrev ICDATA : Nat := 0x220
abbrev BGCTL : Nat := 0x240
abbrev BGBASE : Nat := 0x248
abbrev BGSTAT : Nat := 0x250
abbrev TH (n : Nat) : Nat := 0x260 + n * 0x8
abbrev UTIL : Nat := 0x280
abbrev CURBLK : Nat := 0x288
abbrev LINECNT : Nat := 0x290
abbrev OVERRUN : Nat := 0x294
abbrev FWCNT : Nat := 0x298
abbrev REFLATE : Nat := 0x29c
abbrev VOIDCNT : Nat := 0x2a0
abbrev STGERR : Nat := 0x2a4
abbrev ONCNT : Nat := 0x2a8
abbrev slotXC (n : Nat) : Nat := 0x140 + n * 0x20
abbrev slotXS (n : Nat) : Nat := 0x148 + n * 0x20
abbrev slotTRIM (n : Nat) : Nat := 0x150 + n * 0x20
abbrev slotSLSTAT (n : Nat) : Nat := 0x154 + n * 0x20
abbrev slotSLLAST (n : Nat) : Nat := 0x158 + n * 0x20
end Reg.CUP

namespace Reg.DEF
abbrev CTL : Nat := 0x100
abbrev DEADLINE : Nat := 0x104
abbrev MAXREC : Nat := 0x108
abbrev MINAREA : Nat := 0x10c
abbrev SNPSEL : Nat := 0x110
abbrev SNPRING : Nat := 0x118
abbrev SNPPOOL : Nat := 0x120
abbrev SNPSLOTSZ : Nat := 0x128
abbrev SNPSLOTS : Nat := 0x12c
abbrev SNPHEAD : Nat := 0x130
abbrev SNPTAIL : Nat := 0x134
abbrev RINGUSE : Nat := 0x138
abbrev OPEN : Nat := 0x13c
abbrev BLKCNT : Nat := 0x140
abbrev RECCNT : Nat := 0x144
abbrev DROPCNT : Nat := 0x148
abbrev OVFCOMP : Nat := 0x14c
abbrev OVFREC : Nat := 0x150
abbrev SMALLCNT : Nat := 0x154
abbrev SNPCNT : Nat := 0x158
abbrev NOSNPCNT : Nat := 0x15c
abbrev IDLEBLK : Nat := 0x160
abbrev MAXOPEN : Nat := 0x164
abbrev LASTBLK : Nat := 0x168
abbrev PENDDROP : Nat := 0x170
end Reg.DEF

namespace Reg.CLP
abbrev STEP : Nat := 0x100
abbrev THR : Nat := 0x104
abbrev SOLO : Nat := 0x108
abbrev DPMIN : Nat := 0x10c
abbrev REGMIN : Nat := 0x110
abbrev REGGATE : Nat := 0x118
abbrev RESBASE : Nat := 0x120
abbrev RESSLOTS : Nat := 0x128
abbrev ACTL : Nat := 0x12c
abbrev ASTAT : Nat := 0x130
abbrev SKIPLN : Nat := 0x134
abbrev LATECNT : Nat := 0x138
abbrev CORDROP : Nat := 0x13c
abbrev XOLDCNT : Nat := 0x140
abbrev WRCNT : Nat := 0x144
abbrev WGSTAT (n : Nat) : Nat := 0x148 + n * 0x8
abbrev bindBIND (n : Nat) : Nat := 0x200 + n * 0x20
abbrev bindFLAGS (n : Nat) : Nat := 0x204 + n * 0x20
abbrev bindDX (n : Nat) : Nat := 0x208 + n * 0x20
abbrev bindDY (n : Nat) : Nat := 0x20c + n * 0x20
abbrev bindLASTS (n : Nat) : Nat := 0x210 + n * 0x20
abbrev bindMEANR (n : Nat) : Nat := 0x218 + n * 0x20
end Reg.CLP

namespace Reg.JOB
abbrev BANDUSE : Nat := 0x100
abbrev TILECNT : Nat := 0x104
abbrev TERRCNT : Nat := 0x108
abbrev AFCNT : Nat := 0x10c
abbrev FETCHCNT : Nat := 0x110
abbrev NVCNT : Nat := 0x114
abbrev slotBASE (n : Nat) : Nat := 0x200 + n * 0x20
abbrev slotVMAP (n : Nat) : Nat := 0x208 + n * 0x20
abbrev slotCTRL (n : Nat) : Nat := 0x210 + n * 0x20
abbrev slotSTAT (n : Nat) : Nat := 0x214 + n * 0x20
abbrev slotRELEASE (n : Nat) : Nat := 0x218 + n * 0x20
abbrev bcurCFG (n : Nat) : Nat := 0x300 + n * 0x40
abbrev bcurWIN (n : Nat) : Nat := 0x304 + n * 0x40
abbrev bcurBOFF (n : Nat) : Nat := 0x308 + n * 0x40
abbrev bcurXOFF (n : Nat) : Nat := 0x310 + n * 0x40
abbrev bcurLATECNT (n : Nat) : Nat := 0x314 + n * 0x40
abbrev bcurPOS (n : Nat) : Nat := 0x318 + n * 0x40
abbrev bcurSRC (n : Nat) : Nat := 0x320 + n * 0x40
abbrev bcurBLANKCNT (n : Nat) : Nat := 0x328 + n * 0x40
abbrev rcurCFG (n : Nat) : Nat := 0x700 + n * 0x40
abbrev rcurPMASK (n : Nat) : Nat := 0x704 + n * 0x40
abbrev rcurROFF (n : Nat) : Nat := 0x708 + n * 0x40
abbrev rcurRSTEP (n : Nat) : Nat := 0x710 + n * 0x40
abbrev rcurWIN (n : Nat) : Nat := 0x714 + n * 0x40
abbrev rcurXFIRST (n : Nat) : Nat := 0x718 + n * 0x40
abbrev rcurXCOUNT (n : Nat) : Nat := 0x71c + n * 0x40
abbrev rcurPOS (n : Nat) : Nat := 0x720 + n * 0x40
abbrev rcurLATECNT (n : Nat) : Nat := 0x728 + n * 0x40
abbrev rcurVOIDCNT (n : Nat) : Nat := 0x72c + n * 0x40
end Reg.JOB

namespace Reg.STP
abbrev SCRADDR : Nat := 0x100
abbrev SCRDATA : Nat := 0x104
abbrev UTIL : Nat := 0x108
abbrev slotBIND (n : Nat) : Nat := 0x200 + n * 0x80
abbrev slotFIRST (n : Nat) : Nat := 0x204 + n * 0x80
abbrev slotWIDTH (n : Nat) : Nat := 0x208 + n * 0x80
abbrev slotMODE (n : Nat) : Nat := 0x20c + n * 0x80
abbrev slotKSTART (n : Nat) : Nat := 0x210 + n * 0x80
abbrev slotKERN0 (n : Nat) : Nat := 0x218 + n * 0x80
abbrev slotKERN1 (n : Nat) : Nat := 0x21c + n * 0x80
abbrev slotKERN2 (n : Nat) : Nat := 0x220 + n * 0x80
abbrev slotLV12 (n : Nat) : Nat := 0x224 + n * 0x80
abbrev slotLV3TH1 (n : Nat) : Nat := 0x228 + n * 0x80
abbrev slotTH23 (n : Nat) : Nat := 0x22c + n * 0x80
abbrev slotREDIST (n : Nat) : Nat := 0x230 + n * 0x80
abbrev slotSUBST (n : Nat) : Nat := 0x234 + n * 0x80
abbrev slotTSCR (n : Nat) : Nat := 0x238 + n * 0x80
abbrev slotSSTAT (n : Nat) : Nat := 0x23c + n * 0x80
abbrev slotLASTK (n : Nat) : Nat := 0x240 + n * 0x80
abbrev slotDONE (n : Nat) : Nat := 0x248 + n * 0x80
abbrev slotLINECNT (n : Nat) : Nat := 0x250 + n * 0x80
abbrev slotLATECNT (n : Nat) : Nat := 0x254 + n * 0x80
abbrev slotRESYNCCNT (n : Nat) : Nat := 0x258 + n * 0x80
abbrev slotSKIPCNT (n : Nat) : Nat := 0x25c + n * 0x80
abbrev slotDROP1 (n : Nat) : Nat := 0x260 + n * 0x80
abbrev slotDROP2 (n : Nat) : Nat := 0x268 + n * 0x80
abbrev slotDROP3 (n : Nat) : Nat := 0x270 + n * 0x80
end Reg.STP

namespace Reg.NCT
abbrev SWAPSEL : Nat := 0x100
abbrev WSLICE : Nat := 0x104
abbrev SWSTAT : Nat := 0x108
abbrev FRONT : Nat := 0x10c
abbrev HSTAT : Nat := 0x110
abbrev SWCMD : Nat := 0x114
abbrev SWAPCNT : Nat := 0x118
abbrev REJCNT : Nat := 0x11c
abbrev CLPREJ : Nat := 0x120
abbrev HELDCNT : Nat := 0x124
abbrev HOLDSKIP : Nat := 0x128
abbrev LOSTCNT : Nat := 0x12c
abbrev COPYPOS : Nat := 0x130
abbrev IMGCMD : Nat := 0x134
abbrev IMGBASE : Nat := 0x138
abbrev IMGSTAT : Nat := 0x140
abbrev SWAPTIME : Nat := 0x148
abbrev RANGE (n : Nat) : Nat := 0x200 + n * 0x8
abbrev SLINE (n : Nat) : Nat := 0x300 + n * 0x8
end Reg.NCT

namespace Reg.PBA
abbrev CFG : Nat := 0x100
abbrev DLYMAX : Nat := 0x104
abbrev DSTBASE : Nat := 0x108
abbrev DSTUSE : Nat := 0x10c
abbrev PITCH : Nat := 0x110
abbrev FDIST : Nat := 0x118
abbrev XORG : Nat := 0x120
abbrev NACT : Nat := 0x128
abbrev BLAT : Nat := 0x12c
abbrev LINECNT : Nat := 0x130
abbrev OVSCNT : Nat := 0x134
abbrev LATECNT : Nat := 0x138
abbrev LOWCNT : Nat := 0x13c
abbrev LEADCNT : Nat := 0x140
abbrev RESYNCCNT : Nat := 0x144
abbrev LASTK : Nat := 0x148
abbrev entryMAP (n : Nat) : Nat := 0x200 + n * 0x18
abbrev entryCNT (n : Nat) : Nat := 0x204 + n * 0x18
abbrev entryROW0 (n : Nat) : Nat := 0x208 + n * 0x18
abbrev entryROW1 (n : Nat) : Nat := 0x20c + n * 0x18
abbrev entryROW2 (n : Nat) : Nat := 0x210 + n * 0x18
abbrev entryROW3 (n : Nat) : Nat := 0x214 + n * 0x18
end Reg.PBA

namespace Reg.FIRE
abbrev GUARD : Nat := 0x100
abbrev VMIN : Nat := 0x108
abbrev barK (n : Nat) : Nat := 0x200 + n * 0x20
abbrev barTINT (n : Nat) : Nat := 0x208 + n * 0x20
abbrev barTSTAT (n : Nat) : Nat := 0x210 + n * 0x20
abbrev barSPEED (n : Nat) : Nat := 0x218 + n * 0x20
end Reg.FIRE

namespace Reg.HLK
abbrev CFG : Nat := 0x100
abbrev SYNCPER : Nat := 0x104
abbrev TRNTMO : Nat := 0x108
abbrev ASYM : Nat := 0x10c
abbrev VIOL : Nat := 0x110
abbrev TUNTMO : Nat := 0x114
abbrev ALIGNMAX : Nat := 0x118
abbrev TMAX : Nat := 0x11c
abbrev LSTAT : Nat := 0x120
abbrev LLAT : Nat := 0x124
abbrev RTT : Nat := 0x128
abbrev FLIGHT : Nat := 0x12c
abbrev BOARDID : Nat := 0x130
abbrev BIDENT : Nat := 0x134
abbrev BLIMIT : Nat := 0x138
abbrev HBSTAT : Nat := 0x13c
abbrev BRXERR : Nat := 0x140
abbrev ALIGNRES : Nat := 0x144
abbrev TEMP01 : Nat := 0x148
abbrev TEMP23 : Nat := 0x14c
abbrev TEMP45 : Nat := 0x150
abbrev TEMP67 : Nat := 0x154
abbrev NCHKBASE : Nat := 0x158
abbrev TUNADDR : Nat := 0x160
abbrev TUNDATA : Nat := 0x164
abbrev TUNCMD : Nat := 0x168
abbrev TUNSTAT : Nat := 0x16c
abbrev CRCCNT : Nat := 0x170
abbrev NAKTXCNT : Nat := 0x174
abbrev NAKRXCNT : Nat := 0x178
abbrev DOWNCNT : Nat := 0x17c
abbrev LINKLATE : Nat := 0x180
abbrev DOWNLINES : Nat := 0x184
abbrev VIOLCNT : Nat := 0x188
abbrev LCMD : Nat := 0x18c
abbrev CHCFG (n : Nat) : Nat := 0x1c0 + n * 0x4
end Reg.HLK

namespace Reg.CMP
abbrev CTL : Nat := 0x100
abbrev JSTAT : Nat := 0x104
abbrev JOBCNT : Nat := 0x108
abbrev ERRJOBS : Nat := 0x10c
abbrev INBYTES : Nat := 0x110
abbrev OUTBYTES : Nat := 0x118
abbrev EXPANDCNT : Nat := 0x120
abbrev UTIL : Nat := 0x124
abbrev LASTTAG : Nat := 0x128
abbrev STRLEN : Nat := 0x130
end Reg.CMP

namespace Reg.HQF
abbrev ACTIVE : Nat := 0x100
abbrev DBERRCNT : Nat := 0x104
abbrev HERRCNT : Nat := 0x108
abbrev LASTERR : Nat := 0x10c
abbrev ERRMAP (n : Nat) : Nat := 0x200 + n * 0x8
abbrev PENDMAP (n : Nat) : Nat := 0x400 + n * 0x8
end Reg.HQF

namespace Reg.PCIE
abbrev LSTAT : Nat := 0x100
abbrev VIOL : Nat := 0x104
abbrev VIOLCNT : Nat := 0x108
abbrev CTOCNT : Nat := 0x10c
abbrev CPLERRCNT : Nat := 0x110
abbrev POISONCNT : Nat := 0x114
abbrev URCNT : Nat := 0x118
abbrev MALFCNT : Nat := 0x11c
abbrev FLRCNT : Nat := 0x120
end Reg.PCIE

namespace Reg.DMA
abbrev ESTAT : Nat := 0x100
abbrev BYTES : Nat := 0x108
abbrev CPLDROP : Nat := 0x110
abbrev chDESC (n : Nat) : Nat := 0x200 + n * 0x20
abbrev chCTL (n : Nat) : Nat := 0x208 + n * 0x20
abbrev chSTAT (n : Nat) : Nat := 0x20c + n * 0x20
abbrev chCUR (n : Nat) : Nat := 0x210 + n * 0x20
abbrev chTAG (n : Nat) : Nat := 0x218 + n * 0x20
end Reg.DMA

namespace Reg.BIC
abbrev THR (n : Nat) : Nat := 0x100 + n * 0x10
abbrev CLAIM (n : Nat) : Nat := 0x104 + n * 0x10
abbrev COMPLETE (n : Nat) : Nat := 0x108 + n * 0x10
abbrev LINE (n : Nat) : Nat := 0x10c + n * 0x10
abbrev PCLAIM (n : Nat) : Nat := 0x140 + n * 0x4
abbrev PCOMPLETE : Nat := 0x180
abbrev PINCFG : Nat := 0x184
abbrev HCMP0 : Nat := 0x188
abbrev HCMP1 : Nat := 0x18c
abbrev SWSET : Nat := 0x190
abbrev SPURCMP : Nat := 0x194
abbrev EDGELOST : Nat := 0x198
abbrev ALAT (n : Nat) : Nat := 0x200 + n * 0x4
abbrev HACT0 (n : Nat) : Nat := 0x300 + n * 0x8
abbrev HACT1 (n : Nat) : Nat := 0x380 + n * 0x8
end Reg.BIC

namespace Reg.EVF
abbrev MERGECNT : Nat := 0x100
abbrev LOOPCNT : Nat := 0x104
abbrev SECDROPCNT : Nat := 0x108
abbrev DROPCNT : Nat := 0x10c
abbrev SWFIRE : Nat := 0x1e8
abbrev CHSEL : Nat := 0x1f8
abbrev CCTRL : Nat := 0x200
abbrev PROD : Nat := 0x204
abbrev FILTV : Nat := 0x208
abbrev FILTM : Nat := 0x20c
abbrev TASK (n : Nat) : Nat := 0x210 + n * 0x4
abbrev CSTAT : Nat := 0x230
abbrev CFIRE : Nat := 0x234
abbrev GPIOCFG (n : Nat) : Nat := 0x300 + n * 0x4
abbrev GPIOIN : Nat := 0x400
abbrev GPIOOUT : Nat := 0x408
end Reg.EVF

namespace Reg.PTP
abbrev FREE : Nat := 0x100
abbrev TIMENS : Nat := 0x108
abbrev TIMEFRAC : Nat := 0x110
abbrev CAPCYC : Nat := 0x118
abbrev INC : Nat := 0x120
abbrev OFSADJ : Nat := 0x128
abbrev TSETNS : Nat := 0x130
abbrev TSETFRAC : Nat := 0x138
abbrev STAMPNS : Nat := 0x140
abbrev STAMPFRAC : Nat := 0x148
abbrev STAMPCYC : Nat := 0x150
abbrev PSTAT : Nat := 0x158
abbrev STAMPCNT : Nat := 0x15c
end Reg.PTP

namespace Reg.ETH
abbrev CFG : Nat := 0x100
abbrev MAXLEN : Nat := 0x104
abbrev MACADDR : Nat := 0x108
abbrev RXBASE : Nat := 0x110
abbrev EGRCOR : Nat := 0x118
abbrev INGCOR : Nat := 0x11c
abbrev LSTAT : Nat := 0x120
abbrev VIOL : Nat := 0x124
abbrev VIOLCNT : Nat := 0x128
abbrev TSQCNT : Nat := 0x12c
abbrev TXTSQ0 : Nat := 0x130
abbrev TXTSQ1 : Nat := 0x138
abbrev TXFRM : Nat := 0x140
abbrev RXFRM : Nat := 0x144
abbrev FCSCNT : Nat := 0x148
abbrev LENCNT : Nat := 0x14c
abbrev CODECNT : Nat := 0x150
abbrev DOWNCNT : Nat := 0x154
abbrev RXDROP : Nat := 0x158
abbrev TXDROP : Nat := 0x15c
abbrev TSOVFCNT : Nat := 0x160
end Reg.ETH

namespace Reg.TLK
abbrev CFG : Nat := 0x100
abbrev PSTAT : Nat := 0x104
abbrev LDLYA : Nat := 0x108
abbrev LDLYB : Nat := 0x10c
abbrev TBSTAT : Nat := 0x110
abbrev TBMAX : Nat := 0x114
abbrev TBHALT : Nat := 0x118
abbrev TBAGE : Nat := 0x11c
abbrev TBDLY : Nat := 0x120
abbrev FWDCTL : Nat := 0x124
abbrev FWTMO : Nat := 0x128
abbrev CLPEXP (n : Nat) : Nat := 0x134 + n * 0x4
abbrev CLPIMP (n : Nat) : Nat := 0x144 + n * 0x4
abbrev TUNDEV : Nat := 0x154
abbrev TUNADDR : Nat := 0x158
abbrev TUNDATA : Nat := 0x160
abbrev TUNCMD : Nat := 0x168
abbrev TUNSTAT : Nat := 0x16c
abbrev TUNTMO : Nat := 0x170
abbrev VIOL : Nat := 0x174
abbrev VIOLCNT : Nat := 0x178
abbrev CRCCNT : Nat := 0x17c
abbrev MALFCNT : Nat := 0x180
abbrev DOWNCNT : Nat := 0x184
abbrev CONFCNT : Nat := 0x188
abbrev DUPIDCNT : Nat := 0x18c
abbrev FGAPCNT : Nat := 0x190
abbrev RESENDCNT : Nat := 0x194
abbrev TBLOSTCNT : Nat := 0x198
abbrev CLPDROP : Nat := 0x19c
abbrev REVCNT : Nat := 0x1a0
abbrev FWSTAT : Nat := 0x1a8
end Reg.TLK

namespace Reg.RED
abbrev CFG : Nat := 0x100
abbrev CMPTH : Nat := 0x104
abbrev CMPN : Nat := 0x108
abbrev CMD : Nat := 0x10c
abbrev RSTAT : Nat := 0x110
abbrev MIRSEQ : Nat := 0x114
abbrev MIRCNT : Nat := 0x118
abbrev DIVCNT : Nat := 0x11c
abbrev TAKECNT : Nat := 0x120
abbrev TAKECYC : Nat := 0x128
abbrev CMPDIFF (n : Nat) : Nat := 0x130 + n * 0x8
end Reg.RED

namespace Reg.DMC
abbrev CFG : Nat := 0x100
abbrev IDLETMO : Nat := 0x104
abbrev HITMAX : Nat := 0x108
abbrev DSTAT : Nat := 0x10c
abbrev USABLE : Nat := 0x110
abbrev CECNT : Nat := 0x118
abbrev UECNT : Nat := 0x11c
abbrev RANGECNT : Nat := 0x120
abbrev PROTCNT : Nat := 0x124
abbrev HAZCNT : Nat := 0x128
abbrev STALLCNT : Nat := 0x12c
abbrev REFCNT : Nat := 0x130
abbrev FORCEREF : Nat := 0x134
abbrev RDBYTES : Nat := 0x138
abbrev WRBYTES : Nat := 0x140
abbrev ERRADDR : Nat := 0x148
abbrev ERRINFO : Nat := 0x150
abbrev SCRUB : Nat := 0x154
abbrev SCRUBPOS : Nat := 0x158
abbrev MPR (n : Nat) : Nat := 0x200 + n * 0x10
abbrev MPRLIMIT (n : Nat) : Nat := 0x208 + n * 0x10
end Reg.DMC

namespace Reg.SRAM
abbrev LSSIZE : Nat := 0x100
abbrev DSSIZE : Nat := 0x104
abbrev TSSIZE : Nat := 0x108
abbrev CSSIZE : Nat := 0x10c
abbrev ECCCTL : Nat := 0x110
abbrev SCRUBPOS : Nat := 0x114
abbrev LASTUE : Nat := 0x118
abbrev CECNT (n : Nat) : Nat := 0x120 + n * 0x4
abbrev UECNT (n : Nat) : Nat := 0x130 + n * 0x4
abbrev INJECT : Nat := 0x140
end Reg.SRAM

end Sys2Proof.Machine
end

