-- ==== Sys2Proof/Machine/State.lean ====
section
/-!
DEFINITION. The state of the part: page headers, register words, table windows, the hidden state of every block,
memory, the outputs, and the queue of waiting commands. Plain data; reset values in `State.reset`.
-/

namespace Sys2Proof.Machine

/-- Why a command could stop the model. No command of this part faults: the spec answers every access. -/
inductive Fault where
  /-- Raised by no command. Safe: it only says that the model has no faulting path. -/
  | noFault
deriving DecidableEq, Repr

/-- Why a command has no meaning in the model. -/
inductive Refusal where
  /-- Raised by the arm of a command that is not modelled yet. Safe: the model stops. -/
  | notModelled (mnemonic : String)
deriving DecidableEq, Repr

/-- STAT.STATE of a page (R30). -/
inductive PState where
  | off | idle | run | drain | fault
deriving DecidableEq, Repr

/-- One entry of a page's error log (R38): code, TIME and CONTEXT. -/
structure LogEntry where
  code : Nat
  time : Nat
  ctx : Nat
deriving DecidableEq, Repr

/-- The common header of a page (R27 to R45). -/
structure Page where
  en : Bool
  run : Bool
  freeze : Bool
  state : PState
  /-- STAT.BUSY reads 1 before this cycle (R32) -/
  busyUntil : Nat
  frozen : Bool
  err : Nat
  errcnt : Nat
  ien : Nat
  ist : Nat
  own : Nat
  sec : Bool
  lock : Bool
  logMode : Bool
  lost : Nat
  log : List LogEntry
  bsel : Nat
  hold : Bool
  ech : Nat
  pend : Bool
  gen : Nat
  /-- violations counted in the window that began at `violStart` (R45) -/
  viol : Nat
  violStart : Nat
  /-- CTRL.EN was 1 since the last reset of the page: its pins have left their reset levels (R500) -/
  shown : Bool
deriving DecidableEq, Repr

/-- The header at reset: R27's values; OWNER 0xF but for DBGC (page 7); KEEP (page 6) as R439 gives it. -/
def Page.reset (p : Nat) : Page :=
  { en := decide (p = 6), run := decide (p = 6), freeze := false, state := if p = 6 then .idle else .off, busyUntil := 0, frozen := false, err := 0, errcnt := 0,
    ien := 0, ist := 0, own := if p = 7 then 0x7 else 0xF, sec := false, lock := decide (p = 6),
    logMode := false, lost := 0, log := [], bsel := 0, hold := false, ech := 0, pend := false, gen := 0, viol := 0,
    violStart := 0, shown := decide (p = 6) }

/-- Outputs of the part, newest first: what a partner, the host or a pin sees (the model's own record, log entry 6). -/
inductive Out where
  /-- a frame or packet: unit page, kind, header numbers, payload words or bytes -/
  | frame (page kind : Nat) (head : List Nat) (body : List Nat)
  /-- an edge or level of a pin group: unit page, pin, level -/
  | pin (page pin level : Nat)
  /-- an MSI-X message: function and vector, and the address and data of its table entry -/
  | msix (fn vec addr data : Nat)
  /-- an answer of the PCIe endpoint: kind, status, data -/
  | pcie (kind status data : Nat)
deriving DecidableEq, Repr

/-- One event on its way through a channel (R331, R333): producer kind 0 mark, 1 PROD, 2 software (R334). -/
structure Ev where
  ch : Nat
  entered : Nat
  kind : Nat
  index : Nat
  ovs : Nat
  arg : Nat
  origin : Nat
  depth : Nat
  tasks : List Nat
  /-- speed of the four domains in the cycle the event entered (R161) -/
  speeds : List Int
  /-- the mark that fired it, if a mark did (R216) -/
  mark : Option Nat
deriving DecidableEq, Repr

/-- A trigger delivered to a task input and not yet taken by its unit (R333, R335). -/
structure Trig where
  page : Nat
  task : Nat
  ch : Nat
  cycle : Nat
  index : Nat
  ovs : Nat
  arg : Nat
  origin : Nat
  depth : Nat
  speeds : List Int
  mark : Option Nat
deriving DecidableEq, Repr

/-- An event channel entry (EVF registers, R335 to R338). -/
structure Chan where
  en : Bool
  sec : Bool
  lock : Bool
  dis : Bool
  own : Nat
  prod : Nat
  filtv : Nat
  filtm : Nat
  tasks : List Nat
  loopcnt : Nat
  cfire : Nat
deriving DecidableEq, Repr

/-- A channel entry at reset; SEC of the asynchronous channels 248 to 255 reads 1 (R342). -/
def Chan.reset (ch : Nat) : Chan :=
  { en := false, sec := decide (248 ≤ ch), lock := false, dis := false, own := 0xF, prod := 0xFF, filtv := 0,
    filtm := 0, tasks := List.replicate 8 0xFF, loopcnt := 0, cfire := 0 }

/-- A queue descriptor (R304) with its interrupt timer (R311). -/
structure Queue where
  en : Bool
  loc : Bool
  esz : Nat
  log2n : Nat
  imode : Nat
  ithr : Nat
  base : Nat
  unit : Nat
  port : Nat
  pidx : Nat
  cidx : Nat
  shadow : Nat
  qerr : Bool
  code : Nat
  itmo : Nat
  /-- cycle at which the interrupt timer started; none while stopped -/
  timer : Option Nat
  /-- the entry at CIDX as its consumer read it, once (R309) -/
  head : Option (List Byte)
  /-- EN was cleared while an entry transfer is in progress (R305) -/
  closing : Bool
  /-- the requester of the last producer doorbell (R41), which causes the register accesses of its entries (R301) -/
  by_ : Nat
deriving DecidableEq, Repr

/-- A queue descriptor at reset (R304). -/
def Queue.reset : Queue :=
  { en := false, loc := false, esz := 0, log2n := 6, imode := 0, ithr := 0, base := 0, unit := 0xFF, port := 0,
    pidx := 0, cidx := 0, shadow := 0, qerr := false, code := 0, itmo := 0, timer := none, head := none, closing := false,
    by_ := 0 }

/-- The endpoint's state outside its page (R299 to R302, R313): function enables, MSI-X tables and outstanding reads. -/
structure Pcie where
  /-- Bus Master Enable of PF0 and PF1 -/
  bme0 : Bool
  bme1 : Bool
  /-- MSI-X enable and function mask per function -/
  msixEn : List Bool
  msixMask : List Bool
  /-- MSI-X table words: key fn × 2,048 + vector, value address, data, vector mask -/
  vectors : Tbl (Nat × Nat × Bool)
  /-- pending-bit array: fn × 2,048 + vector -/
  pba : List Nat
  /-- the function is in D3hot (R299) -/
  d3 : List Bool
  /-- Max Payload Size and Max Read Request Size in bytes, per function (R299) -/
  mps : List Nat
  mrrs : List Nat
  /-- Device Control 2 per function (R299): completion timeout value [3:0] and its disable [4] -/
  devCtl2 : List Nat
  /-- conditions of R313 reported through AER since last cleared, by the bit numbers of PCIE.ERR -/
  aer : Nat
  /-- log2 of the size of PF1 BAR0 (R300) -/
  bar : Nat
deriving DecidableEq, Repr

/-- The endpoint after reset: 4 GB of PF1 BAR0 (R300), the PCIe standard's defaults elsewhere (log entry 35). -/
def Pcie.reset : Pcie := ⟨false, false, [false, false], [false, false], [], [], [false, false], [128, 128], [512, 512], [0, 0], 0, 32⟩

/-- One device read request to host memory (R313): requester kind 0 queue, 1 DMA channel, 2 Ethernet port, 3 a requester
that has ended, whose data is discarded on completion (R302); its number; the data once completed; the cycle of its
issue. -/
structure HostRead where
  tag : Nat
  kind : Nat
  num : Nat
  fn : Nat
  addr : Nat
  len : Nat
  data : Option (List Byte)
  at_ : Nat
deriving DecidableEq, Repr

/-- An encoder front end beside its registers (R47 to R56). -/
structure Enc where
  /-- the filter holds filtered levels (R47) -/
  sampling : Bool
  /-- entries to STATE RUN so far, so that an observer sees a source that left and returned (R62) -/
  runs : Nat
  /-- cycles of the last illegal transitions, newest first, at most three (R49) -/
  illegal : List Nat
  /-- an index was latched since entry to RUN (R50) -/
  zseen : Bool
  /-- cycle of the last serial request (R54) -/
  lastReq : Nat
  /-- latch instant of the transfer in progress -/
  reqLatch : Nat
  /-- latch instant of the last accepted or extrapolated word (R60) -/
  latch : Nat
  /-- reference position and last accepted step (R55, R56) -/
  ref : Option Nat
  step : Int
  /-- the word of the transfer has ended: cycle in which the encoder's own timeout ends (R54) -/
  endAt : Option Nat
deriving DecidableEq, Repr

/-- An encoder front end at reset. -/
def Enc.reset : Enc := ⟨false, 0, [], false, 0, 0, 0, none, 0, none⟩

/-- An observer beside its registers (R59 to R64). Positions in 2^-32 WU, speed 2^-32, acceleration 2^-48. -/
structure Obs where
  p : Int
  /-- WPOS_S of TIMEBASE mode in 2^-32 WU (R387) -/
  ps : Int
  v : Int
  a : Int
  orgA : Int
  orgB : Int
  pairoff : Int
  /-- source A, source B taken as usable by the last update, and the runs of their pages then (R62) -/
  hasA : Bool
  hasB : Bool
  runsA : Nat
  runsB : Nat
  /-- DEGRADED was left by a mismatch -/
  mismatch : Bool
  /-- consecutive coasting cycles with v not 0 -/
  coast : Nat
  /-- turning value HIGH or LOW of the gate, in WU -/
  turn : Int
  /-- gate width in 2^-32 WU, and the GATE value and source it was computed for (R64) -/
  width : Nat
  widthOf : Nat × Nat
deriving DecidableEq, Repr

/-- An observer at reset. -/
def Obs.reset : Obs := ⟨0, 0, 0, 0, 0, 0, 0, false, false, 0, 0, false, 0, 0, 0, (0, 16)⟩

/-- An emulation channel beside its registers (R65). -/
structure EmuCh where
  origin : Int
  lastEdge : Nat
  /-- quadrature phase of the A and B pins, 0 to 3 -/
  phase : Nat
deriving DecidableEq, Repr

/-- The segment an axis runs, latched at its start (R352, R353). -/
structure Seg where
  num : Nat
  p0 : Int
  v0 : Int
  dur : Nat
  fin : Bool
  vel : Int
  pos : Int
deriving DecidableEq, Repr

/-- An axis beside its registers (R347 to R357). Positions in 2^-32 steps. -/
structure Axs where
  xprof : Int
  xg0 : Int
  /-- EPOCH of the gear domain at the engagement (R356) -/
  epoch : Nat
  seg : Option Seg
  /-- cycles of the segment done -/
  u : Nat
  /-- VEL of the last segment, V0 of the next (R352) -/
  vlast : Int
  stopReq : Bool
  /-- cycle of the last STOP or ABORT (R354) -/
  stopAt : Option Nat
  lastStep : Option Nat
  /-- direction pin follows increasing EPOS, and the cycle it last changed -/
  dirUp : Bool
  dirAt : Option Nat
  /-- level of AXnDIR in step mode -/
  dirLvl : Bool
  /-- a START that waits for an ABORT of its cycle, with its ORIGIN and DEPTH (R347) -/
  startReq : Option (Option (Nat × Nat))
  /-- cycle of the last step or set-point change (R350) -/
  moved : Nat
  /-- coil wake in progress since (R350) -/
  wake : Option Nat
  seq : Nat
  lastFrame : Nat
  /-- ORIGIN and DEPTH of the START trigger of the profile (R340) -/
  chain : Option (Nat × Nat)
  /-- GRATIO, STEPT and SPPER of the segment in progress (R35, R357) -/
  gratio : Int
  stept : Nat
  spper : Nat
deriving DecidableEq, Repr

/-- An axis at reset. -/
def Axs.reset : Axs :=
  { xprof := 0, xg0 := 0, epoch := 0, seg := none, u := 0, vlast := 0, stopReq := false, stopAt := none,
    lastStep := none, dirUp := false, dirAt := none, dirLvl := false, startReq := none, moved := 0, wake := none, seq := 0, lastFrame := 0, chain := none,
    gratio := 0, stept := 0, spper := 0 }

/-- The B fields of a channel that govern one output (R35, R362). -/
structure SdfSet where
  sel : Nat
  outctl : Nat
  rmswin : Nat
  envdec : Nat
  lim : Nat
  limhi : Nat
  limlo : Nat
  hyst : Nat
deriving DecidableEq, Repr

/-- A sigma-delta channel beside its registers (R358 to R365). -/
structure Sdf where
  /-- integrators and differentiators of the sinc3, modulo 2^64 (R360) -/
  i1 : Nat
  i2 : Nat
  i3 : Nat
  c1 : Nat
  c2 : Nat
  c3 : Nat
  /-- the FIR's delay line, newest first (R361) -/
  line : List Int
  /-- outputs since the last restart (R362) -/
  since : Nat
  seq : Nat
  /-- outputs since the last posted one (QDIV) -/
  qcount : Nat
  /-- an entry that found no room (R363) -/
  waiting : Option (List Byte)
  dropPrev : Bool
  maxFresh : Bool
  minFresh : Bool
  rmsSum : Nat
  rmsCnt : Nat
  overHeld : Bool
  underHeld : Bool
  stuck : Bool
  stuckLevel : Bool
  /-- cycle the stuck condition was entered -/
  stuckAt : Nat
  /-- the settings of the output in progress; none: those in force (R35) -/
  took : Option SdfSet
  /-- the channel's clock stopped after the output in progress of DRAIN (R367) -/
  halted : Bool
deriving DecidableEq, Repr

/-- A sigma-delta channel at reset. -/
def Sdf.reset : Sdf :=
  { i1 := 0, i2 := 0, i3 := 0, c1 := 0, c2 := 0, c3 := 0, line := [], since := 0, seq := 0, qcount := 0,
    waiting := none, dropPrev := false, maxFresh := true, minFresh := true, rmsSum := 0, rmsCnt := 0,
    overHeld := false, underHeld := false, stuck := false, stuckLevel := false, stuckAt := 0, took := none,
    halted := false }

/-- A pending write of a time parameter: cycle m in which it acts, kind 0 TSET, 1 OFSADJ, 2 INC, value (R373). -/
structure PtpWrite where
  at_ : Nat
  kind : Nat
  val : Int
deriving DecidableEq, Repr

/-- Network time (R372 to R375): TB in 2^-32 ns, NB, INC in force (4.44), pending writes, captures by requester, the sets
(TB, NB, INC) that were in force before, newest first, for records of earlier cycles. -/
structure Ptp where
  tb : Nat
  nb : Nat
  inc : Nat
  pend : List PtpWrite
  caps : Tbl (Nat × Nat × Nat)
  past : List (Nat × Nat × Nat)
deriving DecidableEq, Repr

/-- A mark (R71). Target and base in 2^-24 WU. -/
structure Mark where
  target : Int
  base : Int
  period : Nat
  div : Nat
  arm : Bool
  dom : Nat
  pol : Bool
  ena : Bool
  enb : Bool
  echa : Nat
  echb : Nat
  /-- MSTATE: 0 IDLE, 1 ARMED, 2 SPENT -/
  mstate : Nat
  late : Bool
  index : Nat
  /-- the next evaluation is an arming evaluation (R73, R79) -/
  arming : Bool
  /-- reached, its fire deferred (R76) -/
  deferred : Bool
deriving DecidableEq, Repr

/-- A mark at reset (R71). -/
def Mark.reset : Mark :=
  { target := 0, base := 0, period := 0, div := 0, arm := false, dom := 0, pol := false, ena := false, enb := false,
    echa := 0, echb := 0, mstate := 0, late := false, index := 0, arming := false, deferred := false }

/-- A write accepted into the mark table and not yet in force (R73); offset 0x20 is a disarm of domains `val`. -/
structure MarkWrite where
  at_ : Nat
  mark : Nat
  off : Nat
  val : Nat
  wide : Bool
deriving DecidableEq, Repr

/-- Fires of a domain in one cycle (R76). -/
structure Fires where
  at_ : Nat
  count : Nat
deriving DecidableEq, Repr

/-- A repeat of a loaded job stream (R86, R89). -/
structure Rep where
  lines : Nat
  count : Nat
  tileTab : Nat
  vbase : Nat
  trows : Nat
  tcols : Nat
deriving DecidableEq, Repr

/-- The header and repeat table of a READY job slot (R88, R89). -/
structure JobHead where
  bpp16 : Bool
  enc : Bool
  dpi : Nat
  nplanes : Nat
  width : Nat
  jobid : Nat
  reps : List Rep
deriving DecidableEq, Repr

/-- The set of a bar cursor that governs a line (R99, R106). -/
structure BarSet where
  cfg : Nat
  boff : Int
  xoff : Int
  bad : Bool
deriving DecidableEq, Repr

/-- A tile that is blank from a line of its iteration on, for one pass of a cursor (R97): pass, tile, line. -/
structure Blank where
  base : Int
  rep : Nat
  plane : Nat
  y : Nat
  x : Nat
  line : Nat
deriving DecidableEq, Repr

/-- A tile as a cursor's pass has read it (R97, R98, R102, R105): the pass (slot, tile, base as in `Blank`), ZERO, the
pixel values of its lines up to the point from which the tile is blank. -/
structure TileBuf where
  slot : Nat
  base : Int
  rep : Nat
  plane : Nat
  y : Nat
  x : Nat
  zero : Bool
  px : List Nat
deriving DecidableEq, Repr

/-- A bar cursor beside its registers (R87, R100 to R106). -/
structure BarCur where
  /-- sets before each apply, oldest first: the index up to which the apply changes nothing, its cycle, the set -/
  olds : List (Int × Nat × BarSet)
  bad : Bool
  /-- slots whose end the cursor has reported -/
  ended : List Nat
  /-- slot, repeat, iteration and tile row of the last line started -/
  row : Option (Nat × Nat × Nat × Nat)
  /-- the passage into a 16-bit chained slot was logged (R101) -/
  passed : Bool
  /-- J of the last line started since the cursor was enabled -/
  last : Option Int
  /-- tiles blanked by an uncorrectable word of their buffer (R405) -/
  blanks : List Blank
  tiles : List TileBuf
deriving DecidableEq, Repr

/-- A verdict that the map did not take and that governs the pass of one cursor (R97): cursor (16 + n for a reference
cursor), slot, repeat, tile row, verdict number, verdict. -/
structure PassVerdict where
  cur : Nat
  slot : Nat
  rep : Nat
  y : Nat
  no : Nat
  code : Nat
deriving DecidableEq, Repr

/-- The set of a reference cursor that governs a camera line (R104, R106). -/
structure RefSet where
  cfg : Nat
  pmask : Nat
  roff : Int
  rstep : Nat
  xfirst : Nat
  xcount : Nat
  bad : Bool
deriving DecidableEq, Repr

/-- A reference cursor beside its registers; an earlier set governs lines triggered before the cycle beside it. -/
structure RefCur where
  olds : List (Nat × RefSet)
  bad : Bool
  ended : List Nat
  /-- s_k of the last camera line, 40.24 -/
  last : Option Int
  /-- slot, repeat, iteration and tile row of the last source line begun -/
  row : Option (Nat × Nat × Nat × Nat)
  blanks : List Blank
  tiles : List TileBuf
deriving DecidableEq, Repr

/-- Content of a table that a soft reset left undefined (R148): buffer, range, and the draw it reads. -/
structure Undef where
  curves : Bool
  buf : Bool
  first : Nat
  len : Nat
  epoch : Nat
deriving DecidableEq, Repr

/-- A write held during a swap (R145, R147): curve entries or records from an index; a colour-loop gain and WEAK. -/
structure Held where
  curve : Bool
  idx : Nat
  vals : List Nat
  gain : Option (Nat × Bool)
deriving DecidableEq, Repr

/-- The tables and the swap engine of NCT (R131 to R150). Records are keyed by index, curve entries by c × 256 + e. -/
structure Nct where
  rec0 : Tbl Nat
  rec1 : Tbl Nat
  cur0 : Tbl Nat
  cur1 : Tbl Nat
  undef : List Undef
  held : List Held
  /-- the swap in progress: bars, CURVES, bars that started a line at or above S_b, FORCE -/
  mask : Nat
  curves : Bool
  reached : Nat
  forced : Bool
  /-- the image in WRITE: curves?, first, count, items written (R150) -/
  imgCurves : Bool
  imgFirst : Nat
  imgCount : Nat
  imgPos : Nat
  /-- cycle n in which the request in progress was accepted (R140) -/
  swapAt : Nat
deriving DecidableEq, Repr

/-- A stripe slot of a Steeple beside its registers (R119 to R128). -/
structure Stripe where
  /-- K (R124); the next line to enter a lane; the lowest line not finished -/
  k : Int
  next : Int
  low : Int
  /-- the cycle in which `next` became eligible -/
  eligAt : Nat
  acc0 : Tbl Int
  acc1 : Tbl Int
  acc2 : Tbl Int
  skipped : List Int
  /-- abandoned lines, with the columns their lanes had reached (R126) -/
  abandoned : List (Int × Nat)
  /-- B sets before each apply, oldest first: the index up to which the apply changes nothing, its cycle, the set (R128) -/
  olds : List (Int × Nat × List Nat)
deriving DecidableEq, Repr

/-- A stripe slot at reset. -/
def Stripe.reset : Stripe := ⟨-1, 0, 0, 0, [], [], [], [], [], []⟩

/-- A line of a bar in DSTORE (R160): drop codes by bar nozzle; slots that have written since the bar's last entry to RUN,
and before it; VOID. -/
structure DLine where
  codes : Tbl Nat
  wrote : List Nat
  before : List Nat
  void : Bool
deriving DecidableEq, Repr

/-- A DSTORE line that nothing has written. -/
def DLine.blank : DLine := ⟨[], [], [], false⟩

/-- A line started and not yet fired (R161 to R169). Instants in 2^-16 cycle. -/
structure Started where
  k : Nat
  /-- cycle n of its mark, latched speed, overshoot, XORG in force -/
  n : Nat
  v : Int
  ovs : Nat
  xorg : Int
  fdist : Nat
  rows : List Nat
  /-- FIRE was not in RUN when the line started; links of its entries not UP then (R187) -/
  down : Bool
  off : List Nat
  /-- every slot had written the line when a resynchronisation cleared DSTORE (R166) -/
  done : Bool
  /-- 0 waiting for cycle n + 4, 1 T(k) known, 2 past its deadline, 3 fires nothing -/
  stage : Nat
  t : Int
  d : Int
  /-- entries skipped for overspeed; links that have sent their frames -/
  skips : List Nat
  sent : List Nat
  /-- ORIGIN and DEPTH of the LINE trigger (R340) -/
  chain : Nat × Nat
deriving DecidableEq, Repr

/-- A print bar beside its registers (R156 to R169). -/
structure Bar where
  /-- last line started since entry to RUN, and the first -/
  k : Option Nat
  first : Nat
  lines : Tbl DLine
  started : List Started
  /-- TLAST per entry -/
  tlast : Tbl Int
deriving DecidableEq, Repr

/-- A head link beside its registers (R181 to R192). Time stamps in 2^-16 cycle. -/
structure Link where
  /-- SEQ of the next frame -/
  seq : Nat
  /-- t1 of the last SYNC sent, t4 of the last answer -/
  t1 : Option Nat
  t4 : Nat
  /-- answers of MEASURE and the sum of their round trips -/
  answers : Nat
  rttSum : Int
  /-- cycles of the last SYNC, heartbeat restart, entry to TRAIN, entry to DOWN -/
  syncAt : Nat
  hbAt : Nat
  trainAt : Nat
  downAt : Nat
  /-- tunnel operation: SEQ of its CMD once it has left, a write, cycle it left -/
  tun : Option (Option Nat × Bool × Nat)
  /-- control frames that wait (R181): type, ARG, payload words, the cycle in which each was made -/
  ctl : List (Nat × Nat × List Nat × Nat)
  /-- ends of the last frame and of the last line set on the lane, in 1/100 cycle (R181, R188) -/
  laneEnd : Nat
  setEnd : Nat
  /-- channels above TMAX at the last heartbeat; FAULT of the last heartbeat -/
  hot : List Nat
  fault : Bool
deriving DecidableEq, Repr

/-- A head link at reset. -/
def Link.reset : Link := ⟨0, none, 0, 0, 0, 0, 0, 0, 0, none, [], 0, 0, [], false⟩

/-- A camera trigger between its TRIG event and its end (R200 to R203). Instants in 2^-16 cycle. -/
structure CamTrig where
  k : Nat
  /-- cycle n of its mark, speed in cycle n, overshoot, channel, cycle the trigger reached the port -/
  n : Nat
  v : Int
  ovs : Nat
  ch : Nat
  reached : Nat
  /-- T_trig, known from cycle n + 4 on -/
  t : Option Int
deriving DecidableEq, Repr

/-- An open block of a port (R204 to R206), with the B set that governs it. -/
structure CamBlk where
  b : Nat
  /-- next index to deliver; one above the highest index decided; overtaken by a later block -/
  next : Nat
  top : Nat
  overtaken : Bool
  /-- indices whose line is missing or failed its CRC -/
  missing : List Nat
  /-- cycle of its opening or last delivery -/
  at_ : Nat
  lines : Nat
  pads : Nat
  lineLen : Bool
  expUnk : Bool
  fectl : Nat
  padval : Nat
  blacks : List Nat
  /-- histogram bins plane × 256 + bin; zone sums and counts plane × 64 + z (R215) -/
  hist : Tbl Nat
  zsum : Tbl Nat
  zcnt : Tbl Nat
  /-- TDEL, LMINPER, ULAT, TRIGW of its opening (R35, R204) -/
  tdel : Nat
  lminper : Nat
  ulat : Nat
  trigw : Nat
deriving DecidableEq, Repr

/-- A line as a port delivers it (R206): index, block, generation, PADLINE, corrected sensor lines, grid point. -/
structure CamLine where
  k : Nat
  b : Nat
  gen : Nat
  pad : Bool
  planes : List (List Nat)
  /-- integer part of G_k (R216) -/
  grid : Int
  /-- T_trig of its trigger, cycle the trigger reached the port, cycle of delivery -/
  t : Int
  reached : Nat
  at_ : Nat
deriving DecidableEq, Repr

/-- A closed block (R205, R213): number, lines delivered, GENA, GENB, FLAGS of its record. -/
structure CamEnd where
  b : Nat
  lines : Nat
  genA : Nat
  genB : Nat
  flags : Nat
deriving DecidableEq, Repr

/-- What a port hands to its Cupola, in order. -/
inductive CamOut where
  | line (l : CamLine)
  | close (e : CamEnd)
deriving DecidableEq, Repr

/-- An exposure command (R212): GEN, the two values, step 0 exposure write, 1 gain write, 2 waiting for a trigger. -/
structure CamExp where
  gen : Nat
  expv : Nat
  gain : Nat
  step : Nat
deriving DecidableEq, Repr

/-- A host control operation captured by CCCMD (R218). -/
structure CamCc where
  wr : Bool
  addr : Nat
  data : Nat
deriving DecidableEq, Repr

/-- Writes of one cycle to a table of two banks, with the values before them, and the cycle of the last change of the bank
in use: a write to the bank made active in its own cycle is held until the next (R210, R233). -/
structure BankHold where
  at_ : Nat
  olds : Tbl Nat
  swapAt : Option Nat
deriving DecidableEq, Repr

/-- No write and no change of bank so far. -/
def BankHold.none_ : BankHold := { at_ := 0, olds := [], swapAt := none }

/-- A camera port beside its registers (R198 to R220). -/
structure Cam where
  trigs : List CamTrig
  pend : List CamTrig
  tlast : Option Int
  /-- highest trigger index sent since entry to RUN (R212) -/
  topK : Option Nat
  blocks : List CamBlk
  /-- numbers of the blocks opened since entry to RUN: a block opens once (R204) -/
  opened : List Nat
  /-- tag of the last control packet (R196) -/
  tag : Nat
  /-- writes of this cycle to the correction memory (R210) -/
  hold : BankHold
  /-- closed blocks, newest first -/
  ended : List CamEnd
  out : List CamOut
  /-- slot of the next statistics record -/
  slot : Nat
  /-- generations: (L, g), newest first -/
  gens : List (Nat × Nat)
  unknown : Bool
  exp : Option CamExp
  cc : Option CamCc
  /-- outstanding control packet: of the exposure command?, cycle it was sent, wait acknowledgements -/
  sent : Option (Bool × Nat × Nat)
  /-- a stream packet of the line being received had a CRC error -/
  crcBad : Bool
  lastPkt : Nat
  hbAt : Nat
  /-- end of the TRIG pulse, 1/16 cycle -/
  pulse : Option Int
  /-- grid point of INDEX 0 and E of the mark that triggers, in 2^-24 WU -/
  grid : Option (Int × Nat)
deriving DecidableEq, Repr

/-- A camera port at reset. -/
def Cam.reset : Cam :=
  { trigs := [], pend := [], tlast := none, topK := none, blocks := [], opened := [], tag := 0, hold := BankHold.none_, ended := [], out := [], slot := 0,
    gens := [], unknown := false, exp := none, cc := none, sent := none, crcBad := false, lastPkt := 0, hbAt := 0,
    pulse := none, grid := none }

/-- A column of a stitched line (R234 to R243). -/
structure CupCol where
  slot : Nat
  nocov : Bool
  void : Bool
  m : List Nat
  p : List Nat
  d : List Int
  on : Bool
  bright : Bool
  dark : Bool
  /-- rendered coverages of the planes of PMASK, by plane number (R236) -/
  cov : List (Nat × Nat)
deriving DecidableEq, Repr

/-- A stitched line as it leaves stage 5 (R243). -/
structure CupLine where
  k : Nat
  pad : Bool
  print : Bool
  cols : List CupCol
  /-- integer part of G_k, T_trig, s_k of the home port's line -/
  grid : Int
  t : Int
  pos : Int
deriving DecidableEq, Repr

/-- A line as CLP takes it (R269 to R271, R393, R394): X0 and SP of its block in 2^-24 WU, paper whites; imported
lines hold one channel and two coverages, key 0 the PLANE named, key 1 the largest of the other planes. `missed`: CLP
was frozen and excludes the line (R272, R282). -/
structure ClpLine where
  line : CupLine
  x0 : Int
  sp : Nat
  pw : List Nat
  imp : Bool
  missed : Bool
deriving DecidableEq, Repr

/-- A block handed to DEF (R230): number, lines, GENA, GENB, flag word of R255, hand-over time. -/
structure CupEnd where
  b : Nat
  lines : Nat
  /-- index of its last line -/
  last : Nat
  genA : Nat
  genB : Nat
  flags : Nat
  ptp : Nat
  /-- integer parts of G of the block's first and last index -/
  grid0 : Int
  gridE : Int
deriving DecidableEq, Repr

/-- What a Cupola hands to DEF, in order: a block begun with DEF's MINAREA and SNPSEL, X0 and SP; a line, a block
ended, a block discarded while DEF was frozen. -/
inductive CupOut where
  | open (b minarea snpsel : Nat) (x0 : Int) (sp : Nat)
  | line (l : CupLine)
  | close (e : CupEnd)
  | drop (b : Nat)
deriving DecidableEq, Repr

/-- The open block of a Cupola with the B set that governs it (R230, R239, R245). -/
structure CupBlk where
  b : Nat
  regs : Tbl Nat
  flags : Nat
  /-- further port blocks from which a line was taken -/
  took : List (Nat × Nat)
  pads : Nat
  fwLogged : Bool
  /-- ON columns of the previous line -/
  prev : List Bool
  onCols : List Nat
  sums : Tbl Nat
  cnts : Tbl Nat
  /-- background in force, column × NP + plane; all VOID after a history error -/
  bg : Option (List Nat)
  bgBad : Bool
  /-- DEF takes the block -/
  toDef : Bool
deriving DecidableEq, Repr

/-- A Cupola beside its registers (R225 to R240). -/
structure Cup where
  /-- home hold, oldest first; true for a line replaced by a padded one -/
  hold : List (CamLine × Bool)
  ring1 : Tbl CamLine
  ring2 : Tbl CamLine
  /-- staged lines in DRAM not yet read back, by line index -/
  stg1 : Tbl CamLine
  stg2 : Tbl CamLine
  /-- further lines delivered that the rings lost again: slot, line index (R228) -/
  gone : List (Nat × Nat)
  closes : List CamEnd
  blk : Option CupBlk
  /-- the last stitched line that entered stage 2 since the home port's entry to RUN; the last one before the home port
  left RUN, and the cycle in which it left (R228, R230) -/
  last : Option Nat
  passed : Option (Nat × Nat)
  lastBlk : Option Nat
  /-- blocks in which an overrun happened -/
  ovr : List Nat
  /-- blocks that wrote the history, newest first; entries written since the restart -/
  hist : List Nat
  histN : Nat
  /-- background computed while the last block ran, from the entries before its own -/
  bgNext : Option (List Nat)
  bgErr : Bool
  lastGen : Option Nat
  toDef : List CupOut
  toClp : List ClpLine
  /-- writes of this cycle to the tone and ink curves (R233) -/
  toneHold : BankHold
  inkHold : BankHold
deriving DecidableEq, Repr

/-- A Cupola at reset. -/
def Cup.reset : Cup :=
  { hold := [], ring1 := [], ring2 := [], stg1 := [], stg2 := [], gone := [], closes := [], blk := none, last := none, passed := none,
    lastBlk := none, ovr := [], hist := [], histN := 0, bgNext := none, bgErr := false, lastGen := none, toDef := [],
    toClp := [], toneHold := BankHold.none_, inkHold := BankHold.none_ }

/-- An open context-0 stream of a compression engine (R288 to R290). -/
structure CmpStream where
  level : Nat
  raw : Bool
  /-- input taken so far; of it, the bytes of the block not yet closed -/
  input : List Byte
  pend : List Byte
  /-- payload bits of the closed blocks, and payload bytes written -/
  bits : List Bool
  written : Nat
  /-- DRAM address of the header's FLAGS byte -/
  hdr : Option Nat
deriving DecidableEq, Repr

/-- A compression job that has ended its work and awaits its completion (R295). -/
structure CmpJob where
  op : Nat
  tag : Nat
  code : Nat
  bufs : Nat
  inUsed : Nat
  outBytes : Nat
  crc : Nat
deriving DecidableEq, Repr

/-- A compression engine beside its registers. -/
structure Cmp where
  stream : Option CmpStream
  job : Option CmpJob
deriving DecidableEq, Repr

/-- A component (R247 to R253): its measures as running sums. -/
structure Comp where
  firstK : Nat
  firstJ : Nat
  area : Nat
  kf : Nat
  kl : Nat
  jf : Nat
  jl : Nat
  sd : List Int
  sj : Nat
  sk : Nat
  sjj : Nat
  skk : Nat
  sjk : Nat
  slots : Nat
  bright : Bool
  dark : Bool
  /-- integer parts of G of lines kF and kL, PTP of kF -/
  gridF : Int
  gridL : Int
  ptp : Nat
  /-- the line before this one, its runs there, its runs in this line -/
  lastK : Nat
  runs : List (Nat × Nat)
  cur : List (Nat × Nat)
deriving DecidableEq, Repr

/-- A block in segmentation (R247 to R252). -/
structure DefBlk where
  b : Nat
  minarea : Nat
  snpsel : Nat
  /-- X0 and SP of the block in 2^-24 WU -/
  x0 : Int
  sp : Nat
  comps : List Comp
  catch_ : Option Comp
  catchRuns : List (Nat × Nat)
  recs : List Comp
  onPix : Nat
  small : Nat
  ovf : Nat
  folded : Nat
  /-- the last line taken; records of components closed before that line (R250, R256) -/
  lastLine : Option Nat
  kept : Nat
deriving DecidableEq, Repr

/-- A snippet due: record index and crop extents (R258). -/
structure Snip where
  idx : Nat
  jf : Nat
  jl : Nat
  koff : Nat
  klast : Nat
deriving DecidableEq, Repr

/-- What DEF has finished and not yet published, in block order (R261 to R263). -/
inductive DefItem where
  /-- a block: number, lines, records, snippets due, SNPHEAD before its first snippet, integer part of its first G -/
  | block (b lines : Nat) (recs : List (List Byte)) (snips : List Snip) (head : Option Nat) (grid : Int)
  /-- a DROPPED record: first block, COUNT, records discarded, integer part of G, PTP -/
  | dropped (b count discarded : Nat) (grid : Int) (ptp : Nat)
deriving DecidableEq, Repr

/-- A defect unit beside its registers. -/
structure Def where
  blk : Option DefBlk
  items : List DefItem
  /-- the block that arrived last since entry to RUN (R262) -/
  arrived : Option Nat
deriving DecidableEq, Repr

/-- A defect unit with no block. -/
def Def.reset : Def := { blk := none, items := [], arrived := none }

/-- One accumulator bank of a bar (R271): (DM, DP) by nozzle, sums, Σx in 2^-24 WU, lowest k_b, XOLD logged (R269). -/
structure ClpBank where
  acc : Tbl (Nat × Nat)
  dm : Nat
  dp : Nat
  xdm : Int
  xdp : Int
  ydm : Int
  ydp : Int
  low : Option Int
  xold : Bool
  /-- a line was excluded under R272 -/
  skip : Bool
deriving DecidableEq, Repr

/-- An accumulator bank with every entry cleared. -/
def ClpBank.reset : ClpBank := ⟨[], 0, 0, 0, 0, 0, 0, none, false, false⟩

/-- A bar of the colour loop: its active bank (false: b0), its two banks; XORG at entry to RUN, its last 8 changes with
the first line each governs, newest first, and the first line of the changes no longer held (R269). -/
structure ClpBar where
  sel : Bool
  b0 : ClpBank
  b1 : ClpBank
  entry : Option Int
  xorgs : List (Int × Int)
  lost : Option Int
deriving DecidableEq, Repr

/-- A window that closes (R273, R274): number, KW_n by Cupola, that of the previous close, banks changed, the B set that
governs it. -/
structure ClpClose where
  w : Nat
  kw : List (Nat × Nat)
  prev : List (Nat × Nat)
  changed : Bool
  step : Nat
  thr : Nat
  dpmin : Nat
  regmin : Nat
  gate : Nat
  /-- SOLO as it stood when the window began (R35) -/
  solo : Nat
  /-- ORIGIN and DEPTH of the WIN trigger (R340) -/
  chain : Option (Nat × Nat)
deriving DecidableEq, Repr

/-- A window group: KW of the last close, SOLO of the open window once it has begun, the window in closing, WPOSF of the
closing and of the open window. -/
structure ClpGrp where
  kw : List (Nat × Nat)
  solo : Option Nat
  closing : Option ClpClose
  posC : Option Int
  posA : Option Int
deriving DecidableEq, Repr

/-- The colour loop beside its registers: bars, groups, the last line passed per Cupola, the highest line received per
imported index, the request outstanding: bars, 0 to be made, 1 rejected, 2 accepted (R280). -/
structure Clp where
  bars : Tbl ClpBar
  grps : Tbl ClpGrp
  passed : Tbl Nat
  high : Tbl Nat
  req : Option (Nat × Nat)
deriving DecidableEq, Repr

/-- A port of the Toltur link beside its registers (R381, R383, R401). Time stamps in 1/16 cycle. -/
structure TlkPort where
  /-- t1 of the outstanding PING; answers taken and the sum of their round trips -/
  t1 : Option Nat
  answers : Nat
  rttSum : Nat
  /-- violations counted in the window -/
  viol : Nat
  /-- hops to each DEVID as the RING frames show them (R384) -/
  hops : Tbl Nat
  /-- the port has sent its export lines, in 1/100 cycle (R380, R393) -/
  exportEnd : Nat
deriving DecidableEq, Repr

/-- A Toltur port at reset. -/
def TlkPort.reset : TlkPort := ⟨none, 0, 0, 0, [], 0⟩

/-- A broadcast frame accepted and its copy not yet seen on the other port (R384): type, source, identity, port. -/
structure TlkSeen where
  type : Nat
  src : Nat
  ident : Nat
  portB : Bool
deriving DecidableEq, Repr

/-- A forwarded record frame held by a worker (R391): FSEQ, payload words, last of its block. -/
structure FwdFrame where
  fseq : Nat
  words : List Nat
  last : Bool
deriving DecidableEq, Repr

/-- What the manager holds of a worker's stream (R391, R392): expected FSEQ, records of the block in progress. -/
structure FwdRx where
  expect : Nat
  recs : List Nat
  /-- frames of the block in progress, frames accepted since the last FACK, cycle of the last FACK -/
  frames : Nat
  since : Nat
  at_ : Nat
deriving DecidableEq, Repr

/-- The tunnel operation of TLK (R390): SEQ, target, a write, the port it went out on, cycle sent. -/
structure TlkTun where
  seq : Nat
  dev : Nat
  wr : Bool
  portB : Bool
  at_ : Nat
deriving DecidableEq, Repr

/-- The Toltur link and the standby beside their registers. -/
structure Tlk where
  pa : TlkPort
  pb : TlkPort
  seen : List TlkSeen
  /-- SEQ of the next EVT, RING and TREQ frames -/
  evtSeq : Nat
  ringSeq : Nat
  tunSeq : Nat
  /-- NCYC of the last accepted TB frame, cycle of its acceptance; cycle from which its absence is timed, also an entry to
  RUN -/
  ncyc : Nat
  tbLast : Nat
  tbAt : Nat
  /-- cycles of the last TB and RING frames sent -/
  tbSent : Nat
  ringSent : Nat
  /-- frame values of the last accepted TB frame's EPOCH per domain -/
  epochs : Tbl Nat
  tun : Option TlkTun
  /-- frames of the blocks that hold an unacknowledged frame; ACKSEQ; cycle of the last acknowledgement or send -/
  sent : List FwdFrame
  ackSeq : Nat
  ackAt : Nat
  rx : Tbl FwdRx
  /-- export lines lost since the log entry (R393) -/
  dropped : Nat
  /-- MSEQ of the next write mirrored, and the one a standby expects, once it knows it (R396) -/
  mseq : Nat
  mirNext : Option Nat
  /-- standby, per domain: alignment due, consecutive comparisons above CMPTH (R398) -/
  align : List Bool
  diff : List Nat
  /-- ALIGN was written and its alignment is due (R395) -/
  realign : Bool
  /-- the last accepted TB frame carried PFAULT -/
  pf : Bool
  /-- the page left RUN for FAULT by the quarantine of a port (R401) -/
  cut : Bool
deriving DecidableEq, Repr

/-- The Toltur link at reset. -/
def Tlk.reset : Tlk :=
  { pa := TlkPort.reset, pb := TlkPort.reset, seen := [], evtSeq := 0, ringSeq := 0, tunSeq := 0, ncyc := 0, tbLast := 0, tbAt := 0,
    tbSent := 0, ringSent := 0, epochs := [], tun := none, sent := [], ackSeq := 0, ackAt := 0, rx := [], dropped := 0,
    mseq := 0, mirNext := none, align := [false, false, false, false], diff := [0, 0, 0, 0], realign := false, pf := false,
    cut := false }

/-- A write accepted for a channel entry and not yet in force (R337): word offset 0x200 to 0x234. -/
structure ChanWrite where
  at_ : Nat
  ch : Nat
  off : Nat
  val : Nat
deriving DecidableEq, Repr

/-- A Belfry source (R324, R325): CFG, deliveries, sampled input, state 0 IDLE, 1 PENDING, 2 ACTIVE, CLAIMER, EPEND. -/
structure Src where
  cfg : Nat
  cnt : Nat
  inp : Bool
  st : Nat
  claimer : Nat
  epend : Bool
deriving DecidableEq, Repr

/-- A Belfry source at reset. -/
def Src.reset : Src := ⟨0, 0, false, 0, 0, false⟩

/-- The power state (R474 to R479): 0 RUN, 1 IDLE, 2 HOLD, 3 SLEEP, 4 OFF. -/
structure Pwr where
  state : Nat
  /-- state requested while entering -/
  target : Nat
  entering : Bool
  /-- cause of the wake in progress; it reversed an entry (R479) -/
  wake : Option Nat
  early : Bool
  /-- a reset left DRAM in self-refresh, and no channel has begun to train since (R481, R486) -/
  sref : Bool
deriving DecidableEq, Repr

/-- The power controller after reset. -/
def Pwr.reset : Pwr := ⟨0, 0, false, none, false, false⟩

/-- An Ethernet port beside its registers (R377): transmit stamps (ns, fraction, TSID), oldest first. -/
structure Eth where
  tsq : List (Nat × Nat × Nat)
deriving DecidableEq, Repr

/-- A calibration requested or running (R424 to R428): domain, instance, QUAL is written, forced, cycle it was requested
or began; its unit, link or channel left service meanwhile. -/
structure CalJob where
  dom : Nat
  inst : Nat
  qual : Bool
  force : Bool
  at_ : Nat
  lost : Bool
deriving DecidableEq, Repr

/-- A line a flat-field calibration took (R430): block, index, Cupola and stitched index that took it, REFMODE admits
it, d − DARK by sensor line and pixel. -/
structure FfLine where
  b : Nat
  k : Nat
  cup : Option (Nat × Nat)
  ok : Bool
  d : List (List Int)
deriving DecidableEq, Repr

/-- Calibration beside the CALC registers (R423 to R433). -/
structure Cal where
  running : List CalJob
  waiting : List CalJob
  /-- instances (domain × 64 + instance) whose link was up since the last reset; whose next calibration is a recovery -/
  upSeen : List Nat
  recover : List Nat
  /-- flat field: blocks that opened after the GO, blocks closed with their FLAGS, lines taken, stitched lines with ON
  pixels as (Cupola, line) -/
  ffBlocks : List Nat
  ffEnds : List (Nat × Nat)
  ffLines : List FfLine
  ffOn : List (Nat × Nat)
  /-- filter offset: outputs taken since the GO with their usability -/
  sdOut : List (Int × Bool)
  /-- cycle of the last DRAM retraining (R429); channels in start-up training (R486) -/
  retrainAt : Option Nat
  training : List Nat
  /-- head-link recalibration in progress: link, start (R427) -/
  recal : Option (Nat × Nat)
  /-- calibration history of MRAM (R408, R433): entries by slot, entries ever written -/
  hist : Tbl (List Nat)
  histN : Nat
deriving DecidableEq, Repr

/-- A margin plan in progress (R434, R435): cause, PXCLK step, voltage in mV, the voltage before the last step, phase 0
VOUT_MODE awaited, 1 raise, 2 lower, 3 result; lowered once; (step, voltage, slack) at each voltage tried;
voltage and step before the plan; no voltage steps; READ_VOUT awaited since. -/
structure Plan where
  cause : Nat
  step : Nat
  vout : Nat
  back : Nat
  phase : Nat
  lowered : Bool
  tried : List (Nat × Nat × Int)
  vout0 : Nat
  step0 : Nat
  noAvs : Bool
  margin : Bool
  wait : Option Nat
deriving DecidableEq, Repr

/-- Lantern beside its registers (R432 to R437): last readings by kind × 256 + index, SLACKMIN at the last plan, POSCLK
cycles in RUN at the last plan and in all, cycle RUN was entered, sensors in a run above TMAXC, VOUT_MODE not linear16. -/
structure Lant where
  mon : Tbl Int
  plan : Option Plan
  slack0 : Option Int
  planAt : Nat
  runCyc : Nat
  runSince : Option Nat
  hot : List Nat
  badMode : Bool
  /-- margin log of MRAM (R408, R433): entries by slot, entries ever written -/
  mlog : Tbl (List Nat)
  mlogN : Nat
deriving DecidableEq, Repr

/-- SRAM ECC beside its registers (R404, R406): flips of a word by part × 2^25 + word; those of the next read only;
corrected words that await their write-back; cycle of the last scrub read. -/
structure SramX where
  flips : Tbl Nat
  inject : Tbl Nat
  wb : List Nat
  scrubAt : Nat
deriving DecidableEq, Repr

/-- A request in a DRAM channel (R412 to R415): write, channel address, length, bank and row, requester (R419). -/
structure DramReq where
  wr : Bool
  ca : Nat
  len : Nat
  bank : Nat
  row : Nat
  who : Nat
deriving DecidableEq, Repr

/-- A DRAM bank: its queue of 16, the open row, DMC cycles without a request, refreshes owed (R413 to R417). -/
structure DramBank where
  q : List DramReq
  row : Option Nat
  idle : Nat
  owed : Int
deriving DecidableEq, Repr

/-- A DRAM channel: banks, requests held at its input, bank of the last column command, DMC clock, last scrub read;
requests that arrived in the present DMC clock cycle, the requester port served first, writes acknowledged per requester
(R412). -/
structure DramChan where
  banks : Tbl DramBank
  input : List DramReq
  last : Nat
  clk : Nat
  scrubAt : Nat
  arr : List DramReq
  turn : Nat
  acks : Tbl Nat
deriving DecidableEq, Repr

/-- An image Keep runs (R444, R449, R459): anti-rollback counter, SVN, SIGNER, SHA-384 of its header, where its payload was
loaded, its start address, LINK, the payload. -/
structure KeepImg where
  ctr : Nat
  svn : Nat
  signer : Nat
  hash : List Byte
  load : Nat
  entry : Nat
  link : Nat
  body : List Byte
deriving DecidableEq, Repr

/-- A record of the MRAM (R450): two copies, each with its sequence number; none where a copy holds nothing valid. -/
structure Twin (α : Type) where
  a : Option (Nat × α)
  b : Option (Nat × α)
deriving DecidableEq, Repr

/-- A record that was never written. -/
def Twin.none {α : Type} : Twin α := ⟨Option.none, Option.none⟩

/-- The HSS key state in the MRAM (R454): the next unused top-tree leaf, its authentication path and traversal state. -/
structure TopLeaf where
  q : Nat
  path : List Byte
  trav : List Byte
deriving DecidableEq, Repr

/-- The boot record in the MRAM (R408): the copy of the lifecycle, boots since PROVISION, the last boot status (BSTAT). -/
structure BootRec where
  lc : Nat
  count : Nat
  status : Nat
deriving DecidableEq, Repr

/-- The identity keys in Keep RAM (R453): the private scalars for ECDSA and ECDH, the seed and identifier of the top tree. -/
structure Ident where
  ec : Nat
  dh : Nat
  seed : List Byte
  id : List Byte
deriving DecidableEq, Repr

/-- The subtree in Keep RAM (R455): its seed and identifier, its public key and the top leaf's signature of that, empty until it
is computed. -/
structure SubTree where
  seed : List Byte
  id : List Byte
  pub : List Byte
  sig : List Byte
deriving DecidableEq, Repr

/-- Keep beside its registers (R441 to R462). -/
structure Keep where
  /-- OTP: four bits for each of DEV, PROD and RMA from bit 0 up (Lifecycle); revoked vendor roots; the device secret (R453) -/
  fuses : Nat
  vrev : Nat
  secret : Nat
  /-- MRAM: owner anchors by index, anti-rollback counters, HSS key state, boot record, error summary (R408) -/
  anchors : Twin (Tbl (List Byte))
  counters : Tbl (Twin Nat)
  leaf : Twin TopLeaf
  boot : Twin BootRec
  errSum : Twin (List Nat)
  /-- Keep RAM: cycle boot stage 1 began; identity keys; subtree (R451, R453, R455) -/
  bootAt : Nat
  ident : Option Ident
  tree : Option SubTree
  /-- PCIe boot load (R443): open, bytes, low half of a word begun, length written -/
  bldOpen : Bool
  bld : List Byte
  bldLow : Nat
  bldLen : Option Nat
  /-- xSPI: reads are 8D-8D-8D, or stay 1S-1S-1S, once the SFDP tables were read (R442); retries of the read in progress; the
  source ended for this boot (R443) -/
  x8d : Option Bool
  retries : Nat
  xspiEnd : Bool
  /-- running Keep and control-core images -/
  img1 : Option KeepImg
  img2 : Option KeepImg
  /-- cycle the subtree in computation began; stage 6 was reached (R455) -/
  sub : Option Nat
  ready : Bool
  /-- unlock token load (R466): open, bytes, low half of a word begun, too long, length written -/
  tkOpen : Bool
  tk : List Byte
  tkLow : Nat
  tkBad : Bool
  tkLen : Option Nat
deriving DecidableEq, Repr

/-- Keep of a part whose OTP and MRAM hold nothing (log entry 5). -/
def Keep.reset : Keep :=
  { fuses := 0, vrev := 0, secret := 0, anchors := Twin.none, counters := [], leaf := Twin.none, boot := Twin.none,
    errSum := Twin.none, bootAt := 0, ident := none, tree := none, bldOpen := false, bld := [],
    bldLow := 0, bldLen := none, x8d := none, retries := 0, xspiEnd := false, img1 := none, img2 := none, sub := none,
    ready := false, tkOpen := false, tk := [], tkLow := 0, tkBad := false, tkLen := none }

/-- Debug and reset state beside the registers (R468 to R473, R482, R490). -/
structure Dbg where
  /-- pages frozen by the debug module -/
  frz : List Nat
  /-- registers of halted cores: core × 2^13 + REG; a register not listed holds what the core left (free) -/
  coreRegs : Tbl Nat
  /-- TAP: instruction, boundary register, read data and status of the last DMI access -/
  ir : Nat
  bsr : List Bool
  dmiData : Nat
  dmiStat : Nat
deriving DecidableEq, Repr

/-- The watchdog (R490): cycle its count started, first expiry passed, cycle it was paused. -/
structure Wdog where
  at_ : Nat
  warned : Bool
  held : Option Nat
deriving DecidableEq, Repr

/-- A DMA channel beside its registers (R314, R315, R320): requester, the trigger that started it as (ORIGIN, DEPTH),
descriptors completed since the start, the descriptor in progress once fetched. -/
structure DmaCh where
  req : Nat
  chain : Option (Nat × Nat)
  ndesc : Nat
  desc : Option (List Byte)
deriving DecidableEq, Repr

/-- The state of the part. -/
structure State where
  /-- commands waiting, first in first out -/
  pending : List Instr
  /-- N, the POSCLK count (R483) -/
  cycle : Nat
  variant : Variant
  /-- MODEL: how many free values were used (log entry 3) -/
  fresh : Nat
  pages : Tbl Page
  regs : Tbl Word
  shadow : Tbl Word
  stored : Tbl Word
  /-- MODEL: what the last read delivered (log entry 6) -/
  readData : Nat
  /-- MODEL: outputs, newest first (log entry 6) -/
  out : List Out
  evs : List Ev
  trigs : List Trig
  chans : Tbl Chan
  queues : Tbl Queue
  dram : List Host.Cell
  host0 : List Host.Cell
  host1 : List Host.Cell
  pcie : Pcie
  hostReads : List HostRead
  /-- 64-bit DRAM words with an uncorrectable error under inline ECC (R411) -/
  dramBad : List Nat
  /-- words of DRAM with one flipped bit under inline ECC, not yet written back (R411) -/
  dramSoft : List Nat
  enc : Tbl Enc
  obs : Tbl Obs
  emu : Tbl EmuCh
  axs : Tbl Axs
  sdf : Tbl Sdf
  ptp : Ptp
  /-- a standby's outputs are released (R397) -/
  released : Bool
  marks : Tbl Mark
  markWrites : List MarkWrite
  /-- domain: 1 after an increment of EPOCH that no evaluation has met (R79) -/
  markEpochs : Tbl Nat
  markFires : Tbl Fires
  /-- job key slots of Keep (R460, R461): key bytes -/
  keys : Tbl (List Byte)
  jobs : Tbl JobHead
  /-- job slots with a VERIFY pass in progress -/
  verifying : List Nat
  passVerdicts : List PassVerdict
  barCurs : Tbl BarCur
  refCurs : Tbl RefCur
  nct : Nct
  stripes : Tbl Stripe
  /-- lines in the lanes of each Steeple: (slot, line) -/
  lanes : Tbl (List (Nat × Int))
  /-- screen memories: Steeple × 65,536 + cell -/
  screens : Tbl Nat
  bars : Tbl Bar
  links : Tbl Link
  cams : Tbl Cam
  /-- correction memories: port × 2^18 + bank × 2^17 + word index (R208, R210) -/
  camCorr : Tbl Nat
  cups : Tbl Cup
  /-- tone curves and ink curves: Cupola × 2^15 + bank × 2^14 + address (R233, R237) -/
  tones : Tbl Nat
  inks : Tbl Nat
  cmps : Tbl Cmp
  defs : Tbl Def
  clp : Clp
  tlk : Tlk
  chanWrites : List ChanWrite
  /-- CHSEL and the stored SWFIRE ARG by requester (R509) -/
  chSels : Tbl Nat
  swArgs : Tbl Nat
  /-- task inputs that act at once, page × 128 + task, with the cycle their last trigger reached them (R334) -/
  hits : Tbl Nat
  /-- cycle a GPIO input's sampling began; key 64: that of all (R344) -/
  gpioFrom : Tbl Nat
  /-- GPIO pulses in progress: end cycle by pin (R344) -/
  pulses : Tbl Nat
  srcs : Tbl Src
  /-- DMA channels whose host read ended in error and whose chain has not ended yet (R319) -/
  hostEnds : List Nat
  pwr : Pwr
  eths : Tbl Eth
  /-- low half of an OFSADJ written in two accesses (R373) -/
  ofsLow : Nat
  cal : Cal
  lant : Lant
  sram : SramX
  dmcs : Tbl DramChan
  keep : Keep
  dbg : Dbg
  wdog : Wdog
  /-- strength of the reset in progress (R482): 0 none, 3 orderly warm, 4 abrupt warm, 5 power-on -/
  rst : Nat
  /-- power-on resets so far, and times DRAM content became undefined (R481) -/
  epoch : Nat
  dramLost : Nat
  dmas : Tbl DmaCh
deriving DecidableEq, Repr

/-- The part right after power-on reset: every register at its reset value; nothing listed but DBGC.LEVEL (word 7 × 4,096 +
0x100), the default of lifecycle BLANK (R467). -/
def State.reset : State :=
  { pending := [], cycle := 0, variant := .kry4812, fresh := 0, pages := [], regs := [(28928, 3)], shadow := [], stored := [],
    readData := 0, out := [], evs := [], trigs := [], chans := [], queues := [], dram := [], host0 := [], host1 := [],
    pcie := Pcie.reset, hostReads := [], dramBad := [], dramSoft := [],
    enc := [], obs := [], emu := [], axs := [], sdf := [], ptp := ⟨0, 0, 0x400000000000, [], [], []⟩, released := false,
    marks := [], markWrites := [], markEpochs := [], markFires := [],
    keys := [], jobs := [], verifying := [], passVerdicts := [], barCurs := [], refCurs := [],
    nct := ⟨[], [], [], [], [], [], 0, false, 0, false, false, 0, 0, 0, 0⟩, stripes := [], lanes := [], screens := [], bars := [],
    links := [],
    cams := [], camCorr := [],
    cups := [], tones := [], inks := [],
    cmps := [], defs := [],
    clp := ⟨[], [], [], [], none⟩,
    tlk := Tlk.reset,
    chanWrites := [], chSels := [], swArgs := [], hits := [], gpioFrom := [], pulses := [], srcs := [], hostEnds := [], pwr := Pwr.reset,
    eths := [], ofsLow := 0,
    cal := ⟨[], [], [], [], [], [], [], [], [], none, [], none, [], 0⟩,
    lant := ⟨[], none, none, 0, 0, none, [], false, [], 0⟩,
    sram := ⟨[], [], [], 0⟩, dmcs := [],
    keep := Keep.reset,
    dbg := ⟨[], [], 1, [], 0, 0⟩, wdog := ⟨0, false, none⟩, rst := 5, epoch := 0, dramLost := 0,
    dmas := [] }

end Sys2Proof.Machine
end

