-- ==== Sys2Proof/Machine/Ops.lean ====
section
/-!
DEFINITION. The named operations over register words and page headers: one home for every register (R8, R27, R33).
-/

namespace Sys2Proof.Machine

/-- The key of a register word: PRESENT index of its page and word offset. -/
def regKey (p o : Nat) : Nat := p * 4096 + o

/-- The page is present on the part (R25). -/
def State.present (s : State) (p : Nat) : Bool := unitPresent s.variant p

/-- The header of a page. -/
def State.page (s : State) (p : Nat) : Page := Tbl.getD s.pages p (Page.reset p)

/-- The state with another header for a page. -/
def State.setPage (s : State) (p : Nat) (g : Page) : State := { s with pages := Tbl.put s.pages p g }

/-- A register word in force (the active view of R33). -/
def State.rg (s : State) (p o : Nat) : Nat :=
  (Tbl.getD s.regs (regKey p o) (BitVec.ofNat 32 (resetWord p o))).toNat

/-- A 64-bit register in force: the word at the offset is the low half. -/
def State.rg64 (s : State) (p o : Nat) : Nat := s.rg p o + 2 ^ 32 * s.rg p (o + 4)

/-- A field of a register word in force. -/
def State.fl (s : State) (p o hi lo : Nat) : Nat := bits (s.rg p o) hi lo

/-- A single-bit field of a register word in force. -/
def State.fb (s : State) (p o i : Nat) : Bool := bit (s.rg p o) i

/-- A signed 64-bit register. -/
def State.rgI (s : State) (p o : Nat) : Int := sgn 64 (s.rg64 p o)

/-- The state with a register word in force set to the low 32 bits of `v`. -/
def State.setRg (s : State) (p o v : Nat) : State :=
  { s with regs := Tbl.putD s.regs (regKey p o) (BitVec.ofNat 32 v) (BitVec.ofNat 32 (resetWord p o)) }

/-- The state with a 64-bit register set. -/
def State.setRg64 (s : State) (p o v : Nat) : State := (s.setRg p o v).setRg p (o + 4) (v / 2 ^ 32)

/-- The state with a signed 64-bit register set. -/
def State.setRgI (s : State) (p o : Nat) (v : Int) : State := s.setRg64 p o (enc2 64 v)

/-- The state with a field of a register word set. -/
def State.setFl (s : State) (p o hi lo v : Nat) : State := s.setRg p o (setBits (s.rg p o) hi lo v)

/-- A 32-bit counter that saturates. -/
def State.sat (s : State) (p o n : Nat) : State := s.setRg p o (satAdd 32 (s.rg p o) n)

/-- A 32-bit counter that wraps. -/
def State.inc (s : State) (p o n : Nat) : State := s.setRg p o (s.rg p o + n)

/-- A 64-bit counter that wraps. -/
def State.inc64 (s : State) (p o n : Nat) : State := s.setRg64 p o (s.rg64 p o + n)

/-- The writable bits of a class in a register word: S, B or L (R8). -/
def classMask (p o : Nat) (f : RegRow → Nat) : Nat :=
  match blkOf p with
  | some b => ((regRow b o).map f).getD 0
  | none => 0

/-- A register word as its normal offset reads it: stored S bits (R31) and shadowed B bits (R33), else in force. -/
def State.normal (s : State) (p o : Nat) : Nat :=
  let x := s.rg p o
  let x := match Tbl.get? s.shadow (regKey p o) with
    | some w => mix x w.toNat (classMask p o (·.b))
    | none => x
  match Tbl.get? s.stored (regKey p o) with
  | some w => mix x w.toNat (classMask p o (·.s))
  | none => x

/-- An output of the part. -/
def State.emit (s : State) (o : Out) : State := { s with out := o :: s.out }

/-- The next free value, below `2^w`. -/
def State.draw (s : State) (w : Nat) : Nat := Config.draw s.fresh % 2 ^ w

/-- The state after a free value was used. -/
def State.drawn (s : State) : State := { s with fresh := s.fresh + 1 }

/-- Pages of PXCLK blocks (R16) but SRAM. -/
def pxPage (p : Nat) : Bool := match blkOf p with
  | some b => [Blk.job, .stp, .nct, .pba, .cup, .def_, .clp, .cmp, .cam, .hlk, .hqf, .dma].contains b
  | none => false

/-- CTLCLK and POSCLK run: RUN and IDLE (R474). -/
def State.clocked (s : State) : Bool := s.pwr.state == 0 || s.pwr.state == 1

/-- The clock of a page's block runs (R16, R474): PXCLK stops in IDLE already. -/
def State.clockRuns (s : State) (p : Nat) : Bool := if pxPage p then s.pwr.state == 0 else s.clocked

/-- The page's block works: its clock runs and it is not frozen (R16, R27). -/
def State.works (s : State) (p : Nat) : Bool := s.clockRuns p && !(s.page p).frozen

/-- Header predicates of STAT (R27): the page runs its periods. -/
def State.running (s : State) (p : Nat) : Bool := (s.page p).state == .run && s.works p

/-- The page's CTRL.EN. -/
def State.enabled (s : State) (p : Nat) : Bool := (s.page p).en

/-- The page is enabled and its block works. -/
def State.awake (s : State) (p : Nat) : Bool := s.enabled p && s.works p

/-- Every pending B field of the page becomes active as one set (R34). -/
def State.commitShadow (s : State) (p : Nat) : State :=
  let mine := s.shadow.filter (fun e => e.1 / 4096 == p)
  { (mine.foldl (fun t e =>
      t.setRg p (e.1 % 4096) (mix (t.rg p (e.1 % 4096)) e.2.toNat (classMask p (e.1 % 4096) (·.b)))) s) with
    shadow := s.shadow.filter (fun e => !(e.1 / 4096 == p)) }

/-- The pending B set of the page is discarded: every shadow takes the value in force (R507). -/
def State.dropShadow (s : State) (p : Nat) : State :=
  { s with shadow := s.shadow.filter (fun e => !(e.1 / 4096 == p)) }

/-- Stored S writes of the page take effect on entry to IDLE (R31). -/
def State.commitStored (s : State) (p : Nat) : State :=
  let mine := s.stored.filter (fun e => e.1 / 4096 == p)
  { (mine.foldl (fun t e =>
      t.setRg p (e.1 % 4096) (mix (t.rg p (e.1 % 4096)) e.2.toNat (classMask p (e.1 % 4096) (·.s)))) s) with
    stored := s.stored.filter (fun e => !(e.1 / 4096 == p)) }

/-- An accepted apply (R34): the set becomes active, GEN + 1, PEND cleared. -/
def State.applySet (s : State) (p : Nat) : State :=
  let g := s.page p
  (s.commitShadow p).setPage p { g with gen := (g.gen + 1) % 2 ^ 32, pend := false }

/-- A refused apply (R507): the set is discarded, PEND cleared, GEN unchanged. -/
def State.refuseSet (s : State) (p : Nat) : State :=
  let g := s.page p
  (s.dropShadow p).setPage p { g with pend := false }

/-- A fault defined by the block, or quarantine (R30): from IDLE, RUN or DRAIN to FAULT. -/
def State.toFault (s : State) (p : Nat) : State :=
  let g := s.page p
  match g.state with
  | .off => s
  | _ => s.setPage p { g with state := .fault }

/-- Registers, shadows and stored writes of a page return to reset, but for the words `keep` names (R32). -/
def State.clearRegs (s : State) (p : Nat) (keep : Nat → Bool) : State :=
  { s with
    regs := s.regs.filter (fun e => !(e.1 / 4096 == p) || keep (e.1 % 4096))
    shadow := s.shadow.filter (fun e => !(e.1 / 4096 == p))
    stored := s.stored.filter (fun e => !(e.1 / 4096 == p)) }

end Sys2Proof.Machine
end

