-- ==== Sys2Proof/Machine/Wake.lean ====
section
/-!
DEFINITION. What works without CTLCLK and POSCLK: output pins (19 R397, R400; 25 R500), wake requests of the power controller
(23 R477, R479), GPIO outputs and latches (16 R330, R341, R344).
-/

namespace Sys2Proof.Machine

abbrev pgPWRC : Nat := 2
abbrev pgEVF : Nat := 210
abbrev pgBIC : Nat := 209
abbrev pgRED : Nat := 215

/-- A standby whose outputs are not released (R397). -/
def State.standby (s : State) : Bool := s.fl pgRED Reg.RED.CFG 1 0 == 1 && !s.released

/-- A level on an output pin of a unit, unless the outputs are held (R397) or the page has not had EN = 1 yet (R500). -/
def State.pin (s : State) (p k lvl : Nat) : State :=
  if s.standby || !(s.page p).shown then s else s.emit (.pin p k lvl)

/-- PSTAT shows the power state. -/
def State.showPwr (s : State) : State :=
  (s.setFl pgPWRC Reg.PWRC.PSTAT 2 0 s.pwr.state).setFl pgPWRC Reg.PWRC.PSTAT 3 3 (b2n s.pwr.entering)

/-- The state a wake meets: the one in force, or the target of an entry in progress. -/
def Pwr.met (x : Pwr) : Nat := if x.entering then x.target else x.state

/-- A wake of a cause (0 task, 1 latch, 2 PCIe, 3 TAP, 4 timer, 5 request) that works in the states `works` (R477); a
wake during entry reverses it (R479). -/
def State.wakeBy (s : State) (cause : Nat) (works : List Nat) : State :=
  let x := s.pwr
  if (cause < 5 ∧ s.fb pgPWRC Reg.PWRC.WAKEEN cause = false) ∨ works.contains x.met = false ∨ x.wake.isSome then s
  else
    let s := (s.inc pgPWRC Reg.PWRC.WAKECNT 1).setFl pgPWRC Reg.PWRC.PSTAT 10 8 cause
    let s := if x.entering then s.sat pgPWRC Reg.PWRC.WAKEEARLY 1 else s
    ({ s with pwr := { x with wake := some cause, early := x.entering, entering := false, state := x.met } }).showPwr

/-! ## GPIO (R344) -/

/-- Fields of GPIOCFGg. -/
def State.gpioCfg (s : State) (g : Nat) : Nat := s.rg pgEVF (Reg.EVF.GPIOCFG g)
def State.gpioIsOut (s : State) (g : Nat) : Bool := bit (s.gpioCfg g) 0

/-- An output takes a level. -/
def State.gpioSet (s : State) (g : Nat) (l : Bool) : State :=
  let v := s.rg64 pgEVF Reg.EVF.GPIOOUT
  if s.gpioIsOut g = false ∨ bit v g = l then s
  else (s.setRg64 pgEVF Reg.EVF.GPIOOUT (setBits v g g (b2n l))).pin pgEVF g (b2n l)

/-- A task of an output pin: SET, CLEAR, TOGGLE or PULSE; an input pin ignores it. -/
def State.gpioTask (s : State) (g : Nat) : State :=
  let c := s.gpioCfg g
  if bit c 0 = false then s
  else match bits c 9 8 with
    | 0 => s.gpioSet g true
    | 1 => s.gpioSet g false
    | 2 => s.gpioSet g (!bit (s.rg64 pgEVF Reg.EVF.GPIOOUT) g)
    | _ => { s.gpioSet g true with pulses := Tbl.put s.pulses g (s.cycle + bits c 31 16) }

/-! ## Latches (R330) -/

/-- An edge reaches the latches that watch its input: ACH `idx`, or GPIO pin `idx`; each whose EDGE selects it catches. -/
def State.latchSee (s : State) (gpio : Bool) (idx : Nat) (rising falling : Bool) : State :=
  (List.range 32).foldl (fun t n =>
    let v := t.rg pgBIC (Reg.BIC.ALAT n)
    if bit v 0 && bit v 1 == gpio && bits v 13 8 == idx && ((rising && bit v 16) || (falling && bit v 17)) then
      let u := t.setFl pgBIC (Reg.BIC.ALAT n) 24 24 1
      if bit v 20 then u.wakeBy 1 [1, 2, 3, 4] else u
    else t) s

/-! ## Task inputs that act at once (R334, R341) -/

/-- A trigger reaches such an input; of several in one cycle while POSCLK runs one acts, the others are merged into it. -/
def State.hit (s : State) (p k at_ : Nat) (f : State → State) : State :=
  if s.clocked ∧ Tbl.get? s.hits (p * 128 + k) = some at_ then s.inc pgEVF Reg.EVF.MERGECNT 1
  else f { s with hits := if s.clocked then Tbl.put s.hits (p * 128 + k) at_ else s.hits }

/-- An event enters an asynchronous channel: its GPIO outputs and WAKE act without a clock, the latches on it catch (R330,
R341). -/
def State.asyncActs (s : State) (ch : Nat) (c : Chan) : State :=
  let s := c.tasks.foldl (fun t v =>
    let p := bits v 7 0
    let k := bits v 14 8
    if (t.page p).sec && !c.sec then t
    else if p = pgEVF then t.hit p k t.cycle (·.gpioTask (k - 64))
    else if p = pgPWRC then t.hit p k t.cycle (·.wakeBy 0 [1, 2, 3])
    else t) s
  s.latchSee false (ch - 248) true true

end Sys2Proof.Machine
end

