-- ==== Sys2Proof/Machine/Flags.lean ====
section
/-!
DEFINITION. Error bits, error log, interrupt status and events of a page (02 R29, R38, R39; 16 R331 to R345):
the one place where a flag is set, an entry is logged and an event enters a channel.
-/

namespace Sys2Proof.Machine

/-- A new log entry: a full log discards it or, with MODE = 1, discards the oldest (R39). -/
def Page.push (g : Page) (e : LogEntry) : Page :=
  if g.log.length < 16 then { g with log := g.log ++ [e] }
  else if g.logMode then { g with log := g.log.drop 1 ++ [e], lost := satAdd 16 g.lost 1 }
  else { g with lost := satAdd 16 g.lost 1 }

/-- Setting an ERR bit: ERRANY is set when the bit goes from 0 to 1, and only then (R29). -/
def Page.setErr (g : Page) (b : Nat) : Page :=
  { g with err := g.err ||| 2 ^ b, ist := if bit g.err b then g.ist else g.ist ||| 2 ^ 31 }

/-- ERRCNT counts an error event, saturating (R29). -/
def Page.countErr (g : Page) : Page := { g with errcnt := satAdd 32 g.errcnt 1 }

/-- The entry an error event writes now (R38): TIME is the low half of N. -/
def State.entry (s : State) (code ctx : Nat) : LogEntry := ⟨code, s.cycle % 2 ^ 32, ctx % 2 ^ 20⟩

/-- An error event that sets ERR bit `b` and logs `code` with `ctx` (R29, R38). -/
def State.err (s : State) (p b code ctx : Nat) : State :=
  s.setPage p (((s.page p).setErr b).countErr.push (s.entry code ctx))

/-- An error event whose chapter names no code: UNSPEC 0x0FF with the bit number (R38). -/
def State.errBit (s : State) (p b : Nat) : State := s.err p b 0x0FF b

/-- An error event that only writes a log entry (R29). -/
def State.logOnly (s : State) (p code ctx : Nat) : State :=
  s.setPage p ((s.page p).countErr.push (s.entry code ctx))

/-- An error event that sets its ERR bit but whose log entry the chapter withholds (R38). -/
def State.errSilent (s : State) (p b : Nat) : State := s.setPage p ((s.page p).setErr b).countErr

/-- An interrupt status bit of the page is set (R27). -/
def State.setIst (s : State) (p b : Nat) : State :=
  let g := s.page p
  s.setPage p { g with ist := g.ist ||| 2 ^ b }

/-- An event channel entry in force. -/
def State.chan (s : State) (ch : Nat) : Chan := Tbl.getD s.chans ch (Chan.reset ch)

/-- The state with another channel entry. -/
def State.setChan (s : State) (ch : Nat) (c : Chan) : State := { s with chans := Tbl.put s.chans ch c }

/-- The event of the cycle with the better place in the order of R334 stays; the other is merged and counted. The first to enter
an asynchronous channel drives what needs no clock (R341). -/
def State.merge (s : State) (e : Ev) : State :=
  match s.evs.find? (fun f => f.ch == e.ch && f.entered == e.entered) with
  | some f =>
    let t := s.inc pgEVF Reg.EVF.MERGECNT 1
    if e.kind < f.kind then { t with evs := t.evs.map (fun x => if x = f then e else x) } else t
  | none =>
    let c := s.chan e.ch
    let t : State := { (s.setChan e.ch { c with cfire := (c.cfire + 1) % 2 ^ 32 }) with evs := s.evs ++ [e] }
    if 248 ≤ e.ch then t.asyncActs e.ch c else t

/-- The speed of the four domains in this cycle. -/
def State.speeds (s : State) : List Int := [24, 25, 26, 27].map (fun p => s.rgI p Reg.OBS.SPEED)

/-- An event of a new chain reaches a channel (R332, R337, R340, R345); `mark` fired it, if a mark did. -/
def State.enterNew (s : State) (ch kind index ovs arg : Nat) (mark : Option Nat := none) : State :=
  let c := s.chan ch
  if ch > 255 ∨ c.en = false then s
  else if ch < 248 ∧ s.running pgEVF = false then
    (s.err pgEVF 4 0x234 (ch * 256)).sat pgEVF Reg.EVF.DROPCNT 1
  else
    s.merge
      { ch := ch, entered := s.cycle, kind := kind, index := if ch < 248 then index % 2 ^ 48 else 0,
        ovs := if ch < 248 then ovs % 2 ^ 40 else 0, arg := if ch < 248 then arg % 2 ^ 32 else 0, origin := ch,
        depth := 1, tasks := c.tasks, speeds := s.speeds, mark := mark }

/-- The channels, in ascending number, whose PROD names the unit event and whose filter passes the ARG (R332). -/
def State.producers (s : State) (p evt arg : Nat) : List Nat :=
  (s.chans.filter (fun e => e.2.prod == p + evt * 256 && p != 0xFF &&
    (arg &&& e.2.filtm) == (e.2.filtv &&& e.2.filtm))).map (·.1)

/-- A unit event that begins a new chain enters every channel that names it (R332, R340). -/
def State.raise (s : State) (p evt arg : Nat) : State :=
  (s.producers p evt arg).foldl (fun t ch => t.enterNew ch 1 0 0 arg) s

/-- An IST bit that is also an event (R332): the bit is set and the event raised. -/
def State.happen (s : State) (p b arg : Nat) : State := (s.setIst p b).raise p b arg

/-- A channel drops an event as a loop (R340); the 256th disables the channel. -/
def State.loopDrop (s : State) (ch origin : Nat) : State :=
  let c := s.chan ch
  let n := c.loopcnt + 1
  let t := ((s.setChan ch { c with loopcnt := min n 256 }).sat pgEVF Reg.EVF.LOOPCNT 1).err pgEVF 0 0x230
    (ch * 256 + origin)
  let t := t.happen pgEVF 0 ch
  if n = 256 then
    let c' := t.chan ch
    ((t.setChan ch { c' with en := false, dis := true }).err pgEVF 1 0x231 ch).happen pgEVF 1 ch
  else t

/-- An event that is the outcome of work a trigger started reaches a channel (R340). -/
def State.enterChain (s : State) (ch arg origin depth : Nat) : State :=
  let c := s.chan ch
  if ch > 255 ∨ c.en = false then s
  else if ch < 248 ∧ s.running pgEVF = false then
    (s.err pgEVF 4 0x234 (ch * 256)).sat pgEVF Reg.EVF.DROPCNT 1
  else if origin = ch ∨ depth > 8 then s.loopDrop ch origin
  else
    s.merge
      { ch := ch, entered := s.cycle, kind := 1, index := 0, ovs := 0, arg := if ch < 248 then arg % 2 ^ 32 else 0,
        origin := origin, depth := depth, tasks := c.tasks, speeds := s.speeds, mark := none }

/-- A unit event with the ORIGIN and DEPTH of the trigger that began its work, if a trigger did (R340). -/
def State.raiseFrom (s : State) (p evt arg : Nat) : Option (Nat × Nat) → State
  | none => s.raise p evt arg
  | some (o, d) => (s.producers p evt arg).foldl (fun t ch => t.enterChain ch arg o (d + 1)) s

/-- As `happen`, for an event that continues a chain. -/
def State.happenFrom (s : State) (p b arg : Nat) (c : Option (Nat × Nat)) : State := (s.setIst p b).raiseFrom p b arg c

/-- Quarantine of a port (R45): ERR.QUAR, log QUAR with the violation code, STATE FAULT. -/
def State.quarantine (s : State) (p code : Nat) : State := (s.err p 28 0x004 code).toFault p

/-- The length of the violation window of a page in POSCLK cycles: ENC's VWIN exponent, else 250,000 (R57, R313 ...).
DESIGN CHOICE (log entry 19): a VWIN outside 10 to 28, for which the spec gives no response, acts as written. -/
def State.violWindow (s : State) (p : Nat) : Nat :=
  match blkOf p with
  | some .enc => 2 ^ (s.fl p Reg.ENC.VIOL 20 16)
  | _ => 250000

/-- The violation threshold VIOL.VTHR of an interface page. -/
def State.violThr (s : State) (p : Nat) : Nat :=
  match blkOf p with
  | some .enc => s.fl p Reg.ENC.VIOL 15 0
  | some .hlk => s.fl p Reg.HLK.VIOL 15 0
  | some .cam => s.fl p Reg.CAM.VIOL 15 0
  | some .sdf => s.fl p Reg.SDF.VIOL 15 0
  | some .eth => s.fl p Reg.ETH.VIOL 15 0
  | some .tlk => s.fl p Reg.TLK.VIOL 15 0
  | some .pcie => s.fl p Reg.PCIE.VIOL 15 0
  | some .lant => s.fl p Reg.LANT.VIOL 15 0
  | some .keep => s.fl p Reg.KEEP.VIOL 15 0
  | _ => 65535

/-- A partner violation is counted; above the threshold the port is quarantined (R45). -/
def State.violate (s : State) (p code : Nat) : State :=
  let g := s.page p
  let n := g.viol + 1
  let t := s.setPage p { g with viol := n }
  if n > s.violThr p ∧ g.state ≠ .fault ∧ g.state ≠ .off then t.quarantine p code else t

end Sys2Proof.Machine
end

