-- ==== Sys2Proof/Machine/Sram.lean ====
section
/-!
DEFINITION. On-chip SRAM: its sizes, the ECC of its words, the scrubber and error injection (20 R402 to R407).
-/

namespace Sys2Proof.Machine

abbrev pgSRAM : Nat := 224

/-- Bytes of partition 0 LSTORE, 1 DSTORE, 2 TSTORE, 3 CSTORE (R402, R403). -/
def sramBytes (v : Variant) (part : Nat) : Nat :=
  let full := if part = 0 then 64 else if part = 1 then 32 else if part = 2 then 20 else 12
  let small := if part = 0 then 24 else if part = 1 then 16 else 12
  (if v = .kry2406 then small else full) * 2 ^ 20

/-- 64-bit words of a partition. -/
def sramWords (v : Variant) (part : Nat) : Nat := sramBytes v part / 8

/-- The key of a word. -/
def sramKey (part word : Nat) : Nat := part * 2 ^ 25 + word

/-- CONTEXT of the SRAM codes: partition and low 18 bits of the word index (R404). -/
def sramCtx (part word : Nat) : Nat := part * 2 ^ 18 + word % 2 ^ 18

/-- Bits flipped in what a read of a word sees: the word's own and those injected into its next read. -/
def State.sramFlips (s : State) (k : Nat) : Nat := min 2 (Tbl.getD s.sram.flips k 0 + Tbl.getD s.sram.inject k 0)

/-- A single-bit error (R404): corrected, the write-back pending. -/
def State.sramCe (s : State) (part word : Nat) : State :=
  let k := sramKey part word
  let s := { s with sram := { s.sram with wb := if s.sram.wb.contains k then s.sram.wb else s.sram.wb ++ [k] } }
  let s := (s.sat pgSRAM (Reg.SRAM.CECNT part) 1).setIst pgSRAM 1
  if s.fb pgSRAM Reg.SRAM.ECCCTL 0 then s.err pgSRAM 0 0x2B0 (sramCtx part word) else s.errSilent pgSRAM 0

/-- A double-bit error (R404). -/
def State.sramUe (s : State) (part word : Nat) : State :=
  let s := (s.sat pgSRAM (Reg.SRAM.UECNT part) 1).setRg pgSRAM Reg.SRAM.LASTUE (word + part * 2 ^ 28)
  (s.err pgSRAM 1 0x2B1 (sramCtx part word)).happen pgSRAM 0 0

/-- One read of a word: what the read leaves, and whether the word was uncorrectable. -/
def State.sramRead (s : State) (part word : Nat) : State × Bool :=
  let k := sramKey part word
  let n := s.sramFlips k
  let s := { s with sram := { s.sram with inject := Tbl.del s.sram.inject k } }
  if n = 0 then (s, false) else if n = 1 then (s.sramCe part word, false) else (s.sramUe part word, true)

/-- A read of item `item` of a unit's buffer in a partition, and whether it was uncorrectable. Which word of the
partition holds it is free (log entry 15). -/
def State.sramMeets (s : State) (part unit item : Nat) : State × Bool :=
  if s.sram.flips.isEmpty && s.sram.inject.isEmpty then (s, false)
  else s.sramRead part (Config.sramWord part unit item % sramWords s.variant part)

/-- The words with flips in a range of a partition, ascending. -/
def State.sramHit (s : State) (part first n : Nat) : List Nat :=
  ((s.sram.inject.foldl (fun (t : Tbl Nat) e => Tbl.put t e.1 0) s.sram.flips).filter (fun e =>
    decide (sramKey part first ≤ e.1) && decide (e.1 < sramKey part first + n))).map (fun e => e.1 - sramKey part 0)

/-- A read of `n` words of a partition from a word on, and the uncorrectable ones. -/
def State.sramSpan (s : State) (part first n : Nat) : State × List Nat :=
  (s.sramHit part first n).foldl (fun (a : State × List Nat) w =>
    let r := a.1.sramRead part w
    (r.1, if r.2 then w :: a.2 else a.2)) (s, [])

/-- A write of `n` words of a partition puts valid words in their places. -/
def State.sramFill (s : State) (part first n : Nat) : State :=
  let out := fun (k : Nat) => decide (k < sramKey part first) || decide (sramKey part first + n ≤ k)
  { s with sram := { s.sram with flips := s.sram.flips.filter (fun e => out e.1), wb := s.sram.wb.filter out } }

/-- Reads of several items, and those that were uncorrectable. -/
def State.sramItems {α : Type} (s : State) (part unit : Nat) (key : α → Nat) (xs : List α) : State × List α :=
  if s.sram.flips.isEmpty && s.sram.inject.isEmpty then (s, [])
  else xs.foldl (fun (a : State × List α) x =>
    let r := a.1.sramMeets part unit (key x)
    (r.1, if r.2 then x :: a.2 else a.2)) (s, [])

/-- A write of an item puts a valid word in its place. -/
def State.sramPut (s : State) (part unit item : Nat) : State :=
  if s.sram.flips.isEmpty && s.sram.wb.isEmpty then s
  else
    let k := sramKey part (Config.sramWord part unit item % sramWords s.variant part)
    { s with sram := { s.sram with flips := Tbl.del s.sram.flips k, wb := s.sram.wb.filter (· != k) } }

/-- ECC_WRITEBACK (R404): the corrected word goes back. -/
def execEccWriteback (part word : Nat) (s : State) : Host.Outcome State Fault Refusal :=
  let k := sramKey part word
  .next (if s.sram.wb.contains k then
      { s with sram := { s.sram with flips := Tbl.del s.sram.flips k, wb := s.sram.wb.filter (· != k) } }
    else s)

/-- Flips that arose in a stored word add to those it has. -/
def State.sramUpset (s : State) (part word flips : Nat) : State :=
  if flips = 0 then s
  else
    let k := sramKey part word
    { s with sram := { s.sram with flips := Tbl.put s.sram.flips k (min 2 (Tbl.getD s.sram.flips k 0 + flips)) } }

/-- SCRUBPER cycles of PXCLK, at its present MHz, have passed since the last word (R406); PXCLK runs (R474). -/
def State.scrubDue (s : State) : Bool :=
  s.pwr.state == 0 &&
    decide (s.fl pgSRAM Reg.SRAM.ECCCTL 31 8 * 250 ≤ (s.cycle - s.sram.scrubAt) * s.fl 1 Reg.CLKC.PXCLK 31 16)

/-- SCRUB (R406): the scrubber's next word, in which `flips` bits have flipped since it was last written. -/
def execScrub (flips : Nat) (s : State) : Host.Outcome State Fault Refusal :=
  if s.fb pgSRAM Reg.SRAM.ECCCTL 1 = false ∨ s.scrubDue = false then .next s
  else
    let part := s.fl pgSRAM Reg.SRAM.SCRUBPOS 29 28
    let word := s.fl pgSRAM Reg.SRAM.SCRUBPOS 24 0
    let t := ((s.sramUpset part word flips).sramRead part word).1
    let pos := if word + 1 < sramWords s.variant part then word + 1 + part * 2 ^ 28 else (part + 1) % 4 * 2 ^ 28
    .next ({ t with sram := { t.sram with scrubAt := s.cycle } }.setRg pgSRAM Reg.SRAM.SCRUBPOS pos)

/-- CTRL.FREEZE and INJECT are honoured on a page at level 2 unless it is secure, at level 3 always (23 R463). -/
def State.freezeHonoured (s : State) (p : Nat) : Bool :=
  let l := s.fl 7 Reg.DBGC.LEVEL 2 0
  decide (3 ≤ l) || (decide (2 ≤ l) && !(s.page p).sec)

/-- A write of INJECT (R404, registers): flips for the next read of a word. -/
def State.injectWrite (s : State) (v : Nat) : State :=
  let part := bits v 1 0
  let mode := bits v 3 2
  let word := bits v 28 4
  if s.freezeHonoured pgSRAM = false then s
  else if mode = 0 ∨ mode = 3 ∨ sramWords s.variant part ≤ word then s.err pgSRAM 2 0x2B2 Reg.SRAM.INJECT
  else { s with sram := { s.sram with inject := Tbl.put s.sram.inject (sramKey part word) mode } }

/-- Register writes of SRAM with a rule of their own. -/
def State.sramOnWrite (s : State) (o v : Nat) : Option State :=
  if o = Reg.SRAM.INJECT then some (s.injectWrite v)
  else if o = Reg.SRAM.ECCCTL ∧ v / 256 % 2 ^ 24 < 16 then some (s.err pgSRAM 2 0x2B2 o)
  else none

/-- Zeroing of the partitions that were powered off (R407): valid words of 0. -/
def State.sramZero (s : State) (part : Nat → Bool) : State :=
  { s with sram := { s.sram with
      flips := s.sram.flips.filter (fun e => !part (e.1 / 2 ^ 25))
      inject := s.sram.inject.filter (fun e => !part (e.1 / 2 ^ 25))
      wb := s.sram.wb.filter (fun k => !part (k / 2 ^ 25)) } }

end Sys2Proof.Machine
end

