-- ==== Sys2Proof/Machine/Mem.lean ====
section
/-!
DEFINITION. Memory: DRAM through the controllers and their channels (20 R410 to R415, R418 to R420; 15 R301) and host
memory of the two functions (15 R301, R310). Bytes are (address, byte) pairs in canonical form; an unlisted byte reads 0 (log entry 4).
-/

namespace Sys2Proof.Machine

/-- What an unlisted byte of host memory, and of DRAM that never lost its content, reads as (DESIGN CHOICE, log entry 4). -/
def emptyByte : Byte := 0

/-- What an unlisted byte of DRAM reads as: free once a reset made the content undefined (R481). -/
def dramEmpty (lost a : Nat) : Byte := if lost = 0 then emptyByte else Config.lostByte lost a

/-- One byte of a memory whose unlisted bytes read as `d` says. -/
def Memory.byte (d : Nat → Byte) (m : List Host.Cell) (a : Nat) : Byte := Tbl.getD m a (d a)

/-- The memory with one byte written; writing what an unlisted byte reads as removes the entry. -/
def Memory.setByte (d : Nat → Byte) (m : List Host.Cell) (a : Nat) (b : Byte) : List Host.Cell := Tbl.putD m a b (d a)

/-- Bytes from an address on. -/
def Memory.bytes (d : Nat → Byte) (m : List Host.Cell) (a : Nat) : Nat → List Byte
  | 0 => []
  | n + 1 => Memory.byte d m a :: Memory.bytes d m (a + 1) n

/-- The memory with bytes written from an address on. -/
def Memory.setBytes (d : Nat → Byte) (m : List Host.Cell) (a : Nat) : List Byte → List Host.Cell
  | [] => m
  | b :: bs => Memory.setBytes d (Memory.setByte d m a b) (a + 1) bs

/-- The canonical form: addresses strictly rising, no entry equal to what an unlisted address reads as. -/
def Memory.wf (d : Nat → Byte) (m : List Host.Cell) : Bool := Tbl.wf m && m.all (fun c => !(c.2 == d c.1))

/-- Bytes of DRAM as they stand, without an access. -/
def State.dramBytes (s : State) (a n : Nat) : List Byte := Memory.bytes (dramEmpty s.dramLost) s.dram a n

/-- Who makes a DRAM request: CONTEXT[19:12] of R419, whether secure, and whether the Keep processor (R420). -/
structure Who where
  id : Nat
  sec : Bool
  keep : Bool
deriving DecidableEq, Repr

/-- A unit of the part as requester: non-secure, but for KEEP itself; none is the Keep processor (R420). -/
def unitWho (p : Nat) : Who := ⟨p, decide (p = 6), false⟩

/-- The number of DRAM channels of the part (R3). -/
def State.nch (s : State) : Nat := unitCount s.variant .dmc

/-- Bytes of channel `n`: DENS gives 1, 2 or 4 GB, 7/8 of it usable under inline ECC (R411). -/
def State.usable (s : State) (n : Nat) : Nat :=
  let p := Blk.dmc.page n
  let c := 2 ^ (30 + s.fl p Reg.DMC.CFG 7 6)
  if s.fb p Reg.DMC.CFG 4 then c * 7 / 8 else c

/-- The end of the DRAM range (R301, R411). -/
def State.dramEnd (s : State) : Nat := s.nch * s.usable 0

/-- The channel of a device address (R410). -/
def State.chanOf (s : State) (a : Nat) : Nat := (a / 256) % s.nch

/-- The channel address of a device address (R410). -/
def State.chanAddr (s : State) (a : Nat) : Nat := (a / (256 * s.nch)) * 256 + a % 256

/-- The 256-byte pieces of a range, in ascending order (R412). -/
def pieces : Nat → Nat → Nat → List (Nat × Nat)
  | 0, _, _ => []
  | fuel + 1, a, n =>
    if n = 0 then []
    else
      let k := min n (256 - a % 256)
      (a, k) :: pieces fuel (a + k) (n - k)

/-- Protection region `r` refuses the access (R420). -/
def State.mprRefuses (s : State) (r : Nat) (w : Who) (a n : Nat) (wr : Bool) : Bool :=
  let b := s.rg64 216 (Reg.DMC.MPR r)
  let base := b / 4096 * 4096 % 2 ^ 40
  let lim := s.rg64 216 (Reg.DMC.MPRLIMIT r) / 4096 * 4096 % 2 ^ 40
  bit b 0 && decide (a < lim) && decide (base < a + n) &&
    ((bit b 1 && !w.sec) || (bit b 2 && wr && !w.keep))

/-- The error response a piece gets, if any (R419). A write that covers an uncorrectable word in part reads it (R411). -/
def State.pieceFault (s : State) (w : Who) (wr : Bool) (x : Nat × Nat) : Option (Nat × Nat) :=
  let (a, n) := x
  if s.dramEnd < a + n then some (0x2C2, a)
  else if (List.range 8).any (fun r => s.mprRefuses r w a n wr) then some (0x2C3, a)
  else if (s.page (Blk.dmc.page (s.chanOf a))).state ≠ .run then some (0x2C4, a)
  else if s.fb (Blk.dmc.page (s.chanOf a)) Reg.DMC.CFG 4 && s.dramBad.any (fun b => decide (b < a + n) && decide (a < b + 8) &&
      !(wr && decide (a ≤ b) && decide (b + 8 ≤ a + n))) then some (0x2C1, a)
  else none

/-- The error response of a request, if any of its pieces gets one (R419, R420). -/
def State.dramFault (s : State) (w : Who) (wr : Bool) (a n : Nat) : Option (Nat × Nat) :=
  (pieces (n / 256 + 2) a n).findSome? (s.pieceFault w wr)

/-- An error response is logged in the page of the channel (R419). -/
def State.dramError (s : State) (w : Who) (wr : Bool) (code a : Nat) : State :=
  let p := Blk.dmc.page (s.chanOf a)
  let chunk := s.chanAddr a / 256
  let b := if code = 0x2C1 then 1 else if code = 0x2C2 then 2 else if code = 0x2C3 then 3 else 4
  let cnt := if code = 0x2C1 then Reg.DMC.UECNT else if code = 0x2C3 then Reg.DMC.PROTCNT else Reg.DMC.RANGECNT
  let t := ((s.err p b code (w.id * 4096 + chunk % 4096)).sat p cnt 1).setRg64 p Reg.DMC.ERRADDR a
  let t := t.setRg p Reg.DMC.ERRINFO (code + w.id * 2 ^ 16 + b2n wr * 2 ^ 24)
  if code = 0x2C1 then t.happen p 0 0 else if code = 0x2C3 then t.happen p 2 0 else t

/-! ## Channels, their queues and their inline ECC (R411 to R415) -/

def pgDMC (n : Nat) : Nat := 216 + n

/-- A channel. -/
def State.dmc (s : State) (n : Nat) : DramChan := Tbl.getD s.dmcs n ⟨[], [], 15, 0, 0, [], 0, []⟩
def State.setDmc (s : State) (n : Nat) (x : DramChan) : State := { s with dmcs := Tbl.put s.dmcs n x }

/-- A bank. -/
def DramChan.bank (x : DramChan) (b : Nat) : DramBank := Tbl.getD x.banks b ⟨[], none, 0, 0⟩
def DramChan.setBank (x : DramChan) (b : Nat) (k : DramBank) : DramChan := { x with banks := Tbl.put x.banks b k }

/-- Inline ECC is on in channel `n` (R411). -/
def State.iecc (s : State) (n : Nat) : Bool := s.fb (pgDMC n) Reg.DMC.CFG 4

/-- Bank and row of a channel address (R410). -/
def State.placeOf (s : State) (n ca : Nat) : Nat × Nat :=
  let u := ca / 256
  let c := if s.iecc n then 7 else 8
  (u / c % 16, u / (16 * c))

/-- Two requests overlap when they touch one 32-byte burst (R415). -/
def DramReq.overlaps (x y : DramReq) : Bool :=
  decide (x.ca / 32 ≤ (y.ca + y.len - 1) / 32) && decide (y.ca / 32 ≤ (x.ca + x.len - 1) / 32)

/-- A write that enters its bank queue is acknowledged to its requester (R412). -/
def DramChan.ack (x : DramChan) (r : DramReq) : DramChan :=
  if r.wr then { x with acks := Tbl.put x.acks r.who (Tbl.getD x.acks r.who 0 + 1) } else x

/-- Requests at the input enter their bank queues in order until one is full (R413). -/
def DramChan.feed (x : DramChan) : Nat → DramChan
  | 0 => x
  | fuel + 1 =>
    match x.input with
    | [] => x
    | r :: rs =>
      let k := x.bank r.bank
      if 16 ≤ k.q.length then x
      else DramChan.feed (({ x with input := rs }.setBank r.bank { k with q := k.q ++ [r], idle := 0 }).ack r) fuel

/-- A write of words that inline ECC must read first: it does not cover whole 64-bit words (R411). -/
def State.dramRmw (s : State) (n : Nat) (r : DramReq) : Bool := r.wr && s.iecc n && (r.ca % 8 != 0 || (r.ca + r.len) % 8 != 0)

/-- A request enters the channel (R412, R413); a read held back by an earlier write is counted (R415). -/
def State.dmcEnter (s : State) (n : Nat) (r : DramReq) : State :=
  let x := s.dmc n
  let held := (!r.wr || s.dramRmw n r) && ((x.bank r.bank).q ++ x.input).any (fun y => y.wr && y.overlaps r)
  let s := s.setDmc n (DramChan.feed { x with input := x.input ++ [r] } (x.input.length + 1))
  if held then s.inc (pgDMC n) Reg.DMC.HAZCNT 1 else s

/-- A request behind those whose ports come before its own in the rotating order that begins at port `turn`. -/
def DramReq.place (turn : Nat) (r : DramReq) : List DramReq → List DramReq
  | [] => [r]
  | x :: xs =>
    if (r.who + 256 - turn % 256) % 256 < (x.who + 256 - turn % 256) % 256 then r :: x :: xs else x :: DramReq.place turn r xs

/-- The requests that arrived in one DMC clock cycle enter in a rotating order of requester ports (R412). DESIGN CHOICE (log
entry 16): the spec numbers no ports; they are taken by requester, the port after the last one served coming first. -/
def State.dmcAdmit (s : State) (n : Nat) : State :=
  let x := s.dmc n
  let l := x.arr.foldl (fun l r => DramReq.place x.turn r l) []
  l.foldl (fun t r => t.dmcEnter n r) (s.setDmc n { x with arr := [], turn := (l.getLast?.map (·.who + 1)).getD x.turn % 256 })

/-- The chunk requests of an access reach their channels (R412). -/
def State.dmcArrive (s : State) (w : Who) (wr : Bool) (a n : Nat) : State :=
  (pieces (n / 256 + 2) a n).foldl (fun t x =>
    let c := t.chanOf x.1
    let (b, row) := t.placeOf c (t.chanAddr x.1)
    t.setDmc c { t.dmc c with arr := (t.dmc c).arr ++ [⟨wr, t.chanAddr x.1, x.2, b, row, w.id⟩] }) s

/-- Bits flipped in words of inline-ECC channels: one in each of `ce`, two in each of `ue` (R411). -/
def State.dramUpset (s : State) (ce ue : List Nat) : State :=
  let words := fun (l : List Nat) => ((l.map (fun a => a / 8 * 8)).filter (fun a => s.iecc (s.chanOf a))).eraseDups
  let bad := s.dramBad ++ (words ue ++ (words ce).filter s.dramSoft.contains).eraseDups.filter (fun a => !s.dramBad.contains a)
  { s with dramBad := bad, dramSoft := (s.dramSoft ++ (words ce).filter (fun a => !s.dramSoft.contains a)).filter (fun a => !bad.contains a) }

/-- A correctable word met by an access: corrected and written back (R411). -/
def State.dramCe (s : State) (w : Who) (a : Nat) : State :=
  let p := pgDMC (s.chanOf a)
  let s := ({ s with dramSoft := s.dramSoft.filter (· != a) }.sat p Reg.DMC.CECNT 1).setIst p 1
  if s.fb p Reg.DMC.CFG 8 then s.err p 0 0x2C0 (w.id * 4096 + s.chanAddr a / 256 % 4096) else s.errSilent p 0

/-- An access meets the words with one flipped bit that it reads; those it writes whole are valid again (R411). -/
def State.dramMeets (s : State) (w : Who) (wr : Bool) (a n : Nat) : State :=
  let whole := fun (b : Nat) => wr && decide (a ≤ b) && decide (b + 8 ≤ a + n)
  let met := s.dramSoft.filter (fun b => decide (b < a + n) && decide (a < b + 8) && !whole b && s.iecc (s.chanOf b))
  met.foldl (fun t b => t.dramCe w b) { s with dramSoft := s.dramSoft.filter (fun b => !whole b) }

/-- Bytes moved are counted per channel. -/
def State.countBytes (s : State) (wr : Bool) (a n : Nat) : State :=
  (pieces (n / 256 + 2) a n).foldl
    (fun t x => t.inc64 (Blk.dmc.page (t.chanOf x.1)) (if wr then Reg.DMC.WRBYTES else Reg.DMC.RDBYTES) x.2) s

/-- An access that gets no error response: bytes counted, correctable words met, its chunk requests in the channels. -/
def State.dramPass (s : State) (w : Who) (wr : Bool) (a n : Nat) : State :=
  ((s.countBytes wr a n).dramMeets w wr a n).dmcArrive w wr a n

/-- A DRAM read: its bytes, or nothing and an error response (R419). -/
def State.dramRead (s : State) (w : Who) (a n : Nat) : State × Option (List Byte) :=
  match s.dramFault w false a n with
  | some (c, b) => (s.dramError w false c b, none)
  | none => (s.dramPass w false a n, some (s.dramBytes a n))

/-- A DRAM write: done (true), or no byte written and an error response (R419). -/
def State.dramWrite (s : State) (w : Who) (a : Nat) (bs : List Byte) : State × Bool :=
  match s.dramFault w true a bs.length with
  | some (c, b) => (s.dramError w true c b, false)
  | none =>
    ({ (s.dramPass w true a bs.length) with
        dram := Memory.setBytes (dramEmpty s.dramLost) s.dram a bs
        dramBad := s.dramBad.filter (fun b => !(decide (a ≤ b) && decide (b + 8 ≤ a + bs.length))) }, true)

/-- Why a device request to host memory of a function is not issued: 5 quarantine, 6 Bus Master Enable 0 (R301, R310) or
D3hot, in which a function issues no request (PRESUMED: the PCIe standard; log entry 35). -/
def State.hostRefusal (s : State) (fn : Nat) : Option Nat :=
  if (s.page 207).state = .fault ∨ (s.page 207).en = false then some 5
  else if (if fn = 0 then s.pcie.bme0 else s.pcie.bme1) && !s.pcie.d3.getD fn false then none else some 6

/-- Host memory of a function. -/
def State.hostMem (s : State) (fn : Nat) : List Host.Cell := if fn = 0 then s.host0 else s.host1

/-- A posted write to host memory. -/
def State.setHostBytes (s : State) (fn a : Nat) (bs : List Byte) : State :=
  if fn = 0 then { s with host0 := Memory.setBytes (fun _ => emptyByte) s.host0 a bs }
  else { s with host1 := Memory.setBytes (fun _ => emptyByte) s.host1 a bs }

/-- A write to device or host memory; an error gives the queue CODE of R310: 1 DRAM, 5, 6. -/
def State.put (s : State) (w : Who) (host : Bool) (fn a : Nat) (bs : List Byte) : State × Option Nat :=
  if host then
    match s.hostRefusal fn with
    | some c => (s, some c)
    | none => (s.setHostBytes fn a bs, none)
  else
    match s.dramWrite w a bs with
    | (t, true) => (t, none)
    | (t, false) => (t, some 1)

/-- The lowest tag that no outstanding read holds (R299). -/
def freeTag (used : List Nat) : Nat := ((List.range 257).find? (fun t => !used.contains t)).getD 0

/-- The read requests of a range: none crosses a multiple of Max Read Request Size (R299). -/
def reqPieces (m : Nat) : Nat → Nat → Nat → List (Nat × Nat)
  | 0, _, _ => []
  | fuel + 1, a, n =>
    if n = 0 then []
    else
      let k := min n (m - a % m)
      (a, k) :: reqPieces m fuel (a + k) (n - k)

/-- One read request of a requester: its data once completed; issued by the first call while fewer than 256 are
outstanding (R299). -/
def State.hostRequest (s : State) (kind num fn a n : Nat) : State × Option (List Byte) :=
  match s.hostReads.find? (fun r => r.kind == kind && r.num == num && r.fn == fn && r.addr == a && r.len == n) with
  | some r => (s, r.data)
  | none =>
    let used := (s.hostReads.filter (·.data.isNone)).map (·.tag)
    if 256 ≤ used.length then (s, none)
    else ({ s with hostReads := s.hostReads ++ [⟨freeTag used, kind, num, fn, a, n, none, s.cycle⟩] }, none)

/-- A read of host memory for a requester (R313): refused (its code), delivered, or outstanding. HOST_COMPLETION delivers
each of its requests. -/
def State.hostFetch (s : State) (kind num fn a n : Nat) : State × (Nat ⊕ Option (List Byte)) :=
  match s.hostRefusal fn with
  | some c => (s, .inl c)
  | none =>
    let m := max 1 (s.pcie.mrrs.getD fn 512)
    let l := (reqPieces m (n / m + 2) a n).foldl (fun (q : State × Option (List Byte)) x =>
      let t := q.1.hostRequest kind num fn x.1 x.2
      (t.1, match q.2, t.2 with
        | some b, some d => some (b ++ d)
        | _, _ => none)) (s, some [])
    (l.1, .inr l.2)

/-- Reads end before their completion: delivered data is dropped, data outstanding is discarded on completion (R302). -/
def State.hostDiscard (s : State) (f : HostRead → Bool) : State :=
  { s with hostReads := (s.hostReads.filter (fun r => !(f r) || r.data.isNone)).map (fun r =>
      if f r then { r with kind := 3 } else r) }

/-- The reads of a requester end. -/
def State.hostForget (s : State) (kind num : Nat) : State := s.hostDiscard (fun r => r.kind == kind && r.num == num)

end Sys2Proof.Machine
end

