-- ==== Sys2Proof/Machine/Operands.lean ====
section
/-!
DEFINITION. The operand forms of register accesses: who asks (02 R41), which page a window offset names (02 R21 to
R24), whether the access is admitted (02 R21, R32, R42) and how an admitted word is stored by class (02 R8, R31, R33).
-/

namespace Sys2Proof.Machine

/-- The page of KEEP's and DBGC's marks. -/
abbrev pgKEEP : Nat := 6
abbrev pgDBGC : Nat := 7

/-- The requester is secure (R41): the Keep processor; a control core Keep marks; the debug module at level 3. -/
def State.secure (s : State) (req : Nat) : Bool :=
  req == 6 || (decide (2 ≤ req) && decide (req ≤ 5) && s.fb pgKEEP Reg.KEEP.CORESEC (req - 2)) ||
    (req == 7 && s.fl pgDBGC Reg.DBGC.LEVEL 2 0 == 3)

/-- A requester of R41 as a requester of DRAM (R419, R420). -/
def State.who (s : State) (req : Nat) : Who := ⟨0xF0 + req % 16, s.secure req, decide (req = 6)⟩

/-- The 4 KB slots of the page range: first slot, number, first PRESENT index (R23). -/
def pageSlots : List (Nat × Nat × Nat) :=
  [(0x000, 6, 0), (0x008, 2, 6), (0x010, 16, 8), (0x020, 4, 24), (0x024, 1, 28), (0x026, 1, 29), (0x030, 16, 30),
   (0x040, 16, 46), (0x050, 12, 62), (0x05C, 4, 74), (0x060, 4, 78), (0x068, 1, 82), (0x070, 1, 83), (0x080, 16, 84),
   (0x140, 16, 100), (0x090, 1, 116), (0x0A0, 16, 117), (0x0B0, 1, 133), (0x0C0, 16, 134), (0x150, 48, 150),
   (0x0D0, 8, 198), (0x0E0, 3, 206), (0x0F0, 1, 209), (0x100, 1, 210), (0x110, 3, 211), (0x120, 1, 214),
   (0x122, 1, 215), (0x130, 8, 216), (0x138, 1, 224)]

/-- The PRESENT index whose page holds a window offset of the page range (R23). -/
def pageAt (a : Nat) : Option Nat :=
  (pageSlots.find? (fun e => decide (e.1 ≤ a / 4096) && decide (a / 4096 < e.1 + e.2.1))).map
    (fun e => e.2.2 + (a / 4096 - e.1))

/-- The page that governs a table window offset: HQF, BIC, PSC, NCT (R24). -/
def windowPage (a : Nat) : Option Nat :=
  if a < 0x200000 then pageAt a
  else if a < 0x240000 then some 206
  else if a < 0x253800 then some 209
  else if 0x260000 ≤ a ∧ a < 0x270000 then some 28
  else if 0x280000 ≤ a ∧ a < 0x400000 then some 116
  else none

/-- A write refused by OWNER or SEC sets ERR.OWNER and logs the requester (R42). -/
def State.ownerError (s : State) (p req : Nat) : State := s.err p 29 0x003 req

/-- An access of a wrong form, to the active view or during a soft reset sets ERR.ACCESS (R21, R32, R33). -/
def State.accessError (s : State) (p off : Nat) : State := s.err p 30 0x002 off

/-- OWNER or SEC refuses a write by the requester (R42). -/
def State.ownerRefuses (s : State) (p req : Nat) : Bool :=
  let g := s.page p
  (g.sec && !s.secure req) || (g.own != 0xF && g.own != req && req != 6)

/-- SEC refuses a read by the requester (R42). -/
def State.readRefused (s : State) (p req : Nat) : Bool := (s.page p).sec && !s.secure req

/-- The register window is open to the requester: to the Keep processor always, to the others once it opens (R484). -/
def State.windowOpen (s : State) (req : Nat) : Bool := req == 6 || s.fb 3 Reg.RSTC.BOOT 16

/-- The requester reaches the register window: it is open and its clock runs. -/
def State.reaches (s : State) (req : Nat) : Bool := s.windowOpen req && s.clocked

/-- The write to a page is admitted: present, window open, not refused, not in soft reset (R22, R32, R42, R484). -/
def State.admits (s : State) (p req : Nat) : Bool :=
  s.present p && s.reaches req && !s.ownerRefuses p req && !decide (s.cycle < (s.page p).busyUntil)

/-- A write to a page: its effect when admitted, else what the refusal leaves (R22, R32, R42). -/
def State.gate (s : State) (p req off : Nat) (f : State → State) : State :=
  if s.admits p req then f s
  else if !s.present p || !s.reaches req then s
  else if s.ownerRefuses p req then s.ownerError p req
  else s.accessError p off

/-- The S bits of a word write (R8, R31). -/
def State.writeS (s : State) (p o v m : Nat) : State :=
  if m = 0 ∨ (v &&& m) = (s.normal p o &&& m) then s
  else if (s.page p).run then s.err p 31 0x001 o
  else if (s.page p).state = .drain then
    { s with stored := Tbl.put s.stored (regKey p o) (BitVec.ofNat 32 v) }
  else { s with stored := Tbl.del s.stored (regKey p o) }.setRg p o (mix (s.rg p o) v m)

/-- The B bits of a word write (R8, R33): to the shadow; a change of the shadow sets APPLY.PEND. -/
def State.writeB (s : State) (p o v m : Nat) : State :=
  if m = 0 ∨ (v &&& m) = (s.normal p o &&& m) then s
  else
    ({ s with shadow := Tbl.put s.shadow (regKey p o) (BitVec.ofNat 32 v) }).setPage p
      { s.page p with pend := true }

/-- The L bits of a word write (R8). -/
def State.writeL (s : State) (p o v m : Nat) : State := if m = 0 then s else s.setRg p o (mix (s.rg p o) v m)

/-- A word write to a block-specific register: every field by its own class (R8). -/
def State.writeWord (s : State) (p o v : Nat) : State :=
  ((s.writeS p o v (classMask p o (·.s))).writeB p o v (classMask p o (·.b))).writeL p o v (classMask p o (·.l))

/-- A binding refused (R26): the page that received the write sets ERR.BIND and logs the code with the slot. -/
def State.bindError (s : State) (p code slot : Nat) : State := s.err p 27 code slot

/-- The code with which a binding to a PRESENT index fails, if it does (R26): 0x011 ABSENT, 0x010 NOSLOT. -/
def State.bindFault (s : State) (u : Nat) : Option Nat :=
  if 225 ≤ u then some 0x010 else if s.present u then none else some 0x011

/-- The first delivered trigger of a task input, and the others; it waits for the events of its cycle that name the same
input and are still on their way (R334). -/
def State.takeTrig (s : State) (p task : Nat) : Option (Trig × State) :=
  match s.trigs.find? (fun t => t.page == p && t.task == task &&
      !s.evs.any (fun e => e.entered == t.cycle && e.tasks.contains (p + task * 256))) with
  | some t => some (t, { s with trigs := s.trigs.erase t })
  | none => none

end Sys2Proof.Machine
end

