-- ==== Sys2Proof/Machine/Ring.lean ====
section
/-!
DEFINITION. The rings of HQF as the units use them (15 R303, R309 to R311): room, posting entries, taking entries, the
error state and the interrupt level.
-/

namespace Sys2Proof.Machine

abbrev pgHQF : Nat := 206
abbrev pgPCIE : Nat := 207
abbrev pgDMA : Nat := 208

/-- A queue descriptor. -/
def State.queue (s : State) (q : Nat) : Queue := Tbl.getD s.queues q Queue.reset

/-- The state with another queue descriptor. -/
def State.setQueue (s : State) (q : Nat) (x : Queue) : State := { s with queues := Tbl.put s.queues q x }

/-- The function a queue belongs to (15 Queues). -/
def queueFn (q : Nat) : Nat := q / 2048

/-- Entries held, modulo 2^32 (R303). -/
def Queue.count (x : Queue) : Nat := (x.pidx + 2 ^ 32 - x.cidx) % 2 ^ 32

/-- Entry size in bytes (R304). -/
def Queue.esize (x : Queue) : Nat := 16 * 2 ^ x.esz

/-- The queue serves its unit: enabled and not in ERROR (R305, R310). -/
def Queue.active (x : Queue) : Bool := x.en && !x.qerr

/-- Room as the producer sees it (R303, R305, R310). -/
def Queue.room (x : Queue) : Nat := if x.active then 2 ^ x.log2n - x.count else 0

/-- Entries as the consumer sees them. -/
def Queue.avail (x : Queue) : Nat := if x.active then x.count else 0

/-- The address of the entry at an index (R303). -/
def Queue.slotAddr (x : Queue) (i : Nat) : Nat := x.base + i % 2 ^ x.log2n * x.esize

/-- The threshold of R304: 0 acts as 1. -/
def Queue.thr (x : Queue) : Nat := max 1 x.ithr

/-- The queue that names a unit's port (R306, R307). -/
def State.portQueue (s : State) (u port : Nat) : Option Nat :=
  (s.queues.find? (fun e => e.2.unit == u && e.2.port == port)).map (·.1)

/-- A queue enters STATE ERROR (R310); its outstanding read is discarded on completion. -/
def State.queueError (s : State) (q code : Nat) : State :=
  let x := s.queue q
  let t := (((s.hostForget 0 q).setQueue q { x with qerr := true, code := code, timer := none, head := none }).sat
    pgHQF Reg.HQF.HERRCNT 1)
  ((t.setRg pgHQF Reg.HQF.LASTERR (q + code * 2 ^ 16)).err pgHQF 2 0x202 q).setIst pgHQF 0

/-- The interrupt level of a queue (R311). -/
def State.queueLevel (s : State) (q : Nat) : Bool :=
  let x := s.queue q
  x.active &&
    ((bit x.imode 0 && decide (x.thr ≤ x.count)) ||
     (bit x.imode 0 && decide (x.count ≠ 0) &&
       (match x.timer with
        | some t0 => decide (x.itmo ≠ 0) && decide (t0 + x.itmo * 250 ≤ s.cycle)
        | none => false)) ||
     (bit x.imode 1 && decide (x.thr ≤ x.room)))

/-- PIDX advances by `n`; the interrupt timer starts when stopped and the fill stays below the threshold (R311). -/
def Queue.advanceP (x : Queue) (n now : Nat) : Queue :=
  let y := { x with pidx := (x.pidx + n) % 2 ^ 32 }
  if y.timer = none ∧ y.count < y.thr ∧ n ≠ 0 then { y with timer := some now } else y

/-- CIDX advances by `n`; the timer stops when the queue is empty (R311). -/
def Queue.advanceC (x : Queue) (n : Nat) : Queue :=
  let y := { x with cidx := (x.cidx + n) % 2 ^ 32, head := none }
  if y.count = 0 then { y with timer := none } else y

/-- The entries written at `i`, `i + 1`, …; the first error ends the posting (R309, R310). -/
def State.writeEntries (s : State) (w : Who) (q : Nat) (x : Queue) : Nat → List (List Byte) → State × Option Nat
  | _, [] => (s, none)
  | i, e :: es =>
    match s.put w x.loc (queueFn q) (x.slotAddr i) e with
    | (t, none) => t.writeEntries w q x (i + 1) es
    | (t, some c) => (t, some c)

/-- The index word written to SHADOW when it is not 0 (R309). -/
def State.writeShadow (s : State) (w : Who) (q idx : Nat) : State :=
  let x := s.queue q
  if x.shadow = 0 then s
  else
    match s.put w x.loc (queueFn q) x.shadow (leBytes 8 idx) with
    | (t, none) => t
    | (t, some c) => t.queueError q c

/-- A producer unit publishes entries with one advance of PIDX; false when there is no queue, no room or an error
(R309, R310). -/
def State.post (s : State) (u port : Nat) (es : List (List Byte)) : State × Bool :=
  match s.portQueue u port with
  | none => (s, false)
  | some q =>
    let x := s.queue q
    if x.room < es.length then (s, false)
    else
      match s.writeEntries (unitWho u) q x x.pidx es with
      | (t, some c) => (t.queueError q c, false)
      | (t, none) =>
        let y := x.advanceP es.length t.cycle
        ((t.setQueue q y).writeShadow (unitWho u) q y.pidx, true)

/-- Room in the queue bound to a unit's port. -/
def State.portRoom (s : State) (u port : Nat) : Nat :=
  match s.portQueue u port with
  | none => 0
  | some q => (s.queue q).room

/-- The entry size of the queue bound to a unit's port, when one is bound. -/
def State.portEsize (s : State) (u port : Nat) : Option Nat := (s.portQueue u port).map (fun q => (s.queue q).esize)

/-- A consumer unit reads the oldest entry, once, without returning it (R309); a host read waits for its completion. -/
def State.peek (s : State) (u port : Nat) : State × Option (List Byte) :=
  match s.portQueue u port with
  | none => (s, none)
  | some q =>
    let x := s.queue q
    if x.avail = 0 then (s, none)
    else if x.head.isSome then (s, x.head)
    else if x.loc then
      match s.hostFetch 0 q (queueFn q) (x.slotAddr x.cidx) x.esize with
      | (t, .inl c) => (t.queueError q c, none)
      | (t, .inr d) => (t.setQueue q { x with head := d }, d)
    else
      match s.dramRead (unitWho u) (x.slotAddr x.cidx) x.esize with
      | (t, none) => (t.queueError q 1, none)
      | (t, some bs) => (t.setQueue q { x with head := some bs }, some bs)

/-- A consumer unit returns one entry: CIDX advances and is written to the shadow (R309). -/
def State.consume (s : State) (u port : Nat) : State :=
  match s.portQueue u port with
  | none => s
  | some q =>
    let y := (s.queue q).advanceC 1
    ((s.hostForget 0 q).setQueue q y).writeShadow (unitWho u) q y.cidx

end Sys2Proof.Machine
end

