-- ==== Sys2Proof/Machine/Time.lean ====
section
/-!
DEFINITION. Network time and the release of outputs, which many units use (18 R372 to R375; 19 R397, R400).
-/

namespace Sys2Proof.Machine

abbrev pgPTP : Nat := 211
abbrev pgTLK : Nat := 214

/-- Device time T at cycle `n`, in 2^-32 ns, 96 bits, rounded toward minus infinity (R372). -/
def Ptp.timeAt (x : Ptp) (n : Nat) : Nat := (x.tb + (n - x.nb) * x.inc / 2 ^ 12) % 2 ^ 96

/-- T of this cycle in 2^-32 ns. -/
def State.timeFrac (s : State) : Nat := s.ptp.timeAt s.cycle

/-- T of this cycle in whole ns. -/
def State.timeNs (s : State) : Nat := s.timeFrac / 2 ^ 32

/-- The parameters in force at an instant in 2^-16 cycles: of the present and past sets the newest that began before it. -/
def Ptp.setAt (x : Ptp) (t : Int) : Nat × Nat × Nat :=
  let l := (x.tb, x.nb, x.inc) :: x.past
  (l.find? (fun q => decide ((q.2.1 : Int) * 65536 ≤ t))).getD (l.getLastD (x.tb, x.nb, x.inc))

/-- T at an instant given in 2^-16 cycles, in 2^-32 ns, with the parameters in force then (R372: f is a fraction of a cycle;
R375). -/
def Ptp.timeAt16 (x : Ptp) (t : Int) : Int :=
  let q := x.setAt t
  (q.1 : Int) + fdiv ((t - (q.2.1 : Int) * 65536) * q.2.2) (2 ^ 28)

/-- T at an instant given in 2^-16 cycles, whole ns. -/
def State.timeNsAt16 (s : State) (t : Int) : Nat := (s.ptp.timeAt16 t).toNat / 2 ^ 32 % 2 ^ 64

/-- Head links send nothing and camera ports no trigger: a standby not released (R397), or a FAILED manager (R400). -/
def State.linkSilent (s : State) : Bool := s.standby || s.fl pgRED Reg.RED.RSTAT 2 0 == 4

/-- The pins of a page at the levels of reset, before EN, and of a standby that holds its outputs (R397, R500); a GPIO is an
input then, pulled down. -/
def State.pinsRest (s : State) (p : Nat) : State :=
  match blkOf p with
  | some .emu => (List.range 24).foldl (fun t k => t.emit (.pin p k 0)) s
  | some .evf => (List.range 64).foldl (fun t k => t.emit (.pin p k 0)) s
  | some .axs => (List.range 4).foldl (fun t k => t.emit (.pin p k 0)) s
  | some .bic => (List.range 16).foldl (fun t k => t.emit (.pin p k (b2n !(t.fb p Reg.BIC.PINCFG k)))) s
  | some .cam | some .sdf => s.emit (.pin p 0 0)
  | some .enc => s.emit (.pin p 0 1)
  | _ => s

/-- The pins of all present pages at those levels. -/
def State.pinsAllRest (s : State) : State :=
  (List.range 225).foldl (fun t p => if t.present p then t.pinsRest p else t) s

end Sys2Proof.Machine
end

