-- ==== Sys2Proof/Machine/Lane.lean ====
section
/-!
DEFINITION. Sending on the Toltur ring (19 R382 to R384, R391, R397, R400): routes, headers, forwarded record blocks.
A sent frame is recorded as port, header bytes 1 to 7, the CRC of its EOF block and its payload words.
-/

namespace Sys2Proof.Machine

abbrev pgCLP : Nat := 82

/-! ## Calibration requests (21 R424 to R428; 24 R487) -/

abbrev pgCALC : Nat := 5

/-- The lowest waiting instance of a domain (R424). -/
def Cal.nextJob (c : Cal) (dom : Nat) : Option CalJob :=
  (c.waiting.filter (·.dom == dom)).foldl (fun a j => match a with
    | some b => if j.inst < b.inst then some j else some b
    | none => some j) none

/-- A waiting job begins. It is a recovery when it is the instance's first after a return or a failure (R426). -/
def State.calBegin (s : State) (j : CalJob) : State :=
  let c := s.cal
  let k := j.dom * 64 + j.inst
  { s with cal := { c with
      waiting := c.waiting.erase j, recover := c.recover.erase k
      running := c.running ++ [{ j with at_ := s.cycle, qual := j.qual || c.recover.contains k }] } }

/-- Within a domain one instance calibrates at a time, the lowest waiting one next (R424). Domains 0 and 5 begin when
RECAL_START and DRAM_RETRAIN say so. A flat field and a filter offset begin their collection. -/
def State.calPump (s : State) (dom : Nat) : State :=
  if dom = 0 ∨ dom = 5 ∨ s.cal.running.any (·.dom == dom) then s
  else
    match s.cal.nextJob dom with
    | none => s
    | some j =>
      let s := s.calBegin j
      if dom = 6 then { s with cal := { s.cal with ffBlocks := [], ffEnds := [], ffLines := [], ffOn := [] } }
      else if dom = 7 then { s with cal := { s.cal with sdOut := [] } }
      else s

/-- A calibration request: refused while the instance runs or waits, or its channel's start-up calibration runs (R424,
R486). `qual`: a start-up calibration, which writes QUAL (R426). -/
def State.calRequest (s : State) (dom inst : Nat) (qual force : Bool) : State :=
  let c := s.cal
  if (c.running ++ c.waiting).any (fun j => j.dom == dom && j.inst == inst) || (dom == 5 && c.training.contains inst) then
    s.err pgCALC 1 0x2E1 (dom * 2 ^ 16 + inst)
  else
    let j : CalJob := ⟨dom, inst, qual, force, s.cycle, false⟩
    State.calPump { s with cal := { c with waiting := c.waiting ++ [j] } } dom

/-- The unit of a running calibration came back to service: it had left it (R425). -/
def State.calLost (s : State) (dom inst : Nat) : State :=
  let l := s.cal.running.map (fun (j : CalJob) => if j.dom = dom ∧ j.inst = inst then { j with lost := true } else j)
  { s with cal := { s.cal with running := l } }

/-- The page of a DRAM channel, camera port or filter leaves FAULT: its next calibration is a recovery (R426). -/
def State.calReturn (s : State) (p : Nat) : State :=
  let k := match blkOf p with
    | some .dmc => some (5 * 64 + instOf p)
    | some .cam => some (6 * 64 + instOf p)
    | some .sdf => some (7 * 64 + instOf p)
    | _ => none
  match k with
  | some k => if s.cal.recover.contains k then s else { s with cal := { s.cal with recover := k :: s.cal.recover } }
  | none => s

/-- A calibration of the domain runs on the instance. -/
def State.calOn (s : State) (dom inst : Nat) : Bool := s.cal.running.any (fun j => j.dom == dom && j.inst == inst)

/-- A link comes up: its first time after a reset runs a start-up calibration when AUTO is set (R487); later times leave
the next calibration a recovery (R426) and end one in progress (R425). -/
def State.noteUp (s : State) (dom inst : Nat) : State :=
  let k := dom * 64 + inst
  let s := s.calLost dom inst
  if s.cal.upSeen.contains k then
    { s with cal := { s.cal with recover := if s.cal.recover.contains k then s.cal.recover else k :: s.cal.recover } }
  else
    let s := { s with cal := { s.cal with upSeen := k :: s.cal.upSeen } }
    if s.fb pgCALC Reg.CALC.CFG (8 + dom) then s.calRequest dom inst true false else s

/-- A block of a port under flat-field calibration opens, closes (R430). -/
def State.ffOpen (s : State) (n b : Nat) : State :=
  if s.calOn 6 n ∧ s.cal.ffBlocks.length < s.fl pgCALC Reg.CALC.FFCFG 7 0 then
    { s with cal := { s.cal with ffBlocks := s.cal.ffBlocks ++ [b] } }
  else s
def State.ffClose (s : State) (n b flags : Nat) : State :=
  if s.calOn 6 n ∧ s.cal.ffBlocks.contains b then { s with cal := { s.cal with ffEnds := s.cal.ffEnds ++ [(b, flags)] } } else s

/-- A line of the port is taken; a stitched line of a Cupola held ON pixels (R430). -/
def State.ffTake (s : State) (n : Nat) (l : FfLine) : State :=
  if s.calOn 6 n ∧ s.cal.ffBlocks.contains l.b then { s with cal := { s.cal with ffLines := s.cal.ffLines ++ [l] } } else s
def State.ffMark (s : State) (cup k : Nat) : State :=
  if s.cal.running.any (·.dom == 6) then { s with cal := { s.cal with ffOn := s.cal.ffOn ++ [(cup, k)] } } else s

/-- An output of a filter under offset calibration (R431). -/
def State.sdTake (s : State) (n : Nat) (v : Int) (usable : Bool) : State :=
  if s.calOn 7 n ∧ s.cal.sdOut.length < 2 ^ s.fl pgCALC Reg.CALC.OFFCFG 4 0 then
    { s with cal := { s.cal with sdOut := s.cal.sdOut ++ [(v, usable)] } }
  else s

/-- A head link is in recalibration: it stays UP throughout (R427). -/
def State.recalOn (s : State) (link : Nat) : Bool := match s.cal.recal with
  | some (n, _) => n == link && s.fl (134 + link) Reg.HLK.LSTAT 2 0 == 2
  | none => false

/-- In the first 7,500 cycles of a recalibration frames received are discarded (R427). -/
def State.recalDeaf (s : State) (link : Nat) : Bool := match s.cal.recal with
  | some (_, t) => s.recalOn link && decide (s.cycle < t + 7500)
  | none => false

/-! ## Ports and routes -/

/-- Port states of PSTAT (R381): 0 OFF, 1 TRAIN, 2 UP, 3 DOWN, 4 QUAR. -/
def State.portState (s : State) (b : Bool) : Nat := if b then s.fl pgTLK Reg.TLK.PSTAT 6 4 else s.fl pgTLK Reg.TLK.PSTAT 2 0
def State.setPortState (s : State) (b : Bool) (v : Nat) : State :=
  if b then s.setFl pgTLK Reg.TLK.PSTAT 6 4 v else s.setFl pgTLK Reg.TLK.PSTAT 2 0 v

/-- The ring's page runs. In STATE FAULT after the quarantine of one port the other port goes on (R401). -/
def State.tlkRuns (s : State) : Bool :=
  s.running pgTLK || (s.tlk.cut && (s.page pgTLK).state == .fault && (s.page pgTLK).run && s.works pgTLK)

/-- The port moves frames. -/
def State.portUp (s : State) (b : Bool) : Bool := s.portState b == 2 && s.tlkRuns

/-- This device's DEVID and RSIZE. -/
def State.devid (s : State) : Nat := s.fl pgTLK Reg.TLK.CFG 3 0
def State.rsize (s : State) : Nat := s.fl pgTLK Reg.TLK.CFG 7 4

/-- The current manager and MEPOCH (R386). -/
def State.mgr (s : State) : Nat := s.fl pgTLK Reg.TLK.TBSTAT 3 0
def State.mepoch (s : State) : Nat := s.fl pgTLK Reg.TLK.TBSTAT 31 16

/-- The role of the device and the RED state (R395). -/
def State.role (s : State) : Nat := s.fl pgRED Reg.RED.CFG 1 0
def State.redState (s : State) : Nat := s.fl pgRED Reg.RED.RSTAT 2 0

/-- A port's hidden state. -/
def State.tport (s : State) (b : Bool) : TlkPort := if b then s.tlk.pb else s.tlk.pa
def State.setTport (s : State) (b : Bool) (x : TlkPort) : State :=
  { s with tlk := if b then { s.tlk with pb := x } else { s.tlk with pa := x } }

/-- CRC-32C of a frame: header bytes 1 to 7, then the payload (R177, R382). -/
def frameCrc (head words : List Nat) : Nat :=
  crc32 polyC (head.map (BitVec.ofNat 8) ++ words.flatMap (leBytes 8))

/-- Bytes 1 to 7 of the SOF block: TYPE and VER 1, SRC and DST, SHADOW, HOPS and PFAULT, LEN, ARG (R382). -/
def tlkHeader (type src dst shadow hops pfault len arg : Nat) : List Nat :=
  [type % 16 + 16, src % 16 + dst % 16 * 16, shadow % 2 + hops % 16 * 2 + pfault % 2 * 32, len % 256, len / 256 % 256, arg % 256,
    arg / 256 % 256]

/-- A frame leaves a port (R382). -/
def State.tlkFrame (s : State) (b : Bool) (type src dst shadow hops pfault arg : Nat) (words : List Nat) : State :=
  let h := tlkHeader type src dst shadow hops pfault words.length arg
  s.emit (.frame pgTLK type (b2n b :: h ++ [frameCrc h words]) words)

/-- A frame of this device on a port: SHADOW from a standby that is not ACTIVE, PFAULT from a device that has declared
itself failed (R382). -/
def State.tlkOwn (s : State) (b : Bool) (type dst hops arg : Nat) (words : List Nat) : State :=
  s.tlkFrame b type s.devid dst (b2n (s.role == 1 && s.redState != 1)) hops (b2n (s.fb pgRED Reg.RED.RSTAT 3)) arg words

/-- One frame on one port. -/
def State.tlkPut (s : State) (b : Bool) (type dst hops arg : Nat) (words : List Nat) : State :=
  if s.portUp b then s.tlkOwn b type dst hops arg words else s

/-- A broadcast frame: both ports, HOPS 0 (R384). -/
def State.tlkCast (s : State) (type arg : Nat) (words : List Nat) : State :=
  (s.tlkPut false type 0xF 0 arg words).tlkPut true type 0xF 0 arg words

/-- The port of a unicast frame (R384): fewer hops to the target, ties to TLB; none without a route. -/
def State.route (s : State) (dst : Nat) : Option Bool :=
  match (if s.portUp false then Tbl.get? s.tlk.pa.hops dst else none), (if s.portUp true then Tbl.get? s.tlk.pb.hops dst else none) with
  | some a, some b => some (decide (b ≤ a))
  | some _, none => some false
  | none, some _ => some true
  | none, none => none

/-- A unicast frame; dropped without a route. -/
def State.tlkSend (s : State) (type dst arg : Nat) (words : List Nat) : State :=
  match s.route dst with
  | some b => s.tlkPut b type dst 0 arg words
  | none => s

/-- DEFn publishes into the ring: a worker with FWDCTL.DEF bit n (R391). -/
def State.forwards (s : State) (n : Nat) : Bool :=
  s.role == 2 && ((s.page pgTLK).state == .run || s.tlkRuns) && s.fb pgTLK Reg.TLK.FWDCTL n

/-- Unacknowledged frames, and FWSTAT. -/
def State.inflight (s : State) : Nat :=
  (s.tlk.sent.filter (fun f => decide ((f.fseq + 2 ^ 32 - s.tlk.ackSeq) % 2 ^ 32 < 2 ^ 31))).length
def State.showFwd (s : State) : State := s.setFl pgTLK Reg.TLK.FWSTAT 6 0 (min 127 s.inflight)

/-- The payloads of a block's frames (R391): at most 32 records each; `f` is the FSEQ of the first. -/
def fwdWords (n : Nat) : Nat → Nat → List (List Byte) → List (List Nat)
  | 0, _, _ => []
  | fuel + 1, f, recs =>
    let a := recs.take 32
    let r := recs.drop 32
    let w := f % 2 ^ 32 + n * 2 ^ 32 + b2n r.isEmpty * 2 ^ 34 + a.length * 2 ^ 36
    (w :: a.flatMap (fun e => (List.range 8).map (fun i => leAt e (8 * i) 8))) ::
      (if r.isEmpty then [] else fwdWords n fuel (f + 1) r)

/-- The window has room for all frames of a block (R391). -/
def State.fwdRoom (s : State) (recs : Nat) : Bool :=
  decide (s.inflight + max 1 ((recs + 31) / 32) ≤ s.fl pgTLK Reg.TLK.FWDCTL 15 8)

/-- The block goes out as FWD frames to the current manager (R391). -/
def State.fwdBlock (s : State) (n : Nat) (recs : List (List Byte)) : State :=
  let f := s.rg pgTLK (Reg.TLK.FWSTAT + 4)
  let ws := fwdWords n (recs.length + 1) f recs
  let s := if s.tlk.sent.isEmpty then { s with tlk := { s.tlk with ackAt := s.cycle } } else s
  let frames := (ws.zipIdx).map (fun e => (⟨(f + e.2) % 2 ^ 32, e.1, decide (e.2 + 1 = ws.length)⟩ : FwdFrame))
  let s := { s with tlk := { s.tlk with sent := s.tlk.sent ++ frames } }
  let s := frames.foldl (fun t x => t.tlkSend 5 t.mgr 0 x.words) s
  (s.setRg pgTLK (Reg.TLK.FWSTAT + 4) (f + ws.length)).showFwd

/-- Records of a defect unit are published: into the ring on a forwarding worker, else to the REC queue (R261, R391). -/
def State.publish (s : State) (p n : Nat) (recs : List (List Byte)) : State × Bool :=
  if s.forwards n then (if s.fwdRoom recs.length then (s.fwdBlock n recs, true) else (s, false)) else s.post p 0 recs

/-- Room for a block of records where it is published. -/
def State.publishRoom (s : State) (p n recs : Nat) : Bool :=
  if s.forwards n then s.fwdRoom recs else decide (recs ≤ s.portRoom p 0)

/-! ## Mirrored writes (R396) -/

/-- The window offset of a page (R23). -/
def pageBase (p : Nat) : Nat :=
  match pageSlots.find? (fun e => decide (e.2.2 ≤ p) && decide (p < e.2.2 + e.2.1)) with
  | some e => (e.1 + (p - e.2.2)) * 4096
  | none => 0

/-- A host write through PF0 BAR0 is mirrored by an ACTIVE manager with MIRDEV (R396, R400). -/
def State.mirror (s : State) (off : Nat) (wide : Bool) (data req : Nat) : State :=
  let dev := s.fl pgRED Reg.RED.CFG 11 8
  if req ≠ 0 ∨ s.redState ≠ 1 ∨ s.role ≠ 0 ∨ dev = 0xF ∨ s.reaches 0 = false then s
  else
    let q := s.tlk.mseq
    let t := { (s.setRg pgRED Reg.RED.MIRSEQ q).inc pgRED Reg.RED.MIRCNT 1 with tlk := { s.tlk with mseq := (q + 1) % 2 ^ 32 } }
    t.tlkSend 8 dev 0 [q + 2 ^ 32, off % 2 ^ 22 + b2n wide * 2 ^ 22, data % 2 ^ (if wide then 64 else 32)]

/-- A 32-bit write to a register of a page, from any requester: mirrored when it is the host's, then gated (R42, R396). -/
def State.gateH (s : State) (p req off data : Nat) (f : State → State) : State :=
  (s.mirror (pageBase p + off) false data req).gate p req off f

/-- As `gateH`, for a 64-bit write. -/
def State.gateW (s : State) (p req off data : Nat) (f : State → State) : State :=
  (s.mirror (pageBase p + off) true data req).gate p req off f

end Sys2Proof.Machine
end

