-- ==== Sys2Proof/Machine/Axes.lean ====
section
/-!
DEFINITION. Motion axes AXS0 to AXS15 (17 R346 to R357): profile segments, gear, step generator, serial set-point.
-/

namespace Sys2Proof.Machine

/-- The page of axis `n`. -/
def pgAXS (n : Nat) : Nat := 30 + n

/-- The page of observer `d`. -/
def pgOBS (d : Nat) : Nat := 24 + d

/-- WPOS_S and WPOS_R of a domain (R9). -/
def State.wposS (s : State) (d : Nat) : Int := s.rgI (pgOBS d) Reg.OBS.WPOS_S
def State.wposR (s : State) (d : Nat) : Int := s.rgI (pgOBS d) Reg.OBS.WPOS_R

/-- The speed of a domain, signed 32.32. -/
def State.speed (s : State) (d : Nat) : Int := s.rgI (pgOBS d) Reg.OBS.SPEED

/-- An axis. -/
def State.ax (s : State) (n : Nat) : Axs := Tbl.getD s.axs n Axs.reset

/-- The state with another axis. -/
def State.setAx (s : State) (n : Nat) (x : Axs) : State := { s with axs := Tbl.put s.axs n x }

/-- The instance exists and its page runs its periods. -/
def State.axRuns (s : State) (n : Nat) : Bool := decide (n < 16) && s.running (pgAXS n)

/-- The axis works: in RUN, and in DRAIN until its segment has ended (R30). -/
def State.axLive (s : State) (n : Nat) : Bool :=
  let g := s.page (pgAXS n)
  decide (n < 16) && (g.state == .run || g.state == .drain) && s.works (pgAXS n)

/-- ASTAT fields of an axis. -/
def State.axPstate (s : State) (n : Nat) : Nat := s.fl (pgAXS n) Reg.AXS.ASTAT 1 0
def State.axGeared (s : State) (n : Nat) : Bool := s.fb (pgAXS n) Reg.AXS.ASTAT 2
def State.axCoil (s : State) (n : Nat) : Nat := s.fl (pgAXS n) Reg.AXS.ASTAT 4 3
def State.setPstate (s : State) (n v : Nat) : State := s.setFl (pgAXS n) Reg.AXS.ASTAT 1 0 v
def State.setGeared (s : State) (n : Nat) (b : Bool) : State := s.setFl (pgAXS n) Reg.AXS.ASTAT 2 2 (b2n b)

/-- The coil pins take a mode: 0 ENERGISED, 1 OFF, 2 SHORT; the pin that falls does so first (R350). Pins 2 and 3 are AXnCMA
and AXnCMB. -/
def State.setCoil (s : State) (n m : Nat) : State :=
  let t := s.setFl (pgAXS n) Reg.AXS.ASTAT 4 3 m
  if m = 0 then (t.pin (pgAXS n) 3 0).pin (pgAXS n) 2 1 else (t.pin (pgAXS n) 2 0).pin (pgAXS n) 3 (b2n (m == 2))

/-- The standstill mode of the coils: OFF or SHORT by CFG.CMODE (R350). -/
def State.restCoil (s : State) (n : Nat) : Nat := if s.fb (pgAXS n) Reg.AXS.CFG 2 then 2 else 1

/-- GRATIO, STEPT and SPPER: of the segment in progress, which keeps what it took at its start (R35, R357), else as in
force. -/
def State.axGratio (s : State) (n : Nat) : Int :=
  if (s.ax n).seg.isSome then (s.ax n).gratio else s.rgI (pgAXS n) Reg.AXS.GRATIO
def State.axStept (s : State) (n : Nat) : Nat :=
  if (s.ax n).seg.isSome then (s.ax n).stept else s.rg (pgAXS n) Reg.AXS.STEPT
def State.axSpper (s : State) (n : Nat) : Nat :=
  if (s.ax n).seg.isSome then (s.ax n).spper else s.rg (pgAXS n) Reg.AXS.SPPER

/-- The gear domain. -/
def State.gdom (s : State) (n : Nat) : Nat := s.fl (pgAXS n) Reg.AXS.CFG 5 4

/-- The EPOCH of a domain. -/
def State.epochOf (s : State) (d : Nat) : Nat := s.rg (pgOBS d) Reg.OBS.EPOCH

/-- EPOCH of a domain changes (R61, R387): the next evaluation of its marks is an arming evaluation (R79). -/
def State.setEpoch (s : State) (d v : Nat) : State :=
  { s.setRg (pgOBS d) Reg.OBS.EPOCH v with markEpochs := Tbl.put s.markEpochs d 1 }

/-- An apply of an axis page is refused: STEPW ≥ MINSTEP, or SPPER below the limit of R351 (R357). -/
def State.axApplyBad (s : State) (n : Nat) : Bool :=
  let p := pgAXS n
  decide (s.fl p Reg.AXS.MINSTEP 15 0 ≤ bits (s.normal p Reg.AXS.STEPT) 7 0) ||
    decide (s.normal p Reg.AXS.SPPER < 128 * (s.fl p Reg.AXS.SPCFG 10 0 + 1) + 16)

/-- An apply trigger at an axis page (R34, R357, R507). -/
def State.axApply (s : State) (n : Nat) : State :=
  let p := pgAXS n
  if (s.page p).pend then
    if s.axApplyBad n then (s.refuseSet p).err p 2 0x252 0 else s.applySet p
  else s

/-- A period of the page begins: the boundary apply of R34. -/
def State.atBoundary (s : State) (p : Nat) (app : State → State) : State :=
  let g := s.page p
  if g.bsel = 0 ∧ g.hold = false then app s else s

/-- Segment `j` is present (R353). -/
def State.segPresent (s : State) (n j : Nat) : Bool :=
  let d := (s.rg (pgAXS n) Reg.AXS.SEGHEAD + 2 ^ 32 - j % 2 ^ 32) % 2 ^ 32
  decide (1 ≤ d) && decide (d ≤ 64)

/-- A segment starts from the position held, its entry latched (R352, R353). -/
def State.segStart (s : State) (n : Nat) (v0 : Int) : State :=
  let p := pgAXS n
  let j := s.rg p Reg.AXS.SEGTAIL
  let e := j % 64
  let t := s.atBoundary p (·.axApply n)
  let w := t.rg p (Reg.AXS.SEG e)
  let x := t.ax n
  let d := bits w 30 0
  let g : Seg := ⟨j, x.xprof, v0, if d = 0 then 1 else d, bit w 31, sgn 32 (t.rg p (Reg.AXS.SEGVEL e)),
    t.rgI p (Reg.AXS.SEGPOS e)⟩
  ((t.setRg p Reg.AXS.SEGTAIL (j + 1)).setAx n
    { x with seg := some g, u := 0, stopReq := false, gratio := t.rgI p Reg.AXS.GRATIO, stept := t.rg p Reg.AXS.STEPT,
             spper := t.rg p Reg.AXS.SPPER }).setPstate n 1

/-- The gear engages (R355). -/
def State.gearEngage (s : State) (n : Nat) : State :=
  let p := pgAXS n
  let d := s.gdom n
  let t := s.setRgI p Reg.AXS.GORG (s.wposS d)
  (t.setAx n { t.ax n with xg0 := t.rgI p Reg.AXS.XGEAR, epoch := t.epochOf d }).setGeared n true

/-- The next segment is late (R353). -/
def State.segLate (s : State) (n : Nat) : State :=
  let p := pgAXS n
  let j := s.rg p Reg.AXS.SEGTAIL
  let t := ((s.setPstate n 2).sat p Reg.AXS.LATECNT 1).err p 0 0x250 (j % 2 ^ 20)
  (t.setAx n { t.ax n with seg := none, vlast := 0 }).happenFrom p 2 0 (s.ax n).chain

/-- A STOP of this cycle is on its way to the axis (R354). -/
def State.stopDue (s : State) (n : Nat) : Bool :=
  s.trigs.any (fun t => t.page == pgAXS n && t.task == 1 && t.cycle + 2 == s.cycle) ||
    s.evs.any (fun e => e.entered + 2 == s.cycle && e.tasks.contains (pgAXS n + 256))

/-- A command of this cycle that still waits writes bit `b` of the axis's CMD: 1 STOP, 2 ABORT. -/
def State.cmdComes (s : State) (n b : Nat) : Bool :=
  s.pending.any (fun c => match c with
    | .axisStop a false req => b == 1 && a == n && s.admits (pgAXS n) req
    | .axisAbort a req => b == 2 && a == n && s.admits (pgAXS n) req
    | .registerWrite off _ v req =>
      pageAt (off % 2 ^ 22) == some (pgAXS n) && off % 4096 == Reg.AXS.CMD && bit v b && s.admits (pgAXS n) req
    | _ => false)

/-- A START that acts (R354): alone, without a STOP of its cycle; after an ABORT of its cycle (R347). -/
def State.axStart (s : State) (n : Nat) (c : Option (Nat × Nat)) : State :=
  let p := pgAXS n
  let x := s.ax n
  if x.stopAt = some s.cycle ∨ s.stopDue n ∨ s.cmdComes n 1 then s.err p 4 0x254 0
  else if s.cmdComes n 2 then s.setAx n { x with startReq := some c }
  else if s.axPstate n = 1 then s.err p 4 0x254 0
  else
    let s := s.setAx n { x with chain := c }
    if s.segPresent n (s.rg p Reg.AXS.SEGTAIL) then
      let t := s.segStart n 0
      if t.fb p Reg.AXS.GCTL 0 then t.gearEngage n else t
    else if s.fb p Reg.AXS.GCTL 0 then (s.gearEngage n).setPstate n 0
    else s.segLate n

/-- AXIS_START (R354): by a START task, whose INDEX goes to LASTIDX, or by CMD.START. -/
def execAxisStart (axis : Nat) (byTask : Bool) (req : Nat) (s : State) : Host.Outcome State Fault Refusal :=
  let p := pgAXS axis
  if byTask then
    match s.takeTrig p 0 with
    | none => .next s
    | some (t, s) =>
      if s.axRuns axis then .next ((s.setRg64 p Reg.AXS.LASTIDX t.index).axStart axis (some (t.origin, t.depth)))
      else .next s
  else .next (s.gateH p req Reg.AXS.CMD 1 (fun s => if s.axRuns axis then s.axStart axis none else s))

/-- A STOP that acts (R354). -/
def State.axStop (s : State) (n : Nat) : State :=
  let x := s.ax n
  let t := s.setAx n { x with stopAt := some s.cycle, stopReq := decide (s.axPstate n = 1) }
  if s.axPstate n = 1 then t else t.setGeared n false

/-- AXIS_STOP (R354). -/
def execAxisStop (axis : Nat) (byTask : Bool) (req : Nat) (s : State) : Host.Outcome State Fault Refusal :=
  let p := pgAXS axis
  if byTask then
    match s.takeTrig p 1 with
    | none => .next s
    | some (_, s) => .next (if s.axLive axis then s.axStop axis else s)
  else .next (s.gateH p req Reg.AXS.CMD 2 (fun s => if s.axLive axis then s.axStop axis else s))

/-- The START that waited acts. -/
def State.axWaited (s : State) (n : Nat) : State :=
  match (s.ax n).startReq with
  | some c => (s.setAx n { s.ax n with startReq := none }).axStart n c
  | none => s

/-- An ABORT that acts (R354). -/
def State.axHold (s : State) (n : Nat) : State :=
  let x := s.ax n
  let t := (s.setAx n { x with seg := none, vlast := 0, stopReq := false }).setGeared n false
  if s.axPstate n = 1 then (t.setPstate n 2).happenFrom (pgAXS n) 1 0 x.chain else t

/-- An ABORT and the START of its cycle that waited for it (R347). -/
def State.axAbort (s : State) (n : Nat) : State := (s.axHold n).axWaited n

/-- AXIS_ABORT (R354). -/
def execAxisAbort (axis req : Nat) (s : State) : Host.Outcome State Fault Refusal :=
  .next (s.gateH (pgAXS axis) req Reg.AXS.CMD 4 (fun s => if s.axLive axis then s.axAbort axis else s))

/-- A SEGHEAD write (R353). -/
def State.segHeadWrite (s : State) (n v : Nat) : State :=
  let p := pgAXS n
  if 64 < (v % 2 ^ 32 + 2 ^ 32 - s.rg p Reg.AXS.SEGTAIL) % 2 ^ 32 then s.err p 2 0x252 Reg.AXS.SEGHEAD
  else s.setRg p Reg.AXS.SEGHEAD v

/-- SEGHEAD (R353). -/
def execSeghead (axis value req : Nat) (s : State) : Host.Outcome State Fault Refusal :=
  .next (s.gateH (pgAXS axis) req Reg.AXS.SEGHEAD value (·.segHeadWrite axis value))

/-- XPROF at cycle `u` of a segment (R352), within 2^-32 step of the exact value: which of the two neighbours is a
free value; exact at the segment's end. -/
def Seg.at (g : Seg) (u : Nat) (up : Bool) : Int :=
  if g.dur ≤ u then g.pos
  else
    let d : Int := g.dur
    let u : Int := u
    let num := (2 * u ^ 3 - 3 * u ^ 2 * d + d ^ 3) * g.p0 + (u ^ 3 - 2 * u ^ 2 * d + u * d ^ 2) * d * g.v0 +
      (3 * u ^ 2 * d - 2 * u ^ 3) * g.pos + (u ^ 3 - u ^ 2 * d) * d * g.vel
    let q := Int.fdiv num (d ^ 3)
    if q * d ^ 3 = num then q else if up then q + 1 else q

/-- T − EPOS of an axis (R348). -/
def State.axLag (s : State) (n : Nat) : Int :=
  let p := pgAXS n
  shr (s.rgI p Reg.AXS.XCMD + 2 ^ 31) 32 - sgn 32 (s.rg p Reg.AXS.EPOS)

/-- ASTAT.LAG, signed 16 bits, saturating. -/
def State.showLag (s : State) (n : Nat) : State :=
  s.setFl (pgAXS n) Reg.AXS.ASTAT 31 16 (enc2 16 (clamp (-32768) 32767 (s.axLag n)))

/-- A lag above LAGMAX stops the axis (R349). Steps held by a coil wake count once the wake has ended (R350). -/
def State.lagCheck (s : State) (n : Nat) : State :=
  let p := pgAXS n
  let t := s.showLag n
  if s.fb p Reg.AXS.CFG 0 = false ∧ (s.ax n).wake = none ∧ (s.fl p Reg.AXS.LAGMAX 15 0 : Int) < (s.axLag n).natAbs then
    ((((t.err p 1 0x251 (enc2 20 (t.axLag n))).setIst p 3).toFault p).setCoil n (t.restCoil n))
  else t

/-- AXIS_CYCLE (R347): XGEAR, XPROF and X of this cycle; LAG (R349). -/
def execAxisCycle (axis : Nat) (s : State) : Host.Outcome State Fault Refusal :=
  if s.axLive axis = false then .next s
  else
    let p := pgAXS axis
    let s := s.axWaited axis
    let x := s.ax axis
    let (s, xg) := if s.axGeared axis then
        (s.drawn, x.xg0 + nearest ((s.wposS (s.gdom axis) - s.rgI p Reg.AXS.GORG) * s.axGratio axis) 256
          (Config.tieUp s.fresh))
      else (s, s.rgI p Reg.AXS.XGEAR)
    let s := s.setRgI p Reg.AXS.XGEAR xg
    let (s, x) := match x.seg with
      | some g =>
        let u := min g.dur (x.u + 1)
        (s.drawn, { x with u := u, xprof := g.at u (Config.tieUp s.fresh) })
      | none => (s, x)
    let xc := x.xprof + xg
    let moved := s.fb p Reg.AXS.CFG 0 && decide (sgn 64 (enc2 64 xc) ≠ s.rgI p Reg.AXS.XCMD)
    let s := (s.setRgI p Reg.AXS.XCMD xc).setAx axis { x with moved := if moved then s.cycle else x.moved }
    let s := if moved ∧ s.axCoil axis ≠ 0 then s.setCoil axis 0 else s
    .next (s.lagCheck axis)

/-- SEGMENT_END (R352 to R354): SEGDONE, and the next segment, HOLD or IDLE. In DRAIN a segment that is present does not start
(R30), and the profile state stays (log entry 24). -/
def execSegmentEnd (axis : Nat) (s : State) : Host.Outcome State Fault Refusal :=
  let p := pgAXS axis
  let x := s.ax axis
  match s.axLive axis, x.seg with
  | true, some g =>
    if x.u < g.dur then .next s
    else
      let s := s.setAx axis { x with seg := none, xprof := g.pos, vlast := g.vel, stopReq := false }
      let s := s.happenFrom p 0 (axis * 65536 + g.num % 65536) x.chain
      if x.stopReq then .next (((s.setPstate axis 0).setGeared axis false).happenFrom p 1 0 x.chain)
      else if g.fin then .next ((s.setPstate axis 0).happenFrom p 1 0 x.chain)
      else if s.segPresent axis (s.rg p Reg.AXS.SEGTAIL) = false then .next (s.segLate axis)
      else .next (if s.axRuns axis then s.segStart axis g.vel else s)
  | _, _ => .next s

/-- STEP (R348, R350): one step toward the target under the spacing limits; the direction pin first; coils awake. -/
def execStep (axis : Nat) (s : State) : Host.Outcome State Fault Refusal :=
  let p := pgAXS axis
  let x := s.ax axis
  let lag := s.axLag axis
  if s.axLive axis = false ∨ s.fb p Reg.AXS.CFG 0 ∨ lag = 0 then .next s
  else if s.axCoil axis ≠ 0 then
    .next ((s.setCoil axis 0).setAx axis { x with wake := some s.cycle, moved := s.cycle })
  else if x.wake ≠ none then .next s
  else if (s.lagCheck axis).axLive axis = false then .next (s.lagCheck axis)
  else
    let up := decide (0 < lag)
    if x.dirUp ≠ up then
      .next ((s.setAx axis { x with dirUp := up, dirAt := some s.cycle, dirLvl := up != s.fb p Reg.AXS.CFG 1 }).pin p 1
        (b2n (up != s.fb p Reg.AXS.CFG 1)))
    else if (match x.dirAt with | some c => decide (s.cycle < c + bits (s.axStept axis) 15 8) | none => false) then
      .next s
    else if (match x.lastStep with | some c => decide (s.cycle < c + s.fl p Reg.AXS.MINSTEP 15 0) | none => false) then
      .next s
    else
      let e := sgn 32 (s.rg p Reg.AXS.EPOS) + (if up then 1 else -1)
      let s := (s.setRg p Reg.AXS.EPOS (enc2 32 e)).inc p Reg.AXS.STEPCNT 1
      let s := s.setAx axis { x with lastStep := some s.cycle, moved := s.cycle }
      .next ((s.pin p 0 (bits (s.axStept axis) 7 0)).showLag axis)

/-- The coil timing of an axis works: also in IDLE, after its last step (R350). -/
def State.axTimed (s : State) (n : Nat) : Bool :=
  s.axLive n || (decide (n < 16) && (s.page (pgAXS n)).state == .idle && s.works (pgAXS n))

/-- STANDSTILL (R350): STANDTMO cycles without a step or set-point change. -/
def execStandstill (axis : Nat) (s : State) : Host.Outcome State Fault Refusal :=
  let p := pgAXS axis
  let x := s.ax axis
  if s.axTimed axis ∧ s.axCoil axis = 0 ∧ x.wake = none ∧ (s.fb p Reg.AXS.CFG 0 ∨ s.axLag axis = 0 ∨ s.axLive axis = false) ∧
      x.moved + s.rg p Reg.AXS.STANDTMO ≤ s.cycle then
    .next (s.setCoil axis (s.restCoil axis))
  else .next s

/-- COIL_WAKE_END (R350): WAKE cycles after leaving standstill the held steps are released. -/
def execCoilWakeEnd (axis : Nat) (s : State) : Host.Outcome State Fault Refusal :=
  let x := s.ax axis
  match x.wake with
  | some c =>
    if s.axTimed axis ∧ c + s.rg (pgAXS axis) Reg.AXS.WAKE ≤ s.cycle then
      let t := s.setAx axis { x with wake := none }
      .next (if s.axLive axis then t.lagCheck axis else t)
    else .next s
  | none => .next s

/-- The 64-bit set-point frame of R351. -/
def setpointWord (seq : Nat) (x : Int) (status : Nat) : Nat :=
  let top := seq % 256 * 2 ^ 48 + bits (enc2 64 x) 55 16 * 2 ^ 8 + status % 256
  top * 256 + crcBits 8 0x07 56 top 0

/-- SETPOINT_FRAME (R351): every SPPER cycles in serial mode. -/
def execSetpointFrame (axis : Nat) (s : State) : Host.Outcome State Fault Refusal :=
  let p := pgAXS axis
  let x := s.ax axis
  if s.axLive axis ∧ s.fb p Reg.AXS.CFG 0 ∧ x.lastFrame + s.axSpper axis ≤ s.cycle then
    let status := b2n (s.axCoil axis == 0) + 2 * b2n ((s.page p).state == .fault) + 4 * b2n (s.axPstate axis == 1) +
      8 * b2n (s.axGeared axis)
    let w := setpointWord x.seq (s.rgI p Reg.AXS.XCMD) status
    let t := s.setAx axis { x with seq := (x.seq + 1) % 256, lastFrame := s.cycle }
    .next (if t.standby then t else t.emit (.frame p 0 [] [w]))
  else .next s

/-- GEARLOST (R356): every axis geared to the domain whose EPOCH changed, or whose observer is in HALT, disengages. -/
def State.gearLost (s : State) (d : Nat) : State :=
  (List.range 16).foldl (fun t n =>
    if t.axGeared n && t.gdom n == d &&
        ((t.ax n).epoch != t.epochOf d || t.fl (pgOBS d) Reg.OBS.OSTAT 1 0 == 2) then
      (t.setGeared n false).err (pgAXS n) 3 0x253 0
    else t) s

/-- AXnDIR at entry to RUN: the idle clock is high in serial mode (R351), else the direction, inverted where DIRINV = 1; a
level that changes there comes before the first step (R348). -/
def State.axDirShow (s : State) (n : Nat) : State :=
  let p := pgAXS n
  let x := s.ax n
  if s.fb p Reg.AXS.CFG 0 then s.pin p 1 1
  else
    let l := x.dirUp != s.fb p Reg.AXS.CFG 1
    (s.setAx n { x with dirLvl := l, dirAt := if l == x.dirLvl then x.dirAt else some s.cycle }).pin p 1 (b2n l)

/-- Entry of an axis page to STATE RUN (R347). The spacing of steps and the coils' time after the last step run on (R348, R350);
in serial mode PSET may be a set-point change. -/
def State.axOnRun (s : State) (n : Nat) : State :=
  let p := pgAXS n
  let ps := s.rgI p Reg.AXS.PSET
  let x := s.ax n
  let jump := s.fb p Reg.AXS.CFG 0 && decide (ps ≠ s.rgI p Reg.AXS.XCMD)
  let lit := decide (s.axCoil n = 0) || jump
  let t := (s.setAx n { Axs.reset with
    xprof := ps, moved := if lit && !jump then x.moved else s.cycle, lastFrame := s.cycle, dirUp := x.dirUp, dirAt := x.dirAt,
    dirLvl := x.dirLvl, lastStep := x.lastStep, wake := if lit then x.wake else none, seq := x.seq }).axDirShow n
  let t := ((t.setRgI p Reg.AXS.XGEAR 0).setRgI p Reg.AXS.XCMD ps).setRg p Reg.AXS.EPOS (enc2 32 (shr (ps + 2 ^ 31) 32))
  ((t.setPstate n 0).setGeared n false).setCoil n (if lit then 0 else t.restCoil n)

/-- Block-specific write rules of an axis page: SEGHEAD and CMD (R353, R354). -/
def State.axOnWrite (s : State) (n o v : Nat) : Option State :=
  if o = Reg.AXS.SEGHEAD then some (s.segHeadWrite n v)
  else if o = Reg.AXS.CMD then
    if s.axLive n = false then some s
    else
      let s := if bit v 1 then s.axStop n else s
      let s := if bit v 2 then s.axHold n else s
      some ((if bit v 0 && s.axRuns n then s.axStart n none else s).axWaited n)
  else none

end Sys2Proof.Machine
end

