-- ==== Sys2Proof/Machine/Position.lean ====
section
/-!
DEFINITION. Encoders, observers and encoder emulation (03 R47 to R68).
-/

namespace Sys2Proof.Machine

/-- The page of encoder `n`, and of encoder emulation. -/
def pgENC (n : Nat) : Nat := 8 + n
abbrev pgEMU : Nat := 29

/-- Instance `n` of a block is on the part and its page runs its periods. -/
def State.unitRuns (s : State) (b : Blk) (n : Nat) : Bool := decide (n < unitCount s.variant b) && s.running (b.page n)

/-- A command register write to instance `n` of a block. The page of an instance the part lacks ignores it (R25), yet a
host's write is mirrored (R396). -/
def State.gateU (s : State) (b : Blk) (n req off data : Nat) (f : State → State) : State :=
  if n < unitCount s.variant b then s.gateH (b.page n) req off data f
  else if n < b.insts then s.mirror (pageBase (b.page n) + off) false data req
  else s

/-! ## Encoders -/

/-- An encoder front end. -/
def State.encOf (s : State) (n : Nat) : Enc := Tbl.getD s.enc n Enc.reset

/-- The state with another encoder front end. -/
def State.setEnc (s : State) (n : Nat) (x : Enc) : State := { s with enc := Tbl.put s.enc n x }

/-- ENC.CFG.MODE: 0 incremental, 1 SSI, 2 BiSS-C; 3 acts as 0. -/
def State.encMode (s : State) (n : Nat) : Nat := s.fl (pgENC n) Reg.ENC.CFG 1 0 % 3

/-- ENC.SERCFG.BITS; values outside 8 to 40 act as 24. -/
def State.encBits (s : State) (n : Nat) : Nat :=
  let b := s.fl (pgENC n) Reg.ENC.SERCFG 5 0
  if 8 ≤ b ∧ b ≤ 40 then b else 24

/-- Encoder FAULT: logged 0x102, the event raised, the page in STATE FAULT (R49, R56, R57). -/
def State.encFault (s : State) (n : Nat) : State := ((s.err (pgENC n) 9 0x102 0).happen (pgENC n) 1 0).toFault (pgENC n)

/-- An illegal transition between two pairs of filtered levels (R49, R57). -/
def State.encIllegal (s : State) (n old new : Nat) : State :=
  let p := pgENC n
  let x := s.encOf n
  let t := (((s.sat p Reg.ENC.ILLEGCNT 1).err p 0 0x101 (old * 4 + new)).setEnc n
    { x with illegal := (s.cycle :: x.illegal).take 3 }).violate p 0x101
  match x.illegal with
  | [_, _, c] => if s.cycle < c + 1024 then t.encFault n else t
  | _ => t

/-- The direction of an accepted change of one of A and B: A before B counts up (R48). -/
def quadStep (a b a' b' : Bool) : Int :=
  if a ≠ a' then (if a' ≠ b' then 1 else -1) else if b ≠ b' then (if a' = b' then 1 else -1) else 0

/-- A filtered rising edge of the index, with the check of its spacing (R50, R57). -/
def State.encIndex (s : State) (n : Nat) : State :=
  let p := pgENC n
  let x := s.encOf n
  let c := s.rgI p Reg.ENC.COUNT
  let d := c - s.rgI p Reg.ENC.ZLATCH
  let cpr := s.rg p Reg.ENC.CPR
  let t := (((s.setRgI p Reg.ENC.ZLATCH c).setRg64 p Reg.ENC.ZTIME s.cycle).setEnc n { x with zseen := true }).happen p 0 0
  if cpr ≠ 0 ∧ x.zseen ∧ d.natAbs ≠ cpr then
    (((t.sat p Reg.ENC.ZERRCNT 1).err p 8 0x10A (enc2 20 d)).violate p 0x10A)
  else t

/-- Decoding of accepted levels in STATE RUN (R48 to R50). -/
def State.encDecode (s : State) (n : Nat) (a b z a' b' z' : Bool) : State :=
  let p := pgENC n
  let sw := s.fb p Reg.ENC.CFG 10
  let t :=
    if a ≠ a' ∧ b ≠ b' then s.encIllegal n (b2n a + 2 * b2n b) (b2n a' + 2 * b2n b')
    else s.setRgI p Reg.ENC.COUNT
      (s.rgI p Reg.ENC.COUNT + (if sw then quadStep b a b' a' else quadStep a b a' b'))
  let pol := s.fb p Reg.ENC.CFG 9
  if s.fb p Reg.ENC.CFG 8 ∧ (z != pol) = false ∧ (z' != pol) = true ∧ (t.page p).state = .run then t.encIndex n else t

/-- FILTERED_LEVEL_CHANGE (R47): inputs held at new levels for `held` samples; the first sample sets the levels. -/
def execFilteredLevelChange (enc : Nat) (a b z : Bool) (held : Nat) (s : State) : Host.Outcome State Fault Refusal :=
  let p := pgENC enc
  let g := s.page p
  if ¬ enc < 16 ∨ g.en = false ∨ s.works p = false ∨ (g.state ≠ .idle ∧ g.state ≠ .run) then .next s
  else
    let x := s.encOf enc
    let i := s.rg p Reg.ENC.INSTAT
    let lv := b2n a + 2 * b2n b + 4 * b2n z
    let set := s.setFl p Reg.ENC.INSTAT 2 0 lv
    if x.sampling = false then .next (set.setEnc enc { x with sampling := true })
    else if held < s.fl p Reg.ENC.CFG 7 4 + 1 then
      .next (s.sat p Reg.ENC.GLITCHCNT (b2n (a != bit i 0) + b2n (b != bit i 1) + b2n (z != bit i 2)))
    else if g.state = .run ∧ s.encMode enc = 0 then .next (set.encDecode enc (bit i 0) (bit i 1) (bit i 2) a b z)
    else .next set

/-- A transfer is in progress, the encoder's own timeout included; its word is awaited (R54). -/
def State.encBusy (s : State) (n : Nat) : Bool :=
  s.fb (pgENC n) Reg.ENC.INSTAT 3 && (match (s.encOf n).endAt with
    | some e => decide (s.cycle < e)
    | none => true)
def State.encAwaits (s : State) (n : Nat) : Bool := s.fb (pgENC n) Reg.ENC.INSTAT 3 && (s.encOf n).endAt.isNone

/-- INSTAT as a read shows it: SERBUSY ends with the encoder's own timeout. -/
def State.encRead (s : State) (n o : Nat) : Option Nat :=
  if o = Reg.ENC.INSTAT then some (setBits (s.rg (pgENC n) o) 3 3 (b2n (s.encBusy n)))
  else none

/-- The word of the transfer has ended: the encoder's own timeout runs (R54). -/
def State.encEnds (s : State) (n : Nat) : State :=
  s.setEnc n { s.encOf n with endAt := some (s.cycle + Config.encTimeout n) }

/-- A word in error: extrapolated, counted, logged; the third in a row is encoder FAULT (R56, R57). -/
def State.encWordError (s : State) (n b code ctx latch : Nat) : State :=
  let p := pgENC n
  let x := s.encOf n
  let k := min 3 (s.fl p Reg.ENC.INSTAT 5 4 + 1)
  let t := ((s.sat p Reg.ENC.SERRCNT 1).err p b code ctx).setRgI p Reg.ENC.COUNT (s.rgI p Reg.ENC.COUNT + x.step)
  let t := (t.setEnc n { x with
    ref := x.ref.map (fun r => (((r : Int) + x.step) % (2 ^ s.encBits n : Nat)).toNat), latch := latch })
  let t := (t.setFl p Reg.ENC.INSTAT 5 4 k).violate p code
  if k = 3 ∧ (t.page p).state = .run then t.encFault n else t

/-- SERIAL_REQUEST (R52, R54, R56): every SERPER cycles; skipped while a transfer is in progress; SSI line break. The
request goes out as a frame of MA: 2 and CDM = 0 for a BiSS-C cycle, 1 for SSI. DESIGN CHOICE (log entry 19): SERPER below
64 and SWTMO below 16, for which the spec gives no response, act as written. -/
def execSerialRequest (enc : Nat) (dataLow : Bool) (s : State) : Host.Outcome State Fault Refusal :=
  let p := pgENC enc
  let x := s.encOf enc
  if s.unitRuns .enc enc = false ∨ s.encMode enc = 0 ∨ s.cycle < x.lastReq + s.fl p Reg.ENC.SERPER 19 0 then .next s
  else
    let s := s.setEnc enc { x with lastReq := s.cycle }
    if s.encBusy enc then .next (s.sat p Reg.ENC.SKIPCNT 1)
    else if s.encMode enc = 1 ∧ dataLow then
      .next ((s.setFl p Reg.ENC.INSTAT 3 3 0).encWordError enc 4 0x106 0 s.cycle)
    else
      let t := (s.setEnc enc { s.encOf enc with reqLatch := s.cycle, endAt := none }).setFl p Reg.ENC.INSTAT 3 3 1
      .next (t.emit (.frame p (s.encMode enc) (if s.encMode enc = 2 then [0] else []) []))

/-- Binary value of a Gray-coded word (R52). -/
def grayGo : Nat → Nat → Nat → Nat
  | 0, _, acc => acc
  | w + 1, x, acc => grayGo w x (acc * 2 + ((acc + x / 2 ^ w) % 2))

/-- The CRC bits a BiSS-C word should carry (R53): position, nE, nW in order, from 0, inverted. -/
def State.encCrc (s : State) (n pos : Nat) (nE nW : Bool) : Nat :=
  let p := pgENC n
  let l := min 8 (s.fl p Reg.ENC.SERCFG 11 8)
  let poly := s.fl p Reg.ENC.SERCFG 23 16 % 2 ^ l
  let e := s.fb p Reg.ENC.SERCFG 24
  let w := s.fb p Reg.ENC.SERCFG 25
  let x := if e then pos * 2 + b2n nE else pos
  let x := if w then x * 2 + b2n nW else x
  2 ^ l - 1 - crcBits l poly (s.encBits n + b2n e + b2n w) x 0

/-- An accepted word (R55, R56): nW alone is counted; the step goes to COUNT unless it exceeds MAXDELTA. -/
def State.encAccept (s : State) (n pos : Nat) (warn : Bool) : State :=
  let p := pgENC n
  let x := s.encOf n
  let step : Int := match x.ref with
    | none => 0
    | some r => sgn (s.encBits n) (enc2 (s.encBits n) ((pos : Int) - r))
  let max := s.rg p Reg.ENC.MAXDELTA
  if max ≠ 0 ∧ max < step.natAbs then s.encWordError n 6 0x108 (enc2 20 step) x.reqLatch
  else
    let t := s.setRgI p Reg.ENC.COUNT (s.rgI p Reg.ENC.COUNT + step)
    let t := (t.setEnc n { x with ref := some pos, step := step, latch := x.reqLatch }).setFl p Reg.ENC.INSTAT 5 4 0
    if warn then (((t.sat p Reg.ENC.WARNCNT 1).err p 7 0x109 0).violate p 0x109) else t

/-- SERIAL_WORD (R53 to R56): the levels of nE and nW on the line, the SSI parity bit, the measured delay. -/
def execSerialWord (enc position crc : Nat) (nE nW parity : Bool) (delay : Nat) (s : State) :
    Host.Outcome State Fault Refusal :=
  let p := pgENC enc
  let x := s.encOf enc
  if s.unitRuns .enc enc = false ∨ s.encAwaits enc = false then .next s
  else
    let w := s.encBits enc
    let raw := position % 2 ^ w
    let s := (s.encEnds enc).setRg64 p Reg.ENC.LASTWORD raw
    if s.encMode enc = 2 then
      let s := s.setRg p Reg.ENC.DELAY delay
      if s.fl p Reg.ENC.SERCFG 11 8 ≠ 0 ∧ crc ≠ s.encCrc enc raw nE nW then
        .next (s.encWordError enc 1 0x103 crc x.reqLatch)
      else if s.fb p Reg.ENC.SERCFG 24 ∧ nE = false then .next (s.encWordError enc 2 0x104 0 x.reqLatch)
      else .next (s.encAccept enc raw (s.fb p Reg.ENC.SERCFG 25 && !nW))
    else
      let par := s.fl p Reg.ENC.CFG 13 12
      let odd := oddOnes w raw != parity
      if (par = 1 ∧ odd = true) ∨ (par = 2 ∧ odd = false) then .next (s.encWordError enc 5 0x107 0 x.reqLatch)
      else .next (s.encAccept enc (if s.fb p Reg.ENC.CFG 11 then grayGo w raw 0 else raw) false)

/-- START_BIT_TIMEOUT (R56, R57): SWTMO cycles after the first falling edge of MA; MA is held high for the encoder's
timeout. -/
def execStartBitTimeout (enc : Nat) (s : State) : Host.Outcome State Fault Refusal :=
  let p := pgENC enc
  let x := s.encOf enc
  if s.unitRuns .enc enc ∧ s.encMode enc = 2 ∧ s.encAwaits enc ∧
      x.reqLatch + s.fl p Reg.ENC.SWTMO 15 0 ≤ s.cycle then
    .next (((s.encEnds enc).encWordError enc 3 0x105 0 x.reqLatch).pin p 0 1)
  else .next s

/-- Entry of an encoder page to STATE RUN (R47, R48, R54, R55). DESIGN CHOICE (log entry 19): illegal transitions of an
earlier run are forgotten (R49). -/
def State.encOnRun (s : State) (n : Nat) : State :=
  let p := pgENC n
  let x := s.encOf n
  ((s.setRg64 p Reg.ENC.COUNT 0).setFl p Reg.ENC.INSTAT 5 3 0).setEnc n
    { Enc.reset with sampling := x.sampling, runs := x.runs + 1, lastReq := s.cycle, latch := s.cycle }

/-- The encoder page goes OFF: sampling ends (R47). -/
def State.encOff (s : State) (n : Nat) : State := s.setEnc n { s.encOf n with sampling := false }

/-- A write to an encoder register with a rule of its own: SERCFG outside BITS 8 to 40 sets ERR.RANGE. -/
def State.encOnWrite (s : State) (n o v : Nat) : Option State :=
  let p := pgENC n
  if o = Reg.ENC.SERCFG ∧ (s.page p).run = false ∧ (bits v 5 0 < 8 ∨ 40 < bits v 5 0) then some ((s.writeWord p o v).errBit p 10) else none

/-! ## Observers -/

/-- An observer. -/
def State.obsOf (s : State) (d : Nat) : Obs := Tbl.getD s.obs d Obs.reset

/-- The state with another observer. -/
def State.setObs (s : State) (d : Nat) (x : Obs) : State := { s with obs := Tbl.put s.obs d x }

/-- The encoder of source A or B. -/
def State.srcEnc (s : State) (d : Nat) (b : Bool) : Nat :=
  if b then s.fl (pgOBS d) Reg.OBS.SRC 11 8 else s.fl (pgOBS d) Reg.OBS.SRC 3 0

/-- Both sources are used as a pair: a WA of 1.0 uses source A alone (R60). -/
def State.paired (s : State) (d : Nat) : Bool :=
  s.fb (pgOBS d) Reg.OBS.SRC 16 && decide (s.fl (pgOBS d) Reg.OBS.WA 15 0 < 0x8000)

/-- A source is usable when its encoder page is in STATE RUN (R61). -/
def State.usableSrc (s : State) (d : Nat) (b : Bool) : Bool :=
  (b == false || s.paired d) && decide ((s.page (pgENC (s.srcEnc d b))).state = .run)

/-- The measurement of an encoder without its origin, in 2^-32 WU (R58, R60). -/
def State.measRaw (s : State) (n : Nat) (v : Int) : Int :=
  let p := pgENC n
  s.rgI p Reg.ENC.C2WU * s.rgI p Reg.ENC.COUNT +
    (if s.encMode n = 0 then 0 else v * (s.cycle - (s.encOf n).latch : Nat))

/-- A position in signed 64.32, which wraps (R58, R59). -/
def fix96 (x : Int) : Int := sgn 96 (enc2 96 x)

/-- The measured position of source A or B (R58, R60), held in 64.32. -/
def State.meas (s : State) (d : Nat) (b : Bool) : Int :=
  let x := s.obsOf d
  fix96 ((if b then x.orgB else x.orgA) + s.measRaw (s.srcEnc d b) x.v)

/-- Rebase: the source's ORIGIN such that it measures `m` now (R61, R62). -/
def State.rebase (s : State) (d : Nat) (b : Bool) (m : Int) : State :=
  let x := s.obsOf d
  let o := fix96 (m - s.measRaw (s.srcEnc d b) x.v)
  s.setObs d (if b then { x with orgB := o } else { x with orgA := o })

/-- OSTAT fields: MODE, DIR, DEGRADED, USED. -/
def State.obsMode (s : State) (d : Nat) : Nat := s.fl (pgOBS d) Reg.OBS.OSTAT 1 0
def State.obsUsed (s : State) (d : Nat) : Nat := s.fl (pgOBS d) Reg.OBS.OSTAT 5 4
def State.setMode (s : State) (d m : Nat) : State := s.setFl (pgOBS d) Reg.OBS.OSTAT 1 0 m
def State.setUsed (s : State) (d u : Nat) (deg : Bool) : State :=
  (s.setFl (pgOBS d) Reg.OBS.OSTAT 5 4 u).setFl (pgOBS d) Reg.OBS.OSTAT 3 3 (b2n deg)

/-- The pair term is renewed from the two measurements (R61 and the mode table). -/
def State.renewPair (s : State) (d : Nat) : State :=
  s.setObs d { s.obsOf d with pairoff := fix96 (s.meas d false - s.meas d true) }

/-- TRACK ends: COAST (mode table). DESIGN CHOICE (log entry 20): USED and DEGRADED then read 0. -/
def State.toCoast (s : State) (d : Nat) : State :=
  let p := pgOBS d
  ((((s.setMode d 1).setUsed d 0 false).setObs d { s.obsOf d with a := 0, coast := 0 }).logOnly p 0x120 0).happen p 2 0

/-- A source is taken into use in COAST or on entry to RUN, measuring `m` (mode table). -/
def State.takeSources (s : State) (d : Nat) (m : Int) : State :=
  let a := s.usableSrc d false
  let b := s.usableSrc d true
  let s := if a then s.rebase d false m else s
  let s := if b then s.rebase d true m else s
  let s := s.setObs d { s.obsOf d with mismatch := false }
  if a && b then ((s.setMode d 0).setUsed d 3 false).renewPair d
  else (s.setMode d 0).setUsed d (if a then 1 else 2) (s.paired d)

/-- What the observer last saw of its sources (R62). -/
def State.noteSources (s : State) (d : Nat) : State :=
  s.setObs d { s.obsOf d with
    hasA := s.usableSrc d false, hasB := s.usableSrc d true,
    runsA := (s.encOf (s.srcEnc d false)).runs, runsB := (s.encOf (s.srcEnc d true)).runs }

/-- Source A or B entered RUN since the last update, or left and returned (R62). -/
def State.entered (s : State) (d : Nat) (b : Bool) : Bool :=
  let x := s.obsOf d
  s.usableSrc d b &&
    (!(if b then x.hasB else x.hasA) || (s.encOf (s.srcEnc d b)).runs != (if b then x.runsB else x.runsA))

/-- The mode table's rows for TRACK (R60 to R62): losses, returns, mismatch. -/
def State.trackSources (s : State) (d : Nat) : State :=
  let p := pgOBS d
  let x := s.obsOf d
  let a := s.usableSrc d false
  let b := s.usableSrc d true
  let used := s.obsUsed d
  let useA := used == 1 || used == 3
  let useB := used == 2 || used == 3
  if (useA && a) = false && (useB && b) = false then
    if a || b then
      let s := s.setUsed d (if a then 1 else 2) (s.paired d)
      if s.entered d (!a) then s.rebase d (!a) x.p else s
    else s.toCoast d
  else
    -- a source in use that left and returned is rebased
    let s := if useA && a && s.entered d false then
        s.rebase d false (if useB && b && !s.entered d true then s.meas d true else x.p) else s
    let s := if useB && b && s.entered d true then
        s.rebase d true (if useA && a then s.meas d false else x.p) else s
    if used = 3 then
      if a && b then
        let s := if s.entered d false || s.entered d true then s.renewPair d else s
        let y := s.obsOf d
        if (s.rg p Reg.OBS.MISMATCH : Int) * 2 ^ 32 < (fix96 (s.meas d false - s.meas d true - y.pairoff)).natAbs then
          let s := (s.setUsed d (if s.fb p Reg.OBS.SRC 18 then 2 else 1) true).setObs d { y with mismatch := true }
          (((s.sat p Reg.OBS.MISCNT 1).err p 0 0x122 0).happen p 4 0)
        else s
      else (s.setUsed d (if a then 1 else 2) (s.paired d)).setObs d { s.obsOf d with mismatch := false }
    else if s.paired d then
      let o := used == 1
      if s.entered d o then
        let s := (s.rebase d o (s.meas d (!o))).renewPair d
        if x.mismatch then s else s.setUsed d 3 false
      else s
    else s

/-- The gate width in 2^-32 WU: GATE × abs(C2WU of source A), computed when GATE or the source is applied (R64). -/
def State.gateWidth (s : State) (d : Nat) (now : Bool) : State :=
  let p := pgOBS d
  let x := s.obsOf d
  let k := (s.fl p Reg.OBS.GATE 7 0, s.srcEnc d false)
  if now || x.widthOf != k then
    s.setObs d { x with widthOf := k, width := k.1 * (s.rgI (pgENC k.2) Reg.ENC.C2WU).natAbs }
  else s

/-- The backlash gate forms WPOS_S from WPOS_R (R64). -/
def State.backlash (s : State) (d : Nat) (r : Int) : State :=
  let p := pgOBS d
  let s := (s.gateWidth d false).setRgI p Reg.OBS.WPOS_R r
  let x := s.obsOf d
  let w : Int := x.width
  if s.fb p Reg.OBS.OSTAT 2 = false then
    if x.turn * 2 ^ 32 - w ≤ r * 2 ^ 32 then
      let h := max x.turn r
      (s.setObs d { x with turn := h }).setRgI p Reg.OBS.WPOS_S h
    else
      ((((s.setObs d { x with turn := r }).setRgI p Reg.OBS.WPOS_S r).setFl p Reg.OBS.OSTAT 2 2 1).sat p
        Reg.OBS.REVCNT 1).happen p 0 0
  else if r * 2 ^ 32 ≤ x.turn * 2 ^ 32 + w then
    let l := min x.turn r
    (s.setObs d { x with turn := l }).setRgI p Reg.OBS.WPOS_S l
  else
    (((s.setObs d { x with turn := r }).setRgI p Reg.OBS.WPOS_S r).setFl p Reg.OBS.OSTAT 2 2 0).happen p 1 0

/-- π in 2^-200. -/
def piFix : Nat := 5048344754617993871973410141242436836214643421488662971535368

/-- A loop gain in 2^-200 (R59): k1 = 3ωT, k2 = 3(ωT)², k3 = (ωT)³ with T = 4 ns, off by a free value of at most
2^-20 of it. -/
def loopGain (k bw : Nat) : Int :=
  let w := 8 * bw * piFix / 10 ^ 9
  let n := if k = 1 then 3 * w else if k = 2 then 3 * w * w / 2 ^ 200 else w * w * w / 2 ^ 400
  let tol : Int := (n / 2 ^ 20 : Nat)
  n + clamp (-tol) tol (Config.observerGain k bw)

/-- `x / 2^k`, one of its two neighbours where it is no integer: which one is a free value (log entry 12). -/
def looseShr (x : Int) (k : Nat) (up : Bool) : Int :=
  let q := shr x k
  if up ∧ q * (2 ^ k : Nat) ≠ x then q + 1 else q

/-- The loop of R60 for measurement `m`; positions and speed in 2^-32, acceleration in 2^-48. -/
def State.trackLoop (s : State) (d : Nat) (m : Int) : State :=
  let bw := s.fl (pgOBS d) Reg.OBS.BW 15 0
  let x := s.obsOf d
  let e := fix96 (m - x.p)
  let p := x.p + x.v + looseShr (loopGain 1 bw * e) 200 (Config.tieUp s.fresh)
  let v := x.v + looseShr (x.a * 2 ^ 184 + loopGain 2 bw * e) 200 (Config.tieUp (s.fresh + 1))
  let a := x.a + looseShr (loopGain 3 bw * e) 184 (Config.tieUp (s.fresh + 2))
  s.drawn.drawn.drawn.drawn.setObs d { x with p := fix96 p, v := sgn 64 (enc2 64 v), a := sgn 64 (enc2 64 a) }

/-- SPEED and ACCEL show v and a. -/
def State.showSpeed (s : State) (d : Nat) : State :=
  let x := s.obsOf d
  (s.setRgI (pgOBS d) Reg.OBS.SPEED x.v).setRgI (pgOBS d) Reg.OBS.ACCEL x.a

/-- The measurement m of TRACK (R60). -/
def State.trackMeas (s : State) (d : Nat) : Int :=
  let wa : Int := s.fl (pgOBS d) Reg.OBS.WA 15 0
  match s.obsUsed d with
  | 3 => looseShr (wa * s.meas d false + (0x8000 - wa) * (s.meas d true + (s.obsOf d).pairoff)) 15
      (Config.tieUp (s.fresh + 3))
  | 2 => s.meas d true
  | _ => s.meas d false

/-- OBSERVER_UPDATE (R59 to R64). -/
def execObserverUpdate (dom : Nat) (s : State) : Host.Outcome State Fault Refusal :=
  let p := pgOBS dom
  if s.unitRuns .obs dom = false ∨ s.obsMode dom = 2 then .next s
  else if s.obsMode dom = 3 then
    let x := s.obsOf dom
    -- R387: in FWD, WPOS_S does not decrease when the speed is negative
    let ps := if x.v < 0 ∧ s.fb p Reg.OBS.OSTAT 2 = false then x.ps else fix96 (x.ps + x.v)
    let s := s.setObs dom { x with p := fix96 (x.p + x.v), ps := ps }
    .next ((s.setRgI p Reg.OBS.WPOS_R (shr (x.p + x.v) 32)).setRgI p Reg.OBS.WPOS_S (shr ps 32))
  else
    let s := if s.obsMode dom = 0 then s.trackSources dom
      else if s.usableSrc dom false || s.usableSrc dom true then s.takeSources dom (s.obsOf dom).p else s
    let s := s.noteSources dom
    let x := s.obsOf dom
    let s := if s.obsMode dom = 0 then s.trackLoop dom (s.trackMeas dom)
      else s.setObs dom { x with p := fix96 (x.p + x.v), coast := if x.v = 0 then x.coast else x.coast + 1 }
    let y := s.obsOf dom
    .next ((s.showSpeed dom).backlash dom (shr (fix96 (y.p + y.v * s.fl p Reg.OBS.LEAD 7 0)) 32))

/-- The HALT row of the mode table (R62, R388). -/
def State.obsHalt (s : State) (d : Nat) : State :=
  let p := pgOBS d
  let t := ((s.setObs d { s.obsOf d with v := 0, a := 0 }).showSpeed d).setMode d 2
  (((t.err p 1 0x121 0).happen p 3 0).toFault p).gearLost d

/-- COASTMAX_EXPIRY (R62): HALT. -/
def execCoastmaxExpiry (dom : Nat) (s : State) : Host.Outcome State Fault Refusal :=
  let x := s.obsOf dom
  if s.unitRuns .obs dom ∧ s.obsMode dom = 1 ∧ x.v ≠ 0 ∧ s.rg (pgOBS dom) Reg.OBS.COASTMAX ≤ x.coast then
    .next (s.obsHalt dom)
  else .next s

/-- REPAIR that acts (mode table). -/
def State.repairPair (s : State) (d : Nat) : State :=
  let x := s.obsOf d
  if s.running (pgOBS d) ∧ s.obsMode d = 0 ∧ s.fb (pgOBS d) Reg.OBS.OSTAT 3 ∧ x.mismatch ∧ s.usableSrc d false ∧
      s.usableSrc d true then
    ((s.setObs d { x with mismatch := false }).renewPair d).setUsed d 3 false
  else s

/-- REPAIR (CMD.REPAIR, mode table). -/
def execRepair (dom req : Nat) (s : State) : Host.Outcome State Fault Refusal :=
  .next (s.gateU .obs dom req Reg.OBS.CMD 2 (·.repairPair dom))

/-- A capture of the values of one cycle (R68). -/
def State.snapObs (s : State) (d : Nat) : State :=
  let p := pgOBS d
  let s := (s.setRg64 p Reg.OBS.SNAP_TIME s.cycle).setRg64 p Reg.OBS.SNAP_WPOS_R (s.rg64 p Reg.OBS.WPOS_R)
  let s := (s.setRg64 p Reg.OBS.SNAP_WPOS_S (s.rg64 p Reg.OBS.WPOS_S)).setRg64 p Reg.OBS.SNAP_SPEED
    (s.rg64 p Reg.OBS.SPEED)
  s.setRg64 p Reg.OBS.SNAP_ACCEL (s.rg64 p Reg.OBS.ACCEL)

/-- SNAP (R68): by CMD.SNAP or the SNAP task. -/
def execSnap (dom : Nat) (byTask : Bool) (req : Nat) (s : State) : Host.Outcome State Fault Refusal :=
  if byTask then
    match s.takeTrig (pgOBS dom) 0 with
    | none => .next s
    | some (_, s) => .next (if dom < 4 then s.snapObs dom else s)
  else .next (s.gateU .obs dom req Reg.OBS.CMD 1 (·.snapObs dom))

/-- Entry of an observer page to STATE RUN (R61, R63, mode table). With SRC.TLK = 1 no speed has been received yet, so the
domain stands where it is until the first frame. DESIGN CHOICE (log entry 20): entry to RUN with no usable source enters
COAST without its log entry and IST bit, which the mode table does not name for that row. -/
def State.obsOnRun (s : State) (d : Nat) : State :=
  let p := pgOBS d
  if s.fb p Reg.OBS.SRC 17 then
    let x := { s.obsOf d with p := s.wposR d * 2 ^ 32, ps := s.wposS d * 2 ^ 32, v := 0, a := 0 }
    (((s.setObs d x).showSpeed d).setMode d 3).setUsed d 0 false
  else
    let ps := s.rgI p Reg.OBS.PRESET
    let x : Obs := { Obs.reset with p := ps * 2 ^ 32, ps := ps * 2 ^ 32, turn := ps }
    let s := (s.setObs d x).setEpoch d (s.rg p Reg.OBS.EPOCH + 1)
    let s := if s.usableSrc d false || s.usableSrc d true then s.takeSources d x.p
      else (s.setMode d 1).setUsed d 0 false
    let s := (((s.noteSources d).gateWidth d true).showSpeed d).setFl p Reg.OBS.OSTAT 2 2 0
    ((s.setRgI p Reg.OBS.WPOS_R ps).setRgI p Reg.OBS.WPOS_S ps).gearLost d

/-- Block-specific write rules of an observer page: BW's range (R59) and CMD. -/
def State.obsOnWrite (s : State) (d o v : Nat) : Option State :=
  let p := pgOBS d
  if o = Reg.OBS.BW ∧ (bits v 15 0 < 10 ∨ 20000 < bits v 15 0) then
    some ((s.writeWord p o (if bits v 15 0 < 10 then 10 else 20000)).err p 2 0x123 o)
  else if o = Reg.OBS.CMD then
    let s := if bit v 1 then s.repairPair d else s
    some (if bit v 0 then s.snapObs d else s)
  else none

/-! ## Encoder emulation -/

/-- An emulation channel. -/
def State.emuOf (s : State) (n : Nat) : EmuCh := Tbl.getD s.emu n ⟨0, 0, 0⟩

/-- The state with another emulation channel. -/
def State.setEmu (s : State) (n : Nat) (x : EmuCh) : State := { s with emu := Tbl.put s.emu n x }

/-- The position an emulation channel follows (R65). -/
def State.emuPos (s : State) (n : Nat) : Int :=
  let c := s.rg pgEMU (Reg.EMU.chCFG n)
  if bit c 3 then s.wposR (bits c 2 1) else s.wposS (bits c 2 1)

/-- The target count of an emulation channel (R65). -/
def State.emuTarget (s : State) (n : Nat) : Int :=
  fdiv ((s.emuPos n - (s.emuOf n).origin) * 2 ^ 32) (s.rg64 pgEMU (Reg.EMU.chPITCH n))

/-- The Z level of a count (R67). -/
def State.emuZ (s : State) (n : Nat) (c : Int) : Nat :=
  let z := s.rg pgEMU (Reg.EMU.chZPER n)
  if z = 0 then 0 else b2n (decide (c % (z : Int) = 0))

/-- Levels of the A, B and Z pins of an emulation channel (R65, R67). -/
def State.emuPins (s : State) (n ph : Nat) (c : Int) : State :=
  let a := b2n (ph == 1 || ph == 2)
  let b := b2n (ph == 2 || ph == 3)
  let inv := s.fb pgEMU (Reg.EMU.chCFG n) 4
  ((s.pin pgEMU (n * 3) (if inv then b else a)).pin pgEMU (n * 3 + 1) (if inv then a else b)).pin pgEMU (n * 3 + 2)
    (s.emuZ n c)

/-- PITCH below 1.0 WU or MINEDGE below 10 (R67). -/
def State.emuBad (s : State) (n : Nat) : Bool :=
  decide (s.rg64 pgEMU (Reg.EMU.chPITCH n) < 2 ^ 32) || decide (s.fl pgEMU (Reg.EMU.chMINEDGE n) 15 0 < 10)

/-- A channel whose values in force are out of range does not stay enabled (R67; log entry 21). -/
def State.emuCheck (s : State) (n : Nat) : State :=
  if s.fb pgEMU (Reg.EMU.chCFG n) 0 && s.emuBad n then (s.setFl pgEMU (Reg.EMU.chCFG n) 0 0 0).errBit pgEMU 1 else s

/-- A write of EN = 1: refused for PITCH below 1.0 WU or MINEDGE below 10 (R65, R67). DESIGN CHOICE (log entry 21): the
channel starts at phase 0, A and B low, and its MINEDGE spacing starts anew. -/
def State.emuEnable (s : State) (n : Nat) : State :=
  if s.emuBad n then s.errBit pgEMU 1
  else if s.fb pgEMU (Reg.EMU.chCFG n) 0 then s
  else
    let t := (s.setFl pgEMU (Reg.EMU.chCFG n) 0 0 1).setRg pgEMU (Reg.EMU.chOUTCNT n) 0
    (t.setEmu n ⟨t.emuPos n, 0, 0⟩).emuPins n 0 0

/-- The pins of an enabled channel follow its registers (R65, R67). -/
def State.emuShow (s : State) (n : Nat) : State :=
  if s.fb pgEMU (Reg.EMU.chCFG n) 0 then
    s.emuPins n (s.emuOf n).phase (sgn 32 (s.rg pgEMU (Reg.EMU.chOUTCNT n)))
  else s

/-- EMU_ENABLE (R65, R67). -/
def execEmuEnable (ch req : Nat) (s : State) : Host.Outcome State Fault Refusal :=
  .next (if ch < 8 then s.gateH pgEMU req (Reg.EMU.chCFG ch) (s.rg pgEMU (Reg.EMU.chCFG ch) ||| 1) (·.emuEnable ch) else s)

/-- EMU_STEP (R65 to R67): one quadrature step toward the target, or the overrun. DESIGN CHOICE (log entry 21): OUTCNT
wraps as signed 32-bit beyond 2^31 and the target does not, so that every later step is an overrun. -/
def execEmuStep (ch : Nat) (s : State) : Host.Outcome State Fault Refusal :=
  if ¬ ch < 8 ∨ s.running pgEMU = false ∨ s.fb pgEMU (Reg.EMU.chCFG ch) 0 = false then .next s
  else
    let x := s.emuOf ch
    let c := sgn 32 (s.rg pgEMU (Reg.EMU.chOUTCNT ch))
    let t := s.emuTarget ch
    if (s.fl pgEMU (Reg.EMU.chLAGMAX ch) 7 0) < (t - c).natAbs then
      let u := (s.setRg pgEMU (Reg.EMU.chOUTCNT ch) (enc2 32 t)).sat pgEMU (Reg.EMU.chOVRCNT ch) 1
      .next ((u.err pgEMU 0 0x140 ch).emuPins ch x.phase t)
    else if t = c ∨ s.cycle < x.lastEdge + s.fl pgEMU (Reg.EMU.chMINEDGE ch) 15 0 then .next s
    else
      let up := decide (c < t)
      let c' := if up then c + 1 else c - 1
      let ph := (x.phase + (if up then 1 else 3)) % 4
      .next (((s.setRg pgEMU (Reg.EMU.chOUTCNT ch) (enc2 32 c')).setEmu ch { x with lastEdge := s.cycle, phase := ph }).emuPins
        ch ph c')

/-- Writes of EMU channel CFG: S fields as such, EN by R65 and R67. -/
def State.emuOnWrite (s : State) (o v : Nat) : Option State :=
  let n := (o - 0x100) / 0x20
  if 0x100 ≤ o ∧ n < 8 ∧ o = Reg.EMU.chCFG n then
    let t := s.writeS pgEMU o v (classMask pgEMU o (·.s))
    some ((if bit v 0 then t.emuEnable n else t.setFl pgEMU o 0 0 0).emuShow n)
  else if 0x100 ≤ o ∧ n < 8 then some (((s.writeWord pgEMU o v).emuCheck n).emuShow n)
  else none

/-- Every channel after stored writes took effect: its range and its pins. -/
def State.emuShowAll (s : State) : State := (List.range 8).foldl (fun t n => (t.emuCheck n).emuShow n) s

end Sys2Proof.Machine
end

