-- ==== Sys2Proof/Machine/Sdf.lean ====
section
/-!
DEFINITION. Sigma-delta channels SDF0 to SDF15 (17 R358 to R367): decimation, detectors, output entries.
-/

namespace Sys2Proof.Machine

/-- The page of channel `n`. -/
def pgSDF (n : Nat) : Nat := 46 + n

/-- A channel. -/
def State.sd (s : State) (n : Nat) : Sdf := Tbl.getD s.sdf n Sdf.reset

/-- In DRAIN the output in progress is delivered (R367). -/
def State.sdDrains (s : State) (n : Nat) : Bool :=
  let g := s.page (46 + n)
  decide (n < 16) && g.state == .drain && s.works (46 + n)

/-- The state with another channel. -/
def State.setSd (s : State) (n : Nat) (x : Sdf) : State := { s with sdf := Tbl.put s.sdf n x }

/-- The B fields of a channel in force. -/
def State.sdForce (s : State) (n : Nat) : SdfSet :=
  let p := pgSDF n
  { sel := s.rg p Reg.SDF.SEL, outctl := s.rg p Reg.SDF.OUTCTL, rmswin := s.rg p Reg.SDF.RMSWIN,
    envdec := s.rg p Reg.SDF.ENVDEC, lim := s.rg p Reg.SDF.LIM, limhi := s.rg p Reg.SDF.LIMHI,
    limlo := s.rg p Reg.SDF.LIMLO, hyst := s.rg p Reg.SDF.HYST }

/-- The settings of the output in progress: those in force as it began (R35, R362). -/
def State.sdSet (s : State) (n : Nat) : SdfSet := (s.sd n).took.getD (s.sdForce n)

/-- SEL.PRESET of the output in progress. -/
def State.sdPreset (s : State) (n : Nat) : Nat := bits (s.sdSet n).sel 1 0

/-- log2 of the sinc decimation R of a preset (R361). -/
def sincLog (k : Nat) : Nat := 3 + 2 * k

/-- FIR taps L and UNSETTLED outputs N of a preset (R361). -/
def firTaps (k : Nat) : Nat := 16 * (k + 1)
def unsettled (k : Nat) : Nat := 8 * (k + 1) + 1

/-- One modulator bit through the three integrators (R358, R360). -/
def Sdf.integrate (x : Sdf) (b : Bool) : Sdf :=
  let m := 2 ^ 64
  let i1 := (x.i1 + (if b then 1 else m - 1)) % m
  let i2 := (x.i2 + i1) % m
  { x with i1 := i1, i2 := i2, i3 := (x.i3 + i2) % m }

/-- The three differentiators at a sinc output: the true output y (R360). -/
def Sdf.differentiate (x : Sdf) : Sdf × Int :=
  let m := 2 ^ 64
  let d1 := (x.i3 + m - x.c1) % m
  let d2 := (d1 + m - x.c2) % m
  let d3 := (d2 + m - x.c3) % m
  ({ x with c1 := x.i3, c2 := d1, c3 := d2 }, sgn 64 d3)

/-- The clamp of R360 and R361. -/
def clamp24 (x : Int) : Int × Bool := (clamp (-8388607) 8388607 x, decide (x < -8388607) || decide (8388607 < x))

/-- y normalised to x (R360). -/
def normalise (k : Nat) (y : Int) : Int × Bool :=
  let r := 3 * sincLog k
  clamp24 (if r ≤ 23 then y * (2 ^ (23 - r) : Nat) else shr y (r - 23))

/-- One sinc output of `bs` into the FIR's delay line. -/
def Sdf.sinc (x : Sdf) (k : Nat) (bs : List Bool) : Sdf × Bool :=
  let (x, y) := (bs.foldl Sdf.integrate x).differentiate
  let (v, sat) := normalise k y
  ({ x with line := (v :: x.line).take (firTaps k) }, sat)

/-- FIR coefficient `j` of a preset: free, symmetric (R361). -/
def firTap (k j : Nat) : Int := Config.firCoef k (min j (firTaps k - 1 - j))

/-- The FIR output with DC gain 1.0, rounded (R361); at a tie `up` decides (log entry 12). -/
def Sdf.fir (x : Sdf) (k : Nat) (up : Bool) : Int × Bool :=
  let ks := List.range (firTaps k)
  let total := ks.foldl (fun t j => t + firTap k j) 0
  let tap := fun j => if 0 < total then firTap k j else 1
  let total := if 0 < total then total else (firTaps k : Int)
  let num := ks.foldl (fun t j => t + tap j * x.line.getD j 0) 0
  clamp24 (nearest num total up)

/-- The filter restarts from zero state (R362, R364). -/
def State.sdRestart (s : State) (n : Nat) : State :=
  let x := s.sd n
  (s.setSd n { Sdf.reset with
    seq := x.seq, qcount := x.qcount, waiting := x.waiting, dropPrev := x.dropPrev, maxFresh := x.maxFresh,
    minFresh := x.minFresh, overHeld := x.overHeld, underHeld := x.underHeld, stuck := x.stuck,
    stuckLevel := x.stuckLevel, stuckAt := x.stuckAt, halted := x.halted }).setRg (pgSDF n) Reg.SDF.ENV 0

/-- An apply trigger at a channel's page (R34): the output in progress keeps the settings it began with (R35, R362). -/
def State.sdApply (s : State) (n : Nat) : State := if (s.page (pgSDF n)).pend then s.applySet (pgSDF n) else s

/-- The next output begins with the settings in force; a change of SEL restarts the filter (R362). -/
def State.sdBegin (s : State) (n : Nat) (old : SdfSet) : State :=
  let t := if (s.sdForce n).sel = old.sel then s else s.sdRestart n
  t.setSd n { t.sd n with took := some (s.sdForce n) }

/-- The 16-byte entry of an output (R363). -/
def sdfEntry (v : Int) (flags ch seq time : Nat) : List Byte :=
  leBytes 4 (enc2 32 v) ++ leBytes 1 flags ++ leBytes 1 ch ++ leBytes 2 seq ++ leBytes 8 time

/-- An entry is posted; with DROPPREV when the entry before it was dropped (R363). -/
def State.sdPost (s : State) (n : Nat) (e : List Byte) : State × Bool :=
  let x := s.sd n
  let e := if x.dropPrev then e.take 4 ++ [e.getD 4 0 ||| 8#8] ++ e.drop 5 else e
  match s.post (pgSDF n) 0 [e] with
  | (t, true) => (t.setSd n { t.sd n with dropPrev := false }, true)
  | (t, false) => (t, false)

/-- The entry that waited for room is posted or dropped (R363). -/
def State.sdWaiting (s : State) (n : Nat) : State :=
  let p := pgSDF n
  match (s.sd n).waiting with
  | none => s
  | some e =>
    match s.sdPost n e with
    | (t, true) => t.setSd n { t.sd n with waiting := none }
    | (t, false) =>
      ((t.setSd n { t.sd n with waiting := none, dropPrev := true }).sat p Reg.SDF.DROPCNT 1).err p 0 0x260 0

/-- Every QDIV-th output goes to the OUT queue; whether its entry carries DROPPREV (R363). -/
def State.sdQueue (s : State) (n : Nat) (set : SdfSet) (e : List Byte) : State × Bool :=
  let s := s.sdWaiting n
  if bit set.outctl 16 = false then (s, false)
  else
    let x := s.sd n
    if x.qcount + 1 < bits set.outctl 15 0 then (s.setSd n { x with qcount := x.qcount + 1 }, false)
    else
      match (s.setSd n { x with qcount := 0 }).sdPost n e with
      | (t, true) => (t, x.dropPrev)
      | (t, false) => (t.setSd n { t.sd n with waiting := some e }, x.dropPrev)

/-- Peak, envelope and RMS of a settled output (R364). -/
def State.sdDetect (s : State) (n : Nat) (set : SdfSet) (v : Int) : State :=
  let p := pgSDF n
  let x := s.sd n
  let hi := sgn 32 (s.rg p Reg.SDF.PKMAX)
  let lo := sgn 32 (s.rg p Reg.SDF.PKMIN)
  let s := s.setRg p Reg.SDF.PKMAX (enc2 32 (if x.maxFresh then v else max hi v))
  let s := s.setRg p Reg.SDF.PKMIN (enc2 32 (if x.minFresh then v else min lo v))
  let env := s.rg p Reg.SDF.ENV
  let s := s.setRg p Reg.SDF.ENV (max v.natAbs (env - env / 2 ^ bits set.envdec 4 0))
  let w := 2 ^ bits set.rmswin 4 0
  let sum := x.rmsSum + v.natAbs * v.natAbs
  let x := { x with maxFresh := false, minFresh := false }
  if x.rmsCnt + 1 < w then s.setSd n { x with rmsSum := sum, rmsCnt := x.rmsCnt + 1 }
  else ((s.setSd n { x with rmsSum := 0, rmsCnt := 0 }).setRg p Reg.SDF.RMS (isqrt (sum / (x.rmsCnt + 1)))).setIst p 2

/-- The comparator (R365). -/
def State.sdLimit (s : State) (n : Nat) (set : SdfSet) (v : Int) : State :=
  let p := pgSDF n
  if bit set.lim 2 = false then s
  else
    let w : Int := match bits set.lim 1 0 with
      | 0 => v
      | 1 => s.rg p Reg.SDF.ENV
      | _ => s.rg p Reg.SDF.RMS
    let hi := sgn 32 set.limhi
    let lo := sgn 32 set.limlo
    let h : Int := set.hyst
    let x := s.sd n
    let above := decide (hi ≤ w)
    let under := decide (w ≤ lo)
    let s := s.setSd n { x with
      overHeld := above || (x.overHeld && decide (hi - h ≤ w)),
      underHeld := under || (x.underHeld && decide (w ≤ lo + h)) }
    let s := if above && !x.overHeld then s.happen p 0 n else s
    if under && !x.underHeld then s.happen p 1 n else s

/-- SDFnCLK toggles: EN = 1, its own clock, not stopped by DRAIN (R358, R367). -/
def State.sdToggles (s : State) (n : Nat) : Bool :=
  (s.page (pgSDF n)).en && !(s.sd n).halted && s.fl (pgSDF n) Reg.SDF.CFG 11 8 == n

/-- SDFnCLK, pin 0, as it stands: recorded as 1 while it toggles, 0 while it is low (R358). -/
def State.sdClkShow (s : State) (n : Nat) (old : State) : State :=
  if s.sdToggles n == old.sdToggles n then s else s.pin (pgSDF n) 0 (b2n (s.sdToggles n))

/-- The channel's clock stops, or may run again (R367). -/
def State.sdHalt (s : State) (n : Nat) (b : Bool) : State := (s.setSd n { s.sd n with halted := b }).sdClkShow n s

/-- The clock a channel uses runs, and the channel has not stopped (R358, R367). -/
def State.sdClocked (s : State) (n : Nat) : Bool := s.sdToggles (s.fl (pgSDF n) Reg.SDF.CFG 11 8) && !(s.sd n).halted

/-- The input has held the stuck level: the last of these bits, taken since the condition was entered, are at it (R359). -/
def State.sdStuck (s : State) (n : Nat) (bs : List Bool) : Bool :=
  let x := s.sd n
  let m := (s.cycle - x.stuckAt) / (2 * (s.fl (pgSDF (s.fl (pgSDF n) Reg.SDF.CFG 11 8)) Reg.SDF.CFG 4 0 + 1))
  x.stuck && (bs.drop (bs.length - m)).all (· == x.stuckLevel)

/-- SDF_OUTPUT (R360 to R365): one output from its D modulator bits, oldest first; the next begins. -/
def execSdfOutput (ch : Nat) (bits : List Bool) (s : State) : Host.Outcome State Fault Refusal :=
  let p := pgSDF ch
  let set := s.sdSet ch
  let k := s.sdPreset ch
  let r := 2 ^ sincLog k
  if (s.unitRuns .sdf ch = false ∧ s.sdDrains ch = false) ∨ s.sdClocked ch = false ∨ bits.length ≠ 2 * r then .next s
  else
    let x0 := { s.sd ch with stuck := s.sdStuck ch bits }
    let (x1, sat1) := x0.sinc k (bits.take r)
    let (x2, sat2) := x1.sinc k (bits.drop r)
    let (v, sat3) := x2.fir k (Config.tieUp s.fresh)
    let last := s.sdDrains ch
    let s := s.drawn
    let sat := sat1 || sat2 || sat3
    let fresh := decide (x2.since < unsettled k)
    let flags := b2n fresh + 2 * b2n sat + 4 * b2n x2.stuck
    let seq := x2.seq
    let s := s.setSd ch { x2 with since := x2.since + 1, seq := (seq + 1) % 65536 }
    let s := s.setRg p Reg.SDF.LAST (enc2 32 v)
    let s := (s.setRg64 p Reg.SDF.LTIME s.cycle).inc p Reg.SDF.OUTCNT 1
    let s := (if sat then s.sat p Reg.SDF.SATCNT 1 else s).sdTake ch v (decide (flags = 0))
    let s := if x2.since = unsettled k then s.happen p 4 ch else s
    let s := if fresh then s else (s.sdDetect ch set v).sdLimit ch set v
    let (s, prev) := s.sdQueue ch set (sdfEntry v flags ch seq s.cycle)
    let s := s.setRg p Reg.SDF.LSTAT (flags + 8 * b2n prev + seq * 65536)
    let s := (s.atBoundary p (·.sdApply ch)).sdBegin ch set
    .next (if last then s.sdHalt ch true else s)

/-- STUCK (R359, R366): the input held one level for `clocks` modulator clocks of a clock that runs. -/
def execStuck (ch : Nat) (level : Bool) (clocks : Nat) (s : State) : Host.Outcome State Fault Refusal :=
  let p := pgSDF ch
  let x := s.sd ch
  if s.unitRuns .sdf ch ∧ s.sdClocked ch = true ∧ s.rg p Reg.SDF.STUCKN ≤ clocks ∧ x.stuck = false then
    let t := ((s.setSd ch { x with stuck := true, stuckLevel := level, stuckAt := s.cycle }).sat p Reg.SDF.STUCKCNT 1).err p 1 0x261 0
    .next ((t.happen p 3 ch).violate p 0x261)
  else .next s

/-- A read of PKMAX or PKMIN returns the value, clears the field (R7) and restarts it from the next output (R364). -/
def State.peakRead (s : State) (n : Nat) (max : Bool) : State :=
  let p := pgSDF n
  let x := s.sd n
  let o := if max then Reg.SDF.PKMAX else Reg.SDF.PKMIN
  let t := { s with readData := s.rg p o }.setRg p o 0
  t.setSd n (if max then { x with maxFresh := true } else { x with minFresh := true })

/-- PEAK_READ (R364): a refused read returns 0 without the side effect (R42). -/
def execPeakRead (ch : Nat) (max : Bool) (req : Nat) (s : State) : Host.Outcome State Fault Refusal :=
  let p := pgSDF ch
  if ¬ ch < 16 ∨ s.reaches req = false then .next { s with readData := 0 }
  else if s.readRefused p req then .next { s with readData := 0 }
  else .next (s.peakRead ch max)

/-- Entry of a channel to STATE RUN (R362, R367). -/
def State.sdOnRun (s : State) (n : Nat) : State :=
  let p := pgSDF n
  let s := ((s.sdRestart n).setSd n { (s.sdRestart n).sd n with qcount := 0, waiting := none, dropPrev := false })
  let s := (s.sdHalt n false).atBoundary p (·.sdApply n)
  let s := s.setSd n { s.sd n with took := some (s.sdForce n) }
  if s.fb p Reg.SDF.OUTCTL 16 ∧ s.portEsize p 0 ≠ some 16 then (s.err p 3 0x263 0).toFault p else s

/-- A value outside a register's range (17, SDF registers). -/
def sdfBad (o v : Nat) : Bool :=
  (o == Reg.SDF.CFG && (decide (bits v 4 0 < 4) || decide (24 < bits v 4 0))) ||
    (o == Reg.SDF.OUTCTL && bits v 15 0 == 0) ||
    (o == Reg.SDF.RMSWIN && (decide (bits v 4 0 < 4) || decide (16 < bits v 4 0))) ||
    (o == Reg.SDF.ENVDEC && (decide (bits v 4 0 < 1) || decide (24 < bits v 4 0))) ||
    (o == Reg.SDF.LIM && bits v 1 0 == 3) ||
    ((o == Reg.SDF.LIMHI || o == Reg.SDF.LIMLO) && (decide (sgn 32 v < -2 ^ 23) || decide (2 ^ 23 ≤ sgn 32 v))) ||
    (o == Reg.SDF.STUCKN && (decide (v < 64) || decide (2 ^ 20 < v)))

/-- Writes with a rule of their own: values out of range are ignored (17, SDF registers). -/
def State.sdOnWrite (s : State) (n o v : Nat) : Option State :=
  if sdfBad o v then some (s.err (pgSDF n) 2 0x262 o)
  else if o = Reg.SDF.CFG then some ((s.writeWord (pgSDF n) o v).sdClkShow n s)
  else none

end Sys2Proof.Machine
end

