-- ==== Sys2Proof/Machine/Scheduler.lean ====
section
/-!
DEFINITION. The position scheduler PSC (04 R69 to R85): mark table, arming, evaluation, deferral, disarm.
-/

namespace Sys2Proof.Machine

abbrev pgPSC : Nat := 28

/-- A mark. -/
def State.mark (s : State) (m : Nat) : Mark := Tbl.getD s.marks m Mark.reset

/-- The state with another mark. -/
def State.setMark (s : State) (m : Nat) (x : Mark) : State := { s with marks := Tbl.put s.marks m x }

/-- The effective period E in 2^-24 WU; 0 for a one-shot mark (R71). -/
def Mark.e (x : Mark) : Nat := (x.div + 1) * x.period

/-- The integer part of the target (R74). -/
def Mark.tInt (x : Mark) : Int := shr x.target 24

/-- A disarmed mark (R74). -/
def Mark.disarm (x : Mark) : Mark := { x with arm := false, mstate := 0, arming := false, deferred := false }

/-- The words of a mark entry as 32-bit reads give them (R71). -/
def Mark.word (x : Mark) (off : Nat) : Nat :=
  let t := enc2 64 x.tInt
  match off with
  | 0x00 => t % 2 ^ 32
  | 0x04 => t / 2 ^ 32
  | 0x08 => x.period % 2 ^ 32
  | 0x0C => x.period / 2 ^ 32 + x.div * 2 ^ 24
  | 0x10 => b2n x.arm + x.dom * 2 + b2n x.pol * 8 + b2n x.ena * 16 + b2n x.enb * 32 + x.echa * 256 + x.echb * 65536
  | 0x14 => (x.target % (2 ^ 24 : Nat)).toNat + x.mstate * 2 ^ 24 + b2n x.late * 2 ^ 26
  | 0x18 => x.index % 2 ^ 32
  | 0x1C => x.index / 2 ^ 32
  | _ => 0

/-- A 32-bit write to a word of the entry, ARM apart (R71). -/
def Mark.setWord (x : Mark) (off v : Nat) : Mark :=
  let t := enc2 64 x.tInt
  let f : Int := x.target % (2 ^ 24 : Nat)
  match off with
  | 0x00 => { x with target := sgn 64 (setBits t 31 0 v) * 2 ^ 24 + f }
  | 0x04 => { x with target := sgn 64 (setBits t 63 32 v) * 2 ^ 24 + f }
  | 0x08 => { x with period := setBits x.period 31 0 v }
  | 0x0C => { x with period := setBits x.period 55 32 v, div := bits v 31 24 }
  | 0x10 => { x with dom := bits v 2 1, pol := bit v 3, ena := bit v 4, enb := bit v 5, echa := bits v 15 8,
                     echb := bits v 23 16 }
  | 0x14 => { x with target := x.tInt * 2 ^ 24 + (v % 2 ^ 24 : Nat) }
  | 0x18 => { x with index := setBits x.index 31 0 v }
  | 0x1C => { x with index := setBits x.index 47 32 v }
  | _ => x

/-- The 32-bit words an access covers. -/
def wordsOf (off v : Nat) (wide : Bool) : List (Nat × Nat) :=
  if wide then [(off, v % 2 ^ 32), (off + 4, v / 2 ^ 32 % 2 ^ 32)] else [(off, v % 2 ^ 32)]

/-- The ARM bit an access writes, if it covers CTRL. -/
def armWritten (off v : Nat) (wide : Bool) : Option Bool :=
  (wordsOf off v wide).findSome? (fun w => if w.1 = 0x10 then some (bit w.2 0) else none)

/-- An accepted write's effect on the entry (R73): disarming and arming included. -/
def Mark.written (x : Mark) (w : MarkWrite) : Mark :=
  let y := (wordsOf w.off w.val w.wide).foldl (fun y e => y.setWord e.1 e.2) x
  match armWritten w.off w.val w.wide with
  | some false => y.disarm
  | some true =>
    if y.period ≠ 0 ∧ y.period < 2 ^ 24 then y
    else { y with arm := true, mstate := 1, late := false, base := y.target, arming := true, deferred := false }
  | none => y

/-- A pending write's effect on mark `m` (R73, R85). -/
def MarkWrite.on (w : MarkWrite) (m : Nat) (x : Mark) : Mark :=
  if w.off = 0x20 then (if bit w.val x.dom then x.disarm else x) else if w.mark = m then x.written w else x

/-- The mark as it will stand once every accepted write has taken effect (R71). -/
def State.markSoon (s : State) (m : Nat) : Mark := s.markWrites.foldl (fun x w => w.on m x) (s.mark m)

/-- A write that reaches the mark table: accepted or refused (R71, R72). -/
def State.markWrite (s : State) (m off v : Nat) (wide : Bool) : State :=
  let x := s.markSoon m
  let w : MarkWrite := ⟨s.cycle, m, off, v, wide⟩
  let arm := armWritten off v wide
  if x.arm ∧ arm ≠ some false then s.err pgPSC 1 0x150 m
  else
    let y := x.written w
    let t := { s with markWrites := s.markWrites ++ [w] }
    if arm = some true ∧ y.arm = false then t.err pgPSC 2 0x152 m else t

/-- MARK_WRITE (R71, R72): an access of the mark table window, under the PSC page's OWNER. -/
def execMarkWrite (mark off value : Nat) (wide : Bool) (req : Nat) (s : State) : Host.Outcome State Fault Refusal :=
  .next (if mark < 2048 ∧ off < 32 then (s.mirror (0x260000 + mark * 32 + off) wide value req).gate pgPSC req
    (mark * 32 + off) (·.markWrite mark off value wide) else s)

/-- NEXTd and ARMSTAT follow the marks (PSC registers). -/
def State.pscShow (s : State) : State :=
  let armed := s.marks.filter (fun e => e.2.mstate != 0)
  let next := fun (d : Nat) => s.marks.foldl (fun (a : Int) e =>
    if e.2.mstate = 1 ∧ e.2.dom = d ∧ e.2.tInt < a then e.2.tInt else a) (2 ^ 63 - 1)
  let t := s.setRg pgPSC Reg.PSC.ARMSTAT armed.length
  (((t.setRgI pgPSC Reg.PSC.NEXT0 (next 0)).setRgI pgPSC Reg.PSC.NEXT1 (next 1)).setRgI pgPSC Reg.PSC.NEXT2
    (next 2)).setRgI pgPSC Reg.PSC.NEXT3 (next 3)

/-- One pending write takes effect. -/
def State.markEffect (s : State) (w : MarkWrite) : State :=
  if w.off = 0x20 then { s with marks := s.marks.map (fun (e : Nat × Mark) => (e.1, w.on e.1 e.2)) }
  else s.setMark w.mark ((s.mark w.mark).written w)

/-- MARK_WRITE_EFFECT (R73): accepted writes, in order, from the second cycle on. DESIGN CHOICE (log entry 22): in any
STATE of the page, also where no evaluation takes place. -/
def execMarkWriteEffect (s : State) : Host.Outcome State Fault Refusal :=
  let due := s.markWrites.filter (fun w => decide (w.at_ + 2 ≤ s.cycle))
  let t := due.foldl State.markEffect s
  .next { t with markWrites := s.markWrites.filter (fun w => !decide (w.at_ + 2 ≤ s.cycle)) }.pscShow

/-- `n` equal error events at once: ERR bit, ERRCNT, log (R29, R39). -/
def State.errMany (s : State) (p b code ctx n : Nat) : State :=
  let t := (List.range (min n 16)).foldl (fun t _ => t.err p b code ctx) s
  let g := t.page p
  t.setPage p { g with errcnt := satAdd 32 g.errcnt (n - 16), lost := satAdd 16 g.lost (n - 16) }

/-- A mark was late `n` times (R75). -/
def State.markLate (s : State) (m n : Nat) : State :=
  if n = 0 then s
  else
    let x := s.mark m
    let t := (s.setMark m { x with late := true }).sat pgPSC (Reg.PSC.LATECNT0 + 4 * x.dom) n
    ((t.errMany pgPSC 0 0x151 m n).setIst pgPSC 0).setRg pgPSC Reg.PSC.LASTLATE (m + x.dom * 2 ^ 12)

/-- The number k of the first grid point at or above the base whose integer part exceeds `w` (R74). -/
def Mark.nextK (x : Mark) (w : Int) : Nat :=
  let d := (w + 1) * 2 ^ 24 - x.base
  if d ≤ 0 then 0 else (d.toNat + x.e - 1) / x.e

/-- The grid number of the point in TARGET. -/
def Mark.k (x : Mark) : Nat := ((x.target - x.base) / x.e).toNat

/-- The mark at grid point `k`. -/
def Mark.toK (x : Mark) (k : Nat) : Mark :=
  { x with target := x.base + k * x.e,
           index := (((x.index : Int) + k - x.k) % (2 ^ 48 : Nat)).toNat }

/-- A periodic mark advances to the next point above the one in TARGET; `fired` says whether that one fired (R74 to
R76). -/
def State.markAdvance (s : State) (m : Nat) (w : Int) (fired : Bool) : State :=
  let x := s.mark m
  let k := max (x.k + 1) (x.nextK w)
  (s.setMark m { x.toK k with deferred := false }).markLate m (k - x.k - b2n fired)

/-- The overshoot of a fire in 2^-24 WU (R78), saturating; below zero it is a free value (log entry 14). -/
def State.overshoot (s : State) (w target : Int) : State × Nat :=
  let d := w * 2 ^ 24 - target
  if d < 0 then (s.drawn, s.draw 40) else (s, min (2 ^ 40 - 1) d.toNat)

/-- A mark fires (R72, R74, R78). -/
def State.markFire (s : State) (m : Nat) : State :=
  let x := s.mark m
  let w := s.wposS x.dom
  let (s, o) := s.overshoot w x.target
  let idx := if x.e = 0 then 0 else x.index
  let s := if x.ena then s.enterNew x.echa 0 idx o 0 (some m) else s
  let s := if x.enb then s.enterNew x.echb 0 idx o 0 (some m) else s
  let s := if x.ena || x.enb then s.inc pgPSC (Reg.PSC.FIRECNT0 + 4 * x.dom) 1 else s
  let s := if x.deferred then
      (((s.sat pgPSC (Reg.PSC.DEFERCNT0 + 4 * x.dom) 1).err pgPSC 3 0x153 m).setIst pgPSC 1) else s
  if x.e ≠ 0 then s.markAdvance m w true
  else if x.pol then s.setMark m { x with mstate := 2, deferred := false }
  else s.setMark m x.disarm

/-- Insertion by ascending TARGET, then mark number (R76). -/
def insertMark (e : Nat × Mark) : List (Nat × Mark) → List (Nat × Mark)
  | [] => [e]
  | f :: t =>
    if e.2.tInt < f.2.tInt ∨ (e.2.tInt = f.2.tInt ∧ e.1 ≤ f.1) then e :: f :: t else f :: insertMark e t

/-- Fires of domain `d` so far in this cycle. -/
def State.firedNow (s : State) (d : Nat) : Nat :=
  match Tbl.get? s.markFires d with
  | some f => if f.at_ = s.cycle then f.count else 0
  | none => 0

/-- The reached marks of domain `d` beyond eight fires in a cycle are deferred; the others are counted (R76). -/
def State.deferRest (s : State) (d : Nat) (l : List (Nat × Mark)) : State :=
  let n := s.firedNow d
  let s := (l.drop (8 - n)).foldl (fun t e => t.setMark e.1 { t.mark e.1 with deferred := true }) s
  { s with markFires := Tbl.put s.markFires d ⟨s.cycle, n + (l.take (8 - n)).length⟩ }

/-- The reached marks of some domains (R76): at most eight of a domain fire in a cycle, the others are deferred. All that
fire do so by ascending TARGET, then mark number, which is the order in which a channel meets them (R334). -/
def State.fireMarks (s : State) (ls : List (Nat × List (Nat × Mark))) : State :=
  let ls := ls.map (fun e => (e.1, e.2.foldr insertMark []))
  let now := ls.flatMap (fun e => e.2.take (8 - s.firedNow e.1))
  let s := ls.foldl (fun t e => t.deferRest e.1 e.2) s
  (now.foldr insertMark []).foldl (fun t e => t.markFire e.1) s

/-- The rows of R74 but the fires, for one mark. DESIGN CHOICE (log entry 22): the re-arming of a SPENT mark is not 'next
armed' (R75), so LATE stays; an arming write clears it. -/
def State.markEval (s : State) (m : Nat) : State :=
  let x := s.mark m
  let w := s.wposS x.dom
  if x.mstate = 2 then
    if w < x.tInt then s.setMark m { x with mstate := 1, arming := false } else s.setMark m { x with arming := false }
  else if x.mstate ≠ 1 then s
  else if x.arming then
    let s := s.setMark m { x with arming := false }
    if w < x.tInt then s
    else if x.e ≠ 0 then s.markAdvance m w false
    else if x.pol then (s.setMark m { x with arming := false, mstate := 2 }).markLate m 1
    else (s.setMark m x.disarm).markLate m 1
  else if w < x.tInt ∧ x.e ≠ 0 ∧ x.pol ∧ 0 < x.index ∧ x.deferred = false ∧ w < shr (x.target - x.e) 24 then
    s.setMark m (x.toK (x.nextK w))
  else s

/-- Marks of domain `d` reached in their evaluation (R74): they fire, or are deferred. -/
def State.reachedMarks (s : State) (d : Nat) : List (Nat × Mark) :=
  s.marks.filter (fun e => e.2.dom == d && e.2.mstate == 1 && !e.2.arming &&
    (e.2.deferred || decide (e.2.tInt ≤ s.wposS d)))

/-- R79: a change of a domain's EPOCH makes the next evaluation of its armed marks an arming evaluation. -/
def State.rearmDomain (s : State) (d : Nat) : State :=
  { s with marks := s.marks.map (fun (e : Nat × Mark) =>
      if e.2.dom = d ∧ e.2.mstate ≠ 0 then (e.1, { e.2 with arming := true, deferred := false }) else e) }

/-- MARK_EVALUATION (R74 to R79): one evaluation of every mark in this cycle. -/
def execMarkEvaluation (s : State) : Host.Outcome State Fault Refusal :=
  if s.running pgPSC = false then .next s
  else
    let doms := [0, 1, 2, 3]
    let s := doms.foldl (fun t d =>
      if Tbl.getD t.markEpochs d 0 ≠ 0 then
        { t.rearmDomain d with markEpochs := Tbl.put t.markEpochs d 0 } else t) s
    let reached := doms.map (fun d => (d, s.reachedMarks d))
    let s := (s.marks.filter (fun e => !(e.2.mstate == 1 && !e.2.arming &&
      (e.2.deferred || decide (e.2.tInt ≤ s.wposS e.2.dom))))).foldl (fun t e => t.markEval e.1) s
    .next (s.fireMarks reached).pscShow

/-- DEFERRED_FIRE (R76): up to eight deferred fires of the domain in a later cycle; none after an increment of EPOCH, whose
next evaluation is an arming evaluation (R79). -/
def execDeferredFire (dom : Nat) (s : State) : Host.Outcome State Fault Refusal :=
  if s.running pgPSC = false ∨ Tbl.getD s.markEpochs dom 0 ≠ 0 then .next s
  else
    .next (s.fireMarks [(dom, s.marks.filter (fun e => e.2.dom == dom && e.2.mstate == 1 && e.2.deferred))]).pscShow

/-- A DISARM write that reaches the table (R85, R73). -/
def State.disarmDomains (s : State) (doms : Nat) : State :=
  { s with markWrites := s.markWrites ++ [⟨s.cycle, 0, 0x20, doms % 16, false⟩] }

/-- DISARM (PSC.DISARM, R73). -/
def execDisarm (doms req : Nat) (s : State) : Host.Outcome State Fault Refusal :=
  .next (s.gateH pgPSC req Reg.PSC.DISARM doms (·.disarmDomains doms))

/-- Entry of the PSC page to RUN, or the end of a freeze (R79). -/
def State.pscOnRun (s : State) : State := [0, 1, 2, 3].foldl State.rearmDomain s

/-- PSC leaves RUN through EN = 0 (R74, R85). -/
def State.pscOff (s : State) : State := { s with marks := s.marks.map (fun (e : Nat × Mark) => (e.1, e.2.disarm)) }.pscShow

/-- A soft reset of PSC clears every entry and every write not yet in force (R85). -/
def State.pscReset (s : State) : State := { s with marks := [], markWrites := [], markFires := [] }

/-- Register writes of PSC with a rule of their own: DISARM. -/
def State.pscOnWrite (s : State) (o v : Nat) : Option State :=
  if o = Reg.PSC.DISARM then some (s.disarmDomains v) else none

end Sys2Proof.Machine
end

