-- ==== Sys2Proof/Machine/Print.lean ====
section
/-!
DEFINITION. Accessors the print path shares (06 R108 to R124; 08 R152 to R157): stripe slots, bars, the line index K.
A stripe slot is numbered q = 4 × Steeple + slot.
-/

namespace Sys2Proof.Machine

abbrev pgJOB : Nat := 83
abbrev pgNCT : Nat := 116
abbrev pgFIRE : Nat := 133
def pgSTP (n : Nat) : Nat := 84 + n
def pgPBA (n : Nat) : Nat := 117 + n

/-- A stripe slot beside its registers. -/
def State.stripe (s : State) (q : Nat) : Stripe := Tbl.getD s.stripes q Stripe.reset

/-- The state with another stripe slot. -/
def State.setStripe (s : State) (q : Nat) (x : Stripe) : State := { s with stripes := Tbl.put s.stripes q x }

/-- A register of stripe slot `q`, by its offset in slot 0. -/
def State.slotRg (s : State) (q o : Nat) : Nat := s.rg (pgSTP (q / 4)) (o + q % 4 * 0x80)

/-- BIND fields of a stripe slot. -/
def State.slotBar (s : State) (q : Nat) : Nat := bits (s.slotRg q (Reg.STP.slotBIND 0)) 4 1
def State.slotSubst (s : State) (q : Nat) : Bool := bit (s.slotRg q (Reg.STP.slotBIND 0)) 6
def State.slotPrimary (s : State) (q : Nat) : Nat := bits (s.slotRg q (Reg.STP.slotBIND 0)) 11 8

/-- An enabled slot (R110): BIND.EN, not disabled by R109, its Steeple in RUN or DRAIN. -/
def State.slotOn (s : State) (q : Nat) : Bool :=
  let st := (s.page (pgSTP (q / 4))).state
  decide (q / 4 < unitCount s.variant .stp) && bit (s.slotRg q (Reg.STP.slotBIND 0)) 0 &&
    !bit (s.slotRg q (Reg.STP.slotSSTAT 0)) 8 && (st == .run || st == .drain)

/-- The enabled slots bound to a bar, in ascending order. -/
def State.barSlots (s : State) (b : Nat) : List Nat :=
  (List.range 128).filter (fun q => s.slotOn q && s.slotBar q == b)

/-- A print bar beside its registers. -/
def State.bar (s : State) (b : Nat) : Bar := Tbl.getD s.bars b ⟨none, 0, [], [], []⟩

/-- The state with another print bar. -/
def State.setBar (s : State) (b : Nat) (x : Bar) : State := { s with bars := Tbl.put s.bars b x }

/-- K of a bar at this moment (R106, R140): of its lowest enabled slot, else the last line it started, else −1. -/
def State.barK (s : State) (b : Nat) : Int :=
  match s.barSlots b with
  | q :: _ => (s.stripe q).k
  | [] => match (s.bar b).k with
    | some k => k
    | none => -1

/-- The active nozzle count N (R152). -/
def State.nact (s : State) (b : Nat) : Nat :=
  let p := pgPBA b
  (List.range (min 64 (s.fl p Reg.PBA.CFG 14 8))).foldl (fun a e => a + s.fl p (Reg.PBA.entryCNT e) 12 0) 0

/-- The lines a Steeple's lanes hold: (slot, line). -/
def State.laneList (s : State) (st : Nat) : List (Nat × Int) := Tbl.getD s.lanes st []

/-- A lane holds a line of slot `q` that satisfies `p`. -/
def State.inLane (s : State) (q : Nat) (p : Int → Bool) : Bool :=
  (s.laneList (q / 4)).any (fun e => e.1 == q % 4 && p e.2)

/-- The set that governs index `j` (R106, R128): an apply changes nothing up to its index, so the newest applies that
lie at or above `j` count for nothing. -/
def governing {α : Type} (olds : List (Int × Nat × α)) (now : α) (j : Int) : α :=
  match (olds.reverse.takeWhile (fun e => decide (j ≤ e.1))).getLast? with
  | some e => e.2.2
  | none => now

/-- K of an apply is the value at the end of its cycle: a line start in that cycle moves it (R106, R128). -/
def follow {α : Type} (olds : List (Int × Nat × α)) (cycle : Nat) (k : Int) : List (Int × Nat × α) :=
  olds.map (fun e => if e.2.1 = cycle then (k + 8, e.2) else e)

end Sys2Proof.Machine
end

