-- ==== Sys2Proof/Machine/Nozzle.lean ====
section
/-!
DEFINITION. Nozzle compensation tables NCT (07 R130 to R150): buffers, swaps, windows, image loader.
-/

namespace Sys2Proof.Machine

/-- The neutral record (R131). -/
def neutralRec : Nat := 0x00080000

/-- Records per buffer (R130). -/
def State.nrec (s : State) : Nat := if s.variant = .kry2406 then 524288 else 1048576

/-- Content a soft reset left undefined, if it covers the index (R148). -/
def Nct.undefAt (x : Nct) (curves buf : Bool) (i : Nat) : Option Nat :=
  (x.undef.find? (fun u => u.curves == curves && u.buf == buf && decide (u.first ≤ i) && decide (i < u.first + u.len))).map
    (·.epoch)

/-- A record of buffer 0 or 1 (R132). -/
def Nct.record (x : Nct) (buf : Bool) (i : Nat) : Nat :=
  match Tbl.get? (if buf then x.rec1 else x.rec0) i with
  | some v => v
  | none => match x.undefAt false buf i with
    | some e => Config.undefCell 1 e i % 2 ^ 32
    | none => neutralRec

/-- A curve entry, keyed c × 256 + e, of buffer 0 or 1 (R132). -/
def Nct.curve (x : Nct) (buf : Bool) (i : Nat) : Nat :=
  match Tbl.get? (if buf then x.cur1 else x.cur0) i with
  | some v => v
  | none => match x.undefAt true buf i with
    | some e => Config.undefCell 2 e i % 2 ^ 16
    | none => 257 * (i % 256)

/-- A record or curve entry set in one buffer. -/
def Nct.setRecord (x : Nct) (buf : Bool) (i v : Nat) : Nct :=
  if buf then { x with rec1 := Tbl.put x.rec1 i v } else { x with rec0 := Tbl.put x.rec0 i v }
def Nct.setCurve (x : Nct) (buf : Bool) (i v : Nat) : Nct :=
  if buf then { x with cur1 := Tbl.put x.cur1 i v } else { x with cur0 := Tbl.put x.cur0 i v }

/-- RANGEb: base, length, enabled (R133). -/
def State.rangeBase (s : State) (b : Nat) : Nat := s.fl pgNCT (Reg.NCT.RANGE b) 19 0
def State.rangeLen (s : State) (b : Nat) : Nat := s.fl pgNCT (Reg.NCT.RANGE b + 4) 20 0
def State.rangeOn (s : State) (b : Nat) : Bool := decide (b < 16) && s.fb pgNCT (Reg.NCT.RANGE b) 31

/-- The bar whose enabled range holds a record (R133). -/
def State.rangeOf (s : State) (i : Nat) : Option Nat :=
  (List.range 16).find? (fun b => s.rangeOn b && decide (s.rangeBase b ≤ i) && decide (i < s.rangeBase b + s.rangeLen b))

/-- The selectors of FRONT, the swap state and WAIT. -/
def State.bsel (s : State) (b : Nat) : Bool := s.fb pgNCT Reg.NCT.FRONT b
def State.csel (s : State) : Bool := s.fb pgNCT Reg.NCT.FRONT 16
def State.swapState (s : State) : Nat := s.fl pgNCT Reg.NCT.SWSTAT 1 0
def State.waits (s : State) (b : Nat) : Bool := s.fb pgNCT Reg.NCT.HSTAT b

/-- A write is held: its location is affected by the swap in progress (R145). -/
def State.recHeld (s : State) (i : Nat) : Bool :=
  s.swapState != 0 && (match s.rangeOf i with | some b => bit s.nct.mask b | none => false)
def State.curHeld (s : State) : Bool := s.swapState != 0 && s.nct.curves

/-- A colour-loop gain write on a record's value: GAIN and WEAK replaced unless HOLD (R147). -/
def gainOn (old gain : Nat) (weak : Bool) : Option Nat :=
  if bit old 31 then none else some (setBits (setBits old 19 10 gain) 29 29 (b2n weak))

/-- The back value of a record: buffer 1 − BSEL in an enabled range, else buffer 0 (R136). -/
def State.recBack (s : State) (i : Nat) : Nat :=
  match s.rangeOf i with
  | some b => s.nct.record (!s.bsel b) i
  | none => s.nct.record false i

/-- A record write of R135. -/
def State.recWrite (s : State) (i v : Nat) : State :=
  match s.rangeOf i with
  | some b => { s with nct := s.nct.setRecord (!s.bsel b) i (v % 2 ^ 32) }
  | none => { s with nct := (s.nct.setRecord false i (v % 2 ^ 32)).setRecord true i (v % 2 ^ 32) }

/-- A curve entry write of R135. -/
def State.curWrite (s : State) (i v : Nat) : State := { s with nct := s.nct.setCurve (!s.csel) i (v % 2 ^ 16) }

/-- A write applied to the tables (R135, R147). -/
def State.applyHeld (s : State) (h : Held) : State :=
  match h.gain with
  | some (g, w) =>
    match gainOn (s.recBack h.idx) g w with
    | some v => s.recWrite h.idx v
    | none => s.sat pgNCT Reg.NCT.HOLDSKIP 1
  | none =>
    (h.vals.zipIdx).foldl (fun t e => if h.curve then t.curWrite (h.idx + e.2) e.1 else t.recWrite (h.idx + e.2) e.1) s

/-- QFILL and COPYBUSY (R145). -/
def State.showHeld (s : State) : State :=
  let n := min 64 s.nct.held.length
  (s.setFl pgNCT Reg.NCT.SWSTAT 10 4 n).setFl pgNCT Reg.NCT.SWSTAT 2 2 (b2n (n == 64))

/-- A write reaches NCT: held when its location is affected, else applied (R135, R145). Behind 64 held writes it is
stalled, and counts in HELDCNT when it has a place. -/
def State.nctPut (s : State) (h : Held) : State :=
  if (if h.curve then s.curHeld else s.recHeld h.idx) then
    ({ s with nct := { s.nct with held := s.nct.held ++ [h] } }.inc pgNCT Reg.NCT.HELDCNT (b2n (s.nct.held.length < 64))).showHeld
  else s.applyHeld h

/-- The window offset lies in a window of NCT that behaves as R22 states: EN = 0, or a slice beyond the buffer (R134). -/
def State.nctShut (s : State) (off : Nat) : Bool :=
  decide (0x280000 ≤ off) && ((s.page pgNCT).en == false ||
    (decide (0x300000 ≤ off) && decide (s.nrec ≤ s.fl pgNCT Reg.NCT.WSLICE 1 0 * 262144)))

/-- A nozzle window write (R134, R135, R145): a 64-bit access splits where only one record is affected. -/
def State.nozzleWrite (s : State) (off v : Nat) (wide : Bool) : State :=
  let i := s.fl pgNCT Reg.NCT.WSLICE 1 0 * 262144 + off / 4
  if wide = false then s.nctPut ⟨false, i, [v % 2 ^ 32], none⟩
  else if s.recHeld i == s.recHeld (i + 1) then s.nctPut ⟨false, i, [v % 2 ^ 32, v / 2 ^ 32 % 2 ^ 32], none⟩
  else (s.nctPut ⟨false, i, [v % 2 ^ 32], none⟩).nctPut ⟨false, i + 1, [v / 2 ^ 32 % 2 ^ 32], none⟩

/-- NOZZLE_WINDOW_WRITE (R134, R135, R145). -/
def execNozzleWindowWrite (off value : Nat) (wide : Bool) (req : Nat) (s : State) : Host.Outcome State Fault Refusal :=
  let t := s.mirror (0x300000 + off) wide value req
  .next (if s.nctShut (0x300000 + off) then t else t.gate pgNCT req (off % 4096) (·.nozzleWrite off value wide))

/-- A curve window write (R134, R135): two entries per 32 bits. -/
def State.curveWrite (s : State) (off v : Nat) (wide : Bool) : State :=
  let i := off / 2
  s.nctPut ⟨true, i, (List.range (if wide then 4 else 2)).map (fun j => v / 2 ^ (16 * j) % 2 ^ 16), none⟩

/-- CURVE_WINDOW_WRITE (R134, R135, R145). -/
def execCurveWindowWrite (off value : Nat) (wide : Bool) (req : Nat) (s : State) : Host.Outcome State Fault Refusal :=
  let t := s.mirror (0x280000 + off) wide value req
  .next (if s.nctShut (0x280000 + off) then t else t.gate pgNCT req (off % 4096) (·.curveWrite off value wide))

/-- Gain writes that a full queue still stalls: not accepted, and gone when the colour loop stops (R145, R147, R282). -/
def State.dropStalled (s : State) : State :=
  { s with nct := { s.nct with held := s.nct.held.take 64 ++ (s.nct.held.drop 64).filter (fun h => h.gain.isNone) } }

/-- The held writes to one location over a value, in arrival order (R136). -/
def overlay (held : List Held) (curve : Bool) (i v : Nat) : Nat :=
  held.foldl (fun v h =>
    if h.curve ≠ curve then v
    else match h.gain with
      | some (g, w) => if h.idx = i then (gainOn v g w).getD v else v
      | none => if h.idx ≤ i then (h.vals[i - h.idx]?).getD v else v) v

/-- A record as the window reads it (R136). -/
def State.recRead (s : State) (i : Nat) : Nat :=
  match s.rangeOf i with
  | some b =>
    if s.recHeld i then
      overlay s.nct.held false i (s.nct.record (if s.waits b then !s.bsel b else s.bsel b) i)
    else s.nct.record (!s.bsel b) i
  | none => s.nct.record false i

/-- A curve entry as the window reads it (R136). -/
def State.curRead (s : State) (i : Nat) : Nat :=
  if s.curHeld then overlay s.nct.held true i (s.nct.curve (if s.swapState = 1 then !s.csel else s.csel) i)
  else s.nct.curve (!s.csel) i

/-- The record a bar's nozzle reads for a line (R133, R141): record and the buffer its curves come from. -/
def State.nozzleRec (s : State) (b i : Nat) (newFront : Bool) : Nat :=
  if s.rangeOn b = false ∨ s.rangeLen b ≤ i then neutralRec
  else
    let sel := s.bsel b
    s.nct.record (if s.waits b && newFront then !sel else sel) (s.rangeBase b + i)

/-- Line `j` of bar `b` is governed by the new front of a swap the bar has not handed over (R141). -/
def State.newFront (s : State) (b : Nat) (j : Int) : Bool := s.waits b && decide ((s.rg64 pgNCT (Reg.NCT.SLINE b) : Int) ≤ j)

/-- The curve buffer line `j` of bar `b` reads (R141). -/
def State.curveBuf (s : State) (b : Nat) (j : Int) : Bool :=
  if s.swapState = 1 ∧ s.nct.curves ∧ bit s.nct.mask b then
    if s.waits b && !s.newFront b j then s.csel else !s.csel
  else s.csel

/-- A soft-reset survivor of NCT (R148): FRONT and LOSTCNT. -/
def nctKeeps (o : Nat) : Bool := o == Reg.NCT.FRONT || o == Reg.NCT.LOSTCNT

/-! ## Swaps -/

/-- All bars of the swap have handed over: COPY (R143). -/
def State.toCopy (s : State) : State :=
  let s := s.setFl pgNCT Reg.NCT.SWSTAT 1 0 2
  let s := if s.nct.curves then s.setFl pgNCT Reg.NCT.FRONT 16 16 (b2n (!s.csel)) else s
  let first := (List.range 16).foldl (fun (a : Nat) b =>
    if bit s.nct.mask b then min a (s.rangeBase b) else a) (2 ^ 32 - 1)
  s.setRg pgNCT Reg.NCT.COPYPOS first

/-- Bar `b` hands over (R142). -/
def State.handOver (s : State) (b : Nat) : State :=
  if s.swapState ≠ 1 ∨ s.waits b = false then s
  else
    let s := (s.setFl pgNCT Reg.NCT.FRONT b b (b2n (!s.bsel b))).setFl pgNCT Reg.NCT.HSTAT b b 0
    if s.rg pgNCT Reg.NCT.HSTAT = 0 then s.toCopy else s

/-- The slots that read a bar's records (R127, R142). -/
def State.readers (s : State) (b : Nat) : List Nat :=
  (List.range 128).filter (fun q => s.slotOn q && (s.slotBar q == b || (s.slotSubst q && s.slotPrimary q == b)))

/-- The conditions of R142 hold for a waiting bar. DESIGN CHOICE (log entry 27): the two conditions alone decide; a standing
web meets neither by itself, and a bar of a standing domain that meets them all the same hands over. -/
def State.mayHandOver (s : State) (b : Nat) : Bool :=
  let sb := s.rg64 pgNCT (Reg.NCT.SLINE b)
  s.waits b &&
    ((bit s.nct.reached b && (s.readers b).all (fun q => !s.inLane q (fun j => decide (j < (sb : Int))))) ||
     (s.nct.forced && (s.barSlots b).all (fun q => !s.inLane q (fun _ => true))))

/-- HANDOVER (R142). -/
def execHandover (bar : Nat) (s : State) : Host.Outcome State Fault Refusal :=
  .next (if s.enabled pgNCT ∧ s.mayHandOver bar then s.handOver bar else s)

/-- SWCMD.FORCE that acts (R142). -/
def State.swForce (s : State) : State :=
  if s.swapState ≠ 1 ∨ s.enabled pgNCT = false then s
  else
    let s := { s with nct := { s.nct with forced := true } }
    (List.range 16).foldl (fun t b => if t.mayHandOver b then t.handOver b else t) s

/-- SWCMD_FORCE (R142). -/
def execSwcmdForce (req : Nat) (s : State) : Host.Outcome State Fault Refusal :=
  .next (s.gateU .nct 0 req Reg.NCT.SWCMD 1 (·.swForce))

/-- The mask of the bars with an enabled range. -/
def State.rangeMask (s : State) : Nat :=
  (List.range 16).foldl (fun m b => if s.rangeOn b then m + 2 ^ b else m) 0

/-- The request names exactly one of a primary and a bar of a substitute slot that reads it (R139). -/
def State.splitsPair (s : State) (mask : Nat) : Bool :=
  (List.range 128).any (fun q => s.slotOn q && s.slotSubst q && (bit mask (s.slotBar q) != bit mask (s.slotPrimary q)))

/-- R139 refuses the request. -/
def State.swapBad (s : State) (mask : Nat) (curves : Bool) : Bool :=
  let on := s.rangeMask
  ((mask &&& on) == 0 && !curves) || (curves && (mask &&& on) != on) || s.splitsPair (mask &&& on)

/-- The loader enters ERROR (R150). -/
def State.imgError (s : State) (code : Nat) : State :=
  (s.setRg pgNCT Reg.NCT.IMGSTAT (3 + code * 16)).err pgNCT 3 0x183 code

/-- The items an image in WRITE still writes: the next `n` (R150). -/
def State.imgWrite (s : State) (n : Nat) : State :=
  let x := s.nct
  let k := min n (x.imgCount - x.imgPos)
  let sz := if x.imgCurves then 512 else 4
  match s.dramRead (unitWho pgNCT) (s.rg64 pgNCT Reg.NCT.IMGBASE + 64 + x.imgPos * sz) (k * sz) with
  | (t, none) => t.imgError 6
  | (t, some bs) =>
    let t := (List.range (if x.imgCurves then k * 256 else k)).foldl (fun t j =>
      if x.imgCurves then t.curWrite ((x.imgFirst + x.imgPos) * 256 + j) (leAt bs (j * 2) 2)
      else t.recWrite (x.imgFirst + x.imgPos + j) (leAt bs (j * 4) 4)) t
    { t with nct := { t.nct with imgPos := x.imgPos + k } }

/-- S_b of a bar the request names (R140): its slot's K + 9; without an enabled slot LASTK + 1, or 0 before the first
line since entry to RUN. CLP keeps it as LASTS_b (R281). -/
def State.swapLine (s : State) (b : Nat) : State :=
  let k := match s.barSlots b with
    | q :: _ => (s.stripe q).k + 9
    | [] => match (s.bar b).k with
      | some k => (k : Int) + 1
      | none => 0
  (s.setRg64 pgNCT (Reg.NCT.SLINE b) (enc2 48 k)).setRg64 pgCLP (Reg.CLP.bindLASTS b) (enc2 48 k)

/-- K_b is the value at the end of cycle n: a line start in the cycle of the request moves S_b (R140). -/
def State.swapFollow (s : State) (b : Nat) : State :=
  if s.waits b ∧ s.nct.swapAt = s.cycle then s.swapLine b else s

/-- An accepted swap request (R140, R143): S_b per bar, WAIT, PENDING; a running image load pauses at a free point. -/
def State.swapAccept (s : State) (mask : Nat) (curves : Bool) (src : Nat) : State :=
  let m := mask &&& s.rangeMask
  let s := if s.fl pgNCT Reg.NCT.IMGSTAT 1 0 = 2 then
      s.drawn.imgWrite (Config.draw s.fresh % (s.nct.imgCount - s.nct.imgPos + 1)) else s
  let bars := (List.range 16).filter (bit m)
  let s := bars.foldl State.swapLine s
  let s := (s.setRg pgNCT Reg.NCT.HSTAT m).setFl pgNCT Reg.NCT.SWSTAT 1 0 1
  let s := s.setFl pgNCT Reg.NCT.SWSTAT 13 12 src
  let s := { s with nct := { s.nct with mask := m, curves := curves, reached := 0, forced := false, swapAt := s.cycle } }
  if m = 0 then s.toCopy else (bars.filter (fun b => (s.barSlots b).isEmpty)).foldl State.handOver s

/-- A swap request (R138 to R147): `src` 0 APPLY event, 1 APPLYNOW, 2 colour loop; true when accepted. DESIGN CHOICE (log
entry 27): IST.REJECT is set where an APPLY event or APPLYNOW is rejected because the state is not IDLE, and nowhere else. -/
def State.swapRequest (s : State) (mask : Nat) (curves : Bool) (src : Nat) : State × Bool :=
  if (s.page pgNCT).en = false then (s, false)
  else if s.swapState ≠ 0 then
    if src = 2 then (s.sat pgNCT Reg.NCT.CLPREJ 1, false)
    else
      ((((s.refuseSet pgNCT).err pgNCT 0 0x180 (mask + b2n curves * 2 ^ 16 + src * 2 ^ 17)).sat pgNCT Reg.NCT.REJCNT
        1).setIst pgNCT 2, false)
  else if s.swapBad mask curves then
    ((if src = 2 then s else s.refuseSet pgNCT).err pgNCT 1 0x181 (mask + b2n curves * 2 ^ 16), false)
  else ((if src = 2 then s else s.applySet pgNCT).swapAccept mask curves src, true)

/-- An apply trigger at the NCT page (R138): the swap request for SWAPSEL. -/
def State.nctApply (s : State) (src : Nat) : State :=
  if (s.page pgNCT).pend then
    let v := s.normal pgNCT Reg.NCT.SWAPSEL
    (s.swapRequest (v % 2 ^ 16) (bit v 16) src).1
  else s

/-- The swap engine returns to IDLE (R143); a request of the colour loop has reached SWAPDONE (R279). -/
def State.swapIdle (s : State) : State :=
  let s := ((s.setFl pgNCT Reg.NCT.SWSTAT 1 0 0).inc pgNCT Reg.NCT.SWAPCNT 1).setRg64 pgNCT Reg.NCT.SWAPTIME s.cycle
  let s := match s.clp.req with
    | some (_, 2) => { s with clp := { s.clp with req := none } }.setFl pgCLP Reg.CLP.ASTAT 0 0 0
    | _ => s
  ({ s with nct := { s.nct with mask := 0, curves := false } }).happen pgNCT 0 0

/-- Copy-forward of a range of keys from one buffer to the other (R144): listed entries and undefined content. -/
def copyKeys (front back : Tbl Nat) (first len : Nat) : Tbl Nat :=
  let inside := fun (k : Nat) => decide (first ≤ k) && decide (k < first + len)
  (front.filter (fun e => inside e.1)).foldl (fun t e => Tbl.put t e.1 e.2) (back.filter (fun e => !inside e.1))

/-- What of an undefined range lies outside `first` to `first + len − 1`. -/
def Undef.outside (u : Undef) (first len : Nat) : List Undef :=
  let a := max u.first (first + len)
  ([{ u with len := min (u.first + u.len) first - u.first }, { u with first := a, len := u.first + u.len - a }]).filter
    (fun v => v.len != 0)

/-- The undefined ranges after a copy from buffer `f` to the other over a range (R144). -/
def copyUndef (us : List Undef) (curves f : Bool) (first len : Nat) : List Undef :=
  let out := us.flatMap (fun u => if u.curves == curves && u.buf == !f then u.outside first len else [u])
  out ++ ((us.filter (fun u => u.curves == curves && u.buf == f)).map (fun u =>
    let a := max u.first first
    { u with buf := !f, first := a, len := min (u.first + u.len) (first + len) - a })).filter (fun v => v.len != 0)

/-- Copy-forward of one bar's range. -/
def State.copyBar (s : State) (b : Nat) : State :=
  let f := s.bsel b
  let x := s.nct
  let a := s.rangeBase b
  let n := s.rangeLen b
  let x := if f then { x with rec0 := copyKeys x.rec1 x.rec0 a n } else { x with rec1 := copyKeys x.rec0 x.rec1 a n }
  ({ s with nct := { x with undef := copyUndef x.undef false f a n } }).setRg pgNCT Reg.NCT.COPYPOS
    (max (s.rg pgNCT Reg.NCT.COPYPOS) (a + n))

/-- Copy-forward of the curves. -/
def State.copyCurves (s : State) : State :=
  let f := s.csel
  let x := s.nct
  let x := if f then { x with cur0 := x.cur1 } else { x with cur1 := x.cur0 }
  { s with nct := { x with undef := copyUndef x.undef true f 0 262144 } }

/-- COPY_FORWARD_DONE (R143, R144): IDLE, or DRAIN of held writes. -/
def execCopyForwardDone (s : State) : Host.Outcome State Fault Refusal :=
  if s.swapState ≠ 2 ∨ s.awake pgNCT = false then .next s
  else
    let s := ((List.range 16).filter (bit s.nct.mask)).foldl State.copyBar s
    let s := if s.nct.curves then s.copyCurves else s
    .next (if s.nct.held.isEmpty then s.swapIdle else s.setFl pgNCT Reg.NCT.SWSTAT 1 0 3)

/-- HELD_QUEUE_DRAINED (R145): held writes applied in arrival order, then IDLE. -/
def execHeldQueueDrained (s : State) : Host.Outcome State Fault Refusal :=
  if s.swapState ≠ 3 ∨ s.awake pgNCT = false then .next s
  else
    let held := s.nct.held
    let s := held.foldl State.applyHeld { s with nct := { s.nct with held := [] } }
    .next (s.inc pgNCT Reg.NCT.HELDCNT (held.length - 64)).showHeld.swapIdle

/-- The tables after a reset in `s` other than power-on (R132, R148): during a swap the affected back content becomes
undefined; the fronts stay, and the held queue goes. -/
def State.nctAfter (s : State) : Nct :=
  if s.swapState = 0 then { s.nct with held := [] }
  else
    let bars := (List.range 16).filter (bit s.nct.mask)
    let us := bars.map (fun b => (⟨false, !s.bsel b, s.rangeBase b, s.rangeLen b, s.fresh⟩ : Undef)) ++
      (if s.nct.curves then [⟨true, !s.csel, 0, 262144, s.fresh⟩] else [])
    let x := us.foldl (fun (x : Nct) u =>
      let out := fun (t : Tbl Nat) => t.filter (fun e => !(decide (u.first ≤ e.1) && decide (e.1 < u.first + u.len)))
      if u.curves then (if u.buf then { x with cur1 := out x.cur1 } else { x with cur0 := out x.cur0 })
      else if u.buf then { x with rec1 := out x.rec1 } else { x with rec0 := out x.rec0 }) s.nct
    { x with
      undef := us ++ x.undef
      held := []
      mask := 0
      curves := false
      reached := 0
      forced := false }

/-- A soft reset of the NCT page (R148), before its registers return to reset. -/
def State.nctReset (s : State) : State :=
  let n := min 64 s.nct.held.length -- a stalled write was not held
  let x := s.nctAfter
  if s.swapState = 0 then { s with nct := x }
  else
    let s := (s.drawn.sat pgNCT Reg.NCT.LOSTCNT n).err pgNCT 5 0x186 n
    { s with nct := x }

/-! ## Image loader -/

/-- A write of IMGCMD.LOAD that acts (R150). -/
def State.imgLoad (s : State) : State :=
  let st := s.fl pgNCT Reg.NCT.IMGSTAT 1 0
  if (s.page pgNCT).en ∧ (st = 0 ∨ st = 3) then s.setRg pgNCT Reg.NCT.IMGSTAT 1 else s

/-- IMAGE_LOAD (R150). -/
def execImageLoad (req : Nat) (s : State) : Host.Outcome State Fault Refusal :=
  .next (s.gateU .nct 0 req Reg.NCT.IMGCMD 1 (·.imgLoad))

/-- The fault code of an image header and payload, 0 when there is none (R149, R150). -/
def imgCode (nrec : Nat) (h payload : List Byte) : Nat :=
  let curves := leAt h 8 2 = 1
  let count := leAt h 16 4
  if leAt h 0 4 ≠ 0x54434E4B ∨ leAt h 4 2 ≠ 1 ∨ leAt h 6 2 ≠ 64 then 1
  else if 1 < leAt h 8 2 ∨ leAt h 10 2 ≠ 0 ∨ leAt h 36 28 ≠ 0 then 2
  else if count = 0 ∨ (if curves then 1024 else nrec) < leAt h 12 4 + count then 3
  else if leAt h 20 4 ≠ count * (if curves then 512 else 4) then 4
  else if crc32 polyC payload ≠ leAt h 32 4 then 5
  else 0

/-- IMAGE_CHECK_DONE (R150). -/
def execImageCheckDone (s : State) : Host.Outcome State Fault Refusal :=
  if s.fl pgNCT Reg.NCT.IMGSTAT 1 0 ≠ 1 ∨ s.awake pgNCT = false then .next s
  else
    let base := s.rg64 pgNCT Reg.NCT.IMGBASE
    match s.dramRead (unitWho pgNCT) base 64 with
    | (t, none) => .next (t.imgError 6)
    | (t, some h) =>
      match imgCode t.nrec h [] with
      | 0 | 5 =>
        match t.dramRead (unitWho pgNCT) (base + 64) (leAt h 20 4) with
        | (u, none) => .next (u.imgError 6)
        | (u, some pl) =>
          match imgCode u.nrec h pl with
          | 0 => .next ({ u with nct := { u.nct with
              imgCurves := leAt h 8 2 == 1, imgFirst := leAt h 12 4, imgCount := leAt h 16 4, imgPos := 0 } }.setRg pgNCT
                Reg.NCT.IMGSTAT 2)
          | c => .next (u.imgError c)
      | c => .next (t.imgError c)

/-- IMGDONE (R150): the rest of the image is written; a swap in progress pauses it. -/
def execImgdone (s : State) : Host.Outcome State Fault Refusal :=
  if s.fl pgNCT Reg.NCT.IMGSTAT 1 0 = 2 ∧ s.swapState = 0 ∧ s.awake pgNCT then
    let t := s.imgWrite s.nct.imgCount
    .next (if t.fl pgNCT Reg.NCT.IMGSTAT 1 0 = 3 then t else (t.setRg pgNCT Reg.NCT.IMGSTAT 0).happen pgNCT 1 0)
  else .next s

/-- A RANGE write that R133 refuses. DESIGN CHOICE (log entry 27): in DRAIN the other ranges count as they will be at IDLE,
with the writes stored for it. -/
def State.rangeBad (s : State) (b lo hi : Nat) : Bool :=
  let base := bits lo 19 0
  let len := bits hi 20 0
  bit lo 31 && (decide (unitCount s.variant .pba ≤ b) || decide (s.nrec < base + len) ||
    (List.range 16).any (fun c =>
      let l := s.normal pgNCT (Reg.NCT.RANGE c)
      let n := bits (s.normal pgNCT (Reg.NCT.RANGE c + 4)) 20 0
      c != b && bit l 31 && len != 0 && n != 0 && decide (base < bits l 19 0 + n) && decide (bits l 19 0 < base + len)))

/-- A write of a whole RANGEb (R133): refused, or stored in both words. -/
def State.rangeWrite (s : State) (o lo hi : Nat) : State :=
  if s.rangeBad ((o - Reg.NCT.RANGE 0) / 8) lo hi then s.err pgNCT 2 0x182 ((o - Reg.NCT.RANGE 0) / 8)
  else (s.writeWord pgNCT o lo).writeWord pgNCT (o + 4) hi

/-- Register writes of NCT with a rule of their own: SWAPSEL, RANGEb, SWCMD, IMGCMD, IMGBASE. DESIGN CHOICE (log entry 27):
an IMGBASE that is not a multiple of 64 is stored and loaded from as it is. -/
def State.nctOnWrite (s : State) (o v : Nat) : Option State :=
  if o = Reg.NCT.SWCMD then some (if bit v 0 then s.swForce else s)
  else if o = Reg.NCT.IMGCMD then some (if bit v 0 then s.imgLoad else s)
  else if o = Reg.NCT.IMGBASE ∨ o = Reg.NCT.IMGBASE + 4 then
    let st := s.fl pgNCT Reg.NCT.IMGSTAT 1 0
    if st = 0 ∨ st = 3 then none else some s
  else if o = Reg.NCT.SWAPSEL then
    some (s.writeWord pgNCT o (v &&& (0x10000 + 2 ^ unitCount s.variant .pba - 1)))
  else if Reg.NCT.RANGE 0 ≤ o ∧ o < Reg.NCT.RANGE 16 ∧ (s.page pgNCT).run = false then
    let b := (o - Reg.NCT.RANGE 0) / 8
    let r := Reg.NCT.RANGE b
    if s.rangeBad b (if o = r then v else s.normal pgNCT r) (if o = r then s.normal pgNCT (r + 4) else v) then
      some (s.err pgNCT 2 0x182 b)
    else none
  else none

end Sys2Proof.Machine
end

