-- ==== Sys2Proof/Machine/Job.lean ====
section
/-!
DEFINITION. Job streams and job fetch JOB (05 R86 to R106, R508): slots, verdicts, tiles, bar and reference cursors.
-/

namespace Sys2Proof.Machine

/-- Bytes of DRAM that a request of a unit would read, without an access; none for an error response. -/
def State.dramPeek (s : State) (p a n : Nat) : Option (List Byte) :=
  match s.dramFault (unitWho p) false a n with
  | some _ => none
  | none => some (s.dramBytes a n)

/-- SLOT.STAT.STATE: 0 EMPTY, 1 LOADING, 2 READY, 3 ERROR. -/
def State.jobState (s : State) (n : Nat) : Nat := s.fl pgJOB (Reg.JOB.slotSTAT n) 1 0

/-- The header of a READY slot. -/
def State.jobHead (s : State) (n : Nat) : Option JobHead := if s.jobState n = 2 then Tbl.get? s.jobs n else none

/-- Cursors of the part (05, cursor table): bar cursors follow the bars, reference cursors the Cupolas. -/
def State.nBarCur (s : State) : Nat := unitCount s.variant .pba
def State.nRefCur (s : State) : Nat := unitCount s.variant .cup

/-- A bar cursor and a reference cursor beside their registers. -/
def State.barCur (s : State) (n : Nat) : BarCur := Tbl.getD s.barCurs n ⟨[], false, [], none, false, none, [], []⟩
def State.setBarCur (s : State) (n : Nat) (x : BarCur) : State := { s with barCurs := Tbl.put s.barCurs n x }
def State.refCur (s : State) (n : Nat) : RefCur := Tbl.getD s.refCurs n ⟨[], false, [], none, none, [], []⟩
def State.setRefCur (s : State) (n : Nat) (x : RefCur) : State := { s with refCurs := Tbl.put s.refCurs n x }

/-- EN and SLOT of a cursor. -/
def State.barOn (s : State) (n : Nat) : Bool := decide (n < s.nBarCur) && s.fb pgJOB (Reg.JOB.bcurCFG n) 0
def State.refOn (s : State) (n : Nat) : Bool := decide (n < s.nRefCur) && s.fb pgJOB (Reg.JOB.rcurCFG n) 0
def State.barSlotOf (s : State) (n : Nat) : Nat := s.fl pgJOB (Reg.JOB.bcurCFG n) 3 1
def State.refSlotOf (s : State) (n : Nat) : Nat := s.fl pgJOB (Reg.JOB.rcurCFG n) 3 1

/-- An enabled cursor is bound to the slot (R94). -/
def State.slotBusy (s : State) (n : Nat) : Bool :=
  (List.range 16).any (fun c => s.barOn c && s.barSlotOf c == n) ||
    (List.range 4).any (fun c => s.refOn c && s.refSlotOf c == n)

/-! ## Loading -/

/-- A repeat descriptor and the checks of R89 on it; its RSV bytes are not checked (DESIGN CHOICE, log entry 25). -/
def parseRep (width : Nat) (last : Bool) (d : List Byte) : Option Rep :=
  let r : Rep := ⟨leAt d 0 4, leAt d 4 4, leAt d 8 8, leAt d 16 4, leAt d 20 2, leAt d 22 2⟩
  if 1 ≤ r.lines ∧ r.lines ≤ 16777216 ∧ (r.count ≠ 0 ∨ last = true) ∧ r.tileTab % 32 = 0 ∧
      r.trows = (r.lines + 255) / 256 ∧ r.tcols = (width + 255) / 256 then some r else none

/-- All descriptors of a repeat table. -/
def parseReps (width : Nat) : Nat → List Byte → Option (List Rep)
  | 0, _ => some []
  | n + 1, bs =>
    match parseRep width (n == 0) (bs.take 32), parseReps width n (bs.drop 32) with
    | some r, some rs => some (r :: rs)
    | _, _ => none

/-- The header without its repeats and the checks of R88 on it. DESIGN CHOICE (log entry 25): neither the reserved
bytes nor, with ENC = 0, HDRIV and HDRTAG are checked to be 0. -/
def parseHead (h : List Byte) : Option (JobHead × Nat × Nat) :=
  let fl := leAt h 8 4
  let x : JobHead := ⟨bit fl 0, bit fl 1, bits fl 3 2, leAt h 12 1, leAt h 16 4, leAt h 24 8, []⟩
  let nrep := leAt h 14 2
  let rt := leAt h 32 8
  if leAt h 0 4 = 0x424F4A4B ∧ leAt h 4 2 = 1 ∧ leAt h 6 2 = 128 ∧ fl < 16 ∧ 1 ≤ x.nplanes ∧ x.nplanes ≤ 16 ∧
      1 ≤ nrep ∧ nrep ≤ 4096 ∧ 1 ≤ x.width ∧ x.width ≤ 262144 ∧ rt % 64 = 0 then some (x, nrep, rt) else none

/-- The job key of a slot, when its Keep key slot holds one. -/
def State.jobKey (s : State) (n : Nat) : Option (List Byte) := Tbl.get? s.keys (s.fl pgJOB (Reg.JOB.slotCTRL n) 7 4)

/-- A text of AES-256-GCM with its tag behind it authenticates; its plaintext (R92). -/
def gcmGood (k iv aad text : List Byte) : Bool :=
  decide (16 ≤ text.length) &&
    Config.gcmTag k iv aad (text.take (text.length - 16)) == text.drop (text.length - 16)
def gcmPlain (k iv text : List Byte) : List Byte :=
  ((text.take (text.length - 16)).zipIdx).map (fun e => e.1 ^^^ Config.gcmByte k iv e.2)

/-- The header tag is good (R92). -/
def State.headTag (s : State) (n : Nat) (h rt : List Byte) : Bool :=
  match s.jobKey n with
  | none => false
  | some k => gcmGood k ((h.drop 40).take 12) (h.take 64 ++ rt) ((h.drop 64).take 16)

/-- BANDUSE of one cursor set (R101). -/
def State.bandOf (s : State) (n cfg : Nat) : Nat :=
  let fx := match bits cfg 9 8 with
    | 1 => 2
    | 2 => 4
    | _ => 1
  let b := match s.jobHead (bits cfg 3 1) with
    | some h => if h.bpp16 then 2 else 1
    | none => 2
  8 * ((s.nact n + fx - 1) / fx + 1) * b

/-- The band bytes of the enabled cursors, by the CFG words `cfg` (R101). -/
def State.bandSum (s : State) (cfg : Nat → Nat) : Nat :=
  (List.range s.nBarCur).foldl (fun a n => if s.barOn n then a + s.bandOf n (cfg n) else a) 0

/-- BANDUSE follows the cursors in force. -/
def State.showBand (s : State) : State :=
  s.setRg pgJOB Reg.JOB.BANDUSE (s.bandSum (fun n => s.rg pgJOB (Reg.JOB.bcurCFG n)))

/-- A bar cursor's set breaks R100. -/
def State.barBad (s : State) (n : Nat) : Bool :=
  let cfg := s.rg pgJOB (Reg.JOB.bcurCFG n)
  let boff := s.rgI pgJOB (Reg.JOB.bcurBOFF n)
  bits cfg 9 8 == 3 || bits cfg 11 10 == 3 || decide (s.fl pgJOB (Reg.JOB.bcurWIN n) 15 0 < 512) ||
    decide (boff < -2 ^ 47) || decide (2 ^ 47 ≤ boff) ||
    (match s.jobHead (bits cfg 3 1) with
     | none => false
     | some h =>
       let grid := s.fl (pgPBA n) Reg.PBA.CFG 5 4
       decide (h.nplanes ≤ bits cfg 7 4) || grid == 3 ||
         (300 * 2 ^ h.dpi) * 2 ^ bits cfg 9 8 != 600 * 2 ^ grid)

/-- A reference cursor's set breaks R100. -/
def State.refBad (s : State) (n : Nat) : Bool :=
  let rs := s.rg pgJOB (Reg.JOB.rcurRSTEP n)
  let xc := s.rg pgJOB (Reg.JOB.rcurXCOUNT n)
  decide (rs < 2 ^ 20) || decide (255 * 2 ^ 24 < rs) || decide (s.fl pgJOB (Reg.JOB.rcurWIN n) 15 0 < 512) ||
    decide (xc < 1) || decide (131072 < xc)

/-- The check of a bar cursor, of a reference cursor (R100): at an apply (`set_`) it decides, when a slot becomes READY
it finds a cursor invalid until a set applies. -/
def State.checkBar (s : State) (set_ : Bool) (n : Nat) : State :=
  let bad := s.barBad n
  let t := s.setBarCur n { s.barCur n with bad := bad || (!set_ && (s.barCur n).bad) }
  if bad then t.err pgJOB 5 0x165 n else t
def State.checkRef (s : State) (set_ : Bool) (n : Nat) : State :=
  let bad := s.refBad n
  let t := s.setRefCur n { s.refCur n with bad := bad || (!set_ && (s.refCur n).bad) }
  if bad then t.err pgJOB 5 0x165 (n + 16) else t

/-! ## RELEASE -/

/-- TOTLINES; none when the last repeat has no end (R86). -/
def JobHead.total (h : JobHead) : Option Nat :=
  if h.reps.any (fun r => r.count == 0) then none else some (h.reps.foldl (fun a r => a + r.count * r.lines) 0)

/-- The lines by which a slot on a cursor's chain is later than the cursor's slot (R87, R106). -/
def State.chainShift (s : State) : Nat → Nat → Nat → Int → Option Int
  | 0, _, _, _ => none
  | fuel + 1, n, target, acc =>
    if n = target then some acc
    else
      match s.jobHead n with
      | none => none
      | some h =>
        let c := s.rg pgJOB (Reg.JOB.slotCTRL n)
        match h.total with
        | some tot => if bit c 11 then s.chainShift fuel (bits c 10 8) target (acc + tot) else none
        | none => none

/-- What each enabled cursor may still read, by its POS register: its slot and line (R106). -/
def State.cursorLows (s : State) : List (Nat × Int) :=
  ((List.range s.nBarCur).filter s.barOn).map (fun n =>
    let fy := s.fl pgJOB (Reg.JOB.bcurCFG n) 11 10
    (s.barSlotOf n, shr (2 * (s.rgI pgJOB (Reg.JOB.bcurPOS n) - 8) + 1 - 2 ^ fy) (fy + 1) - 1)) ++
  ((List.range s.nRefCur).filter s.refOn).map (fun n =>
    (s.refSlotOf n, shr (s.rgI pgJOB (Reg.JOB.rcurPOS n)) 24 - 1))

/-- SLOT.RELEASE of every slot (R106). DESIGN CHOICE (log entry 25): with no enabled cursor bound or chained to a slot its
last value stays. -/
def State.showRelease (s : State) : State :=
  let lows := s.cursorLows
  (List.range 8).foldl (fun t n =>
    match lows.filterMap (fun e => (s.chainShift 8 e.1 n 0).map (fun d => e.2 - d)) with
    | [] => t
    | v :: vs => t.setRgI pgJOB (Reg.JOB.slotRELEASE n) (vs.foldl min v)) s

/-- A slot enters ERROR with a code (R94). -/
def State.jobFail (s : State) (n bitNo code : Nat) : State :=
  (s.setRg pgJOB (Reg.JOB.slotSTAT n) (3 + code * 16)).err pgJOB bitNo code n

/-- A slot becomes READY (R94, R100, R101). -/
def State.jobReady (s : State) (n : Nat) (h : JobHead) : State :=
  let s := ({ s with jobs := Tbl.put s.jobs n h }.setRg pgJOB (Reg.JOB.slotSTAT n) 2).showBand
  let s := ((List.range s.nBarCur).filter (fun c => s.barSlotOf c == n)).foldl (fun t c => t.checkBar false c) s
  let s := ((List.range s.nRefCur).filter (fun c => s.refSlotOf c == n)).foldl (fun t c => t.checkRef false c) s
  s.showRelease.happen pgJOB 0 n

/-- LOAD that acts (R94, R508). -/
def State.jobLoad (s : State) (n : Nat) : State :=
  if s.enabled pgJOB ∧ s.jobState n = 0 then s.setRg pgJOB (Reg.JOB.slotSTAT n) 1 else s

/-- LOAD (R94). -/
def execLoad (slot req : Nat) (s : State) : Host.Outcome State Fault Refusal :=
  .next (if slot < 8 then s.gateH pgJOB req (Reg.JOB.slotCTRL slot) (s.rg pgJOB (Reg.JOB.slotCTRL slot) &&& 0xFF0 ||| 1) (·.jobLoad slot) else s)

/-- A DRAM error response of JOB (R94, R97). -/
def State.jobFetchErr (s : State) (ctx : Nat) : State := (s.sat pgJOB Reg.JOB.FETCHCNT 1).err pgJOB 2 0x162 ctx

/-- LOADDONE (R94): header and repeat table read and checked. -/
def execLoaddone (slot : Nat) (s : State) : Host.Outcome State Fault Refusal :=
  if ¬ slot < 8 ∨ s.awake pgJOB = false ∨ s.jobState slot ≠ 1 then .next s
  else
    let base := s.rg64 pgJOB (Reg.JOB.slotBASE slot)
    let fetchErr := fun (t : State) => (t.jobFetchErr slot).setRg pgJOB (Reg.JOB.slotSTAT slot) (3 + 0x162 * 16)
    match s.dramRead (unitWho pgJOB) base 128 with
    | (t, none) => .next (fetchErr t)
    | (t, some h) =>
      match parseHead h with
      | none => .next (t.jobFail slot 4 0x164)
      | some (x, nrep, rt) =>
        match t.dramRead (unitWho pgJOB) (base + rt) (nrep * 32) with
        | (u, none) => .next (fetchErr u)
        | (u, some tab) =>
          match parseReps x.width nrep tab with
          | none => .next (u.jobFail slot 4 0x164)
          | some reps =>
            if x.enc ∧ u.headTag slot h tab = false then .next (u.jobFail slot 1 0x161)
            else .next (u.jobReady slot { x with reps := reps })

/-- UNLOAD that acts (R94, R508). -/
def State.jobUnload (s : State) (n : Nat) : State :=
  if s.enabled pgJOB = false then s
  else if s.slotBusy n then s.err pgJOB 7 0x167 n
  else
    ({ s with
      jobs := Tbl.del s.jobs n
      verifying := s.verifying.filter (· != n)
      barCurs := s.barCurs.map (fun (e : Nat × BarCur) => (e.1, { e.2 with ended := e.2.ended.filter (· != n) }))
      refCurs := s.refCurs.map (fun (e : Nat × RefCur) => (e.1, { e.2 with ended := e.2.ended.filter (· != n) }))
      passVerdicts := s.passVerdicts.filter (fun e => e.slot != n) }.setRg pgJOB (Reg.JOB.slotSTAT n) 0).showBand.showRelease

/-- UNLOAD (R94). -/
def execUnload (slot req : Nat) (s : State) : Host.Outcome State Fault Refusal :=
  .next (if slot < 8 then s.gateH pgJOB req (Reg.JOB.slotCTRL slot) (s.rg pgJOB (Reg.JOB.slotCTRL slot) &&& 0xFF0 ||| 2) (·.jobUnload slot) else s)

/-- VERIFY that acts (R98, R508): a pass over a READY slot. -/
def State.jobVerify (s : State) (n : Nat) : State :=
  if s.enabled pgJOB ∧ s.jobState n = 2 then
    { s with verifying := s.verifying.filter (· != n) ++ [n] }.setFl pgJOB (Reg.JOB.slotSTAT n) 2 2 0
  else s

/-- VERIFY (R98). -/
def execVerify (slot req : Nat) (s : State) : Host.Outcome State Fault Refusal :=
  .next (if slot < 8 then s.gateH pgJOB req (Reg.JOB.slotCTRL slot) (s.rg pgJOB (Reg.JOB.slotCTRL slot) &&& 0xFF0 ||| 4) (·.jobVerify slot) else s)

/-! ## Tiles and verdicts -/

/-- A tile of a slot: repeat number, plane, row, column. -/
structure TileId where
  rep : Nat
  plane : Nat
  y : Nat
  x : Nat
deriving DecidableEq, Repr

/-- The repeat of a tile. -/
def JobHead.rep (h : JobHead) (i : Nat) : Rep := h.reps.getD i ⟨1, 1, 0, 0, 1, 1⟩

/-- The tile's place in its tile table, and its verdict number (R90). -/
def JobHead.tileIdx (h : JobHead) (t : TileId) : Nat :=
  (t.plane * (h.rep t.rep).trows + t.y) * (h.rep t.rep).tcols + t.x
def JobHead.verdictNo (h : JobHead) (t : TileId) : Nat := (h.rep t.rep).vbase + h.tileIdx t

/-- Width and height of a tile. -/
def JobHead.tileW (h : JobHead) (t : TileId) : Nat :=
  if t.x + 1 = (h.rep t.rep).tcols then h.width - 256 * t.x else 256
def JobHead.tileH (h : JobHead) (t : TileId) : Nat :=
  if t.y + 1 = (h.rep t.rep).trows then (h.rep t.rep).lines - 256 * t.y else 256

/-- Bytes of a pixel. -/
def JobHead.bpp (h : JobHead) : Nat := if h.bpp16 then 2 else 1

/-- The verdict map's two bits of a tile (R95), without an access; none where a read gets an error response. -/
def State.verdict? (s : State) (n v : Nat) : Option Nat :=
  (s.dramPeek pgJOB (s.rg64 pgJOB (Reg.JOB.slotVMAP n) + v / 4) 1).map (fun bs =>
    bits (leVal bs) (v % 4 * 2 + 1) (v % 4 * 2))

/-- The access that reads a tile's two bits; an error response is the channel's to report (R95, R419). -/
def State.verdictRead (s : State) (n v : Nat) : State :=
  (s.dramRead (unitWho pgJOB) (s.rg64 pgJOB (Reg.JOB.slotVMAP n) + v / 4) 1).1

/-- The verdict that governs a tile in the pass of cursor `c` (16 + n for a reference cursor): the pass's own, else the
map's; 0b00 when the map cannot be read (R95, R97). -/
def State.verdictNow (s : State) (c n v : Nat) : Nat :=
  match s.passVerdicts.find? (fun e => e.cur == c && e.slot == n && e.no == v) with
  | some e => e.code
  | none => (s.verdict? n v).getD 0

/-- A pass of cursor `c` over a tile row ends: the verdicts that governed only that pass go (R97). -/
def State.passEnd (s : State) (c : Nat) : Option (Nat × Nat × Nat × Nat) → State
  | none => s
  | some r =>
    let mine := fun (e : PassVerdict) => e.cur == c && e.slot == r.1 && e.rep == r.2.1 && e.y == r.2.2.2
    { s with passVerdicts := s.passVerdicts.filter (fun e => !mine e) }

/-- An error verdict written is counted (JOB registers). -/
def State.verdictCount (s : State) (code : Nat) : State :=
  if code = 3 then s.sat pgJOB Reg.JOB.AFCNT 1 else if code = 2 then s.sat pgJOB Reg.JOB.TERRCNT 1 else s

/-- A verdict is written to the map; an error response leaves it (R95, R97). -/
def State.setVerdict (s : State) (n v code : Nat) : State :=
  let a := s.rg64 pgJOB (Reg.JOB.slotVMAP n) + v / 4
  let old := leVal (s.dramBytes a 1)
  match s.dramWrite (unitWho pgJOB) a (leBytes 1 (setBits old (v % 4 * 2 + 1) (v % 4 * 2) code)) with
  | (t, true) => t.verdictCount code
  | (t, false) => t.jobFetchErr (v % 2 ^ 20)

/-- The additional data of a tile (R92). -/
def JobHead.aad (h : JobHead) (t : TileId) (flags : Nat) : List Byte :=
  leBytes 8 h.jobid ++ leBytes 2 t.rep ++ leBytes 1 t.plane ++ leBytes 1 flags ++ leBytes 2 t.y ++ leBytes 2 t.x

/-- Declared size of a tile (R91). -/
def JobHead.tileSize (h : JobHead) (t : TileId) : Nat := h.tileW t * h.tileH t * h.bpp

/-- A tile error that the table entry alone shows (R96). A STORED tile that is ZERO has no payload, hence not its declared
size. -/
def JobHead.entryBad (h : JobHead) (e : List Byte) : Bool :=
  (bit (leAt e 12 2) 0 && (leAt e 8 4 != 0 || h.enc || bit (leAt e 12 2) 1)) ||
    leAt e 0 8 % 16 != 0 || decide (2 ^ 40 < leAt e 0 8 + leAt e 8 4)

/-- The payload of a tile entry authenticates (R92); an entry whose payload no stream can hold does not. -/
def JobHead.tagGood (h : JobHead) (t : TileId) (key : Option (List Byte)) (e pl : List Byte) : Bool :=
  match key with
  | none => false
  | some k => gcmGood k ((e.drop 16).take 12) (h.aad t (leAt e 12 2)) pl

/-- The plaintext of a payload. -/
def JobHead.plainOf (h : JobHead) (key : Option (List Byte)) (e pl : List Byte) : List Byte :=
  if h.enc then gcmPlain (key.getD []) ((e.drop 16).take 12) pl else pl

/-- A DRAM read of JOB as far as it gets: the bytes before an error response, and whether it was complete (R97). -/
def State.dramPrefix (s : State) (a n : Nat) : State × List Byte × Bool :=
  match s.dramFault (unitWho pgJOB) false a n with
  | none => (s.dramPass (unitWho pgJOB) false a n, s.dramBytes a n, true)
  | some (c, b) =>
    ((s.dramPass (unitWho pgJOB) false a (b - a)).dramError (unitWho pgJOB) false c b, s.dramBytes a (b - a), false)

/-- The table entry of a tile (R90). -/
def State.tileEntry (s : State) (n : Nat) (h : JobHead) (t : TileId) : State × Option (List Byte) :=
  s.dramRead (unitWho pgJOB) (s.rg64 pgJOB (Reg.JOB.slotBASE n) + (h.rep t.rep).tileTab + h.tileIdx t * 32) 32

/-- The payload of an entry. -/
def State.tilePayload (s : State) (n : Nat) (e : List Byte) : State × List Byte × Bool :=
  s.dramPrefix (s.rg64 pgJOB (Reg.JOB.slotBASE n) + leAt e 0 8) (leAt e 8 4)

/-- Number of groups of a tile, the length of a group, where it begins (R91). -/
def JobHead.groups (h : JobHead) (t : TileId) : Nat := (h.tileH t + 3) / 4
def groupLen (plain : List Byte) (g : Nat) : Nat := leAt plain (2 * g) 2
def groupAt (ng : Nat) (plain : List Byte) (g : Nat) : Nat :=
  2 * ng + ((List.range g).map (groupLen plain)).foldl (· + ·) 0

/-- A group inflated to exactly its declared size from exactly its length (R91, R96). -/
def JobHead.group (h : JobHead) (t : TileId) (plain : List Byte) (g : Nat) : Option (List Byte) :=
  let lines := min 4 (h.tileH t - 4 * g)
  let size := h.tileW t * lines * h.bpp
  let n := groupLen plain g
  if n = 0 then none
  else
    match inflate size size ((plain.drop (groupAt (h.groups t) plain g)).take n) with
    | .ok (out, []) => if out.length = size then some out else none
    | _ => none

/-- The tile's payload length and every group are in order (R96). -/
def JobHead.tileOk (h : JobHead) (t : TileId) (plain : List Byte) : Bool :=
  let ng := h.groups t
  plain.length == groupAt ng plain ng && (List.range ng).all (fun g => (h.group t plain g).isSome)

/-- The verdict of a tile whose entry and payload were read whole (R96): the tag first when ENC = 1. -/
def JobHead.judge (h : JobHead) (t : TileId) (key : Option (List Byte)) (e pl : List Byte) : Nat :=
  if h.enc && !h.tagGood t key e pl then 3
  else if h.entryBad e then 2
  else if bit (leAt e 12 2) 0 then 1
  else if bit (leAt e 12 2) 1 then (if leAt e 8 4 = h.tileSize t + (if h.enc then 16 else 0) then 1 else 2)
  else if h.tileOk t (h.plainOf key e pl) then 1 else 2

/-- The verdict a check gives (R96); none when a read got an error response (R97). A payload beyond 2^40 is not read:
under ENC = 1 its tag fails (R92). -/
def State.checkVerdict (s : State) (n : Nat) (h : JobHead) (t : TileId) : State × Option Nat :=
  match s.tileEntry n h t with
  | (s, none) => (s, none)
  | (s, some e) =>
    let key := s.jobKey n
    if (h.enc ∧ key = none) ∨ 2 ^ 40 < leAt e 0 8 + leAt e 8 4 then (s, some (h.judge t key e []))
    else if h.enc = false ∧ h.entryBad e then (s, some 2)
    else
      match s.tilePayload n e with
      | (s, pl, true) => (s, some (h.judge t key e pl))
      | (s, _, false) => (s, none)

/-- An error verdict found is raised and logged (R96). -/
def State.verdictError (s : State) (v code : Nat) : State :=
  if code = 3 then (s.err pgJOB 1 0x161 (v % 2 ^ 20)).setIst pgJOB 2
  else if code = 2 then (s.err pgJOB 0 0x160 (v % 2 ^ 20)).setIst pgJOB 1
  else s

/-- A check of one tile of a READY slot (R96, R97): at most once while its verdict is not 0b00. `asks` lists the cursors
whose passes asked for it: a verdict the map does not take governs those passes only. The CONTEXT of a FETCHERR that is
no map access is the verdict number, as for one that is (DESIGN CHOICE, log entry 25). -/
def State.checkTile (s : State) (asks : List Nat) (n : Nat) (h : JobHead) (i : TileId) : State :=
  let v := h.verdictNo i
  let (s, now) := match s.verdict? n v with
    | some c => (s.verdictRead n v, c)
    | none => ((s.verdictRead n v).jobFetchErr (v % 2 ^ 20), 0)
  if now ≠ 0 then s
  else
    match s.checkVerdict n h i with
    | (s, none) => s.jobFetchErr (v % 2 ^ 20)
    | (s, some c) =>
      let t := (s.verdictError v c).setVerdict n v c
      if t.verdict? n v = some c then t
      else
        let rest := t.passVerdicts.filter (fun e => !(e.slot == n && e.no == v && asks.contains e.cur))
        { t with passVerdicts := asks.map (fun a => (⟨a, n, i.rep, i.y, v, c⟩ : PassVerdict)) ++ rest }

/-- The tile with a verdict number (R90). -/
def JobHead.tileOf (h : JobHead) (v : Nat) : Option TileId :=
  (h.reps.zipIdx).findSome? (fun e =>
    let r := e.1
    let i := v - r.vbase
    if r.vbase ≤ v ∧ i < h.nplanes * r.trows * r.tcols then
      some ⟨e.2, i / (r.trows * r.tcols), i / r.tcols % r.trows, i % r.tcols⟩
    else none)

/-- All tiles of a repeat. -/
def JobHead.tilesOf (h : JobHead) (i : Nat) : List TileId :=
  let r := h.rep i
  (List.range (h.nplanes * r.trows * r.tcols)).map (fun k =>
    ⟨i, k / (r.trows * r.tcols), k / r.tcols % r.trows, k % r.tcols⟩)

/-- All tiles of a job in the order of the verdict numbers: its repeats by ascending VBASE (R90, R98). -/
def JobHead.allTiles (h : JobHead) : List TileId :=
  let put := fun (i : Nat) (l : List Nat) =>
    l.takeWhile (fun j => decide ((h.rep j).vbase < (h.rep i).vbase)) ++ i ::
      l.dropWhile (fun j => decide ((h.rep j).vbase < (h.rep i).vbase))
  ((List.range h.reps.length).foldr put []).flatMap h.tilesOf

/-- VDONE (R98): the pass has checked every unchecked tile. -/
def execVdone (slot : Nat) (s : State) : Host.Outcome State Fault Refusal :=
  match s.awake pgJOB && s.verifying.contains slot, s.jobHead slot with
  | true, some h =>
    let s := h.allTiles.foldl (fun t i => t.checkTile [] slot h i) s
    .next (({ s with verifying := s.verifying.filter (· != slot) }.setFl pgJOB (Reg.JOB.slotSTAT slot) 2 2 1).setIst
      pgJOB 4)
  | _, _ => .next s

/-! ## Source lines and pixels -/

/-- The repeat, iteration and line within it of a global line below TOTLINES (R86). -/
def locate : List Rep → Nat → Nat → Option (Nat × Nat × Nat)
  | [], _, _ => none
  | r :: rs, i, l =>
    if r.count = 0 ∨ l < r.count * r.lines then some (i, l / r.lines, l % r.lines)
    else locate rs (i + 1) (l - r.count * r.lines)

/-- Where a global line of a slot lies: slot, repeat, iteration, line; none outside the job (R87). -/
def State.sourceLine (s : State) : Nat → Nat → Nat → Option (Nat × Nat × Nat × Nat)
  | 0, _, _ => none
  | fuel + 1, n, l =>
    match s.jobHead n with
    | none => none
    | some h =>
      match locate h.reps 0 l with
      | some (r, i, k) => some (n, r, i, k)
      | none =>
        let c := s.rg pgJOB (Reg.JOB.slotCTRL n)
        match h.total with
        | some tot => if bit c 11 ∧ tot ≤ l then s.sourceLine fuel (bits c 10 8) (l - tot) else none
        | none => none

/-- The place of a signed global line. -/
def State.lineAt (s : State) (n : Nat) (l : Int) : Option (Nat × Nat × Nat × Nat) :=
  if l < 0 then none else s.sourceLine (l.toNat + 1) n l.toNat

/-- Pixel values of plaintext bytes (R93). -/
def JobHead.values (h : JobHead) (bs : List Byte) : List Nat :=
  (List.range (bs.length / h.bpp)).map (fun i => if h.bpp16 then leAt bs (2 * i) 2 else leAt bs i 1 * 257)

/-- The groups of a compressed tile up to the first with a size fault (R98): their output, and whether all were good. -/
def JobHead.inflateTo (h : JobHead) (t : TileId) (plain : List Byte) : Nat → Nat → List Byte × Bool
  | 0, _ => ([], true)
  | fuel + 1, g =>
    match h.group t plain g with
    | none => ([], false)
    | some out =>
      let (rest, ok) := h.inflateTo t plain fuel (g + 1)
      (out ++ rest, ok)

/-- The tile of a source line's column in a plane. -/
def tileAt (r plane k col : Nat) : TileId := ⟨r, plane, k / 256, col / 256⟩

/-- A tile is blank from a line on for one pass of a cursor: its buffer met an uncorrectable word (R97, 20 R405). -/
def blanked (bl : List Blank) (base : Int) (t : TileId) (k : Nat) : Bool :=
  bl.any (fun e => e.base == base && e.rep == t.rep && e.plane == t.plane && e.y == t.y && e.x == t.x && decide (e.line ≤ k))

/-- The tile buffer of a pass. -/
def bufOf (bl : List TileBuf) (slot : Nat) (base : Int) (t : TileId) : Option TileBuf :=
  bl.find? (fun e => e.slot == slot && e.base == base && e.rep == t.rep && e.plane == t.plane && e.y == t.y && e.x == t.x)

/-- What a pass has of the job: its blanked tiles and its tile buffers. -/
structure PassData where
  blanks : List Blank
  tiles : List TileBuf
deriving DecidableEq, Repr
def BarCur.data (c : BarCur) : PassData := ⟨c.blanks, c.tiles⟩
def RefCur.data (c : RefCur) : PassData := ⟨c.blanks, c.tiles⟩

/-- The pixel of a located line; none when blank or not read (R91, R93, R97, R98). `base` names the pass: the cursor's
line less the line's place in its iteration. -/
def State.sourcePixel (s : State) (d : PassData) (base : Int) (at_ : Nat × Nat × Nat × Nat) (plane col : Nat) :
    Option Nat :=
  let t := tileAt at_.2.1 plane at_.2.2.2 col
  match s.jobHead at_.1, bufOf d.tiles at_.1 base t with
  | some h, some b =>
    if blanked d.blanks base t at_.2.2.2 then none
    else if b.zero then some 0
    else b.px[at_.2.2.2 % 256 * h.tileW t + col % 256]?
  | _, _ => none

/-- The second read of a tile with verdict 0b01 (R97, R98): ZERO or the pixel values of the lines it delivers. An error
response ends the tile for this pass; a size fault or a bad tag sets the verdict for later passes. At a bad tag the
lines already delivered stand: how many is a free value (log entry 25). DESIGN CHOICE (log entry 25): a verdict found so is
raised and logged as one a check finds, and a STORED tile, which has no groups, is blank after its last whole line. -/
def State.tileRead (s : State) (n : Nat) (h : JobHead) (t : TileId) : State × Bool × List Nat :=
  let v := h.verdictNo t
  let fetch := fun (s : State) => s.jobFetchErr (v % 2 ^ 20)
  let spoil := fun (s : State) (c : Nat) => (s.verdictError v c).setVerdict n v c
  match s.tileEntry n h t with
  | (s, none) => (fetch s, false, [])
  | (s, some e) =>
    let key := s.jobKey n
    if h.enc ∧ (key = none ∨ 2 ^ 40 < leAt e 0 8 + leAt e 8 4) then (spoil s 3, false, [])
    else if h.enc = false ∧ h.entryBad e then (spoil s 2, false, [])
    else if h.enc = false ∧ bit (leAt e 12 2) 0 then (s, true, [])
    else
      let (s, pl, whole) := s.tilePayload n e
      let plain := h.plainOf key e (if whole || !h.enc then pl else pl ++ List.replicate 16 0)
      let ng := h.groups t
      let stored := bit (leAt e 12 2) 1
      let (bs, ok) := if stored then (plain.take (h.tileSize t), plain.length == h.tileSize t) else h.inflateTo t plain ng 0
      let row := h.tileW t * h.bpp
      let lines := bs.length / row
      if whole = false then (fetch s, false, (h.values (bs.take (lines * row))))
      else if h.enc && !h.tagGood t key e pl then
        (spoil s.drawn 3, false, h.values (bs.take (min lines (Config.draw s.fresh % (h.tileH t + 1)) * row)))
      else if ok = false ∨ h.entryBad e then (spoil s 2, false, h.values (bs.take (lines * row)))
      else (s, false, h.values bs)

/-- The pass of cursor `c` reads the map for a tile whose verdict is not its own (R95, R97). -/
def State.passVerdict (s : State) (c n v : Nat) : State :=
  if s.passVerdicts.any (fun e => e.cur == c && e.slot == n && e.no == v) then s else s.verdictRead n v

/-- A pass of cursor `c` takes one tile (R97, R98, R103): counted; blank or VOID tiles at counter `o`. -/
def State.passTile (s : State) (c o n : Nat) (h : JobHead) (t : TileId) : State × Bool × List Nat :=
  let s := (s.inc pgJOB Reg.JOB.TILECNT 1).passVerdict c n (h.verdictNo t)
  if s.verdictNow c n (h.verdictNo t) ≠ 1 then (s.sat pgJOB o 1, false, [])
  else
    let (s, z, px) := s.tileRead n h t
    (if z ∨ px.length = h.tileW t * h.tileH t then s else s.sat pgJOB o 1, z, px)

/-- A tile that a line needs: slot, its header, tile, line of the iteration, base of the pass. -/
structure Need where
  slot : Nat
  head : JobHead
  tile : TileId
  line : Nat
  base : Int
deriving DecidableEq, Repr

/-- The tile is unchecked for cursor `c` (R95, R102). -/
def State.unchecked (s : State) (c : Nat) (e : Need) : Bool := s.verdictNow c e.slot (e.head.verdictNo e.tile) == 0

/-- The buffer of a tile read. -/
def Need.buf (e : Need) (z : Bool) (px : List Nat) : TileBuf :=
  ⟨e.slot, e.base, e.tile.rep, e.tile.plane, e.tile.y, e.tile.x, z, px⟩

/-- Bar cursor `n`, reference cursor `n` reads a needed tile once per pass, when it is checked (R102, R105). -/
def State.barTake (s : State) (n : Nat) (e : Need) : State :=
  if (bufOf (s.barCur n).tiles e.slot e.base e.tile).isSome || s.unchecked n e then s
  else
    let (t, z, px) := s.passTile n (Reg.JOB.bcurBLANKCNT n) e.slot e.head e.tile
    t.setBarCur n { t.barCur n with tiles := e.buf z px :: (t.barCur n).tiles }
def State.refTake (s : State) (n : Nat) (e : Need) : State :=
  if (bufOf (s.refCur n).tiles e.slot e.base e.tile).isSome || s.unchecked (16 + n) e then s
  else
    let (t, z, px) := s.passTile (16 + n) (Reg.JOB.rcurVOIDCNT n) e.slot e.head e.tile
    t.setRefCur n { t.refCur n with tiles := e.buf z px :: (t.refCur n).tiles }

/-- WIDTH of a slot. -/
def State.jobWidth (s : State) (n : Nat) : Nat := match s.jobHead n with
  | some h => h.width
  | none => 0

/-! ## Bar cursors -/

/-- The set in force of a bar cursor. -/
def State.barSet (s : State) (n : Nat) : BarSet :=
  ⟨s.rg pgJOB (Reg.JOB.bcurCFG n), s.rgI pgJOB (Reg.JOB.bcurBOFF n), sgn 32 (s.rg pgJOB (Reg.JOB.bcurXOFF n)),
    (s.barCur n).bad⟩

/-- The set that governs line `k` of a bar (R106). -/
def State.barSetAt (s : State) (n : Nat) (k : Int) : BarSet := governing (s.barCur n).olds (s.barSet n) k

/-- log2 of FX and FY. -/
def BarSet.fx (x : BarSet) : Nat := bits x.cfg 9 8
def BarSet.fy (x : BarSet) : Nat := bits x.cfg 11 10
def BarSet.plane (x : BarSet) : Nat := bits x.cfg 7 4
def BarSet.slot (x : BarSet) : Nat := bits x.cfg 3 1

/-- The source lines bar-grid line `J` needs: the first, and the second of bilinear sampling (R99). -/
def BarSet.srcLine (x : BarSet) (j : Int) : Int :=
  if bit x.cfg 12 then shr (2 * j + 1 - 2 ^ x.fy) (x.fy + 1) else shr j x.fy

/-- A chained 16-bit slot read by a cursor whose bound slot has 8-bit pixels is delivered blank (R101). -/
def State.widerChain (s : State) (bound n : Nat) : Bool :=
  match s.jobHead bound, s.jobHead n with
  | some a, some b => !a.bpp16 && b.bpp16
  | _, _ => false

/-- The pixel of a bar for bar-grid line `J`, bar-grid column `c` (R99, R103); none when BLANK. -/
def State.barPixel (s : State) (bl : PassData) (x : BarSet) (j c : Int) : Option Nat :=
  match s.lineAt x.slot (x.srcLine j) with
  | none => none
  | some a =>
    let w := s.jobWidth a.1
    let base := x.srcLine j - a.2.2.2
    if c < 0 ∨ (w : Int) * 2 ^ x.fx ≤ c ∨ s.widerChain x.slot a.1 then none
    else if bit x.cfg 12 = false then s.sourcePixel bl base a x.plane (shr c x.fx).toNat
    else
      let ux := 2 * c + 1 - 2 ^ x.fx
      let uy := 2 * j + 1 - 2 ^ x.fy
      let dx := 2 ^ (x.fx + 1)
      let dy := 2 ^ (x.fy + 1)
      let wx := (ux % dx).toNat
      let wy := (uy % dy).toNat
      let x0 := clamp 0 (w - 1) (Int.fdiv ux dx) |>.toNat
      let x1 := clamp 0 (w - 1) (Int.fdiv ux dx + 1) |>.toNat
      let k1 := match s.jobHead a.1 with
        | some h => min (a.2.2.2 + 1) ((h.rep a.2.1).lines - 1)
        | none => a.2.2.2
      let a1 := (a.1, a.2.1, a.2.2.1, k1)
      let terms : List (Nat × Option Nat) :=
        [((dx.toNat - wx) * (dy.toNat - wy), s.sourcePixel bl base a x.plane x0), (wx * (dy.toNat - wy), s.sourcePixel bl base a x.plane x1),
         ((dx.toNat - wx) * wy, s.sourcePixel bl base a1 x.plane x0), (wx * wy, s.sourcePixel bl base a1 x.plane x1)]
      let used := terms.filter (fun e => e.1 != 0)
      let d := (dx * dy).toNat
      if used.any (fun e => e.2 == none) then none
      else some ((2 * used.foldl (fun t e => t + e.1 * e.2.getD 0) 0 + d) / (2 * d))

/-- The contone input of nozzle `i` of bar `b` on line `k` (R99 to R103, R107, R508); none when BLANK. -/
def State.contone (s : State) (b : Nat) (k : Int) (i : Int) : Option Nat :=
  let x := s.barSetAt b k
  if s.enabled pgJOB = false ∨ s.barOn b = false ∨ x.bad then none
  else s.barPixel (s.barCur b).data x (k + x.boff) (i + x.xoff)

/-- The first and last source columns a bar's nozzles need, 0 to WIDTH − 1 (R99); none when no nozzle lies in the job. -/
def State.lineCols (s : State) (b : Nat) (x : BarSet) (width : Nat) : Option (Nat × Nat) :=
  let c0 := max 0 x.xoff
  let c1 := min (x.xoff + s.nact b - 1) ((width : Int) * 2 ^ x.fx - 1)
  if c1 < c0 then none
  else if bit x.cfg 12 = false then some ((shr c0 x.fx).toNat, (shr c1 x.fx).toNat)
  else
    let u := fun (c : Int) => 2 * c + 1 - 2 ^ x.fx
    let d := 2 ^ (x.fx + 1)
    let lo := Int.fdiv (u c0) d
    let hi := Int.fdiv (u c1) d + (if u c1 % d = 0 then 0 else 1)
    some ((clamp 0 (width - 1) lo).toNat, (clamp 0 (width - 1) hi).toNat)

/-- The tiles a line of a bar needs (R99, R101, R102): both source lines of bilinear sampling, all columns. A slot of the
chain without the cursor's plane is blank and needs none (DESIGN CHOICE, log entry 25). -/
def State.lineTiles (s : State) (b : Nat) (k : Int) : List Need :=
  let x := s.barSetAt b k
  let j := k + x.boff
  if s.enabled pgJOB = false ∨ s.barOn b = false ∨ x.bad then []
  else
    match s.lineAt x.slot (x.srcLine j) with
    | none => []
    | some a =>
      match s.jobHead a.1 with
      | none => []
      | some h =>
        if h.nplanes ≤ x.plane ∨ s.widerChain x.slot a.1 then []
        else
          match s.lineCols b x h.width with
          | none => []
          | some (lo, hi) =>
            let two := bit x.cfg 12 && (2 * j + 1 - 2 ^ x.fy) % 2 ^ (x.fy + 1) != 0
            let rows := if two then [a.2.2.2, min (a.2.2.2 + 1) ((h.rep a.2.1).lines - 1)] else [a.2.2.2]
            rows.flatMap (fun r => (span (lo / 256) (hi / 256 + 1 - lo / 256)).map (fun c =>
              (⟨a.1, h, ⟨a.2.1, x.plane, r / 256, c⟩, r, x.srcLine j - a.2.2.2⟩ : Need)))

/-- Bar cursor `b` has the contone data of line `k` read, as far as it is checked (R102). -/
def State.jobTake (s : State) (b : Nat) (k : Int) : State := (s.lineTiles b k).foldl (fun t e => t.barTake b e) s

/-- The tile buffers line `k` of a bar is read from: a tile with an uncorrectable word is blank from there on for the
pass (20 R405). -/
def State.barTileReads (s : State) (b : Nat) (k : Int) : State :=
  let (t, bad) := s.sramItems 3 pgJOB (fun (e : Need) => b * 65536 + e.tile.x) (s.lineTiles b k)
  if bad.isEmpty then t
  else
    t.setBarCur b { t.barCur b with
      blanks := (t.barCur b).blanks ++ bad.map (fun e => ⟨e.base, e.tile.rep, e.tile.plane, e.tile.y, e.tile.x, e.line⟩) }

/-- A line waits for an unchecked tile (R95, R102). -/
def State.lineUnchecked (s : State) (b : Nat) (k : Int) : Bool :=
  (s.lineTiles b k).any (fun e => (bufOf (s.barCur b).tiles e.slot e.base e.tile).isNone && s.unchecked b e)

/-- The contone data of line `k` is ready: no tile of it is unchecked (R102, R124). -/
def State.contoneReady (s : State) (b : Nat) (k : Int) : Bool := !s.lineUnchecked b k

/-- A line late for its contone data (R102). -/
def State.contoneLate (s : State) (b : Nat) (k : Int) : State :=
  if s.lineUnchecked b k then
    ((s.sat pgJOB (Reg.JOB.bcurLATECNT b) 1).sat pgJOB Reg.JOB.NVCNT 1).err pgJOB 3 0x163 b
  else s

/-- The bar line from which a bar cursor's window runs (R102): the last line started since it was enabled, else
KSTART − 1 of the enabled Steeple slot with the lowest KSTART; none with no such slot. -/
def State.windowBase (s : State) (b : Nat) : Option Int :=
  match (s.barCur b).last with
  | some _ => some (s.barK b)
  | none =>
    match (s.barSlots b).map (fun q => ((s.rg64 (pgSTP (q / 4)) (Reg.STP.slotKSTART (q % 4)) % 2 ^ 48 : Nat) : Int) - 1) with
    | [] => none
    | v :: vs => some (vs.foldl min v)

/-- The tile lies in the window of bar cursor `b`: a line up to WIN bar lines ahead needs it (R102). -/
def State.barAsks (s : State) (n : Nat) (t : TileId) (b : Nat) : Bool :=
  s.barOn b && (match s.windowBase b with
    | none => false
    | some k => (List.range (s.fl pgJOB (Reg.JOB.bcurWIN b) 15 0 + 9)).any (fun i =>
        (s.lineTiles b (k - 8 + i)).any (fun e => e.slot == n && e.tile == t)))

/-- The end of a job seen by a cursor (R87): for every slot on the chain that the line passes. -/
def State.jobEnds (s : State) : Nat → Nat → Int → List Nat
  | 0, _, _ => []
  | fuel + 1, n, l =>
    match s.jobHead n with
    | none => []
    | some h =>
      match h.total with
      | none => []
      | some tot =>
        if l < (tot : Int) then []
        else
          let c := s.rg pgJOB (Reg.JOB.slotCTRL n)
          n :: (if bit c 11 then s.jobEnds fuel (bits c 10 8) (l - tot) else [])

/-- Tile buffers that no line from `k` − 8 to `k` + 8 needs, each under the set that governs it, go (R106: 8 lines either
way). -/
def State.barShed (s : State) (b : Nat) (k : Int) : State :=
  let ls := (List.range 17).map (fun (i : Nat) =>
    let x := s.barSetAt b (k - 8 + i)
    x.srcLine (k - 8 + i + x.boff))
  let near := fun (e : TileBuf) => ls.any (fun l => decide (l ≤ e.base + 256 * e.y + 255) && decide (e.base + 256 * e.y ≤ l + 1))
  s.setBarCur b { s.barCur b with tiles := (s.barCur b).tiles.filter near }

/-- The bar of a cursor starts line `k` (R87, R101, R102, R106). -/
def State.jobStart (s : State) (b k : Nat) : State :=
  let s := s.setBarCur b { s.barCur b with olds := follow (s.barCur b).olds s.cycle (s.barK b) }
  let x := s.barSetAt b k
  if s.enabled pgJOB = false ∨ s.barOn b = false then s
  else
    let j := (k : Int) + x.boff
    let l := x.srcLine j
    let s := (s.setRgI pgJOB (Reg.JOB.bcurPOS b) j).setRgI pgJOB (Reg.JOB.bcurSRC b) l
    let c := s.barCur b
    let ends := if x.bad then [] else (s.jobEnds 8 x.slot l).eraseDups
    let new := ends.filter (fun n => !c.ended.contains n)
    let where_ := s.lineAt x.slot l
    let row := where_.map (fun a => (a.1, a.2.1, a.2.2.1, a.2.2.2 / 256))
    let wider := match where_ with
      | some a => s.widerChain x.slot a.1
      | none => false
    let s := s.setBarCur b { c with last := some j, ended := c.ended ++ new, row := row, passed := wider }
    let s := if new.isEmpty then s else s.happen pgJOB 3 b
    let s := if wider && !c.passed then s.logOnly pgJOB 0x166 b else s
    let s := if row ≠ c.row then s.passEnd b c.row else s
    ((s.barShed b k).jobTake b k).showRelease

/-- A write of a bar cursor's EN (R101). -/
def State.cursorEnable (s : State) (n : Nat) (en : Bool) : State :=
  let o := Reg.JOB.bcurCFG n
  if n < s.nBarCur then
    if en && !s.fb pgJOB o 0 then
      if 8388608 < s.bandSum (fun c => s.rg pgJOB (Reg.JOB.bcurCFG c)) + s.bandOf n (s.rg pgJOB o) then
        s.err pgJOB 6 0x166 n
      else
        ((s.setFl pgJOB o 0 0 1).setBarCur n { s.barCur n with ended := [], row := none, passed := false, last := none,
                                                                      blanks := [], tiles := [] }).showBand.showRelease
    else (s.setFl pgJOB o 0 0 (b2n en)).showBand.showRelease
  else s

/-- CURSOR_ENABLE (R101). -/
def execCursorEnable (bar : Nat) (en : Bool) (req : Nat) (s : State) : Host.Outcome State Fault Refusal :=
  .next (if bar < s.nBarCur then s.gateH pgJOB req (Reg.JOB.bcurCFG bar)
    (setBits (s.normal pgJOB (Reg.JOB.bcurCFG bar)) 0 0 (b2n en)) (·.cursorEnable bar en) else s)

/-! ## Reference cursors -/

/-- The set in force of a reference cursor. -/
def State.refSet (s : State) (n : Nat) : RefSet :=
  let p := pgJOB
  ⟨s.rg p (Reg.JOB.rcurCFG n), s.fl p (Reg.JOB.rcurPMASK n) 15 0, s.rgI p (Reg.JOB.rcurROFF n),
    s.rg p (Reg.JOB.rcurRSTEP n), s.rg p (Reg.JOB.rcurXFIRST n), s.rg p (Reg.JOB.rcurXCOUNT n), (s.refCur n).bad⟩

/-- The set that governs a camera line triggered in cycle `t` (R106). -/
def State.refSetAt (s : State) (n t : Nat) : RefSet :=
  match (s.refCur n).olds.find? (fun e => decide (t < e.1)) with
  | some e => e.2
  | none => s.refSet n

/-- s_k of camera line `k`, signed 40.24 (R104). -/
def RefSet.pos (x : RefSet) (k : Nat) : Int := x.roff + (k : Int) * x.rstep

/-- A reference pixel: value and VOID (R104). -/
def State.refPixel (s : State) (n : Nat) (x : RefSet) (plane : Nat) (line col : Int) : Nat × Bool :=
  match s.lineAt (bits x.cfg 3 1) line with
  | none => (0, false)
  | some a =>
    match s.jobHead a.1 with
    | none => (0, false)
    | some h =>
      if h.nplanes ≤ plane ∨ col < 0 ∨ (h.width : Int) ≤ col then (0, false)
      else
        match s.sourcePixel (s.refCur n).data (line - a.2.2.2) a plane col.toNat with
        | some v => (v, false)
        | none => (0, true)

/-- The global source lines of camera line `k` (R104): first and last. -/
def RefSet.lines (x : RefSet) (k : Nat) : Int × Int := (shr (x.pos k) 24, shr (x.pos k + x.rstep - 1) 24)

/-- The planes of PMASK. -/
def RefSet.planes (x : RefSet) : List Nat := (List.range 16).filter (bit x.pmask)

/-- The tiles a reference cursor reads for global line `l` (R104). -/
def State.refTiles (s : State) (x : RefSet) (l : Int) : List Need :=
  match s.lineAt (bits x.cfg 3 1) l with
  | none => []
  | some a =>
    match s.jobHead a.1 with
    | none => []
    | some h =>
      let hi := min (x.xfirst + x.xcount) h.width
      if hi ≤ x.xfirst then []
      else
        (x.planes.filter (fun i => decide (i < h.nplanes))).flatMap (fun i =>
          (span (x.xfirst / 256) ((hi - 1) / 256 + 1 - x.xfirst / 256)).map (fun c =>
            (⟨a.1, h, ⟨a.2.1, i, a.2.2.2 / 256, c⟩, a.2.2.2, l - a.2.2.2⟩ : Need)))

/-- The lines of camera line `k`, all of them. -/
def RefSet.lineList (x : RefSet) (k : Nat) : List Int :=
  (List.range ((x.lines k).2 - (x.lines k).1 + 1).toNat).map (fun (i : Nat) => (x.lines k).1 + (i : Int))

/-- The tiles of camera line `k`. -/
def State.refNeeds (s : State) (x : RefSet) (k : Nat) : List Need := (x.lineList k).flatMap (s.refTiles x)

/-- Reference cursor `n` has the tiles of camera line `k` read, as far as they are checked (R105). -/
def State.refTakes (s : State) (n : Nat) (x : RefSet) (k : Nat) : State := (s.refNeeds x k).foldl (fun t e => t.refTake n e) s

/-- The tile buffers the lines of a camera line are read from (20 R405). -/
def State.refTileReads (s : State) (n : Nat) (x : RefSet) (k : Nat) : State :=
  let (t, bad) := s.sramItems 3 pgJOB (fun (e : Need) => ((16 + n) * 16 + e.tile.plane) * 65536 + e.tile.x) (s.refNeeds x k)
  if bad.isEmpty then t
  else
    t.setRefCur n { t.refCur n with
      blanks := (t.refCur n).blanks ++ bad.map (fun e => ⟨e.base, e.tile.rep, e.tile.plane, e.tile.y, e.tile.x, e.line⟩) }

/-- A tile of the camera line is unchecked (R104). -/
def State.refUnchecked (s : State) (n : Nat) (x : RefSet) (k : Nat) : Bool :=
  (s.refNeeds x k).any (fun e => (bufOf (s.refCur n).tiles e.slot e.base e.tile).isNone && s.unchecked (16 + n) e)

/-- The tile lies in the window of reference cursor `n` (R105): a source line up to WIN lines beyond the last camera
line needs it. DESIGN CHOICE (log entry 25): the window opens with the first camera line. -/
def State.refAsks (s : State) (slot : Nat) (t : TileId) (n : Nat) : Bool :=
  s.refOn n && (match (s.refCur n).last with
    | none => false
    | some p => (List.range (s.fl pgJOB (Reg.JOB.rcurWIN n) 15 0 + 257)).any (fun i =>
        (s.refTiles (s.refSet n) (shr p 24 - 256 + i)).any (fun e => e.slot == slot && e.tile == t)))

/-- The cursors whose windows hold a tile: bar cursors, 16 + n for reference cursors. -/
def State.askers (s : State) (slot : Nat) (t : TileId) : List Nat :=
  (List.range s.nBarCur).filter (s.barAsks slot t) ++ ((List.range s.nRefCur).filter (s.refAsks slot t)).map (16 + ·)

/-- TILE_CHECK (R96, R102): the check of one tile ends; due while a cursor's window holds the tile or a VERIFY pass of its
slot is in progress. -/
def execTileCheck (slot verdict : Nat) (s : State) : Host.Outcome State Fault Refusal :=
  match s.awake pgJOB && decide (slot < 8), s.jobHead slot with
  | true, some h =>
    match h.tileOf verdict with
    | some t =>
      let asks := s.askers slot t
      .next (if asks.isEmpty && !s.verifying.contains slot then s else s.checkTile asks slot h t)
    | none => .next s
  | _, _ => .next s

/-- The cursor delivers: JOB enabled, the cursor enabled (R104, R508). -/
def State.refLive (s : State) (n : Nat) : Bool := s.enabled pgJOB && s.refOn n

/-- A camera line late for an unchecked tile (R104). -/
def State.refLate (s : State) (n : Nat) : State :=
  ((s.sat pgJOB (Reg.JOB.rcurLATECNT n) 1).sat pgJOB Reg.JOB.NVCNT 1).err pgJOB 3 0x163 (16 + n)

/-- A line trigger of the home port reaches reference cursor `n` (R87, R104, R106). -/
def State.refStart (s : State) (n k : Nat) : State :=
  if s.refLive n = false then s
  else
    let x := s.refSet n
    let s := s.setRgI pgJOB (Reg.JOB.rcurPOS n) (x.pos k)
    let c := s.refCur n
    let l := (x.lines k).2
    let ends := if x.bad then [] else (s.jobEnds 8 (bits x.cfg 3 1) l).eraseDups
    let new := ends.filter (fun e => !c.ended.contains e)
    let row := (s.lineAt (bits x.cfg 3 1) l).map (fun a => (a.1, a.2.1, a.2.2.1, a.2.2.2 / 256))
    let s := s.setRefCur n { c with last := some (x.pos k), ended := c.ended ++ new, row := row }
    let s := if new.isEmpty then s else s.happen pgJOB 3 (16 + n)
    let s := if row ≠ c.row then s.passEnd (16 + n) c.row else s
    let low := (x.lines (k - 256)).1
    let kept := (s.refCur n).tiles.filter (fun e => decide (low ≤ e.base + 256 * e.y + 255))
    let s := s.setRefCur n { s.refCur n with tiles := kept }
    (if x.bad then s else s.refTakes n x k).showRelease

/-! ## Register writes, apply, enable -/

/-- A write of SLOT.CTRL (R94): KEY while EMPTY and unbound; NEXT, NEXTEN; LOAD, UNLOAD, VERIFY. DESIGN CHOICE (log entry
25): set in one write, KEY acts first, then UNLOAD, LOAD and VERIFY. -/
def State.slotCtrl (s : State) (n v : Nat) : State :=
  let o := Reg.JOB.slotCTRL n
  let free := s.jobState n == 0 && !s.slotBusy n
  let s := (s.setFl pgJOB o 11 8 (bits v 11 8)).showRelease
  let s := if bits v 7 4 = s.fl pgJOB o 7 4 then s
    else if free then s.setFl pgJOB o 7 4 (bits v 7 4) else s.err pgJOB 7 0x167 n
  let s := if bit v 1 then s.jobUnload n else s
  let s := if bit v 0 then s.jobLoad n else s
  if bit v 2 then s.jobVerify n else s

/-- A write of BASE or VMAP that would change it while the slot is not EMPTY and unbound (R94). -/
def State.slotRefuses (s : State) (o v : Nat) : Bool :=
  let n := (o - 0x200) / 0x20
  decide (0x200 ≤ o) && decide (o < 0x300) && decide (o < Reg.JOB.slotCTRL n) && v % 2 ^ 32 != s.rg pgJOB o &&
    !(s.jobState n == 0 && !s.slotBusy n)

/-- Register writes of JOB with a rule of their own. -/
def State.jobOnWrite (s : State) (o v : Nat) : Option State :=
  if 0x200 ≤ o ∧ o < 0x300 then
    let n := (o - 0x200) / 0x20
    if o = Reg.JOB.slotCTRL n then some (s.slotCtrl n v)
    else if s.slotRefuses o v then some (s.err pgJOB 7 0x167 n)
    else none
  else if 0x300 ≤ o ∧ o < 0x700 then
    let n := (o - 0x300) / 0x40
    if s.nBarCur ≤ n then some s
    else if o = Reg.JOB.bcurCFG n then
      some ((s.writeB pgJOB o v (classMask pgJOB o (·.b))).cursorEnable n (bit v 0))
    else none
  else if 0x700 ≤ o ∧ s.nRefCur ≤ (o - 0x700) / 0x40 then some s
  else if 0x700 ≤ o ∧ o = Reg.JOB.rcurCFG ((o - 0x700) / 0x40) then
    let n := (o - 0x700) / 0x40
    let t := s.writeWord pgJOB o v
    some (if bit v 0 && !s.fb pgJOB o 0 then
        t.setRefCur n { t.refCur n with ended := [], last := none, row := none, blanks := [], tiles := [] }
      else t).showRelease
  else none

/-- The pending set of the JOB page names a word of the block at `base`. -/
def State.pendsAt (s : State) (base len : Nat) : Bool :=
  s.shadow.any (fun e => decide (regKey pgJOB base ≤ e.1) && decide (e.1 < regKey pgJOB (base + len)))

/-- An apply trigger at the JOB page (R100, R101, R106, R507). DESIGN CHOICE (log entry 25): a refused apply of several
cursors' words logs the lowest enabled cursor the set names. -/
def State.jobApply (s : State) : State :=
  if (s.page pgJOB).pend = false then s
  else
    let bars := (List.range s.nBarCur).filter (fun n => s.pendsAt (Reg.JOB.bcurCFG n) 0x40)
    let refs := (List.range s.nRefCur).filter (fun n => s.pendsAt (Reg.JOB.rcurCFG n) 0x40)
    match bars.find? s.barOn, decide (8388608 < s.bandSum (fun n => s.normal pgJOB (Reg.JOB.bcurCFG n))) with
    | some n, true => (s.refuseSet pgJOB).err pgJOB 6 0x166 n
    | _, _ =>
      let t := s.applySet pgJOB
      let t := bars.foldl (fun u n =>
        let c := u.barCur n
        u.setBarCur n { c with
          olds := c.olds ++ [(s.barK n + 8, s.cycle, s.barSet n)]
          ended := c.ended.filter (fun e => e != u.barSlotOf n || e == s.barSlotOf n) }) t
      let t := refs.foldl (fun u n =>
        let c := u.refCur n
        u.setRefCur n { c with
          olds := c.olds ++ [(s.cycle, s.refSet n)]
          tiles := []
          ended := c.ended.filter (fun e => e != u.refSlotOf n || e == s.refSlotOf n) }) t
      let t := (List.range t.nBarCur).foldl (fun u n => u.checkBar true n) t
      let t := (List.range t.nRefCur).foldl (fun u n => u.checkRef true n) t
      t.showBand.showRelease

/-- Words of cursors that the part does not have read 0 (05, cursor table). -/
def State.jobRead (s : State) (o : Nat) : Option Nat :=
  if (0x300 ≤ o ∧ o < 0x700 ∧ s.nBarCur ≤ (o - 0x300) / 0x40) ∨ (0x700 ≤ o ∧ s.nRefCur ≤ (o - 0x700) / 0x40) then some 0
  else none

/-- CTRL.EN = 0 at the JOB page ends loads and VERIFY passes (R508). -/
def State.jobOff (s : State) : State :=
  let s := (List.range 8).foldl (fun t n =>
    if t.jobState n = 1 then t.setRg pgJOB (Reg.JOB.slotSTAT n) 0
    else if t.verifying.contains n then t.setFl pgJOB (Reg.JOB.slotSTAT n) 2 2 0 else t) s
  { s with verifying := [] }

/-- A soft reset of JOB: slots, cursors and their sets. -/
def State.jobReset (s : State) : State := { s with jobs := [], verifying := [], passVerdicts := [], barCurs := [], refCurs := [] }

end Sys2Proof.Machine
end

