-- ==== Sys2Proof/Machine/Dram.lean ====
section
/-!
DEFINITION. The DRAM controllers: requests, bank queues, commands, refresh and the scrubber (20 R409 to R420).
A request's data moves when it arrives: R415 makes every later read see it (log entry 16).
-/

namespace Sys2Proof.Machine

/-- The requester of a DRAM request: a PRESENT index, or 0xF0 + the requester number (R419). -/
def State.dramWho (s : State) (w : Nat) : Who := if w < 0xF0 then unitWho w else s.who (w - 0xF0)

/-- DRAM_REQUEST (R412, R419). `ce` and `ue` name words in which one bit, two bits flipped before. A read's bytes are
delivered as a little-endian value, zeros with an error response. -/
def execDramRequest (who : Nat) (write : Bool) (addr len : Nat) (data : List (BitVec 8)) (ce ue : List Nat)
    (s : State) : Host.Outcome State Fault Refusal :=
  let s := s.dramUpset ce ue
  let w := s.dramWho who
  if write then .next (s.dramWrite w addr ((data ++ List.replicate (len - data.length) 0).take len)).1
  else
    match s.dramRead w addr len with
    | (t, some d) => .next { t with readData := leVal d }
    | (t, none) => .next { t with readData := 0 }

/-- The next request of a bank (R414): the oldest, or one to the open row that passes at most HITMAX older ones. -/
def DramBank.next (k : DramBank) (hitmax : Nat) : Option (Nat × DramReq) :=
  let hit := match k.row with
    | none => none
    | some w => (k.q.zipIdx).find? (fun (e : DramReq × Nat) => e.1.row == w && decide (e.2 ≤ hitmax) && !((k.q.take e.2).any (·.overlaps e.1)))
  match hit with
  | some e => some (e.2, e.1)
  | none => k.q.head?.map (fun r => (0, r))

/-- The channel issues commands: STATE RUN, no retraining stall, not in self-refresh (R418, R429). -/
def State.dmcLive (s : State) (n : Nat) : Bool :=
  decide (n < s.nch) && s.running (pgDMC n) && !s.fb (pgDMC n) Reg.DMC.DSTAT 1 && !s.fb (pgDMC n) Reg.DMC.DSTAT 2

/-- The command for a bank's next request: its column access, else the row is closed or opened for it. -/
def DramChan.issue (x : DramChan) (b i : Nat) (r : DramReq) (auto : Bool) : DramChan :=
  let k := x.bank b
  if k.row = some r.row then
    let y := { x with last := b }.setBank b { k with q := k.q.eraseIdx i, row := if auto then none else k.row, idle := 0 }
    y.feed y.input.length
  else x.setBank b { k with row := if k.row.isSome then none else some r.row }

/-- A DMC clock cycle of a channel: the last cycle's requests enter, stalled input is counted, idle banks age. -/
def State.dmcCycle (s : State) (n : Nat) : State :=
  let s := s.dmcAdmit n
  let x := s.dmc n
  let y := { x with clk := x.clk + 1, banks := x.banks.map (fun e => (e.1, if e.2.q.isEmpty then { e.2 with idle := e.2.idle + 1 } else e.2)) }
  let s := s.setDmc n y
  if y.input.isEmpty then s else s.inc (pgDMC n) Reg.DMC.STALLCNT 1

/-- DRAM_COMMAND (R414): one DMC clock cycle of a channel. `ready` has a bit for every bank for whose next command the
device timings allow it now. -/
def execDramCommand (ch ready : Nat) (s : State) : Host.Outcome State Fault Refusal :=
  if s.nch ≤ ch then .next s
  else
    let p := pgDMC ch
    let t := s.dmcCycle ch
    if t.dmcLive ch = false then .next t
    else
      let x := t.dmc ch
      let order := (List.range 16).map (fun i => (x.last + 1 + i) % 16)
      let pick := order.findSome? (fun b =>
        let k := x.bank b
        if bit ready b = false ∨ 8 ≤ k.owed then none
        else (k.next (t.fl p Reg.DMC.HITMAX 3 0)).map (fun r => (b, r)))
      match pick with
      | some (b, (i, r)) => .next (t.setDmc ch (x.issue b i r (decide (t.fl p Reg.DMC.IDLETMO 15 0 = 0))))
      | none => .next t

/-- REFRESH (R417): `intervals` per-bank refresh intervals have passed for the bank since the last such command. -/
def execRefresh (ch bank intervals : Nat) (s : State) : Host.Outcome State Fault Refusal :=
  let x := s.dmc ch
  let k := x.bank bank
  let owed := k.owed + intervals
  if 16 ≤ bank ∨ s.nch ≤ ch then .next s
  else if s.dmcLive ch = false then
    -- a channel in a retraining stall owes the refreshes of the stall
    .next (if s.running (pgDMC ch) ∧ s.fb (pgDMC ch) Reg.DMC.DSTAT 1 = false then
      s.setDmc ch (x.setBank bank { k with owed := owed }) else s)
  else
    let p := pgDMC ch
    let forced := decide (8 ≤ owed)
    if (k.q.isEmpty && decide (-8 < owed)) || forced then
      let s := (s.setDmc ch (x.setBank bank { k with owed := owed - 1, row := none })).inc p Reg.DMC.REFCNT 1
      .next (if forced then s.sat p Reg.DMC.FORCEREF 1 else s)
    else .next (s.setDmc ch (x.setBank bank { k with owed := owed }))

/-- ROW_CLOSE (R416): IDLETMO DMC cycles without a request to the bank. -/
def execRowClose (ch bank : Nat) (s : State) : Host.Outcome State Fault Refusal :=
  let x := s.dmc ch
  let k := x.bank bank
  if s.nch ≤ ch ∨ k.row = none ∨ k.q ≠ [] ∨ k.idle < s.fl (pgDMC ch) Reg.DMC.IDLETMO 15 0 then .next s
  else .next (s.setDmc ch (x.setBank bank { k with row := none }))

/-- The device address of a channel address (inverse of R410). -/
def State.deviceAddr (s : State) (n ca : Nat) : Nat := (ca / 256 * s.nch + n) * 256 + ca % 256

/-- DMC_SCRUB (R411, registers): the next chunk is read under inline ECC. -/
def execDmcScrub (ch : Nat) (ce ue : List Nat) (s : State) : Host.Outcome State Fault Refusal :=
  let p := pgDMC ch
  let x := s.dmc ch
  if s.dmcLive ch = false ∨ s.fb p Reg.DMC.CFG 4 = false ∨ s.fb p Reg.DMC.SCRUB 0 = false ∨
      x.clk < x.scrubAt + s.fl p Reg.DMC.SCRUB 31 8 then .next s
  else
    let u := s.rg p Reg.DMC.SCRUBPOS
    let a := s.deviceAddr ch (u * 256)
    let s := ((s.dramUpset ce ue).setDmc ch { x with scrubAt := x.clk }).dramMeets (unitWho p) false a 256
    let s := match (s.dramBad.find? (fun b => decide (a ≤ b) && decide (b < a + 256))) with
      | some b => s.dramError (unitWho p) false 0x2C1 b
      | none => s
    .next (s.setRg p Reg.DMC.SCRUBPOS (if (u + 1) * 256 < s.usable ch then u + 1 else 0))

/-- The all-bank refresh at entry to and exit from self-refresh (R409): every row is closed, one refresh counted, and no bank
owes what it has had. -/
def State.dmcAllBank (s : State) (n : Nat) : State :=
  let x := s.dmc n
  (s.setDmc n ((List.range 16).foldl (fun (y : DramChan) b =>
    y.setBank b { y.bank b with row := none, owed := max (-8) ((y.bank b).owed - 1) }) x)).inc (pgDMC n) Reg.DMC.REFCNT 1

/-- The requests of a channel have been served: writes still waiting are acknowledged (R475). -/
def DramChan.drained (x : DramChan) : DramChan :=
  { (x.input ++ x.arr).foldl DramChan.ack x with
    input := [], arr := [], banks := x.banks.map (fun (b : Nat × DramBank) => (b.1, { b.2 with q := [], row := none })) }

/-- Start-up check of a DMC page in the cycle after it enters RUN: CFG as DMC0, channel trained. -/
def State.dmcOnRun (s : State) (n : Nat) : State :=
  let p := pgDMC n
  if s.rg p Reg.DMC.CFG = s.rg (pgDMC 0) Reg.DMC.CFG ∧ s.fb p Reg.DMC.DSTAT 0 then s
  else (s.err p 5 0x2C5 0).toFault p

/-- USABLE as it reads (R411). -/
def State.dmcRead (s : State) (n o : Nat) : Option Nat :=
  if o = Reg.DMC.USABLE then some (s.usable n % 2 ^ 32)
  else if o = Reg.DMC.USABLE + 4 then some (s.usable n / 2 ^ 32)
  else none

/-- Register writes of DMC with a rule of their own. -/
def State.dmcOnWrite (s : State) (n o v : Nat) : Option State :=
  let p := pgDMC n
  if o = Reg.DMC.CFG ∧ (6 ≤ bits v 2 0 ∨ bits v 7 6 = 3) then some (s.err p 2 0x2C2 o)
  else if o = Reg.DMC.SCRUB ∧ bits v 31 8 < 256 ∧ bit v 0 then some (s.err p 2 0x2C2 o)
  else if n ≠ 0 ∧ 0x200 ≤ o ∧ o < 0x280 then some s
  else none

/-- INJECT (R404): a write of SRAM.INJECT. -/
def execInject (value req : Nat) (s : State) : Host.Outcome State Fault Refusal :=
  .next (s.gateH pgSRAM req Reg.SRAM.INJECT value (·.injectWrite value))

end Sys2Proof.Machine
end

