-- ==== Sys2Proof/Machine/Screening.lean ====
section
/-!
DEFINITION. Steeple screening engines (06 R107 to R129): correction, error diffusion, threshold arrays, line order.
-/

namespace Sys2Proof.Machine

/-- log-slot offsets of the B words of a slot, in the order of `setWords`. -/
def setOffsets : List Nat := [0x20C, 0x218, 0x21C, 0x220, 0x224, 0x228, 0x22C, 0x230, 0x234, 0x238]

/-- The B set of a stripe slot in force: MODE, KERN0 to KERN2, LV12, LV3TH1, TH23, REDIST, SUBST, TSCR. -/
def State.setWords (s : State) (q : Nat) : List Nat := setOffsets.map (s.slotRg q)

/-- The set that governs line `j` of a slot (R128). -/
def State.setAt (s : State) (q : Nat) (j : Int) : List Nat := governing (s.stripe q).olds (s.setWords q) j

/-- Fields of a set. -/
def setTA (w : List Nat) : Bool := bit (w.getD 0 0) 0
def setBits2 (w : List Nat) : Bool := bit (w.getD 0 0) 1
def setKern (w : List Nat) (t : Nat) : Nat := bits (w.getD (1 + t / 4) 0) (t % 4 * 8 + 7) (t % 4 * 8)
def setLv (w : List Nat) : Nat → Nat
  | 0 => 0
  | 1 => bits (w.getD 4 0) 15 0
  | 2 => bits (w.getD 4 0) 31 16
  | _ => bits (w.getD 5 0) 15 0
def setTh (w : List Nat) : Nat → Nat
  | 1 => bits (w.getD 5 0) 31 16
  | 2 => bits (w.getD 6 0) 15 0
  | _ => bits (w.getD 6 0) 31 16
def setRw (w : List Nat) (i : Nat) : Nat := bits (w.getD 7 0) (i * 8 + 7) (i * 8)
def setSubw (w : List Nat) : Nat := bits (w.getD 8 0) 7 0
def setSuboff (w : List Nat) : Int := sgn 24 (bits (w.getD 8 0) 31 8)

/-- A set that R115, R117 or R118 refuses. -/
def setBad (w : List Nat) : Bool :=
  decide (256 < setRw w 0 + setRw w 1 + setRw w 2 + setRw w 3) ||
    decide (256 < ((List.range 12).map (setKern w)).foldl (· + ·) 0) ||
    setLv w 1 == 0 || decide (setLv w 2 < setLv w 1) || decide (setLv w 3 < setLv w 2) ||
    decide (setTh w 2 < setTh w 1) || decide (setTh w 3 < setTh w 2)

/-! ## Correction -/

/-- The buffer and index of the record that bar `reader` uses for nozzle `i` of bar `b` on its line `j` (R127, R133,
R141); none outside the bar's range. -/
def State.recPlace (s : State) (reader b : Nat) (i j : Int) : Option (Bool × Nat) :=
  if i < 0 ∨ s.rangeOn b = false ∨ (s.rangeLen b : Int) ≤ i then none
  else
    let now := s.bsel b
    let wt := s.waits b
    let sel :=
      if s.swapState = 1 ∧ bit s.nct.mask b then
        let useNew := if bit s.nct.mask reader then !s.waits reader || s.newFront reader j else !wt
        if useNew then now != wt else now == wt
      else now
    some (sel, s.rangeBase b + i.toNat)

/-- That record. -/
def State.recFor (s : State) (reader b : Nat) (i j : Int) : Nat :=
  match s.recPlace reader b i j with
  | none => neutralRec
  | some (sel, k) => s.nct.record sel k

/-- Curve output (R113). -/
def State.curveOut (s : State) (buf : Bool) (c x : Nat) : Nat :=
  let j := x / 257
  let f := x % 257
  if 255 ≤ j then s.nct.curve buf (c * 256 + 255)
  else
    let a : Int := s.nct.curve buf (c * 256 + j)
    let b : Int := s.nct.curve buf (c * 256 + j + 1)
    (a + Int.fdiv (2 * (b - a) * f + 257) 514).toNat

/-- The corrected value V for an input under a record (R113, R114). -/
def State.corrected (s : State) (buf : Bool) (rec x : Nat) : Nat :=
  let y := s.curveOut buf (bits rec 9 0) x
  let z := min 65535 ((y * bits rec 19 10 + 256) / 512)
  (clamp 0 65535 ((z : Int) + 64 * sgn 8 (bits rec 27 20))).toNat

/-- A column of a slot on a line: blank, DEAD, and the value U (R108, R112 to R116). -/
structure Column where
  blank : Bool
  dead : Bool
  u : Nat
deriving DecidableEq, Repr

/-- The contone input of a column: BLANK outside the bar (R108). -/
def State.colIn (s : State) (b : Nat) (j x : Int) : Option Nat :=
  if x < 0 ∨ (s.nact b : Int) ≤ x then none else s.contone b j x

/-- The share a DEAD column gives with a weight (R115): nothing when it is not DEAD, BLANK or outside the bar. -/
def State.shareOf (s : State) (b : Nat) (buf : Bool) (j x : Int) (w : Nat) : Nat :=
  match s.colIn b j x with
  | none => 0
  | some v =>
    let r := s.recFor b b x j
    if bit r 28 then s.corrected buf r v * w / 256 else 0

/-- A column before quantisation (R112 to R116). -/
def State.column (s : State) (q : Nat) (j x : Int) : Column :=
  let b := s.slotBar q
  let w := s.setAt q j
  let buf := s.curveBuf b j
  let r := s.recFor b b x j
  match s.colIn b j x with
  | none => ⟨true, bit r 28, 0⟩
  | some v =>
    if bit r 28 then ⟨false, true, 0⟩
    else if s.slotSubst q then
      let pb := s.slotPrimary q
      let p := x + setSuboff w
      if p < 0 ∨ (s.nact pb : Int) ≤ p then ⟨false, false, 0⟩
      else
        let rp := s.recFor b pb p j
        if bit rp 28 && bit rp 30 then
          let sh := s.corrected buf rp v * setSubw w / 256
          ⟨false, false, min 65535 ((sh * bits r 19 10 + 256) / 512)⟩
        else ⟨false, false, 0⟩
    else
      let shares := s.shareOf b buf j (x + 2) (setRw w 0) + s.shareOf b buf j (x + 1) (setRw w 1) +
        s.shareOf b buf j (x - 1) (setRw w 2) + s.shareOf b buf j (x - 2) (setRw w 3)
      ⟨false, false, min 65535 (s.corrected buf r v + shares)⟩

/-! ## Quantisation -/

/-- The quantiser of error diffusion (R117): drop code and its level. -/
def quantise (w : List Nat) (v : Int) : Nat :=
  if setBits2 w then
    if (setTh w 3 : Int) ≤ v then 3 else if (setTh w 2 : Int) ≤ v then 2 else if (setTh w 1 : Int) ≤ v then 1 else 0
  else if (setTh w 2 : Int) ≤ v then 1 else 0
def levelOf (w : List Nat) (q : Nat) : Nat := if setBits2 w then setLv w q else if q = 0 then 0 else setLv w 3

/-- The kernel's taps (R118). -/
def taps : List (Int × Nat) := [(1, 0), (2, 0), (-2, 1), (-1, 1), (0, 1), (1, 1), (2, 1), (-2, 2), (-1, 2), (0, 2), (1, 2),
  (2, 2)]

/-- The three error rows; the key of column `x` is x + 64. -/
structure Rows where
  a0 : Tbl Int
  a1 : Tbl Int
  a2 : Tbl Int
deriving DecidableEq, Repr

/-- An addition into an error row, clamped to 18 bits (R119). -/
def addErr (t : Tbl Int) (k : Nat) (e : Int) : Tbl Int :=
  Tbl.putD t k (clamp (-131072) 131071 (Tbl.getD t k 0 + e)) 0

/-- The error of a pixel goes to the taps inside x0 to x1 (R118 to R120). -/
def Rows.diffuse (r : Rows) (w : List Nat) (x0 x1 x e : Int) : Rows :=
  (taps.zipIdx).foldl (fun r t =>
    let xt := x + t.1.1
    if xt < x0 ∨ x1 < xt then r
    else
      let d := shr (e * setKern w t.2) 8
      let k := (xt + 64).toNat
      match t.1.2 with
      | 0 => { r with a0 := addErr r.a0 k d }
      | 1 => { r with a1 := addErr r.a1 k d }
      | _ => { r with a2 := addErr r.a2 k d }) r

/-- One column of the walk of R119. -/
def Rows.pixel (r : Rows) (w : List Nat) (x0 x1 x : Int) (c : Column) : Rows × Nat :=
  if c.blank then (r.diffuse w x0 x1 x 0, 0)
  else
    let v := (c.u : Int) + Tbl.getD r.a0 (x + 64).toNat 0
    let q := if c.dead then 0 else quantise w v
    (r.diffuse w x0 x1 x (v - levelOf w q), q)

/-- A cell of a screen memory; undefined after power-up (R123). -/
def State.screenCell (s : State) (st i : Nat) : Nat :=
  Tbl.getD s.screens (st * 65536 + i) (Config.undefCell (6 + st) s.epoch i % 65536)

/-- The threshold-array code of a pixel (R122). -/
def thresholdCode (w : List Nat) (u t : Nat) : Nat :=
  let step := fun (lo hi i : Nat) => if t < min 65535 ((u - lo) * 65536 / (hi - lo)) then i + 1 else i
  if setBits2 w then
    if setLv w 3 ≤ u then 3
    else if setLv w 2 ≤ u then step (setLv w 2) (setLv w 3) 2
    else if setLv w 1 ≤ u then step (setLv w 1) (setLv w 2) 1
    else step 0 (setLv w 1) 0
  else if setLv w 3 ≤ u then 1
  else step 0 (setLv w 3) 0

/-- The threshold of a column and line (R122). -/
def State.threshold (s : State) (st : Nat) (w : List Nat) (x j : Int) : Nat :=
  let c := w.getD 9 0
  let dim := fun (v : Nat) => if v = 0 then 256 else v
  let tx := ((x + bits c 23 16) % (dim (bits c 7 0) : Nat)).toNat
  let ty := ((j + bits c 31 24) % (dim (bits c 15 8) : Nat)).toNat
  s.screenCell st (ty * 256 + tx)

/-- FIRST, WIDTH and x0 of a slot (R108, R119). -/
def State.slotFirst (s : State) (q : Nat) : Int := bits (s.slotRg q (Reg.STP.slotFIRST 0)) 19 0
def State.slotWidth (s : State) (q : Nat) : Nat :=
  let w := bits (s.slotRg q (Reg.STP.slotWIDTH 0)) 15 0
  if 1 ≤ w ∧ w ≤ 32768 then w else 32768
def State.slotX0 (s : State) (q : Nat) : Int :=
  if bit (s.slotRg q (Reg.STP.slotBIND 0)) 5 then s.slotFirst q - 64 else s.slotFirst q

/-- A line of a slot screened over its first `n` processed columns: the error rows after the line, and the codes of
the owned columns reached (R119, R122, R126). -/
def State.screen (s : State) (q : Nat) (j : Int) (n : Nat) : Rows × List (Int × Nat) :=
  let x := s.stripe q
  let w := s.setAt q j
  let first := s.slotFirst q
  let x1 := first + s.slotWidth q - 1
  let rows : Rows := ⟨x.acc0, x.acc1, x.acc2⟩
  if setTA w then
    (rows, (List.range (min n (s.slotWidth q))).map (fun (i : Nat) =>
      let c := s.column q j (first + i)
      (first + i, if c.blank || c.dead then 0 else thresholdCode w c.u (s.threshold (q / 4) w (first + i) j))))
  else
    let x0 := s.slotX0 q
    let (r, out) := (List.range (min n (x1 - x0 + 1).toNat)).foldl (fun (acc : Rows × List (Int × Nat)) (i : Nat) =>
      let (r, c) := acc.1.pixel w x0 x1 (x0 + i) (s.column q j (x0 + i))
      (r, if x0 + i < first then acc.2 else (x0 + i, c) :: acc.2)) (rows, [])
    (⟨r.a1, r.a2, []⟩, out.reverse)

/-- Columns a slot processes on a line. -/
def State.slotCols (s : State) (q : Nat) : Nat := (s.slotFirst q + s.slotWidth q - s.slotX0 q).toNat

/-- A record, or an entry of a curve, that a Steeple reads from a buffer of NCT. -/
structure NctRead where
  curve : Bool
  buf : Bool
  idx : Nat
deriving DecidableEq, Repr

/-- Its item in TSTORE: 64-bit words of two records or four entries. -/
def NctRead.item (r : NctRead) : Nat :=
  if r.curve then 2 ^ 22 + b2n r.buf * 2 ^ 20 + r.idx / 4 else b2n r.buf * 2 ^ 20 + r.idx / 2

/-- The records that one column of a slot reads on a line (R112 to R116). -/
def State.recReadsAt (s : State) (q : Nat) (j x : Int) : List NctRead :=
  let b := s.slotBar q
  let at_ := fun (c : Nat) (y : Int) => ((s.recPlace b c y j).map (fun e => (⟨false, e.1, e.2⟩ : NctRead))).toList
  at_ b x ++ (if s.slotSubst q then at_ (s.slotPrimary q) (x + setSuboff (s.setAt q j)) else [])

/-- The curve entries that one column of a slot reads on a line (R113). -/
def State.curReadsAt (s : State) (q : Nat) (j x : Int) : List NctRead :=
  let b := s.slotBar q
  match s.colIn b j x with
  | some v =>
    let c := bits (if s.slotSubst q then s.recFor b (s.slotPrimary q) (x + setSuboff (s.setAt q j)) j
      else s.recFor b b x j) 9 0
    [⟨true, s.curveBuf b j, c * 256 + min 255 (v / 257)⟩, ⟨true, s.curveBuf b j, c * 256 + min 255 (v / 257 + 1)⟩]
  | none => []

/-- The tables as a line sees them: neutral records and identity entries where the read was uncorrectable (R137). -/
def Nct.seen (x : Nct) (bad : List NctRead) : Nct :=
  bad.foldl (fun t r => if r.curve then t.setCurve r.buf r.idx (257 * (r.idx % 256)) else t.setRecord r.buf r.idx neutralRec) x

/-- The reads of NCT for the first `n` columns of a slot's line: what they leave, and the uncorrectable ones (R137, 20
R405). A record that is uncorrectable is the neutral one when its curve is read. -/
def State.nctReads (s : State) (q : Nat) (j : Int) (n : Nat) : State × List NctRead :=
  if n = 0 ∨ (s.sram.flips.isEmpty && s.sram.inject.isEmpty) = true then (s, [])
  else
    let of_ := fun (f : Int → List NctRead) =>
      ((List.range (n + 4)).flatMap (fun (i : Nat) => f (s.slotX0 q - 2 + i))).eraseDups
    let r := s.sramItems 2 pgNCT NctRead.item (of_ (s.recReadsAt q j))
    let c := r.1.sramItems 2 pgNCT NctRead.item (of_ ({ s with nct := s.nct.seen r.2 }.curReadsAt q j))
    let bad := c.2 ++ r.2
    (bad.reverse.foldl (fun u r => u.err pgNCT 4 0x185 (if r.curve then 0xFF000 + r.idx / 256 else r.idx % 2 ^ 20)) c.1, bad)

/-- A line of a slot screened over its first `n` columns with the reads this takes (R119, R126, R137). -/
def State.readAndScreen (s : State) (q : Nat) (j : Int) (n : Nat) : State × Rows × List (Int × Nat) :=
  let t := ((if n = 0 then s else s.barTileReads (s.slotBar q) j).nctReads q j n)
  (t.1, { t.1 with nct := t.1.nct.seen t.2 }.screen q j n)

/-- The error rows of a slot after a line. -/
def Stripe.rows (x : Stripe) (r : Rows) : Stripe := { x with acc0 := r.a0, acc1 := r.a1, acc2 := r.a2 }

/-- Lines abandoned before their turn take it: the error rows advance (R126). -/
def State.settleStripe (s : State) (q : Nat) : Nat → State
  | 0 => s
  | fuel + 1 =>
    let x := s.stripe q
    match x.abandoned.find? (fun e => e.1 == x.low) with
    | none => s
    | some e =>
      let (s, r, _) := s.readAndScreen q x.low e.2
      (s.setStripe q { x.rows r with low := x.low + 1, abandoned := x.abandoned.erase e }).settleStripe q fuel

/-- SSTAT.INPROC and READY. -/
def State.showStripe (s : State) (q : Nat) : State :=
  let o := Reg.STP.slotSSTAT 0 + q % 4 * 0x80
  let p := pgSTP (q / 4)
  let x := s.stripe q
  let n := ((s.laneList (q / 4)).filter (fun e => e.1 == q % 4)).length
  (s.setFl p o 2 0 n).setFl p o 7 4 (min 15 (x.low - 1 - x.k).toNat)

/-- LBYTES and the region of a bar in DSTORE (R159). -/
def State.dstBits (s : State) (b : Nat) : Nat := if s.fb (pgPBA b) Reg.PBA.CFG 2 then 2 else 1
def State.dstDepth (s : State) (b : Nat) : Nat := s.fl (pgPBA b) Reg.PBA.DLYMAX 7 0 + 10
def State.dstLine (s : State) (b : Nat) : Nat := (s.nact b * s.dstBits b + 511) / 512 * 64
def State.dstUse (s : State) (b : Nat) : Nat := s.dstDepth b * s.dstLine b
def State.dstBase (s : State) (b : Nat) : Nat := s.fl (pgPBA b) Reg.PBA.DSTBASE 24 6 * 64

/-- The DSTORE word that holds the code of bar nozzle `i` on line `j` (R159, R160). -/
def State.dstWord (s : State) (b j i : Nat) : Nat :=
  (s.dstBase b + j % s.dstDepth b * s.dstLine b) / 8 + i * s.dstBits b / 64

/-- The codes of a slot's line enter DSTORE (R108, R110, R159, R160). -/
def State.dstoreWrite (s : State) (b q k : Nat) (out : List (Int × Nat)) : State :=
  let x := s.bar b
  let two := s.fb (pgPBA b) Reg.PBA.CFG 2
  let depth := s.fl (pgPBA b) Reg.PBA.DLYMAX 7 0 + 10
  let l := Tbl.getD x.lines k DLine.blank
  let codes := out.foldl (fun t e => Tbl.putD t e.1.toNat (if two then e.2 else min 1 e.2) 0) l.codes
  let lines := Tbl.put x.lines k { l with codes := codes, wrote := l.wrote ++ [q] }
  let s := match out with
    | e :: _ => s.sramFill 1 (s.dstWord b k e.1.toNat) (out.length * s.dstBits b / 64 + 1)
    | [] => s
  s.setBar b { x with lines := lines.drop (fun i => decide (i + depth ≤ k)) }

/-- A slot's line leaves its lane complete (R108, R119, R125). -/
def State.finishLine (s : State) (q : Nat) (j : Int) : State :=
  let p := pgSTP (q / 4)
  let off := q % 4 * 0x80
  let x := s.stripe q
  let b := s.slotBar q
  let (s, r, all) := s.readAndScreen q j (s.slotCols q)
  let out := all.filter (fun e => decide (0 ≤ e.1) && decide (e.1 < (s.nact b : Int)))
  let s := { s with lanes := Tbl.put s.lanes (q / 4) ((s.laneList (q / 4)).filter (fun e => e != (q % 4, j))) }
  let s := s.setStripe q { x.rows r with low := j + 1, skipped := x.skipped.filter (· != j) }
  let s :=
    if x.skipped.contains j ∨ j < 0 then s
    else
      let n := fun (c : Nat) => (out.filter (fun e => e.2 == c)).length
      let t := (s.dstoreWrite b q j.toNat out).inc p (Reg.STP.slotLINECNT 0 + off) 1
      let t := (t.inc64 p (Reg.STP.slotDROP1 0 + off) (n 1)).inc64 p (Reg.STP.slotDROP2 0 + off) (n 2)
      (t.inc64 p (Reg.STP.slotDROP3 0 + off) (n 3)).setRg64 p (Reg.STP.slotDONE 0 + off)
        (max (s.rg64 p (Reg.STP.slotDONE 0 + off)) (enc2 48 j))
  (s.settleStripe q (x.abandoned.length + 1)).showStripe q

/-- LINE_SCREENED (R119): the oldest line in a lane of the slot is complete. -/
def execLineScreened (stp slot : Nat) (s : State) : Host.Outcome State Fault Refusal :=
  let q := 4 * stp + slot
  let st := (s.page (pgSTP stp)).state
  if ¬ slot < 4 ∨ ¬ stp < unitCount s.variant .stp ∨ s.works (pgSTP stp) = false ∨ (st ≠ .run ∧ st ≠ .drain) then .next s
  else
    match ((s.laneList stp).filter (fun e => e.1 == slot)).map (·.2) with
    | [] => .next s
    | l :: ls => .next (s.finishLine q (ls.foldl min l))

/-- The slots of a Steeple whose next line may enter a lane (R124): (eligible since, slot). -/
def State.eligible (s : State) (stp : Nat) : List (Nat × Nat) :=
  (List.range 4).filterMap (fun i =>
    let q := 4 * stp + i
    let x := s.stripe q
    if s.slotOn q && decide (x.next ≤ x.k + 8) && s.contoneReady (s.slotBar q) x.next then some (x.eligAt, i) else none)

/-- Lines abandoned before they entered a lane are passed over. -/
def skipAbandoned (ab : List (Int × Nat)) : Nat → Int → Int
  | 0, j => j
  | fuel + 1, j => if ab.any (fun e => e.1 == j) then skipAbandoned ab fuel (j + 1) else j

/-- LANE_START (R111, R124): a free lane takes the line that became eligible first, ties to the lower slot. -/
def execLaneStart (stp : Nat) (s : State) : Host.Outcome State Fault Refusal :=
  if s.unitRuns .stp stp = false ∨ 4 ≤ (s.laneList stp).length then .next s
  else
    match s.eligible stp with
    | [] => .next s
    | c :: cs =>
      let best := cs.foldl (fun a b => if b.1 < a.1 then b else a) c
      let q := 4 * stp + best.2
      let x := s.stripe q
      let s := { (s.jobTake (s.slotBar q) x.next) with lanes := Tbl.put s.lanes stp (s.laneList stp ++ [(best.2, x.next)]) }
      .next ((s.setStripe q { x with
        next := skipAbandoned x.abandoned (x.abandoned.length + 1) (x.next + 1), eligAt := s.cycle }).showStripe q)

/-- The bar of a slot starts line `k` (R125). -/
def State.stripeStart (s : State) (q k : Nat) : State :=
  let p := pgSTP (q / 4)
  let off := q % 4 * 0x80
  let x := s.stripe q
  let d := (k : Int) - x.k
  let s := s.setRg64 p (Reg.STP.slotLASTK 0 + off) k
  if 1 ≤ d ∧ d ≤ 8 then
    let sk := (List.range (d.toNat - 1)).map (fun (i : Nat) => x.k + 1 + i)
    let el := if x.k + 8 < x.next then s.cycle else x.eligAt
    let x := { x with olds := follow x.olds s.cycle k }
    ((s.sat p (Reg.STP.slotSKIPCNT 0 + off) (d.toNat - 1)).setStripe q
      { x with k := k, skipped := x.skipped ++ sk.filter (fun j => decide (x.low ≤ j)), eligAt := el }).showStripe q
  else
    let s := { s with lanes := Tbl.put s.lanes (q / 4) ((s.laneList (q / 4)).filter (fun e => e.1 != q % 4)) }
    let s := s.setStripe q { Stripe.reset with k := k, next := k, low := k, eligAt := s.cycle, olds := follow x.olds s.cycle k }
    ((((s.sat p (Reg.STP.slotRESYNCCNT 0 + off) 1).err p 1 0x171 (q % 4 * 2 ^ 18 + k % 2 ^ 18)).setIst p 1).showStripe q)

/-- A slot abandons a line at its deadline (R126); the column its lane has reached is a free value. -/
def State.abandon (s : State) (q k : Nat) : State :=
  let p := pgSTP (q / 4)
  let x := s.stripe q
  let inL := s.inLane q (· == (k : Int))
  let reach := if inL then Config.draw s.fresh % (s.slotCols q + 1) else 0
  let s := if inL then s.drawn else s
  let s := { s with lanes := Tbl.put s.lanes (q / 4) ((s.laneList (q / 4)).filter (fun e => e != (q % 4, (k : Int)))) }
  let s :=
    if (k : Int) < x.low then s
    else
      let ab := x.abandoned ++ [((k : Int), reach)]
      let next := skipAbandoned ab (ab.length + 1) x.next
      -- R111: the line that moves up becomes eligible now
      (s.setStripe q { x with abandoned := ab, next := next, eligAt := if next = x.next then x.eligAt else s.cycle
        }).settleStripe q (ab.length + 1)
  let s := (s.sat p (Reg.STP.slotLATECNT 0 + q % 4 * 0x80) 1).err p 0 0x170 (q % 4 * 2 ^ 18 + k % 2 ^ 18)
  (s.happen p 0 (q % 4)).showStripe q

/-- An apply trigger at a Steeple page (R115, R117, R118, R128). -/
def State.stpApply (s : State) (st : Nat) : State :=
  let p := pgSTP st
  if (s.page p).pend = false then s
  else
    match (List.range 4).find? (fun i => setBad (setOffsets.map (fun o => s.normal p (o + i * 0x80)))) with
    | some i => (s.refuseSet p).err p 3 0x173 i
    | none =>
      (List.range 4).foldl (fun t i =>
        let q := 4 * st + i
        let x := t.stripe q
        if s.slotOn q then
          t.setStripe q { x with olds := x.olds ++ [(x.k + 8, s.cycle, s.setWords q)] }
        else t) (s.applySet p)

/-- Owned columns of two slots overlap on one bar (R109). -/
def State.slotsOverlap (s : State) (q r : Nat) : Bool :=
  s.slotBar q == s.slotBar r && decide (s.slotFirst q < s.slotFirst r + s.slotWidth r) &&
    decide (s.slotFirst r < s.slotFirst q + s.slotWidth q)

/-- Entry of a Steeple page to STATE RUN (R109, R120, R124). -/
def State.stpOnRun (s : State) (st : Nat) : State :=
  let p := pgSTP st
  let s := (List.range 4).foldl (fun t i => t.setFl p (Reg.STP.slotSSTAT i) 8 8 0) s
  let s := { s with lanes := Tbl.put s.lanes st [] }
  (List.range 4).foldl (fun t i =>
    let q := 4 * st + i
    let k : Int := (t.rg64 p (Reg.STP.slotKSTART i) % 2 ^ 48 : Nat)
    let t := (t.setStripe q { Stripe.reset with k := k - 1, next := k, low := k, eligAt := t.cycle }).setRg64 p
      (Reg.STP.slotLASTK i) (enc2 48 (k - 1))
    if bit (t.rg p (Reg.STP.slotBIND i)) 0 &&
        (List.range 128).any (fun r => t.slotOn r && r != q && t.slotsOverlap q r &&
          (if r / 4 = st then decide (r < q) else (t.page (pgSTP (r / 4))).state == .run)) then
      (t.setFl p (Reg.STP.slotSSTAT i) 8 8 1).err p 2 0x172 i
    else t.showStripe q) s

/-- Slots of a Steeple left RUN: waiting bars without a slot in RUN hand over (R142). -/
def State.stpLeft (s : State) : State :=
  (List.range 16).foldl (fun t b =>
    if t.waits b && (t.barSlots b).all (fun q => (t.page (pgSTP (q / 4))).state != .run) then t.handOver b else t) s

/-- The Steeple's datapath is discarded: OFF or soft reset (R120, R129). -/
def State.stpClear (s : State) (st : Nat) : State :=
  let s := { s with lanes := Tbl.put s.lanes st [] }
  (List.range 4).foldl (fun t i => t.setStripe (4 * st + i) Stripe.reset) s

/-- Key in `screens` of a write of a cell that DRAIN holds back until IDLE (R31). -/
def heldCell (st i : Nat) : Nat := 2 ^ 21 + st * 65536 + i

/-- SCRADDR as its normal offset reads it (R33). -/
def State.scrAddr (s : State) (st : Nat) : Nat := bits (s.normal (pgSTP st) Reg.STP.SCRADDR) 15 0

/-- What SCRDATA reads: the cell, or the write stored for it (R31, R33, R123). -/
def State.scrShown (s : State) (st : Nat) : Nat :=
  Tbl.getD s.screens (heldCell st (s.scrAddr st)) (s.screenCell st (s.scrAddr st))

/-- SCRADDR moves on after an access of SCRDATA (R123): `hold`, as a stored S write (R31). -/
def State.scrNext (s : State) (st : Nat) (hold : Bool) : State :=
  let p := pgSTP st
  let a := (s.scrAddr st + 1) % 65536
  if hold then { s with stored := Tbl.put s.stored (regKey p Reg.STP.SCRADDR) (BitVec.ofNat 32 a) }
  else { s with stored := Tbl.del s.stored (regKey p Reg.STP.SCRADDR) }.setRg p Reg.STP.SCRADDR a

/-- The cell writes held back take effect on entry to IDLE (R31); a reset of the page drops them (`keep` false). -/
def State.scrSettle (s : State) (st : Nat) (keep : Bool) : State :=
  let mine := s.screens.filter (fun e => e.1 / 65536 == 32 + st)
  let rest := s.screens.filter (fun e => !(e.1 / 65536 == 32 + st))
  { s with screens := if keep then mine.foldl (fun l e => Tbl.put l (e.1 - 2 ^ 21) e.2) rest else rest }

/-- An access of SCRDATA (R123): the write is class S (R8, R31); every access moves SCRADDR on. -/
def State.scrWrite (s : State) (st v : Nat) : State :=
  let p := pgSTP st
  if (s.page p).run then
    if v % 65536 = s.scrShown st then s else s.err p 31 0x001 Reg.STP.SCRDATA
  else if (s.page p).state = .drain then
    { s with screens := Tbl.put s.screens (heldCell st (s.scrAddr st)) (v % 65536) }.scrNext st true
  else
    { s with
      screens := Tbl.put (Tbl.del s.screens (heldCell st (s.scrAddr st))) (st * 65536 + s.scrAddr st) (v % 65536)
    }.scrNext st false

/-- A read of SCRDATA (R123). -/
def State.scrRead (s : State) (st : Nat) : State :=
  { s with readData := s.scrShown st }.scrNext st (Tbl.get? s.stored (regKey (pgSTP st) Reg.STP.SCRADDR)).isSome

/-- A read of a page's register with a side effect: admitted, or 0 without the side effect (R42). -/
def State.readGate (s : State) (p req : Nat) (f : State → State) : State :=
  if s.present p = false ∨ s.reaches req = false then { s with readData := 0 }
  else if s.readRefused p req then { s with readData := 0 }
  else f s

/-- SCRDATA_ACCESS (R123). -/
def execScrdataAccess (stp : Nat) (write : Bool) (value req : Nat) (s : State) : Host.Outcome State Fault Refusal :=
  if ¬ stp < 32 then .next s
  else if write then .next (s.gateH (pgSTP stp) req Reg.STP.SCRDATA value (·.scrWrite stp value))
  else .next (s.readGate (pgSTP stp) req (·.scrRead stp))

/-- Register writes of a Steeple with a rule of their own: BIND (R26, R107), WIDTH, SCRDATA. -/
def State.stpOnWrite (s : State) (st o v : Nat) : Option State :=
  let p := pgSTP st
  let i := (o - 0x200) / 0x80
  let absent := fun (b : Nat) => decide (unitCount s.variant .pba ≤ b)
  if o = Reg.STP.SCRDATA then some (s.scrWrite st v)
  else if o < 0x200 ∨ 4 ≤ i ∨ (s.page p).run then none
  else if o = Reg.STP.slotBIND i then
    if absent (bits v 4 1) ∨ (bit v 6 = true ∧ absent (bits v 11 8)) then some (s.bindError p 0x011 i) else none
  else if o = Reg.STP.slotWIDTH i ∧ (bits v 15 0 = 0 ∨ 32768 < bits v 15 0) then
    some ((s.writeWord p o v).err p 3 0x173 i)
  else none

end Sys2Proof.Machine
end

