-- ==== Sys2Proof/Machine/Firing.lean ====
section
/-!
DEFINITION. Print bars and fire timing PBA and FIRE (08 R151 to R170): line starts, fire instants, deadlines, overspeed.
Instants are in 2^-16 POSCLK cycle.
-/

namespace Sys2Proof.Machine

/-- The used entries of a bar (R152). -/
def State.entries (s : State) (b : Nat) : List Nat := List.range (min 64 (s.fl (pgPBA b) Reg.PBA.CFG 14 8))

/-- Fields of an entry. -/
def State.entMap (s : State) (b e : Nat) : Nat := s.rg (pgPBA b) (Reg.PBA.entryMAP e)
def State.entCh (s : State) (b e : Nat) : Nat := bits (s.entMap b e) 8 0
def State.entRows (s : State) (b e : Nat) : Nat := bits (s.entMap b e) 11 10 + 1
def State.entFirst (s : State) (b e : Nat) : Nat := bits (s.entMap b e) 23 12
def State.entCount (s : State) (b e : Nat) : Nat := s.fl (pgPBA b) (Reg.PBA.entryCNT e) 12 0
def State.entMinper (s : State) (b e : Nat) : Nat := s.fl (pgPBA b) (Reg.PBA.entryCNT e) 31 16

/-- BASE_e: the sum of COUNT over the lower entries (R152). -/
def State.entBase (s : State) (b e : Nat) : Nat :=
  ((List.range e).map (s.entCount b)).foldl (· + ·) 0

/-- BLAT: the largest LLAT of the links that carry the used entries (R165). -/
def State.blat (s : State) (b : Nat) : Nat :=
  ((s.entries b).map (fun e => s.rg (134 + s.entCh b e / 8) Reg.HLK.LLAT)).foldl max 0

/-- NACT and DSTUSE follow the configuration. -/
def State.showBar (s : State) (b : Nat) : State :=
  let p := pgPBA b
  ((s.setRg p Reg.PBA.NACT (s.nact b)).setRg p Reg.PBA.DSTUSE (s.dstUse b)).showBand

/-- BLAT follows the links' LLAT at any time (R165, R170). -/
def State.pbaRead (s : State) (b o : Nat) : Option Nat :=
  if o = Reg.PBA.BLAT then some (min 65535 (s.blat b)) else none

/-- PITCH in 2^-24 WU. -/
def State.pitch (s : State) (b : Nat) : Nat := s.rg64 (pgPBA b) Reg.PBA.PITCH % 2 ^ 56

/-- The row words of a bar's entries as normal reads or the active view give them. -/
def rowOff (e r : Nat) : Nat := Reg.PBA.entryROW0 e + 4 * r

/-- An apply trigger at a bar's page (R170). -/
def State.pbaApply (s : State) (b : Nat) : State :=
  let p := pgPBA b
  if (s.page p).pend = false then s
  else
    let fd := (s.normal p Reg.PBA.FDIST + 2 ^ 32 * s.normal p (Reg.PBA.FDIST + 4)) % 2 ^ 40
    let dmax := s.fl p Reg.PBA.DLYMAX 7 0
    let late := (List.range 64).any (fun e => (List.range 4).any (fun r =>
      decide (dmax < bits (s.normal p (rowOff e r)) 7 0)))
    if late ∨ 2 * s.pitch b < fd * 2 ^ 24 then (s.refuseSet p).err p 4 0x194 0 else s.applySet p

/-- Line `k` of a bar is VOID (R160). DESIGN CHOICE (log entry 28): of a line that slots wrote in part before the bar's entry
to RUN, the parts written since are not VOID. -/
def State.lineVoid (s : State) (b : Nat) (k : Int) : Bool :=
  let x := s.bar b
  decide (k < x.first) ||
    (match Tbl.get? x.lines k.toNat with
     | some l => l.void || l.wrote.isEmpty
     | none => true)

/-- Line `k` of a bar becomes VOID. -/
def State.voidLine (s : State) (b k : Nat) : State :=
  let x := s.bar b
  let l := Tbl.getD x.lines k DLine.blank
  s.setBar b { x with lines := Tbl.put x.lines k { l with void := true } }

/-- Every enabled slot bound to the bar has written line `k` (R110, R165), be it before the bar's entry to RUN. -/
def State.lineComplete (s : State) (b k : Nat) : Bool :=
  let l := Tbl.getD (s.bar b).lines k DLine.blank
  (s.barSlots b).all (fun q => l.wrote.contains q || l.before.contains q)

/-- The slots that have not written line `k` abandon it (R126). -/
def State.abandonAll (s : State) (b k : Nat) : State :=
  let l := Tbl.getD (s.bar b).lines k DLine.blank
  ((s.barSlots b).filter (fun q => !(l.wrote.contains q || l.before.contains q))).foldl (fun t q => t.abandon q k) s

/-- The index of a start against the last one (R157): skips, resynchronisation, first start. -/
def State.barIndex (s : State) (b k : Nat) : State :=
  let p := pgPBA b
  let x := s.bar b
  match x.k with
  | none => s.setBar b { x with k := some k, first := k }
  | some j =>
    if j < k ∧ k ≤ j + 8 then
      let s := (span (j + 1) (k - j - 1)).foldl (fun t i => t.voidLine b i) s
      s.setBar b { s.bar b with k := some k }
    else
      let kept := x.started.map (fun e => { e with done := e.done || s.lineComplete b e.k })
      let s := s.setBar b { x with k := some k, first := k, lines := [], started := kept }
      ((s.sat p Reg.PBA.RESYNCCNT 1).err p 7 0x197 (k % 2 ^ 20)).setIst p 3

/-- XORG changes to `v` from line `k` on: the value at entry and the last 8 changes are held (R269). -/
def ClpBar.note (x : ClpBar) (k v : Int) : ClpBar :=
  let last := match x.xorgs with
    | e :: _ => some e.2
    | [] => x.entry
  if last.isNone ∨ last = some v then x
  else { x with xorgs := (k, v) :: x.xorgs.take 7, lost := x.lost.or ((x.xorgs[7]?).map (·.1)) }

/-- CLP keeps the changes of a bar's XORG while it runs, each with the first line it governs (R269). -/
def State.noteXorg (s : State) (b k : Nat) : State :=
  match Tbl.get? s.clp.bars b with
  | some x => { s with clp := { s.clp with bars := Tbl.put s.clp.bars b (x.note k (s.rgI (pgPBA b) Reg.PBA.XORG)) } }
  | none => s

/-- The links of a bar's used entries that are not UP (R187). -/
def State.linksOff (s : State) (b : Nat) : List Nat :=
  (((s.entries b).map (fun e => s.entCh b e / 8)).eraseDups).filter (fun n => s.fl (134 + n) Reg.HLK.LSTAT 2 0 != 2)

/-- A bar starts line `k` (R156 to R161, R125, R128, R142). -/
def State.lineStart (s : State) (b : Nat) (t : Trig) : State :=
  let p := pgPBA b
  let k := t.index
  let s := s.atBoundary p (·.pbaApply b)
  let s := s.barIndex b k
  let s := (s.setRg64 p Reg.PBA.LASTK (k % 2 ^ 48)).inc p Reg.PBA.LINECNT 1
  let s := s.noteXorg b k
  let slots := s.barSlots b
  let s := slots.foldl (fun u q => u.stripeStart q k) s
  let s := (s.jobStart b k).swapFollow b
  let s := ((slots.map (· / 4)).eraseDups).foldl (fun u st => u.atBoundary (pgSTP st) (·.stpApply st)) s
  let s := if s.waits b ∧ s.rg64 pgNCT (Reg.NCT.SLINE b) ≤ k then
      { s with nct := { s.nct with reached := s.nct.reached ||| 2 ^ b } } else s
  let rows := (s.entries b).flatMap (fun e => (List.range 4).map (fun r => s.rg p (rowOff e r)))
  let l : Started :=
    { k := k, n := t.cycle, v := t.speeds.getD (s.fl p Reg.PBA.CFG 1 0) 0, ovs := t.ovs,
      xorg := s.rgI p Reg.PBA.XORG, fdist := s.rg64 p Reg.PBA.FDIST % 2 ^ 40, rows := rows,
      down := (s.page pgFIRE).state != .run, off := s.linksOff b, done := false, stage := 0, t := 0, d := 0, skips := [], sent := [],
      chain := (t.origin, t.depth) }
  let x := s.bar b
  let live := x.started.filter (fun e => e.stage < 2 || decide ((s.cycle : Int) * 65536 ≤ e.t))
  s.setBar b { x with started := live ++ [l] }

/-- LINE (R156): a LINE task trigger; discarded out of RUN and while frozen. -/
def execLine (bar : Nat) (s : State) : Host.Outcome State Fault Refusal :=
  match s.takeTrig (pgPBA bar) 0 with
  | none => .next s
  | some (t, s) => .next (if s.unitRuns .pba bar then s.lineStart bar t else s)

/-- TSTAT.PEND: lines not yet fired. -/
def State.pendLines (s : State) (b : Nat) : Nat :=
  ((s.bar b).started.filter (fun e => e.stage < 3 && (e.stage == 0 || decide ((s.cycle : Int) * 65536 ≤ e.t)))).length

/-- A started line replaced by its new version: the first that equals it, as lines may share an index. -/
def Bar.setStarted (x : Bar) (l : Started) (f : Started → Started) : Bar :=
  { x with started := x.started.takeWhile (· != l) ++ (match x.started.dropWhile (· != l) with
    | [] => []
    | e :: r => f e :: r) }

/-- A low-speed or short-lead line (R164): no channel fires, the line is VOID. -/
def State.noFire (s : State) (b : Nat) (l : Started) : State :=
  let s := (s.abandonAll b l.k).voidLine b l.k
  s.setBar b ((s.bar b).setStarted l (fun e => { e with stage := 3 }))

/-- T(k) (R161): n + (FDIST − o) / v; with v = 0 it is a free value. -/
def fireTime (l : Started) (fdist : Nat) (up : Bool) (free : Nat) : Int :=
  if l.v ≤ 0 then (l.n : Int) * 65536 + free
  else (l.n : Int) * 65536 + nearest (((fdist : Int) * 2 ^ 24 - l.ovs) * 2 ^ 24) l.v up

/-- Entries that fire within MINPER of their last fire (R168). -/
def State.overspeeds (s : State) (b : Nat) (t : Int) : List Nat :=
  (s.entries b).filter (fun e =>
    match Tbl.get? (s.bar b).tlast e with
    | some l => decide (t - l < (s.entMinper b e : Int) * 65536)
    | none => false)

/-- TSTAT of a bar (FIRE registers): TFRAC of the last line computed, PEND as it is. -/
def State.fireRead (s : State) (o : Nat) : Option Nat :=
  let b := (o - 0x200) / 0x20
  if 0x200 ≤ o ∧ o = Reg.FIRE.barTSTAT b ∧ b < unitCount s.variant .pba then
    some (s.rg pgFIRE o % 65536 + min 4 (s.pendLines b) * 65536)
  else none

/-- FIRE registers of a bar show the last line computed. -/
def State.showFire (s : State) (b : Nat) (l : Started) (t : Int) : State :=
  let u := (s.setRg64 pgFIRE (Reg.FIRE.barK b) (l.k % 2 ^ 48)).setRgI pgFIRE (Reg.FIRE.barTINT b) (shr t 16)
  let u := u.setRg pgFIRE (Reg.FIRE.barTSTAT b) (t % 65536).toNat
  u.setRgI pgFIRE (Reg.FIRE.barSPEED b) l.v

/-- The decisions of cycle n + 4 (R161 to R164, R168, R169). -/
def State.fireDecide (s : State) (b : Nat) (l : Started) : State :=
  let p := pgPBA b
  let c := l.k % 2 ^ 20
  let short := fun (s : State) =>
    (((s.sat p Reg.PBA.LEADCNT 1).sat p Reg.PBA.LATECNT 1).err p 3 0x193 c).noFire b l
  if l.down ∨ (s.page pgFIRE).state ≠ .run then short s
  else if l.v < (s.rg64 pgFIRE Reg.FIRE.VMIN : Int) then
    ((((s.sat p Reg.PBA.LOWCNT 1).err p 2 0x192 c).happenFrom p 2 b (some l.chain)).noFire b l)
  else
    let t := fireTime l l.fdist (Config.tieUp s.fresh) (s.draw 40)
    let s := s.drawn
    let d := t - ((s.blat b + s.fl pgFIRE Reg.FIRE.GUARD 15 0 : Nat) : Int) * 65536
    let s := s.showFire b l t
    if shr d 16 < (l.n : Int) + 4 then short s
    else
      let sk := s.overspeeds b t
      let s := s.setBar b ((s.bar b).setStarted l (fun e => { e with stage := 1, t := t, d := d, skips := sk }))
      match sk with
      | [] => s
      | e :: _ =>
        ((s.sat p Reg.PBA.OVSCNT sk.length).err p 0 0x190 (e * 2 ^ 14 + l.k % 2 ^ 14)).happenFrom p 0 b (some l.chain)

/-- The page completes started lines: RUN or DRAIN. -/
def State.barLive (s : State) (b : Nat) : Bool :=
  let st := (s.page (pgPBA b)).state
  decide (b < unitCount s.variant .pba) && s.works (pgPBA b) && (st == .run || st == .drain)

/-- FIRE_INSTANT (R161): in cycle n + 4 of the oldest line not yet decided. -/
def execFireInstant (bar : Nat) (s : State) : Host.Outcome State Fault Refusal :=
  match (s.bar bar).started.find? (fun e => e.stage == 0) with
  | some l => .next (if s.barLive bar ∧ l.n + 4 ≤ s.cycle then s.fireDecide bar l else s)
  | none => .next s

/-- A line checked at its deadline (R165, R166). -/
def State.deadline (s : State) (b : Nat) (l : Started) : State :=
  let p := pgPBA b
  let s := s.setBar b ((s.bar b).setStarted l (fun e => { e with stage := 2 }))
  if l.done || s.lineComplete b l.k then s
  else
    let s := (s.contoneLate b l.k).abandonAll b l.k
    ((((s.voidLine b l.k).sat p Reg.PBA.LATECNT 1).err p 1 0x191 (l.k % 2 ^ 20)).happenFrom p 1 b (some l.chain))

/-- LINE_DEADLINE (R166): at floor(D(k)) of a line; the oldest of those due. -/
def execLineDeadline (bar : Nat) (s : State) : Host.Outcome State Fault Refusal :=
  match (s.bar bar).started.find? (fun e => e.stage == 1 && decide (shr e.d 16 ≤ (s.cycle : Int))) with
  | some l => .next (if s.barLive bar then s.deadline bar l else s)
  | none => .next s

/-! ## Entry writes, RUN, stop -/

/-- Used entries of a bar, and N, with the writes that DRAIN stores (R31): what they will be at IDLE. -/
def State.entriesN (s : State) (b : Nat) : List Nat := List.range (min 64 (bits (s.normal (pgPBA b) Reg.PBA.CFG) 14 8))
def State.nactN (s : State) (b : Nat) : Nat :=
  ((s.entriesN b).map (fun e => bits (s.normal (pgPBA b) (Reg.PBA.entryCNT e)) 12 0)).foldl (· + ·) 0

/-- Another bar's used entry names the channel, now or by a stored write (R155, R31). -/
def State.chUsed (s : State) (b ch : Nat) : Bool :=
  (List.range 16).any (fun c => c != b && ((s.entries c).any (fun e => s.entCh c e == ch) ||
    (s.entriesN c).any (fun e => bits (s.normal (pgPBA c) (Reg.PBA.entryMAP e)) 8 0 == ch)))

/-- What R155 refuses an entry with the given MAP and CNT for: range, a used channel; none for neither. -/
def State.entryBad (s : State) (b o map cnt : Nat) : Option (State → State) :=
  let p := pgPBA b
  if 4096 < bits map 23 12 + bits cnt 12 0 then some (·.err p 4 0x194 o)
  else if s.chUsed b (bits map 8 0) then some (·.err p 5 0x195 (bits map 8 0))
  else none

/-- The channel of a MAP word is absent on the part (R26, R155). -/
def State.mapAbsent (s : State) (map : Nat) : Bool := decide (unitCount s.variant .hlk * 8 ≤ bits map 8 0)

/-- An entry word as a new value would make it (R155): refused for range, a used channel or an excess count. -/
def State.entryWrite (s : State) (b o v : Nat) : State :=
  let p := pgPBA b
  let e := (o - 0x200) / 0x18
  let isMap := o == Reg.PBA.entryMAP e
  let t := (s.writeWord p o v).showBar b
  if (s.page p).run then t
  else if isMap && s.mapAbsent v then s.bindError p 0x011 e
  else
    match s.entryBad b o (if isMap then v else s.normal p (Reg.PBA.entryMAP e))
        (if isMap then s.normal p (Reg.PBA.entryCNT e) else v) with
    | some f => f s
    | none => if 262144 < t.nactN b then s.err p 4 0x194 o else t

/-- A 64-bit write of MAP and CNT of an entry, as one write (R155). -/
def State.entryPair (s : State) (b o lo hi : Nat) : State :=
  let p := pgPBA b
  let t := ((s.writeWord p o lo).writeWord p (o + 4) hi).showBar b
  if s.mapAbsent lo then s.bindError p 0x011 ((o - 0x200) / 0x18)
  else
    match s.entryBad b o lo hi with
    | some f => f s
    | none => if 262144 < t.nactN b then s.err p 4 0x194 o else t

/-- ENTRY_WRITE (R155): a write of MAP or CNT of an entry. -/
def execEntryWrite (bar entry : Nat) (map : Bool) (value req : Nat) (s : State) : Host.Outcome State Fault Refusal :=
  let o := if map then Reg.PBA.entryMAP entry else Reg.PBA.entryCNT entry
  .next (if entry < 64 then s.gateU .pba bar req o value (·.entryWrite bar o value) else s)

/-- A write of PBA.CFG (R155): the reserved GRID and an NCH beyond 64 or 262,144 nozzles keep the field's value. -/
def State.barCfg (s : State) (b v : Nat) : State :=
  let p := pgPBA b
  let old := s.normal p Reg.PBA.CFG
  if (s.page p).run then s.writeWord p Reg.PBA.CFG v
  else
    let badG := bits v 5 4 == 3
    let v1 := if badG then setBits v 5 4 (bits old 5 4) else v
    let t1 := (s.writeWord p Reg.PBA.CFG v1)
    let badN := decide (64 < bits v 14 8) || decide (262144 < t1.nactN b)
    let v2 := if badN then setBits v1 14 8 (bits old 14 8) else v1
    let t := (s.writeWord p Reg.PBA.CFG v2).showBar b
    if badG || badN then t.err p 4 0x194 Reg.PBA.CFG else t

/-- Register writes of a bar with a rule of their own. -/
def State.pbaOnWrite (s : State) (b o v : Nat) : Option State :=
  let p := pgPBA b
  let e := (o - 0x200) / 0x18
  if o = Reg.PBA.CFG then some (s.barCfg b v)
  else if 0x200 ≤ o ∧ e < 64 ∧ (o = Reg.PBA.entryMAP e ∨ o = Reg.PBA.entryCNT e) then some (s.entryWrite b o v)
  else if o = Reg.PBA.DLYMAX ∨ o = Reg.PBA.DSTBASE then some ((s.writeWord p o v).showBar b)
  else none

/-- A write of FIRE.GUARD below 16 is ignored (FIRE registers). -/
def State.fireOnWrite (s : State) (o v : Nat) : Option State :=
  if o = Reg.FIRE.GUARD ∧ bits v 15 0 < 16 then some (s.err pgFIRE 0 0x198 0) else none

/-- Entry of a bar's page to STATE RUN (R157, R159, R160, R168, 20 R403). -/
def State.pbaOnRun (s : State) (b : Nat) : State :=
  let p := pgPBA b
  let old := (s.bar b).lines.map (fun e => (e.1, ({ codes := [], wrote := [], before := e.2.before ++ e.2.wrote, void := false } : DLine)))
  let s := (s.setBar b { s.bar b with k := none, first := 0, lines := old, tlast := [] }).showBar b
  let a := s.dstBase b
  let n := s.dstUse b
  if decide (sramBytes s.variant 1 < a + n) ||
      (List.range 16).any (fun c => c != b && s.enabled (pgPBA c) && n != 0 && s.dstUse c != 0 &&
        decide (a < s.dstBase c + s.dstUse c) && decide (s.dstBase c < a + n)) then
    (s.err p 6 0x196 0).toFault p
  else s

/-- A bar leaves RUN: it hands over at once (R142). -/
def State.pbaLeft (s : State) (b : Nat) : State := s.handOver b

/-- EN = 0 or a soft reset discards every line started and not yet fired (R156); K stays until the next entry to RUN (R140). -/
def State.pbaClear (s : State) (b : Nat) : State := s.setBar b { s.bar b with started := [] }

end Sys2Proof.Machine
end

