-- ==== Sys2Proof/Machine/HeadLink.lean ====
section
/-!
DEFINITION. Zuliong head links HLK0 to HLK63 (09 R171 to R194): training, line sets, time, tunnel, status, violations.
-/

namespace Sys2Proof.Machine

def pgHLK (n : Nat) : Nat := 134 + n

/-- A head link beside its registers. -/
def State.link (s : State) (n : Nat) : Link := Tbl.getD s.links n Link.reset
def State.setLink (s : State) (n : Nat) (x : Link) : State := { s with links := Tbl.put s.links n x }

/-- LSTAT.LSTATE: 0 OFF, 1 TRAIN, 2 UP, 3 DOWN, 4 QUAR; STEP; LOCK and REASON. -/
def State.lstate (s : State) (n : Nat) : Nat := s.fl (pgHLK n) Reg.HLK.LSTAT 2 0
def State.lstep (s : State) (n : Nat) : Nat := s.fl (pgHLK n) Reg.HLK.LSTAT 5 4
def State.setLstate (s : State) (n v : Nat) : State := s.setFl (pgHLK n) Reg.HLK.LSTAT 2 0 v
def State.setLstep (s : State) (n v : Nat) : State := s.setFl (pgHLK n) Reg.HLK.LSTAT 5 4 v

/-- The link exists, is not frozen and is in one of the named states (R184). -/
def State.linkIn (s : State) (n : Nat) (sts : List Nat) : Bool :=
  decide (n < unitCount s.variant .hlk) && s.works (pgHLK n) && sts.contains (s.lstate n)

/-- Block time in 1/100 cycle (R172). -/
def State.blockTime (s : State) (n : Nat) : Nat :=
  match s.fl (pgHLK n) Reg.HLK.CFG 1 0 with
  | 0 => 528
  | 1 => 264
  | 2 => 165
  | _ => 132

/-- Frame types (R178). -/
abbrev frLINE : Nat := 1
abbrev frBLANK : Nat := 2
abbrev frFIRE : Nat := 3
abbrev frSYNC : Nat := 4
abbrev frCMD : Nat := 5
abbrev frNAK : Nat := 8

/-- Bytes 1 to 7 of the SOF block: TYPE and VER 1, CH and NR, SEQ, LEN, ARG (R176). -/
def hlkHeader (type ch nr seq len arg : Nat) : List Nat :=
  [type % 16 + 16, ch % 8 + nr % 4 * 8, seq % 256, len % 256, len / 256 % 256, arg % 256, arg / 256 % 256]

/-- A frame to the board that begins at `at_`, in 1/100 cycle (R175 to R177): header bytes 1 to 7 and the CRC of its EOF
block; 64-bit payload words. It takes the lane for its payload, SOF and EOF blocks. -/
def State.hlkSendAt (s : State) (n at_ type ch nr arg : Nat) (words : List Nat) : State :=
  if s.linkSilent then s
  else
    let x := s.link n
    let h := hlkHeader type ch nr x.seq words.length arg
    (s.emit (.frame (pgHLK n) type (h ++ [frameCrc h words]) words)).setLink n
      { x with seq := (x.seq + 1) % 256
               laneEnd := at_ + (words.length + 2) * s.blockTime n }

/-- A frame that begins as soon as the lane is free. -/
def State.hlkSend (s : State) (n type ch nr arg : Nat) (words : List Nat) : State :=
  s.hlkSendAt n (max (s.link n).laneEnd (s.cycle * 100)) type ch nr arg words

/-- The entries of a bar that a link carries, in ascending channel number (R181). -/
def State.linkEntries (s : State) (n b : Nat) : List Nat :=
  (List.range 8).flatMap (fun c => (s.entries b).filter (fun e => s.entCh b e == n * 8 + c))

/-- The cycle from which a line set of a link is due (R165). -/
def State.setDue (s : State) (n : Nat) (l : Started) : Int :=
  max (shr l.t 16 - ((s.rg (pgHLK n) Reg.HLK.LLAT + s.fl pgFIRE Reg.FIRE.GUARD 15 0 : Nat) : Int)) (shr l.d 16 + 1)

/-- The line sets that may start now on a link: (T(k), bar, line) (R165, R181). -/
def State.dueSets (s : State) (n : Nat) : List (Int × Nat × Started) :=
  (List.range 16).flatMap (fun b =>
    if s.barLive b && !(s.linkEntries n b).isEmpty then
      ((s.bar b).started.filter (fun l => l.stage == 2 && !l.sent.contains n &&
        decide (s.setDue n l ≤ (s.cycle : Int)))).map (fun l => (l.t, b, l))
    else [])

/-- A line set of an UP link is queued or in transmission: control frames wait (R181). -/
def State.setsWait (s : State) (n : Nat) : Bool :=
  s.lstate n == 2 && (!(s.dueSets n).isEmpty || decide (s.cycle * 100 < (s.link n).setEnd))

/-- The waiting control frames leave in turn, each when the lane is free, while that instant is not ahead and lies before
`lim`, in 1/100 cycle. The CMD of the tunnel operation takes its SEQ when it leaves (R189). -/
def State.hlkPumpTo (s : State) (n : Nat) (lim : Option Int) : List (Nat × Nat × List Nat × Nat) → State
  | [] => s.setLink n { s.link n with ctl := [] }
  | f :: fs =>
    let x := s.link n
    let b := max x.laneEnd (f.2.2.2 * 100)
    if s.cycle * 100 < b ∨ (lim.any (fun l => decide (l ≤ (b : Int)))) = true then s.setLink n { x with ctl := f :: fs }
    else
      let x := match x.tun with
        | some (none, wr, _) => if f.1 = frCMD then { x with tun := some (some x.seq, wr, b / 100) } else x
        | _ => x
      ((s.setLink n x).hlkSendAt n b f.1 0 0 f.2.1 f.2.2.1).hlkPumpTo n lim fs

/-- Waiting control frames of a link in TRAIN or UP leave (R181, R184): none begins from the cycle on in which a line set
is due. -/
def State.hlkPump (s : State) (n : Nat) : State :=
  if s.lstate n ≠ 1 ∧ s.lstate n ≠ 2 then s
  else
    let dues := if s.lstate n = 2 then (s.dueSets n).map (fun e => s.setDue n e.2.2 * 100) else []
    s.hlkPumpTo n dues.min? (s.link n).ctl

/-- A frame or an ALIGN that arrives shows block lock, LSTAT.LOCK (R173; DEDUCED, log entry 29); frames that wait may go
(log entry 29). -/
def State.hlkHeard (s : State) (n : Nat) : State :=
  if s.linkIn n [1, 2, 3, 4] then (s.setFl (pgHLK n) Reg.HLK.LSTAT 3 3 1).hlkPump n else s

/-- A control frame is queued, and sent unless a line set or another frame holds it (R181). -/
def State.hlkCtl (s : State) (n type arg : Nat) (words : List Nat) : State :=
  let s := s.hlkPump n
  (s.setLink n { s.link n with ctl := (s.link n).ctl ++ [(type, arg, words, s.cycle)] }).hlkPump n

/-- The tunnel operation in progress ends with a CODE and a REASON (R189). -/
def State.tunEnd (s : State) (n code rsn : Nat) : State :=
  let p := pgHLK n
  match (s.link n).tun with
  | none => s
  | some _ =>
    ((s.setLink n { s.link n with tun := none }).setRg p Reg.HLK.TUNSTAT (2 + code * 256 + rsn % 256 * 65536)).setIst p 2

/-- A violation of the board (R194); a quarantined page puts the link in QUAR, where only IDLE blocks are sent, and the
tunnel operation ends LINKDOWN (R184). -/
def State.hlkViolate (s : State) (n code : Nat) : State :=
  let t := s.violate (pgHLK n) code
  if (t.page (pgHLK n)).state = .fault ∧ t.lstate n ≠ 4 then
    ((t.setLstate n 4).setLink n { t.link n with ctl := [] }).tunEnd n 3 0
  else t

/-- A frame refused with a NAK (R194). -/
def State.hlkNak (s : State) (n reason seq : Nat) : State :=
  let p := pgHLK n
  let t := ((s.hlkCtl n frNAK (reason + seq % 256 * 256) []).sat p Reg.HLK.NAKTXCNT 1).err p 1 0x1A1 reason
  t.hlkViolate n 0x1A1

/-- A malformed frame (R194): refused with a NAK, but a NAK is never answered with one. -/
def State.hlkMalformed (s : State) (n type reason seq : Nat) : State :=
  if type % 16 = frNAK then (s.err (pgHLK n) 1 0x1A1 reason).hlkViolate n 0x1A1 else s.hlkNak n reason seq

/-- Training starts (R182, R184). -/
def State.hlkTrain (s : State) (n : Nat) : State :=
  let x := s.link n
  ((s.setLstate n 1).setLstep n 0).setLink n
    { x with answers := 0, rttSum := 0, trainAt := s.cycle, syncAt := s.cycle, t1 := none, ctl := [] }

/-- The DOWN event and its log entry with REASON (R184). -/
def State.hlkDownMark (s : State) (n reason : Nat) : State :=
  let p := pgHLK n
  ((s.setFl p Reg.HLK.LSTAT 11 8 reason).err p 2 0x1A2 0).happen p 1 n

/-- Entry to DOWN (R184); control frames that wait are not sent (DESIGN CHOICE, log entry 29). -/
def State.hlkDown (s : State) (n reason : Nat) : State :=
  let p := pgHLK n
  let t := ((s.setLstate n 3).setLink n { s.link n with downAt := s.cycle, ctl := [] }).tunEnd n 3 0
  ((t.sat p Reg.HLK.DOWNCNT 1).hlkDownMark n reason).hlkViolate n 0x1A2

/-- The link takes frames in the states given: not in the first part of a recalibration (R427). -/
def State.hears (s : State) (n : Nat) (l : List Nat) : Bool := s.linkIn n l && !s.recalDeaf n

/-- LOCK_DONE (R182): CMD IDENT is sent. -/
def execLockDone (link : Nat) (s : State) : Host.Outcome State Fault Refusal :=
  if s.linkIn link [1] ∧ s.lstep link = 0 then
    .next (((s.setLstep link 1).setFl (pgHLK link) Reg.HLK.LSTAT 3 3 1).hlkCtl link frCMD 1 [0])
  else .next s

/-- HLK_ALIGN_RATE (R182). -/
def execHlkAlignRate (link rate : Nat) (s : State) : Host.Outcome State Fault Refusal :=
  let s := s.hlkHeard link
  if s.linkIn link [1] ∧ s.lstep link = 0 ∧ rate ≠ s.fl (pgHLK link) Reg.HLK.CFG 1 0 then .next (s.hlkDown link 4)
  else .next s

/-- The channels of CFG.CHEN. -/
def State.chanEn (s : State) (n : Nat) : List Nat := (List.range 8).filter (fun c => s.fb (pgHLK n) Reg.HLK.CFG (8 + c))

/-- NNOZ of a channel. -/
def State.nnoz (s : State) (n c : Nat) : Nat := s.fl (pgHLK n) (Reg.HLK.CHCFG c) 12 0

/-- The failing check of a STAT IDENT: 1 PVER, 2 CHMASK, 3 NNOZMAX (R182). -/
def State.identCheck (s : State) (n pver chmask nnozmax : Nat) : Nat :=
  if pver ≠ 1 then 1
  else if (s.chanEn n).any (fun c => !bit chmask c) then 2
  else if (s.chanEn n).any (fun c => decide (nnozmax < s.nnoz n c)) then 3
  else 0

/-- STAT_IDENT (R182, R190). -/
def execStatIdent (link boardid pver chmask intake nnozmax minper : Nat) (s : State) :
    Host.Outcome State Fault Refusal :=
  let p := pgHLK link
  let s := s.hlkHeard link
  if s.hears link [1] ∧ s.lstep link = 1 then
    let s := (s.setRg p Reg.HLK.BOARDID boardid).setRg p Reg.HLK.BIDENT
      (pver % 256 + chmask % 256 * 256 + intake % 65536 * 65536)
    let s := s.setRg p Reg.HLK.BLIMIT (nnozmax % 8192 + minper % 65536 * 65536)
    match s.identCheck link pver chmask nnozmax with
    | 0 => .next (s.setLstep link 2)
    | c => .next ((s.err p 9 0x1A9 c).hlkDown link 4)
  else .next s

/-- A stamp of this cycle: its fraction is free (R185). -/
def State.stamp16 (s : State) : Nat := s.cycle * 65536 + s.draw 16

/-- The MEASURE step of a recalibration still wants answers (R427, R182). -/
def State.recalAsks (s : State) (link : Nat) : Bool := match s.cal.recal with
  | some (_, t) => s.recalOn link && decide (t + 7500 ≤ s.cycle) && decide ((s.link link).answers < 8)
  | none => false

/-- The last SYNC of a recalibration's MEASURE step has its answer, or none was sent in that step. -/
def State.recalHeard (s : State) (link : Nat) : Bool := match s.cal.recal, (s.link link).t1 with
  | some (_, t), some t1 => decide ((s.link link).syncAt < t + 7500) || decide (((s.link link).t4 + 2 ^ 64 - t1) % 2 ^ 64 < 2 ^ 63)
  | _, _ => true

/-- A SYNC is due: SYNCPER cycles since the last in TRAIN or UP, and the lane is free for it (R181, R186). The MEASURE step
of a recalibration sends the next one when the last is answered, since eight must fit into 5,000 cycles (R427; DEDUCED, log
entry 31). -/
def State.syncDue (s : State) (n : Nat) : Bool :=
  s.linkIn n [1, 2] && !s.setsWait n && decide ((s.link n).laneEnd ≤ s.cycle * 100) &&
    (decide ((s.link n).syncAt + s.fl (pgHLK n) Reg.HLK.SYNCPER 15 0 ≤ s.cycle) || (s.recalAsks n && s.recalHeard n))

/-- SYNC_SEND (R186): every SYNCPER cycles in TRAIN or UP; while the lane is not free it waits (R181). -/
def execSyncSend (link : Nat) (s : State) : Host.Outcome State Fault Refusal :=
  let p := pgHLK link
  let s := s.hlkPump link
  let x := s.link link
  if s.syncDue link then
    let t := s.stamp16 % 2 ^ 64
    .next (((s.drawn.setLink link { x with syncAt := s.cycle, t1 := some t }).hlkSend link frSYNC 0 0
      (s.fl p Reg.HLK.ASYM 15 0) [t, x.t4]).hlkPump link)
  else .next s

/-- A quotient rounded to one of its two neighbours; which one is a free value (log entry 12). -/
def looseDiv (a b : Int) (up : Bool) : Int :=
  let q := Int.fdiv a b
  if up ∧ q * b ≠ a then q + 1 else q

/-- LLAT (R183). -/
def State.llat (s : State) (n : Nat) : Nat :=
  let p := pgHLK n
  let x := ((s.chanEn n).map (fun c => s.nnoz n c / 32 + 7)).foldl (· + ·) 0
  let a := s.rg p Reg.HLK.FLIGHT * 100 + (s.fl p Reg.HLK.BIDENT 31 16 * 100 + (x + 4) * s.blockTime n) * 65536
  (a + 6553599) / 6553600

/-- The end of a MEASURE step (R183, R186): RTT the mean of the answers, FLIGHT, LLAT. -/
def State.hlkMeasured (s : State) (n : Nat) : State :=
  let p := pgHLK n
  let x := s.link n
  let rtt := looseDiv x.rttSum (max 1 x.answers) (Config.tieUp s.fresh)
  let asym := sgn 16 (s.fl p Reg.HLK.ASYM 15 0)
  let flight := looseDiv (rtt * 4000 - asym * 65536) 8000 (Config.tieUp (s.fresh + 1))
  let s := (s.drawn.drawn.setRg p Reg.HLK.RTT (enc2 32 rtt)).setRg p Reg.HLK.FLIGHT (enc2 32 flight)
  s.setRg p Reg.HLK.LLAT (min 65535 (s.llat n))

/-- Entry to UP (R183, R184, R186). -/
def State.hlkUp (s : State) (n : Nat) : State :=
  let p := pgHLK n
  let s := (s.setLstate n 2).hlkMeasured n
  ((s.setLink n { s.link n with hbAt := s.cycle }).happen p 0 n).noteUp 0 n

/-- SYNC_ANSWER (R186, R182). -/
def execSyncAnswer (link t1 t2 t3 seq : Nat) (s : State) : Host.Outcome State Fault Refusal :=
  let s := s.hlkHeard link
  let x := s.link link
  if s.hears link [1, 2] = false then .next s
  else if x.t1 ≠ some t1 then .next (s.hlkNak link 7 seq)
  else
    let t4 : Nat := s.stamp16 % 2 ^ 64
    let rtt := sgn 64 (enc2 64 (((t4 : Int) - t1) - ((t3 : Int) - t2)))
    let s := (s.drawn.setRg (pgHLK link) Reg.HLK.RTT (enc2 32 rtt)).setLink link { x with t4 := t4 }
    if s.lstate link = 1 ∧ s.lstep link = 2 then
      let y := s.link link
      let s := s.setLink link { y with answers := y.answers + 1, rttSum := y.rttSum + rtt }
      .next (if 8 ≤ y.answers + 1 then s.hlkUp link else s)
    else if s.recalOn link then
      let y := s.link link
      .next (s.setLink link { y with answers := y.answers + 1, rttSum := y.rttSum + rtt })
    else .next s

/-- TRNTMO (R182). -/
def execTrntmo (link : Nat) (s : State) : Host.Outcome State Fault Refusal :=
  if s.linkIn link [1] ∧ (s.link link).trainAt + s.rg (pgHLK link) Reg.HLK.TRNTMO ≤ s.cycle then
    .next (s.hlkDown link 3)
  else .next s

/-- A channel's temperature word of STAT HB. -/
def State.hbTemps (s : State) (n : Nat) (temps : List Nat) : State :=
  let p := pgHLK n
  let tmax := sgn 16 (s.fl p Reg.HLK.TMAX 15 0)
  let above := (s.chanEn n).filter (fun c => decide (tmax < sgn 16 (temps.getD c 0)))
  let x := s.link n
  let s := (List.range 4).foldl (fun t i =>
    t.setRg p (Reg.HLK.TEMP01 + 4 * i) (temps.getD (2 * i) 0 % 65536 + temps.getD (2 * i + 1) 0 % 65536 * 65536)) s
  (above.filter (fun c => !x.hot.contains c)).foldl (fun t c => (t.err p 6 0x1A6 c).happen p 4 n)
    (s.setLink n { x with hot := above })

/-- STAT_HB (R191). -/
def execStatHb (link hbcnt flags rxerr latefire : Nat) (temps : List Nat) (alignres : Nat) (s : State) :
    Host.Outcome State Fault Refusal :=
  let p := pgHLK link
  let s := s.hlkHeard link
  if s.hears link [2] = false then .next s
  else
    let x := s.link link
    let s := s.setLink link { x with hbAt := s.cycle, fault := bit flags 0 }
    let s := (s.setRg p Reg.HLK.HBSTAT (hbcnt % 65536 + flags % 65536 * 65536)).setRg p Reg.HLK.BRXERR
      (rxerr % 65536 + latefire % 65536 * 65536)
    let s := (s.setRg p Reg.HLK.ALIGNRES alignres).hbTemps link temps
    let s := if bit flags 0 && !x.fault then (s.err p 7 0x1A7 (flags % 65536)).happen p 5 link else s
    .next (if s.rg p Reg.HLK.ALIGNMAX < (sgn 32 alignres).natAbs then s.err p 5 0x1A5 0 else s)

/-- HB_TIMEOUT (R184, R191). -/
def execHbTimeout (link : Nat) (s : State) : Host.Outcome State Fault Refusal :=
  if s.linkIn link [2] ∧ s.recalOn link = false ∧ (s.link link).hbAt + 16000 ≤ s.cycle then .next (s.hlkDown link 1) else .next s

/-- BLOCK_LOCK_LOSS (R173, R184). -/
def execBlockLockLoss (link : Nat) (s : State) : Host.Outcome State Fault Refusal :=
  if s.linkIn link [1, 2, 3, 4] = false then .next s
  else
    let s := s.setFl (pgHLK link) Reg.HLK.LSTAT 3 3 0
    .next (if s.lstate link = 2 then s.hlkDown link 2 else s)

/-- LCMD.RETRAIN that acts (R184). -/
def State.hlkRetrain (s : State) (n : Nat) : State :=
  if s.linkIn n [2, 3] then (((s.tunEnd n 3 0).hlkDownMark n 5).hlkTrain n) else s

/-- RETRAIN (R184). -/
def execRetrain (link req : Nat) (s : State) : Host.Outcome State Fault Refusal :=
  .next (s.gateU .hlk link req Reg.HLK.LCMD 1 (·.hlkRetrain link))

/-- AUTORT (R184). -/
def execAutort (link : Nat) (s : State) : Host.Outcome State Fault Refusal :=
  if s.linkIn link [3] ∧ s.fb (pgHLK link) Reg.HLK.CFG 4 ∧ (s.link link).downAt + 250000 ≤ s.cycle then
    .next (s.hlkTrain link)
  else .next s

/-! ## Register tunnel -/

/-- TUNCMD.GO that acts (R189). -/
def State.hlkTun (s : State) (n : Nat) (wr : Bool) : State :=
  let p := pgHLK n
  let x := s.link n
  if x.tun ≠ none then s.err p 3 0x1A4 0xFFFFF
  else
    let t := (s.setLink n { x with tun := some (none, wr, s.cycle) }).setRg p Reg.HLK.TUNSTAT 1
    if s.lstate n ≠ 2 then t.tunEnd n 3 0
    else t.hlkCtl n frCMD (if wr then 3 else 2) [s.rg p Reg.HLK.TUNADDR + s.rg p Reg.HLK.TUNDATA * 2 ^ 32]

/-- TUNCMD (R189). -/
def execTuncmd (link : Nat) (wr : Bool) (req : Nat) (s : State) : Host.Outcome State Fault Refusal :=
  .next (s.gateU .hlk link req Reg.HLK.TUNCMD (1 + 2 * b2n wr) (·.hlkTun link wr))

/-- ACK (R189). -/
def execAck (link cmdSeq data seq : Nat) (s : State) : Host.Outcome State Fault Refusal :=
  let s := s.hlkHeard link
  if s.hears link [2] = false then .next s
  else
    match (s.link link).tun with
    | some (q, wr, _) =>
      if q = some cmdSeq then
        .next ((if wr then s else s.setRg (pgHLK link) Reg.HLK.TUNDATA data).tunEnd link 0 0)
      else .next (s.hlkNak link 6 seq)
    | none => .next (s.hlkNak link 6 seq)

/-- NAK (R189, R194): logged; a matching tunnel operation ends. -/
def execNak (link reason cmdSeq : Nat) (s : State) : Host.Outcome State Fault Refusal :=
  let p := pgHLK link
  let s := s.hlkHeard link
  if s.hears link [2] = false then .next s
  else
    let s := (s.sat p Reg.HLK.NAKRXCNT 1).err p 4 0x1A3 (reason % 256 + cmdSeq % 256 * 256)
    let s := match (s.link link).tun with
      | some (q, _, _) => if q = some cmdSeq then s.tunEnd link 1 reason else s
      | none => s
    .next (s.hlkViolate link 0x1A3)

/-- TUNTMO (R189, R194): from the cycle in which the CMD left. -/
def execTuntmo (link : Nat) (s : State) : Host.Outcome State Fault Refusal :=
  let p := pgHLK link
  let s := s.hlkPump link
  match (s.link link).tun with
  | some (q, _, at_) =>
    if q.isSome ∧ s.linkIn link [2] ∧ at_ + s.rg p Reg.HLK.TUNTMO ≤ s.cycle then
      .next (((s.tunEnd link 2 0).err p 3 0x1A4 0).hlkViolate link 0x1A4)
    else .next s
  | none => .next s

/-! ## Nozzle check, frame errors -/

/-- STAT_NCHK (R192): 512 bytes to DRAM at NCHKBASE + c × 512. -/
def execStatNchk (link ch : Nat) (payload : List Byte) (s : State) : Host.Outcome State Fault Refusal :=
  let p := pgHLK link
  let base := s.rg64 p Reg.HLK.NCHKBASE
  let s := s.hlkHeard link
  if s.hears link [2] = false ∨ base = 0 then .next s
  else
    match s.dramWrite (unitWho p) (base + ch % 8 * 512) (payload.take 512) with
    | (t, true) => .next (t.happen p 3 (link * 65536 + ch % 8))
    | (t, false) => .next t

/-- HLK_FRAME_ERROR (R194): reason 1 CRC, 2 BLOCK, 3 TYPE, 4 LEN, 5 FRAMING; silent in training (R182). -/
def execHlkFrameError (link reason type seq : Nat) (s : State) : Host.Outcome State Fault Refusal :=
  let p := pgHLK link
  let s := s.hlkHeard link
  if s.hears link [2] = false then .next s
  else if reason = 1 then
    .next (((s.sat p Reg.HLK.CRCCNT 1).err p 0 0x1A0 (type % 256 * 256 + seq % 256)).hlkViolate link 0x1A0)
  else .next (s.hlkMalformed link type reason seq)

/-! ## Line sets -/

/-- The bar nozzle of physical nozzle `p` of an entry (R152). -/
def State.barNozzle (s : State) (b e p : Nat) : Nat :=
  let f := s.entFirst b e
  s.entBase b e + (if bit (s.entMap b e) 9 then f + s.entCount b e - 1 - p else p - f)

/-- The DSTORE reads of an entry's rows at a bar line: the uncorrectable words (20 R405). -/
def State.rowReads (s : State) (b e : Nat) (l : Started) : State × List Nat :=
  if s.sram.flips.isEmpty && s.sram.inject.isEmpty then (s, [])
  else
    ((List.range (s.entCount b e)).map (fun i =>
      let p := s.entFirst b e + i
      let dly := bits (l.rows.getD (e * 4 + p % s.entRows b e) 0) 7 0
      s.dstWord b (l.k - dly) (s.barNozzle b e p))).eraseDups.foldl (fun (a : State × List Nat) w =>
        let r := a.1.sramRead 1 w
        (r.1, if r.2 then w :: a.2 else a.2)) (s, [])

/-- The line and code of physical nozzle `p` of entry `e` at bar line `k` (R152, R158, R179); 0 in a word of `bad`. -/
def State.nozzleCode (s : State) (b e : Nat) (l : Started) (bad : List Nat) (p : Nat) : Nat :=
  let r := p % s.entRows b e
  let dly := bits (l.rows.getD (e * 4 + r) 0) 7 0
  let j := (l.k : Int) - dly
  let f := s.entFirst b e
  let c := s.entCount b e
  if p < f ∨ f + c ≤ p ∨ s.lineVoid b j then 0
  else
    let i := s.barNozzle b e p
    match Tbl.get? (s.bar b).lines j.toNat with
    | some d => if bad.contains (s.dstWord b j.toNat i) then 0 else Tbl.getD d.codes i 0
    | none => 0

/-- Every row's line of an entry is VOID at a bar line (R167). -/
def State.entryVoid (s : State) (b e : Nat) (l : Started) : Bool :=
  (List.range (s.entRows b e)).all (fun r => s.lineVoid b ((l.k : Int) - bits (l.rows.getD (e * 4 + r) 0) 7 0))

/-- SUBr of a row: its quotient within 2^-16 cycle (R162, R180); free at speed 0. -/
def State.subFire (s : State) (b e : Nat) (l : Started) (up : Bool) (r : Nat) : Nat :=
  if s.entRows b e ≤ r then 0
  else if l.v ≤ 0 then Config.draw (s.fresh + r) % 2 ^ 32
  else (looseDiv ((bits (l.rows.getD (e * 4 + r) 0) 23 8 : Int) * s.pitch b * 256) l.v up).toNat % 2 ^ 32

/-- The LINE and FIRE frames of an entry (R167, R179, R180). -/
def State.sendFire (s : State) (n b e : Nat) (l : Started) : State :=
  let c := s.entCh b e % 8
  let (s, bad) := s.rowReads b e l
  let words := (List.range (s.nnoz n c / 32)).map (fun w =>
    ((List.range 32).map (fun i => s.nozzleCode b e l bad (w * 32 + i) * 4 ^ i)).foldl (· + ·) 0)
  let sub := s.subFire b e l (Config.tieUp s.fresh)
  let t := (s.drawn.drawn.drawn.drawn.hlkSend n frLINE c 0 l.k words).hlkSend n frFIRE c (s.entRows b e - 1) l.k
    [enc2 64 l.t, sub 0 + sub 1 * 2 ^ 32, sub 2 + sub 3 * 2 ^ 32]
  t.setBar b { t.bar b with tlast := Tbl.put (t.bar b).tlast e l.t }

/-- The frames of one entry; they begin when the lane is free (R167, R168, R181, R188). -/
def State.sendEntry (s : State) (n b : Nat) (l : Started) (e : Nat) : State :=
  let p := pgHLK n
  let c := s.entCh b e % 8
  let fr := s.nnoz n c / 32 + 7
  let begin_ : Int := ((max (s.cycle * 100) (s.link n).laneEnd : Nat) : Int) * 65536
  let latest : Int := l.t * 100 - ((s.fl pgFIRE Reg.FIRE.GUARD 15 0 * 6553600 + s.rg p Reg.HLK.FLIGHT * 100 +
    (s.fl p Reg.HLK.BIDENT 31 16 * 100 + fr * s.blockTime n) * 65536 : Nat) : Int)
  let blank := fun (t : State) => t.hlkSend n frBLANK c 0 l.k []
  if l.skips.contains e ∨ s.entryVoid b e l then blank s
  else if latest < begin_ then
    ((blank s).sat p Reg.HLK.LINKLATE 1).err p 8 0x1A8 (c * 2 ^ 17 + l.k % 2 ^ 17)
  else s.sendFire n b e l

/-- A line set is sent, or counted as not sent (R181, R187). -/
def State.lineSet (s : State) (n b : Nat) (l : Started) : State :=
  let es := s.linkEntries n b
  let s := s.hlkPump n
  let s := s.setBar b ((s.bar b).setStarted l (fun e => { e with sent := e.sent ++ [n] }))
  if s.recalOn n then s.sat pgCALC Reg.CALC.RECALLINES es.length
  else if (s.page pgFIRE).state ≠ .run then s -- a bar fires only while FIRE is in RUN (FIRE registers)
  else if s.running (pgHLK n) ∧ s.lstate n = 2 ∧ l.off.contains n = false then
    if s.linkSilent then s
    else
      let t := es.foldl (fun a e => a.sendEntry n b l e) s
      (t.setLink n { t.link n with setEnd := (t.link n).laneEnd }).hlkPump n
  else s.sat (pgHLK n) Reg.HLK.DOWNLINES es.length

/-- LINE_SET (R181): the due line set with the lowest T(k), ties to the lower bar. -/
def execLineSet (link : Nat) (s : State) : Host.Outcome State Fault Refusal :=
  if unitCount s.variant .hlk ≤ link then .next s
  else
    match s.dueSets link with
    | [] => .next s
    | c :: cs =>
      let best := cs.foldl (fun a b => if b.1 < a.1 then b else a) c
      .next (s.lineSet link best.2.1 best.2.2)

/-! ## Register writes, enable -/

/-- A value outside a register's range (HLK registers). -/
def hlkBad (o v : Nat) : Bool :=
  (o == Reg.HLK.SYNCPER && (decide (bits v 15 0 < 1000) || decide (16000 < bits v 15 0))) ||
    (o == Reg.HLK.TRNTMO && decide (v < 25000)) || (o == Reg.HLK.TUNTMO && decide (v < 1000)) ||
    (decide (Reg.HLK.CHCFG 0 ≤ o) && decide (o < Reg.HLK.CHCFG 8) &&
      (bits v 12 0 % 64 != 0 || bits v 12 0 == 0 || decide (4096 < bits v 12 0)))

/-- Register writes of a head link with a rule of their own. -/
def State.hlkOnWrite (s : State) (n o v : Nat) : Option State :=
  let p := pgHLK n
  if hlkBad o v then some (s.err p 10 0x1AA o)
  else if o = Reg.HLK.TUNCMD then some (if bit v 0 then s.hlkTun n (bit v 1) else s)
  else if o = Reg.HLK.LCMD then some (if bit v 0 then s.hlkRetrain n else s)
  else none

/-- CTRL.EN = 0 or a soft reset (R184). -/
def State.hlkOff (s : State) (n : Nat) : State :=
  ((s.tunEnd n 3 0).setRg (pgHLK n) Reg.HLK.LSTAT 0).setLink n { Link.reset with seq := (s.link n).seq }

end Sys2Proof.Machine
end

