-- ==== Sys2Proof/Machine/Camera.lean ====
section
/-!
DEFINITION. Camera ports CAM0 to CAM11 (10 R195 to R221): triggers, blocks, corrections, exposure, statistics, control.
Instants are in 2^-16 POSCLK cycle.
-/

namespace Sys2Proof.Machine

def pgCAM (n : Nat) : Nat := 62 + n
def pgCUP (n : Nat) : Nat := 74 + n

/-- A camera port beside its registers. -/
def State.cam (s : State) (n : Nat) : Cam := Tbl.getD s.cams n Cam.reset
def State.setCam (s : State) (n : Nat) (x : Cam) : State := { s with cams := Tbl.put s.cams n x }

/-- LSTAT.LSTATE: 0 DOWN, 1 UP, 2 QUAR (R198). -/
def State.camUp (s : State) (n : Nat) : Bool := s.fl (pgCAM n) Reg.CAM.LSTAT 1 0 == 1

/-- The port exists, is enabled, not frozen, has its clock and is not in FAULT (R16, R27, R30). -/
def State.camOn (s : State) (n : Nat) : Bool :=
  let g := s.page (pgCAM n)
  decide (n < unitCount s.variant .cam) && s.works (pgCAM n) && (g.state == .idle || g.state == .run || g.state == .drain)

/-- The port works on its period: RUN or DRAIN, not frozen (R30). -/
def State.camLive (s : State) (n : Nat) : Bool := s.camOn n && !((s.page (pgCAM n)).state == .idle)

/-- Sensor lines per line of FMT (R199); planes of the port; WIDTH; BLEN. -/
def State.camNs (s : State) (n : Nat) : Nat := min 3 (s.fl (pgCAM n) Reg.CAM.CFG 9 8 + 1)
def State.camPlanes (s : State) (n : Nat) : Nat := if s.fl (pgCAM n) Reg.CAM.CFG 9 8 = 0 then 1 else 3
def State.camWidth (s : State) (n : Nat) : Nat := s.fl (pgCAM n) Reg.CAM.WIDTH 16 0
def State.camBlen (s : State) (n : Nat) : Nat := s.fl (pgCAM n) Reg.CAM.BLEN 12 0

/-- TMIN of a mode and rate (R200): 8 in pin mode; 1,000 or 500 by the uplink rate where packets are sent. -/
def State.camTmin (s : State) (n : Nat) : Nat :=
  if s.fl (pgCAM n) Reg.CAM.CFG 15 14 = 1 then 8
  else if s.fl (pgCAM n) Reg.CAM.CFG 6 4 < 5 then 1000 else 500

/-- LSTAT.TMIN and CURBLK follow the port. -/
def State.camShow (s : State) (n : Nat) : State :=
  let s := s.setFl (pgCAM n) Reg.CAM.LSTAT 31 16 (s.camTmin n)
  s.setRg64 (pgCAM n) Reg.CAM.CURBLK
    (match (s.cam n).blocks.getLast? with
     | some x => x.b % 2 ^ 48
     | none => 2 ^ 48 - 1)

/-- The port's Cupola, when one in RUN or DRAIN takes the port: as home port, or bound in PORTS (R13, R195, R223). -/
def State.takenBy (s : State) (n : Nat) : Option Nat :=
  (List.range (unitCount s.variant .cup)).find? (fun c =>
    let st := (s.page (pgCUP c)).state
    let w := s.rg (pgCUP c) Reg.CUP.PORTS
    (st == .run || st == .drain) &&
      (n == 3 * c || (bit w 7 && bits w 3 0 == n) || (bit w 15 && bits w 11 8 == n)))

/-- What a port delivers goes to its Cupola; lines of a port that none takes are discarded (R195). -/
def State.camPut (s : State) (n : Nat) (o : CamOut) : State :=
  if (s.takenBy n).isSome then s.setCam n { s.cam n with out := (s.cam n).out ++ [o] } else s

/-- Generation of a line index (R212). -/
def Cam.genOf (x : Cam) (k : Nat) : Nat :=
  match x.gens.find? (fun e => decide (e.1 ≤ k)) with
  | some e => e.2
  | none => 0

/-- Integer part of the grid point of an index (R216); free while no mark is known. -/
def State.camGrid (s : State) (n k : Nat) : Int :=
  match (s.cam n).grid with
  | some (g, e) => shr (g + (k * e : Nat)) 24
  | none => sgn 64 (s.draw 64)

/-! ## Corrections (R207 to R211) -/

/-- A write at key `k` over the value `old` is noted. -/
def BankHold.note (h : BankHold) (cycle k old : Nat) : BankHold :=
  let olds := if h.at_ = cycle then h.olds else []
  { h with at_ := cycle, olds := match Tbl.get? olds k with
      | some _ => olds
      | none => Tbl.put olds k old }

/-- The value that a write of this cycle to the bank made active in this cycle does not replace yet (R210, R233). -/
def BankHold.old? (h : BankHold) (cycle k : Nat) : Option Nat :=
  if h.at_ = cycle ∧ h.swapAt = some cycle then Tbl.get? h.olds k else none

/-- The bank in use changes, or not. -/
def BankHold.swap (h : BankHold) (cycle was is : Nat) : BankHold := if was = is then h else { h with swapAt := some cycle }

/-- The bank in use: of the newest open block, whose set stays (R35), else FECTL.BANK in force. -/
def State.ftFront (s : State) (n : Nat) : Nat :=
  match (s.cam n).blocks.getLast? with
  | some k => k.fectl % 2
  | none => s.fl (pgCAM n) Reg.CAM.FECTL 0 0

/-- A correction word of bank `bank` (R208): undefined after power-up. -/
def State.corrWord (s : State) (n bank i : Nat) : Nat :=
  let a := n * 2 ^ 18 + bank * 2 ^ 17 + i
  match (s.cam n).hold.old? s.cycle a with
  | some v => v
  | none => Tbl.getD s.camCorr a (Config.undefCell 3 s.epoch a % 2 ^ 29)

/-- The corrected value of a pixel before defect replacement (R207, R208); `p` is normalised. -/
def State.corrPixel (s : State) (n : Nat) (k : CamBlk) (sl x p : Nat) : Nat :=
  let taps := s.fl (pgCAM n) Reg.CAM.CFG 22 20 + 1
  let t := x * taps / s.camWidth n
  let black := if bit k.fectl 3 then k.blacks.getD t 0 % 4096 else 0
  let d : Int := (p : Int) - black
  let w := s.corrWord n (k.fectl % 2) (sl * 32768 + x)
  let c := if bit k.fectl 2 then rnd ((d - sgn 12 (bits w 27 16)) * bits w 15 0) 14 else d
  (clamp 0 4095 c).toNat

/-- The nearest usable neighbour of `x` in steps of `st` within four, upward or downward (R209). -/
def nearPixel (vals : List Nat) (bad : Nat → Bool) (x st : Nat) (up : Bool) : Option Nat :=
  [1, 2, 3, 4].findSome? (fun i =>
    let y := if up then x + i * st else x - i * st
    if (!up && decide (x < i * st)) || bad y then none else vals[y]?)

/-- Defective pixels replaced (R209). -/
def State.replaceDefects (s : State) (n : Nat) (k : CamBlk) (sl : Nat) (vals : List Nat) : List Nat :=
  if bit k.fectl 1 = false then vals
  else
    let bad := fun x => bit (s.corrWord n (k.fectl % 2) (sl * 32768 + x)) 28
    let st := if s.fl (pgCAM n) Reg.CAM.CFG 9 8 = 1 then 2 else 1
    (vals.zipIdx).map (fun e =>
      if bad e.2 then
        match nearPixel vals bad e.2 st false, nearPixel vals bad e.2 st true with
        | some a, some b => (a + b + 1) / 2
        | some a, none => a
        | none, some b => b
        | none, none => k.padval
      else e.1)

/-- A sensor line corrected and brought to WIDTH (R199, R207 to R211). -/
def State.correctLine (s : State) (n : Nat) (k : CamBlk) (sl : Nat) (raw : List Nat) : List Nat :=
  let w := s.camWidth n
  let sh := 4 - 2 * s.fl (pgCAM n) Reg.CAM.CFG 11 10
  let vals := ((raw.take w).zipIdx).map (fun e => s.corrPixel n k sl e.2 (e.1 * 2 ^ sh % 4096))
  let out := s.replaceDefects n k sl vals
  out ++ List.replicate (w - out.length) k.padval

/-- The samples of plane `p` of a line: (position, value) (R199, R215). -/
def State.planeSamples (s : State) (n p : Nat) (sensor : List (List Nat)) : List (Nat × Nat) :=
  let ix := fun i => ((sensor.getD i []).zipIdx).map (fun (e : Nat × Nat) => (e.2, e.1))
  let par := fun (i r : Nat) => (ix i).filter (fun e => (e.1 + b2n (s.fb (pgCAM n) Reg.CAM.CFG 12)) % 2 == r)
  if s.fl (pgCAM n) Reg.CAM.CFG 9 8 = 1 then
    match p with
    | 0 => par 0 0
    | 1 => par 0 1 ++ par 1 0
    | _ => par 1 1
  else ix p

/-- The zone of a position: floor(z W / 64) ≤ x < floor((z + 1) W / 64) (R215). -/
def zoneOf (w x : Nat) : Nat := (x * 64 + 63) / w

/-- One sample counted. -/
def CamBlk.count (k : CamBlk) (w p x v : Nat) : CamBlk :=
  let h := p * 256 + v / 16
  let z := p * 64 + zoneOf w x
  { k with hist := Tbl.put k.hist h (satAdd 32 (Tbl.getD k.hist h 0) 1)
           zsum := Tbl.put k.zsum z (Tbl.getD k.zsum z 0 + v)
           zcnt := Tbl.put k.zcnt z (Tbl.getD k.zcnt z 0 + 1) }

/-- A line counted in its block's statistics (R215). -/
def State.camStat (s : State) (n : Nat) (k : CamBlk) (sensor : List (List Nat)) : CamBlk :=
  (List.range (s.camPlanes n)).foldl (fun b p =>
    (s.planeSamples n p sensor).foldl (fun b e => b.count (s.camWidth n) p e.1 e.2) b) k

/-! ## Blocks (R204 to R206, R213, R216, R217) -/

/-- The 4 KB statistics record (R216). -/
def State.statRecord (s : State) (n : Nat) (k : CamBlk) (e : CamEnd) (wposf : Int) : List Byte :=
  let np := s.camPlanes n
  let head := leBytes 8 e.b ++ leBytes 8 (e.b * s.camBlen n) ++ leBytes 2 k.lines ++ leBytes 2 k.pads ++
    leBytes 2 e.flags ++ leBytes 1 n ++ leBytes 1 np ++ leBytes 2 e.genA ++ leBytes 2 e.genB ++
    leBytes 2 (s.cam n).slot ++ leBytes 2 0 ++ leBytes 8 (enc2 64 wposf) ++ leBytes 8 s.timeNs ++ leBytes 16 0
  let plane := fun p =>
    (List.range 256).flatMap (fun i => leBytes 4 (Tbl.getD k.hist (p * 256 + i) 0)) ++
      (List.range 64).flatMap (fun z =>
        leBytes 2 (Tbl.getD k.zsum (p * 64 + z) 0 * 16 / Tbl.getD k.zcnt (p * 64 + z) 0))
  let body := head ++ (List.range np).flatMap plane
  body ++ List.replicate (4096 - body.length) 0

/-- The statistics of a closed block (R216, R217). -/
def State.camRecord (s : State) (n : Nat) (k : CamBlk) (e : CamEnd) : State :=
  let p := pgCAM n
  if s.portRoom p 0 = 0 then s.sat p Reg.CAM.STATDROP 1
  else
    let rec_ := s.statRecord n k e (s.camGrid n (e.b * s.camBlen n))
    match s.drawn.dramWrite (unitWho p) (s.rg64 p Reg.CAM.STATBASE + (s.cam n).slot * 4096) rec_ with
    | (t, false) => t.sat p Reg.CAM.STATDROP 1
    | (t, true) =>
      let x := t.cam n
      (t.setCam n { x with slot := (x.slot + 1) % max 1 (t.fl p Reg.CAM.STATSLOTS 16 0) }).post p 0 [rec_.take 32] |>.1

/-- Open block `b` closes (R205, R213, R216). -/
def State.camClose (s : State) (n b : Nat) (short : Bool) : State :=
  let p := pgCAM n
  let x := s.cam n
  match x.blocks.find? (fun k => k.b == b) with
  | none => s
  | some k =>
    let len := s.camBlen n
    let ga := x.genOf (k.b * len)
    let gb := x.genOf (k.b * len + len - 1)
    let e : CamEnd := ⟨k.b, k.lines, ga, gb, b2n short + 2 * b2n (ga != gb) + 4 * b2n k.lineLen +
      8 * b2n (decide (0 < k.pads)) + 16 * b2n k.expUnk⟩
    let s := s.setCam n { x with blocks := x.blocks.filter (fun k => k.b != b), ended := (e :: x.ended).take 1024,
                                 pend := if short then x.pend.filter (fun t => t.k / len != k.b) else x.pend }
    let s := if ga ≠ gb then s.sat p Reg.CAM.MIXEDBLK 1 else s
    let s := if short then ((s.sat p Reg.CAM.SHORTBLK 1).err p 7 0x1B7 (k.b % 2 ^ 20)).setIst p 4 else s
    let s := (s.camRecord n k e).camPut n (.close e)
    ((s.happen p 0 (n * 65536 + k.b % 65536)).ffClose n e.b e.flags).camShow n

/-- Open block `b` with a change. -/
def Cam.setBlk (x : Cam) (b : Nat) (f : CamBlk → CamBlk) : Cam :=
  { x with blocks := x.blocks.map (fun k => if k.b = b then f k else k) }

/-- A line is delivered to the block (R206): counted, passed on; the last index completes the block (R205). -/
def State.camDeliver (s : State) (n k : Nat) (pad : Bool) (sensor : List (List Nat)) (t : Int) (reached : Nat) : State :=
  let p := pgCAM n
  let x := s.cam n
  let len := s.camBlen n
  let l : CamLine := ⟨k, k / len, x.genOf k, pad, sensor, s.camGrid n k, t, reached, s.cycle⟩
  let s := (s.drawn.inc p Reg.CAM.LINECNT 1).setCam n (x.setBlk (k / len) (fun b =>
    { b with next := k + 1, lines := b.lines + 1, pads := b.pads + b2n pad, at_ := s.cycle }))
  let s := if pad then s.sat p Reg.CAM.PADCNT 1 else s
  let s := s.camPut n (.line l)
  if (k + 1) % len = 0 then s.camClose n (k / len) false else s

/-- The next index of an open block that is decided and has no line: it is padded (R206). -/
def State.camPads (s : State) (n : Nat) : Option (Nat × CamBlk) :=
  ((s.cam n).blocks.find? (fun k =>
    (k.overtaken || decide (k.next < k.top)) &&
      (k.missing.contains k.next || !(s.cam n).pend.any (fun t => t.k == k.next)))).map (fun k => (k.next, k))

/-- Padded lines are delivered as far as the triggers decide them (R206). -/
def State.camAdvance (s : State) (n : Nat) : Nat → State
  | 0 => s
  | fuel + 1 =>
    match s.camPads n with
    | none => s
    | some (i, k) =>
      (s.camDeliver n i true (List.replicate (s.camNs n) (List.replicate (s.camWidth n) k.padval)) 0 s.cycle).camAdvance
        n fuel

/-- Padding of every block now open. -/
def State.camSettle (s : State) (n : Nat) : State :=
  s.camAdvance n ((s.cam n).blocks.length * (s.camBlen n + 1) + 1)

/-- The line of a pending entry is missing or failed: its index is padded, even where a mark's retreat queued it again
(R74, R206). -/
def Cam.miss (x : Cam) (len k : Nat) : Cam := x.setBlk (k / len) (fun b => { b with missing := k :: b.missing })

/-- Trigger `k` is decided: sent or not (R206). -/
def State.camDecide (s : State) (n k : Nat) : State :=
  let x := s.cam n
  let len := s.camBlen n
  s.setCam n { x with blocks := x.blocks.map (fun b => if b.b = k / len then { b with top := max b.top (k + 1) } else b) }

/-- A refused apply: TDEL below TMIN (R200); an accepted one (R34). -/
def State.camApply (s : State) (n : Nat) : State :=
  let p := pgCAM n
  if (s.page p).pend = false then s
  else if s.normal p Reg.CAM.TDEL % 65536 < s.camTmin n then (s.refuseSet p).err p 12 0x1BC Reg.CAM.TDEL
  else s.applySet p

/-- Block of `k` opens with its first trigger sent (R204), once since entry to RUN (log entry 30). -/
def State.camOpen (s : State) (n k : Nat) : State :=
  let p := pgCAM n
  let len := s.camBlen n
  if (s.cam n).opened.contains (k / len) then s
  else
    let was := s.ftFront n
    let s := s.atBoundary p (·.camApply n)
    let x := s.cam n
    let b : CamBlk :=
      { b := k / len, next := k / len * len, top := k, overtaken := false, missing := [], at_ := s.cycle, lines := 0, pads := 0,
        lineLen := false, expUnk := x.unknown, fectl := s.fl p Reg.CAM.FECTL 3 0, padval := s.fl p Reg.CAM.PADVAL 11 0,
        blacks := (List.range 8).map (fun t => s.fl p (Reg.CAM.BLACK t) 11 0), hist := [], zsum := [], zcnt := [],
        tdel := s.fl p Reg.CAM.TDEL 15 0, lminper := s.fl p Reg.CAM.LMINPER 15 0, ulat := s.rg p Reg.CAM.ULAT,
        trigw := s.fl p Reg.CAM.TRIGW 15 0 }
    ((s.setCam n { x with blocks := x.blocks ++ [b], opened := k / len :: x.opened,
                          hold := x.hold.swap s.cycle was (b.fectl % 2) }).ffOpen n (k / len)).camShow n

/-! ## Triggers (R200 to R203) -/

/-- A field of the set that governs the block of `k`: as latched when it opened, else as in force (R35, R204). -/
def State.camSet (s : State) (n k : Nat) (f : CamBlk → Nat) (r : Nat) : Nat :=
  match (s.cam n).blocks.find? (fun b => b.b == k / s.camBlen n) with
  | some b => f b
  | none => r

/-- TRIG (R200, R104): the port takes the trigger, its reference cursor the index; DRAIN takes those of open blocks. -/
def execTrig (port : Nat) (s : State) : Host.Outcome State Fault Refusal :=
  let p := pgCAM port
  match s.takeTrig p 0 with
  | none => .next s
  | some (t, s) =>
    let x := s.cam port
    let inOpen := x.blocks.any (fun b => b.b == t.index / s.camBlen port)
    if s.unitRuns .cam port ∨ (s.camLive port ∧ inOpen) then
      let g := match t.mark with
        | some m => some ((s.mark m).target - ((s.mark m).index * (s.mark m).e : Nat), (s.mark m).e)
        | none => x.grid
      let s := s.setCam port { x with grid := g, trigs := x.trigs ++
        [⟨t.index, t.cycle, t.speeds.getD (s.fl p Reg.CAM.CFG 17 16) 0, t.ovs, t.ch, s.cycle, none⟩] }
      .next (if port % 3 = 0 ∧ port / 3 < s.nRefCur then s.refStart (port / 3) t.index else s)
    else .next s

/-- T_trig(k) (R200). -/
def trigTime (t : CamTrig) (tdel : Nat) (up : Bool) : Int :=
  ((t.n + tdel : Nat) : Int) * 65536 - (if t.v < 2 ^ 24 then 0 else nearest ((t.ovs : Int) * 2 ^ 24) t.v up)

/-- TRIGGER_INSTANT (R200): in cycle n + 4 of the oldest trigger without an instant. -/
def execTriggerInstant (port : Nat) (s : State) : Host.Outcome State Fault Refusal :=
  let x := s.cam port
  match x.trigs.find? (fun t => t.t == none) with
  | none => .next s
  | some t =>
    if s.camLive port ∧ t.n + 4 ≤ s.cycle then
      let i := trigTime t (s.camSet port t.k (·.tdel) (s.fl (pgCAM port) Reg.CAM.TDEL 15 0)) (Config.tieUp s.fresh)
      .next (s.drawn.setCam port { x with trigs := x.trigs.map (fun e => if e = t then { e with t := some i } else e) })
    else .next s

/-- L of the generation is fixed from K_w (R212). -/
def State.camFixL (s : State) (n : Nat) (g kw1 : Nat) : State :=
  let p := pgCAM n
  let l := kw1 + s.fl p Reg.CAM.CAMLAT 7 0 - 1
  let x := s.cam n
  let s := s.setCam n { x with exp := none, gens := (l, g) :: x.gens.filter (fun e => decide (e.1 < l)), unknown := false }
  ((s.setRg64 p Reg.CAM.EXPLINE (l % 2 ^ 48)).setRg p Reg.CAM.EXPSTAT (g % 65536 * 65536)).happen p 2 0

/-- The trigger packet and the pin (R201). -/
def State.camFire (s : State) (n k : Nat) (t : Int) : State :=
  let p := pgCAM n
  let src := s.fl p Reg.CAM.CFG 15 14
  let s := if src = 1 then s else s.emit (.frame p 1 [enc2 64 (t + s.camSet n k (·.ulat) (s.rg p Reg.CAM.ULAT))] [])
  if src = 0 then s
  else
    let r := nearest t 4096 (Config.tieUp s.fresh)
    ((s.drawn.emit (.frame p 2 [enc2 64 r] [])).pin p 0 1).setCam n
      { s.cam n with pulse := some (r + s.camSet n k (·.trigw) (s.fl p Reg.CAM.TRIGW 15 0) * 16) }

/-- Trigger `k` is sent (R202 to R204, R212): the open blocks below its own are overtaken (R205). -/
def State.camSend (s : State) (n : Nat) (e : CamTrig) (t : Int) : State :=
  let p := pgCAM n
  let s := (s.camOpen n e.k).camFire n e.k t
  let x := s.cam n
  let first := x.topK.isNone
  let s := s.setCam n { x with tlast := some t, topK := some (max e.k (x.topK.getD 0)), pend := x.pend ++ [e],
                               blocks := x.blocks.map (fun b =>
                                 { b with overtaken := b.overtaken || decide (b.b < e.k / s.camBlen n) }) }
  let s := (s.setRg64 p Reg.CAM.LASTK (e.k % 2 ^ 48)).camDecide n e.k
  match x.exp with
  | some c => if first ∧ c.step = 2 then s.camFixL n c.gen e.k else s
  | none => s

/-- A trigger instant falls due (R198, R202, R203). -/
def State.camDue (s : State) (n : Nat) (e : CamTrig) (t : Int) : State :=
  let p := pgCAM n
  let x := s.cam n
  let near := match x.tlast with
    | some l => decide (t - l < (s.camSet n e.k (·.lminper) (s.fl p Reg.CAM.LMINPER 15 0) : Nat) * 65536)
    | none => false
  let s :=
    if s.camUp n = false then ((s.sat p Reg.CAM.MISSCNT 1).err p 5 0x1B5 0).camDecide n e.k
    else if near then ((s.sat p Reg.CAM.TRIGSKIP 1).err p 6 0x1B6 (e.k % 2 ^ 20)).camDecide n e.k
    else if 64 ≤ x.pend.length then ((s.sat p Reg.CAM.TQFULL 1).err p 13 0x1BD 0).camDecide n e.k
    else if s.linkSilent then s.camDecide n e.k
    else s.camSend n e t
  s.camSettle n

/-- The oldest trigger is sent, or decided otherwise, if its instant is due. -/
def State.camSendOne (s : State) (n : Nat) : State :=
  let x := s.cam n
  match x.trigs with
  | [] => s
  | e :: es =>
    match e.t with
    | none => s
    | some t =>
      if s.camLive n ∧ shr t 16 ≤ (s.cycle : Int) then (s.setCam n { x with trigs := es }).camDue n e t
      else s

/-- TRIGGER_SEND (R201): the oldest trigger whose instant is due. -/
def execTriggerSend (port : Nat) (s : State) : Host.Outcome State Fault Refusal := .next (s.camSendOne port)

/-- Every trigger due by this cycle is sent: those of the cycle of an acknowledgement count for K_w (R212). -/
def State.camSendAll (s : State) (n : Nat) : State :=
  (s.cam n).trigs.foldl (fun t _ => t.camSendOne n) s

/-- TRIG_PULSE_END (R201): TRIGW cycles after its rise TRIGn falls. -/
def execTrigPulseEnd (port : Nat) (s : State) : Host.Outcome State Fault Refusal :=
  match (s.cam port).pulse with
  | some r =>
    if r ≤ (s.cycle : Int) * 16 then .next ((s.setCam port { s.cam port with pulse := none }).pin (pgCAM port) 0 0)
    else .next s
  | none => .next s

/-- TRIGGER_EXPIRY (R203): the oldest pending entry after the end of cycle floor(T_trig) + LTMO. -/
def execTriggerExpiry (port : Nat) (s : State) : Host.Outcome State Fault Refusal :=
  let p := pgCAM port
  let x := s.cam port
  match x.pend with
  | [] => .next s
  | e :: es =>
    if s.camLive port ∧ shr (e.t.getD 0) 16 + (s.rg p Reg.CAM.LTMO : Int) < (s.cycle : Int) then
      .next ((((s.setCam port ({ x with pend := es }.miss (s.camBlen port) e.k)).sat p Reg.CAM.MISSCNT 1).err p 5 0x1B5 0).camSettle port)
    else .next s

/-- A block is overtaken, or is once the triggers due in this cycle are sent, and none of its own is pending at the end of
the cycle: Overtaken comes before Timeout (R205). -/
def State.camOvertakes (s : State) (n : Nat) (k : CamBlk) : Bool :=
  let x := s.cam n
  (k.overtaken || x.trigs.any (fun t => decide (k.b < t.k / s.camBlen n) &&
      decide (t.t.isSome ∧ shr (t.t.getD 0) 16 ≤ (s.cycle : Int)))) &&
    !x.pend.any (fun t => t.k / s.camBlen n == k.b &&
      decide ((s.cycle : Int) < shr (t.t.getD 0) 16 + (s.rg (pgCAM n) Reg.CAM.LTMO : Int)))

/-- The oldest open block without progress for BLKTMO cycles (R205). -/
def State.camStale (s : State) (n : Nat) : Option CamBlk :=
  (s.cam n).blocks.find? (fun k => decide (k.at_ + s.rg (pgCAM n) Reg.CAM.BLKTMO ≤ s.cycle) && !s.camOvertakes n k)

/-- BLKTMO (R205): the oldest open block without progress for BLKTMO cycles closes SHORT. -/
def execBlktmo (port : Nat) (s : State) : Host.Outcome State Fault Refusal :=
  match s.camStale port with
  | none => .next s
  | some k =>
    if s.camLive port ∧ s.camPads port = none then .next ((s.camClose port k.b true).camSettle port) else .next s

/-! ## The link (R198, R220, R221) -/

/-- The control operation in progress ends (R218): CODE 0 OK, 1 ERROR, 2 TMO, 3 LINKDOWN. -/
def State.ccEnd (s : State) (n code ack : Nat) : State :=
  let p := pgCAM n
  let s := (s.setCam n { s.cam n with cc := none }).setRg p Reg.CAM.CCSTAT (2 + code * 16 + ack % 256 * 256)
  let s := s.setIst p 3
  if code = 0 then s else s.err p 10 0x1B9 0

/-- The exposure command fails (R214). -/
def State.expFail (s : State) (n code : Nat) : State :=
  let p := pgCAM n
  match (s.cam n).exp with
  | none => s
  | some c =>
    ((s.setCam n { s.cam n with exp := none, unknown := true }).setRg p Reg.CAM.EXPSTAT (code * 4 + c.gen % 65536 * 65536)).err
      p 8 0x1B8 code

/-- Every operation on the control channel ends LINKDOWN (R214, R218). -/
def State.camLinkDown (s : State) (n : Nat) : State :=
  let x := s.cam n
  let s := s.setCam n { x with sent := none }
  let s := match x.exp with
    | some c => if c.step < 2 then s.expFail n 3 else s
    | none => s
  if x.cc.isSome then s.ccEnd n 3 0 else s

/-- A violation of the camera (R221); quarantine makes the port QUAR (R198). -/
def State.camViolate (s : State) (n code : Nat) : State :=
  let p := pgCAM n
  let t := s.violate p code
  if (t.page p).state = .fault ∧ t.fl p Reg.CAM.LSTAT 1 0 ≠ 2 then (t.setFl p Reg.CAM.LSTAT 1 0 2).camLinkDown n else t

/-- The lanes CFG.LANES enables, as a mask. -/
def State.camLanes (s : State) (n : Nat) : Nat :=
  match s.fl (pgCAM n) Reg.CAM.CFG 1 0 with
  | 0 => 1
  | 1 => 3
  | _ => 15

/-- The next control packet with its tag (R196, R212, R218): an exposure write first, then the host's operation. A standby
not released runs the operation and sends no packet (R397). -/
def State.camNextCc (s : State) (n : Nat) : State :=
  let p := pgCAM n
  let x := s.cam n
  let go := fun (e : Bool) (h : List Nat) =>
    (if s.standby then s else s.emit (.frame p 3 ((x.tag + 1) % 256 :: h) [])).setCam n { x with sent := some (e, s.cycle, 0), tag := (x.tag + 1) % 256 }
  if x.sent.isSome then s
  else
    match x.exp, x.cc with
    | some c, none =>
      if c.step = 0 then go true [1, s.rg p Reg.CAM.EXPADDR, c.expv]
      else if c.step = 1 then go true [1, s.rg p Reg.CAM.GAINADDR, c.gain] else s
    | some c, some h =>
      if c.step = 0 then go true [1, s.rg p Reg.CAM.EXPADDR, c.expv]
      else if c.step = 1 then go true [1, s.rg p Reg.CAM.GAINADDR, c.gain] else go false [b2n h.wr, h.addr, h.data]
    | none, some h => go false [b2n h.wr, h.addr, h.data]
    | none, none => s

/-- CAM_DOWN (R198): an enabled lane without lock, or no valid packet for LINKTMO. -/
def execCamDown (port lock : Nat) (s : State) : Host.Outcome State Fault Refusal :=
  let p := pgCAM port
  let m := s.camLanes port
  if s.camOn port ∧ s.camUp port ∧ ((lock &&& m) ≠ m ∨ (s.cam port).lastPkt + s.rg p Reg.CAM.LINKTMO ≤ s.cycle) then
    let s := (s.setFl p Reg.CAM.LSTAT 1 0 0).setFl p Reg.CAM.LSTAT 7 4 lock
    let s := (((s.sat p Reg.CAM.DOWNCNT 1).err p 11 0x1BA 0).happen p 1 0).camLinkDown port
    .next (s.camViolate port 0x1BA)
  else .next s

/-- CAM_UP (R198): lock on every enabled lane and a valid packet; while UP it is a valid packet (R220). -/
def execCamUp (port lock : Nat) (s : State) : Host.Outcome State Fault Refusal :=
  let p := pgCAM port
  let m := s.camLanes port
  if s.camOn port ∧ (lock &&& m) = m ∧ s.fl p Reg.CAM.LSTAT 1 0 < 2 then
    let s := if s.camUp port then s else s.setCam port { s.cam port with hbAt := s.cycle }
    let t := ((s.setFl p Reg.CAM.LSTAT 1 0 1).setFl p Reg.CAM.LSTAT 7 4 lock).setCam port
      { s.cam port with lastPkt := s.cycle }
    .next (if s.camUp port then t else t.noteUp 1 port)
  else .next s

/-- A valid downlink packet arrived (R198). -/
def State.camHeard (s : State) (n : Nat) : State := s.setCam n { s.cam n with lastPkt := s.cycle }

/-- CAM_HEARTBEAT (R220): every HBPER cycles while UP. -/
def execCamHeartbeat (port : Nat) (s : State) : Host.Outcome State Fault Refusal :=
  let p := pgCAM port
  let x := s.cam port
  if s.camOn port ∧ s.camUp port ∧ x.hbAt + s.rg p Reg.CAM.HBPER ≤ s.cycle then
    let s := s.setCam port { x with hbAt := s.cycle }
    .next (if s.standby then s else s.emit (.frame p 4 [] []))
  else .next s

/-- MALFORMED_PACKET (R221): kind 0 stream CRC, 1 code or disparity error on a lane, 2 malformed, 3 unmatched or
failed acknowledgement. -/
def execMalformedPacket (port kind lane : Nat) (s : State) : Host.Outcome State Fault Refusal :=
  let p := pgCAM port
  if s.camOn port = false then .next s
  else
    match kind with
    | 0 =>
      let s := s.setCam port { s.cam port with crcBad := true }
      .next (((s.sat p Reg.CAM.CRCCNT 1).err p 0 0x1B0 0).camViolate port 0x1B0)
    | 1 => .next (((s.sat p Reg.CAM.CODECNT 1).err p 1 0x1B1 (lane % 4)).camViolate port 0x1B1)
    | _ => .next (((s.sat p Reg.CAM.MALFCNT 1).err p 2 0x1B2 0).camViolate port 0x1B2)

/-- EVENT_PACKET (R219). -/
def execEventPacket (port : Nat) (payload : List Byte) (s : State) : Host.Outcome State Fault Refusal :=
  let p := pgCAM port
  if s.camOn port ∧ s.camUp port then
    let s := s.camHeard port
    let d := payload.take 48
    let e := leBytes 8 s.timeNs ++ leBytes 2 payload.length ++ leBytes 1 port ++
      leBytes 1 (b2n (decide (48 < payload.length))) ++ leBytes 4 0 ++ d ++ List.replicate (48 - d.length) 0
    match s.post p 1 [e] with
    | (t, true) => .next t
    | (t, false) => .next (t.sat p Reg.CAM.EVTDROP 1)
  else .next s

/-! ## Lines (R203, R211) -/

/-- The sensor lines that are short or long (R211). -/
def State.lineLengths (s : State) (n k : Nat) (sensor : List (List Nat)) : State :=
  let p := pgCAM n
  let w := s.camWidth n
  let mark := fun (t : State) (o c : Nat) =>
    ((t.sat p o 1).err p 4 0x1B4 (k % 2 ^ 19 + c * 2 ^ 19)).setCam n ((t.cam n).setBlk (k / t.camBlen n) (fun b => { b with lineLen := true }))
  (List.range (s.camNs n)).foldl (fun t i =>
    let l := (sensor.getD i []).length
    if l < w then mark t Reg.CAM.SHORTLN 0 else if w < l then mark t Reg.CAM.LONGLN 1 else t) s

/-- The line as a flat-field calibration takes it (R430): d − DARK of the front bank, the Cupola slot that takes the port. -/
def State.ffLineOf (s : State) (n : Nat) (k : CamBlk) (i : Nat) (sensor : List (List Nat)) : FfLine :=
  let sh := 4 - 2 * s.fl (pgCAM n) Reg.CAM.CFG 11 10
  let taps := s.fl (pgCAM n) Reg.CAM.CFG 22 20 + 1
  let w := s.camWidth n
  let px := fun (sl : Nat) (e : Nat × Nat) =>
    ((e.1 * 2 ^ sh % 4096 : Nat) : Int) - (if bit k.fectl 3 then k.blacks.getD (e.2 * taps / w) 0 % 4096 else 0 : Nat) -
      sgn 12 (bits (s.corrWord n (k.fectl % 2) (sl * 32768 + e.2)) 27 16)
  let stag := fun (c : Nat) =>
    let g := s.rg (pgCUP c) Reg.CUP.STAG
    let w := s.rg (pgCUP c) Reg.CUP.PORTS
    (-(sgn 16 (if bit w 7 && bits w 3 0 == n then bits g 15 0 else bits g 31 16))).toNat
  let c := s.takenBy n
  let ok := match c with
    | some c => s.fl (pgCUP c) Reg.CUP.CFG 1 0 == 0 || s.fl (pgCUP c) Reg.CUP.CFG 1 0 == 2
    | none => true
  { b := k.b, k := i, cup := c.map (fun c => (c, if n = 3 * c then i else i + stag c)), ok := ok
    d := (List.range (s.camNs n)).map (fun sl => (((sensor.getD sl []).take w).zipIdx).map (px sl)) }

/-- A line takes the oldest pending entry and is corrected and delivered; with a CRC error its index is padded (R211).
A line of a block that is closed, or of an index already delivered, is discarded (R82, R206). -/
def State.camLine (s : State) (n : Nat) (e : CamTrig) (es : List CamTrig) (sensor : List (List Nat)) : State :=
  let x := s.cam n
  let x' := { x with pend := es, crcBad := false }
  let s := s.setCam n (if x.crcBad then x'.miss (s.camBlen n) e.k else x')
  match x.crcBad, x.blocks.find? (fun k => k.b == e.k / s.camBlen n && decide (k.next ≤ e.k)) with
  | false, some k =>
    let s := s.lineLengths n e.k sensor
    let data := (List.range (s.camNs n)).map (fun i => s.correctLine n k i (sensor.getD i []))
    let s := s.setCam n ((s.cam n).setBlk k.b (fun b => s.camStat n b data))
    let s := if s.calOn 6 n then s.ffTake n (s.ffLineOf n k e.k sensor) else s
    (s.camDeliver n e.k false data (e.t.getD 0) e.reached).camSettle n
  | _, _ => s.camSettle n

/-- CAM_LINE (R203): matched to the oldest pending trigger, or untriggered. -/
def execCamLine (port : Nat) (sensor : List (List Nat)) (s : State) : Host.Outcome State Fault Refusal :=
  let p := pgCAM port
  if s.camOn port ∧ s.camUp port then
    let s := s.camHeard port
    let x := s.cam port
    match x.pend with
    | e :: es => .next (s.camLine port e es sensor)
    | [] =>
      let s := s.setCam port { x with crcBad := false }
      .next (((s.sat p Reg.CAM.UNTRIG 1).err p 3 0x1B3 0).camViolate port 0x1B3)
  else .next s

/-! ## Correction memory (R210) -/

/-- The back word that FTADDR names. -/
def State.ftKey (s : State) (n : Nat) : Nat :=
  n * 2 ^ 18 + (1 - s.ftFront n) * 2 ^ 17 + s.fl (pgCAM n) Reg.CAM.FTADDR 16 0

/-- FTADDR increments after an access. -/
def State.ftNext (s : State) (n : Nat) : State :=
  s.setFl (pgCAM n) Reg.CAM.FTADDR 16 0 (s.fl (pgCAM n) Reg.CAM.FTADDR 16 0 + 1)

/-- The word that FTADDR names; a write, a read of FTDATA. -/
def State.ftWord (s : State) (n : Nat) : Nat :=
  Tbl.getD s.camCorr (s.ftKey n) (Config.undefCell 3 s.epoch (s.ftKey n) % 2 ^ 29)
def State.ftWrite (s : State) (n v : Nat) : State :=
  let t := s.setCam n { s.cam n with hold := (s.cam n).hold.note s.cycle (s.ftKey n) (s.ftWord n) }
  { t with camCorr := Tbl.put s.camCorr (s.ftKey n) (v % 2 ^ 29) }.ftNext n
def State.ftRead (s : State) (n : Nat) : State := { s with readData := s.ftWord n }.ftNext n

/-- FTDATA_ACCESS (R210). -/
def execFtdataAccess (port : Nat) (write : Bool) (value req : Nat) (s : State) : Host.Outcome State Fault Refusal :=
  if write then .next (s.gateU .cam port req Reg.CAM.FTDATA value (·.ftWrite port value))
  else if unitCount s.variant .cam ≤ port then .next s
  else .next (s.readGate (pgCAM port) req (·.ftRead port))

/-! ## Exposure and control (R212 to R214, R218) -/

/-- EXPCMD.GO that acts (R212 to R214). -/
def State.expGo (s : State) (n gen : Nat) : State :=
  let p := pgCAM n
  let x := s.cam n
  if x.exp.isSome then s.err p 9 0x1B8 0xFFFFF
  else
    let s := s.setCam n { x with exp := some ⟨gen % 65536, s.rg p Reg.CAM.EXPVAL, s.rg p Reg.CAM.GAINVAL, 0⟩ }
    let s := (s.setRg p Reg.CAM.EXPSTAT (1 + gen % 65536 * 65536)).setRg64 p Reg.CAM.EXPLINE (2 ^ 64 - 1)
    if s.camUp n then s.camNextCc n else s.expFail n 3

/-- EXPCMD (R212). -/
def execExpcmd (port gen req : Nat) (s : State) : Host.Outcome State Fault Refusal :=
  .next (s.gateU .cam port req Reg.CAM.EXPCMD (1 + 65536 * gen) (·.expGo port gen))

/-- The last exposure write was acknowledged (R212). -/
def State.expDone (s : State) (n : Nat) (c : CamExp) : State :=
  let s := s.camSendAll n
  match (s.cam n).topK with
  | some k => s.camFixL n c.gen (k + 1)
  | none => s.setCam n { s.cam n with exp := some { c with step := 2 } }

/-- An exposure write was acknowledged OK. -/
def State.expAck (s : State) (n : Nat) (c : CamExp) : State :=
  if c.step = 0 ∧ s.rg (pgCAM n) Reg.CAM.GAINADDR ≠ 0 then s.setCam n { s.cam n with exp := some { c with step := 1 } }
  else s.expDone n c

/-- The acknowledged write is the last of its exposure command. -/
def State.expLast (s : State) (n : Nat) (c : CamExp) : Bool :=
  decide (c.step = 1) || (decide (c.step = 0) && decide (s.rg (pgCAM n) Reg.CAM.GAINADDR = 0))

/-- EXPDONE (R212): the acknowledgement of the last exposure write. -/
def execExpdone (port : Nat) (s : State) : Host.Outcome State Fault Refusal :=
  let x := s.cam port
  match x.sent, x.exp with
  | some (true, _, _), some c =>
    if s.camOn port ∧ s.expLast port c then
      .next (((s.setCam port { x with sent := none, lastPkt := s.cycle }).expDone port c).camNextCc port)
    else .next s
  | _, _ => .next s

/-- CCCMD.GO that acts (R218). -/
def State.ccGo (s : State) (n : Nat) (wr : Bool) : State :=
  let p := pgCAM n
  let x := s.cam n
  if x.cc.isSome then s.errBit p 10
  else
    let s := (s.setCam n { x with cc := some ⟨wr, s.rg p Reg.CAM.CCADDR, s.rg p Reg.CAM.CCDATA⟩ }).setRg p Reg.CAM.CCSTAT 1
    if s.camUp n then s.camNextCc n else s.ccEnd n 3 0

/-- CCCMD (R218). -/
def execCccmd (port : Nat) (wr : Bool) (req : Nat) (s : State) : Host.Outcome State Fault Refusal :=
  .next (s.gateU .cam port req Reg.CAM.CCCMD (1 + 2 * b2n wr) (·.ccGo port wr))

/-- The outstanding operation ends with a code: 1 ERROR, 2 TMO. -/
def State.camOpEnd (s : State) (n : Nat) (isExp : Bool) (code ack : Nat) : State :=
  let s := s.setCam n { s.cam n with sent := none }
  if isExp then s.expFail n code else s.ccEnd n code ack

/-- A wait acknowledgement (R218): the timer restarts 16 times; the seventeenth ends the operation TMO. -/
def State.ccWait (s : State) (n : Nat) (isExp : Bool) (waits : Nat) : State :=
  if waits < 16 then s.setCam n { s.cam n with sent := some (isExp, s.cycle, waits + 1) }
  else ((s.camOpEnd n isExp 2 0).camViolate n (if isExp then 0x1B8 else 0x1B9)).camNextCc n

/-- An OK acknowledgement (R212, R218). -/
def State.ccOk (s : State) (n : Nat) (isExp : Bool) (data : Nat) : State :=
  let x := s.cam n
  let s := s.setCam n { x with sent := none }
  if isExp then
    match x.exp with
    | some c => s.expAck n c
    | none => s
  else
    match x.cc with
    | some h => (if h.wr then s else s.setRg (pgCAM n) Reg.CAM.CCDATA data).ccEnd n 0 0
    | none => s

/-- CC_ACK (R218): kind 0 OK, 1 error with a code, 2 wait; without an operation it is unmatched (R221). -/
def execCcAck (port kind code data : Nat) (s : State) : Host.Outcome State Fault Refusal :=
  let p := pgCAM port
  if s.camOn port = false ∨ s.camUp port = false then .next s
  else
    match (s.cam port).sent with
    | none => .next (((s.sat p Reg.CAM.MALFCNT 1).err p 2 0x1B2 0).camViolate port 0x1B2)
    | some (e, _, w) =>
      let s := s.camHeard port
      match kind with
      | 0 => .next ((s.ccOk port e data).camNextCc port)
      | 1 => .next ((s.camOpEnd port e 1 code).camNextCc port)
      | _ => .next (s.ccWait port e w)

/-- CCTMO (R218, R221). -/
def execCctmo (port : Nat) (s : State) : Host.Outcome State Fault Refusal :=
  match (s.cam port).sent with
  | some (e, at_, _) =>
    if s.camOn port ∧ at_ + s.rg (pgCAM port) Reg.CAM.CCTMO ≤ s.cycle then
      .next (((s.camOpEnd port e 2 0).camViolate port (if e then 0x1B8 else 0x1B9)).camNextCc port)
    else .next s
  | none => .next s

/-! ## Register writes, RUN, enable -/

/-- A value outside a register's range (CAM registers). -/
def State.camBad (s : State) (n o v : Nat) : Bool :=
  (o == Reg.CAM.CFG && (bits v 1 0 == 3 || bits v 6 4 == 7 || bits v 9 8 == 3 || bits v 11 10 == 3 || bits v 15 14 == 3)) ||
  (o == Reg.CAM.WIDTH && (decide (bits v 16 0 < 16) || decide (32768 < bits v 16 0) || bits v 16 0 % 8 != 0)) ||
  (o == Reg.CAM.BLEN && (decide (bits v 12 0 < 64) || decide (4096 < bits v 12 0))) ||
  (o == Reg.CAM.TRIGW && bits v 15 0 == 0) ||
  (o == Reg.CAM.LTMO && (decide (v < 1000) || decide (2 ^ 24 ≤ v))) ||
  (o == Reg.CAM.BLKTMO && decide (v < s.normal (pgCAM n) Reg.CAM.LTMO + 16)) ||
  (o == Reg.CAM.LINKTMO && decide (v < 25000)) || (o == Reg.CAM.HBPER && decide (v < 25000)) ||
  (o == Reg.CAM.CCTMO && decide (v < 25000)) || (o == Reg.CAM.CAMLAT && bits v 7 0 == 0) ||
  (o == Reg.CAM.STATSLOTS && (v == 0 || decide (65536 < v))) || (o == Reg.CAM.STATBASE && v % 4096 != 0)

/-- Register writes of a port with a rule of their own. -/
def State.camOnWrite (s : State) (n o v : Nat) : Option State :=
  let p := pgCAM n
  if s.camBad n o v then some (s.err p 12 0x1BC o)
  else if o = Reg.CAM.CFG ∨ o = Reg.CAM.WIDTH then some ((s.writeWord p o v).camShow n)
  else if (o = Reg.CAM.STATBASE ∨ o = Reg.CAM.STATBASE + 4) ∧ (s.page p).run then some (s.err p 31 0x001 o)
  else if o = Reg.CAM.EXPCMD then some (if bit v 0 then s.expGo n (bits v 31 16) else s)
  else if o = Reg.CAM.CCCMD then some (if bit v 0 then s.ccGo n (bit v 1) else s)
  else if o = Reg.CAM.FTDATA then some (s.ftWrite n v)
  else none

/-- Entry to RUN (R202, R212, R216): no TLAST, slot 0; the generations stay. -/
def State.camOnRun (s : State) (n : Nat) : State :=
  (s.setCam n { s.cam n with trigs := [], pend := [], tlast := none, topK := none, blocks := [], opened := [],
                             ended := [], out := [], slot := 0 }).camShow n

/-- DRAIN is complete: no block is open and no trigger is on its way. -/
def State.camDrained (s : State) (n : Nat) : Bool := (s.cam n).blocks.isEmpty && (s.cam n).trigs.isEmpty

/-- CTRL.EN = 0: the port is DOWN and its work is discarded (R30); the generations, an exposure command that waits for its
first trigger (R212) and a pulse in progress (R201) stay. -/
def State.camOff (s : State) (n : Nat) : State :=
  let s := s.camLinkDown n
  let x := s.cam n
  ((s.setFl (pgCAM n) Reg.CAM.LSTAT 7 0 0).setCam n
    { Cam.reset with gens := x.gens, unknown := x.unknown, exp := x.exp, pulse := x.pulse, tag := x.tag })
    |>.camShow n

/-- A soft reset (R32): nothing of the port's work stays but the end of a pulse in progress (R201). -/
def State.camReset (s : State) (n : Nat) : State :=
  (s.setCam n { Cam.reset with pulse := (s.cam n).pulse }).camShow n

end Sys2Proof.Machine
end

