-- ==== Sys2Proof/Machine/Inspection.lean ====
section
/-!
DEFINITION. Cupola inspection pipelines CUP0 to CUP3 (11 R222 to R245): alignment, colour, stitching, reference,
comparison.
-/

namespace Sys2Proof.Machine

def pgDEF (n : Nat) : Nat := 78 + n

/-- A Cupola beside its registers. -/
def State.cup (s : State) (n : Nat) : Cup := Tbl.getD s.cups n Cup.reset
def State.setCup (s : State) (n : Nat) (x : Cup) : State := { s with cups := Tbl.put s.cups n x }

/-- A slot's port: home port CAM(3n), or the port PORTS binds; none when the slot is not enabled (R13, R223). -/
def State.slotPort (s : State) (n sl : Nat) : Option Nat :=
  let w := s.rg (pgCUP n) Reg.CUP.PORTS
  match sl with
  | 0 => some (3 * n)
  | 1 => if bit w 7 then some (bits w 3 0) else none
  | _ => if bit w 15 then some (bits w 11 8) else none

/-- The enabled slots and their ports. -/
def State.slotList (s : State) (n : Nat) : List (Nat × Nat) :=
  [0, 1, 2].filterMap (fun sl => (s.slotPort n sl).map (fun p => (sl, p)))

/-- STAG of a slot, as a number of lines (0 for the home slot). -/
def State.stag (s : State) (n sl : Nat) : Nat :=
  let w := s.rg (pgCUP n) Reg.CUP.STAG
  match sl with
  | 1 => (-(sgn 16 (bits w 15 0))).toNat
  | 2 => (-(sgn 16 (bits w 31 16))).toNat
  | _ => 0

/-- A staged slot (R226). -/
def State.staged (s : State) (n sl : Nat) : Bool := decide (96 < s.stag n sl)

/-- A slot's port as a stored write of PORTS will have it (R31). -/
def State.slotSoon (s : State) (n sl : Nat) : Option Nat :=
  let w := s.normal (pgCUP n) Reg.CUP.PORTS
  match sl with
  | 0 => some (3 * n)
  | 1 => if bit w 7 then some (bits w 3 0) else none
  | _ => if bit w 15 then some (bits w 11 8) else none

/-- Lines of a slot's ring; LBYTES of its port (R226). -/
def State.ringLen (s : State) (n sl : Nat) : Nat := s.stag n sl + 16
def State.lineBytes (s : State) (cam : Nat) : Nat := (s.camWidth cam * s.camNs cam * 12 + 511) / 512 * 64

/-- The LSTORE bytes of a slot's ring (R226). -/
def State.slotBytes (s : State) (n sl : Nat) : Nat :=
  match s.slotPort n sl with
  | some p => if sl = 0 then 0 else (if s.staged n sl then 16 else s.ringLen n sl) * s.lineBytes p
  | none => 0

/-- LSBASE of a slot. -/
def State.lsBase (s : State) (n sl : Nat) : Nat :=
  s.fl (pgCUP n) (if sl = 1 then Reg.CUP.LSBASE1 else Reg.CUP.LSBASE2) 25 6 * 64

/-- Staging base of a slot. -/
def State.stgBase (s : State) (n sl : Nat) : Nat :=
  s.rg64 (pgCUP n) (if sl = 1 then Reg.CUP.STGBASE1 else Reg.CUP.STGBASE2)

/-- NP of a Cupola (R224). -/
def State.cupNp (s : State) (n : Nat) : Nat := s.camPlanes (3 * n)

/-- OUTW. -/
def State.outw (s : State) (n : Nat) : Nat := s.fl (pgCUP n) Reg.CUP.OUTW 16 0

/-- CMX of the part (R222). -/
def State.cmx (s : State) : Bool := !(s.variant == .kry2406)

/-- Entries of the history that BGSTAT shows; LSUSE and SLSTAT follow the binding. -/
def State.cupShow (s : State) (n : Nat) : State :=
  let p := pgCUP n
  let x := s.cup n
  let s := s.setRg p Reg.CUP.LSUSE (s.slotBytes n 1 + s.slotBytes n 2)
  let s := [0, 1, 2].foldl (fun t sl =>
    t.setFl p (Reg.CUP.slotSLSTAT sl) 5 0 (match t.slotPort n sl with
      | some q => q + 16 + 32 * b2n (t.staged n sl)
      | none => 0)) s
  s.setRg64 p Reg.CUP.CURBLK (match x.blk with
    | some k => k.b % 2 ^ 48
    | none => 2 ^ 48 - 1)

/-- LSUSE and SLSTAT of every Cupola, after a change of a port's width or format (R226). -/
def State.cupsShow (s : State) : State := (List.range (unitCount s.variant .cup)).foldl (fun t n => t.cupShow n) s

/-- BGSTAT: VALID and COUNT (R240). -/
def State.bgShow (s : State) (n : Nat) (valid : Bool) : State :=
  let p := pgCUP n
  let was := s.fb p Reg.CUP.BGSTAT 0
  let s := s.setRg p Reg.CUP.BGSTAT (b2n valid + min 63 (s.cup n).histN * 256)
  if valid && !was then s.setIst p 3 else s

/-! ## Alignment (R225 to R229) -/

/-- A slot's LSTORE ring and its staged lines. -/
def Cup.ring (x : Cup) (sl : Nat) : Tbl CamLine := if sl = 1 then x.ring1 else x.ring2
def Cup.setRing (x : Cup) (sl : Nat) (r : Tbl CamLine) : Cup := if sl = 1 then { x with ring1 := r } else { x with ring2 := r }
def Cup.stg (x : Cup) (sl : Nat) : Tbl CamLine := if sl = 1 then x.stg1 else x.stg2
def Cup.setStg (x : Cup) (sl : Nat) (r : Tbl CamLine) : Cup := if sl = 1 then { x with stg1 := r } else { x with stg2 := r }

/-- An overrun of block `b` (R227, R229). -/
def State.cupOverrun (s : State) (n b idx : Nat) : State :=
  let p := pgCUP n
  let x := s.cup n
  let s := s.setCup n { x with ovr := if x.ovr.contains b then x.ovr else x.ovr ++ [b] }
  ((s.sat p Reg.CUP.OVERRUN 1).err p 2 0x1C2 (idx % 2 ^ 20)).happen p 1 (n * 65536 + b % 65536)

/-- Samples of a line packed at 12 bits, little-endian, sensor line after sensor line, in LBYTES (R226). -/
def packLine (bytes : Nat) (planes : List (List Nat)) : List Byte :=
  leBytes bytes ((planes.flatten).foldr (fun v a => v % 4096 + 4096 * a) 0)

/-- The sensor lines that packed bytes hold. -/
def unpackLine (ns w : Nat) (bs : List Byte) : List (List Nat) :=
  let v := leVal bs
  (List.range ns).map (fun i => (List.range w).map (fun x => v / 4096 ^ (i * w + x) % 4096))

/-- The stitched index that needs line `kk` of a slot (R225). -/
def State.stitchedOf (s : State) (n sl kk : Nat) : Nat := kk + s.stag n sl

/-- The LSTORE words of line `i` of a slot's ring: first and number. -/
def State.ringWords (s : State) (n sl i : Nat) : Nat × Nat :=
  let b := match s.slotPort n sl with
    | some c => s.lineBytes c
    | none => 0
  ((s.lsBase n sl + i * b) / 8, b / 8)

/-- A line enters the LSTORE ring of a slot at a place. -/
def State.ringStore (s : State) (n sl i : Nat) (l : CamLine) : State :=
  let w := s.ringWords n sl i
  let s := s.sramFill 0 w.1 w.2
  s.setCup n ((s.cup n).setRing sl (Tbl.put ((s.cup n).ring sl) i l))

/-- A further line is put into a slot's ring; an untaken line there is overwritten (R227). -/
def State.ringPut (s : State) (n sl : Nat) (l : CamLine) : State :=
  let x := s.cup n
  let len := s.ringLen n sl
  if s.staged n sl then
    let old := (x.stg sl).find? (fun e => e.1 % len == l.k % len && e.1 != l.k)
    let s := match old with
      | some e => (s.setCup n ({ x with gone := (sl, e.1) :: x.gone }.setStg sl (Tbl.del (x.stg sl) e.1))).cupOverrun n
          (s.stitchedOf n sl e.1 / s.camBlen (3 * n)) e.1
      | none => s
    let y := s.cup n
    let s := s.setCup n (y.setStg sl (Tbl.put (y.stg sl) l.k { l with planes := [] }))
    match s.slotPort n sl with
    | some c => (s.dramWrite (unitWho (pgCUP n)) (s.stgBase n sl + l.k % len * s.lineBytes c)
        (packLine (s.lineBytes c) l.planes)).1
    | none => s
  else
    let old := Tbl.get? (x.ring sl) (l.k % len)
    let s := match old with
      | some e => (s.setCup n { x with gone := (sl, e.k) :: x.gone }).cupOverrun n
          (s.stitchedOf n sl e.k / s.camBlen (3 * n)) e.k
      | none => s
    s.ringStore n sl (l.k % len) l

/-- The next line of a port's output; block ends before it are taken off. -/
def nextLine : List CamOut → Option (CamLine × List CamEnd × List CamOut)
  | [] => none
  | .line l :: r => some (l, [], r)
  | .close e :: r => (nextLine r).map (fun a => (a.1, e :: a.2.1, a.2.2))

/-- The Cupola takes lines: RUN or DRAIN. -/
def State.cupLive (s : State) (n : Nat) : Bool :=
  let st := (s.page (pgCUP n)).state
  decide (n < unitCount s.variant .cup) && (st == .run || st == .drain)

/-- The Cupola's clock runs too; frozen, it still takes lines as far as the hold (R16, R245). -/
def State.cupTakes (s : State) (n : Nat) : Bool := s.cupLive n && s.clockRuns (pgCUP n)

/-- The stitched line of a further slot's line has entered stage 2, in this run of the home port or in the last (R228). -/
def State.tooLate (s : State) (n sl : Nat) (l : CamLine) : Bool :=
  let x := s.cup n
  let i := s.stitchedOf n sl l.k
  x.last.any (fun k => decide (i ≤ k)) || x.passed.any (fun e => decide (i ≤ e.1) && decide (l.reached ≤ e.2))

/-- FURTHER_LINE (R226 to R228): a line too late for its stitched line is discarded. -/
def execFurtherLine (cup slot : Nat) (s : State) : Host.Outcome State Fault Refusal :=
  match (if slot = 1 ∨ slot = 2 then s.slotPort cup slot else none) with
  | none => .next s
  | some c =>
    match nextLine (s.cam c).out with
    | none => .next s
    | some (l, _, rest) =>
      if s.cupTakes cup = false then .next s
      else
        let s := s.setCam c { s.cam c with out := rest }
        .next (if s.tooLate cup slot l then s else s.ringPut cup slot l)

/-- The lines of a slot whose stitched line has entered stage 2 are of no more use (R228). -/
def State.dropPassed (s : State) (n sl : Nat) : State :=
  let x := s.cup n
  let live := fun (kk : Nat) => match x.last with
    | some k => decide (k < s.stitchedOf n sl kk)
    | none => true
  let x := x.setRing sl ((x.ring sl).filter (fun e => live e.2.k))
  let x := { x with gone := x.gone.filter (fun e => e.1 != sl || live e.2) }
  s.setCup n (x.setStg sl ((x.stg sl).filter (fun e => live e.1)))

/-- The oldest staged line is read back while its place in the 16-line ring is free (R226). -/
def State.stagingRead (s : State) (n sl : Nat) : State :=
  let s := s.dropPassed n sl
  let x := s.cup n
  match s.slotPort n sl, x.stg sl with
  | some c, (kk, l) :: rest =>
    if (Tbl.get? (x.ring sl) (kk % 16)).isSome then s
    else
      let s := s.setCup n (x.setStg sl rest)
      let p := pgCUP n
      match s.dramRead (unitWho p) (s.stgBase n sl + kk % s.ringLen n sl * s.lineBytes c) (s.lineBytes c) with
      | (t, none) =>
        ((t.setCup n { t.cup n with gone := (sl, kk) :: (t.cup n).gone }).sat p Reg.CUP.STGERR 1).err p 5 0x1C5
          (sl * 2 ^ 18 + kk % 2 ^ 18)
      | (t, some bs) => t.ringStore n sl (kk % 16) { l with planes := unpackLine (t.camNs c) (t.camWidth c) bs }
  | _, _ => s

/-- STAGING_READ (R226). -/
def execStagingRead (cup slot : Nat) (s : State) : Host.Outcome State Fault Refusal :=
  .next (if (slot = 1 ∨ slot = 2) ∧ s.cupTakes cup = true then s.stagingRead cup slot else s)

/-- The staged lines that stitched line `k` takes are in LSTORE when it enters stage 2 (R226, R228). -/
def State.stageIn (s : State) (n k : Nat) : State :=
  [1, 2].foldl (fun t sl =>
    ((t.cup n).stg sl).foldl (fun u _ =>
      if ((u.cup n).stg sl).any (fun e => u.stitchedOf n sl e.1 == k) then u.stagingRead n sl else u) t) s

/-- The line of a slot that stitched line `k` takes, when present (R225). -/
def State.furtherLine (s : State) (n sl k : Nat) : Option CamLine :=
  let g := s.stag n sl
  if k < g then none
  else
    let i := if s.staged n sl then (k - g) % 16 else (k - g) % s.ringLen n sl
    match Tbl.get? ((s.cup n).ring sl) i with
    | some l => if l.k = k - g then some l else none
    | none => none

/-- The ring reads of stitched line `k`: a line with an uncorrectable word is missing (20 R405). -/
def State.ringReads (s : State) (n k : Nat) : State :=
  [1, 2].foldl (fun t sl =>
    match t.furtherLine n sl k with
    | none => t
    | some l =>
      let i := if t.staged n sl then l.k % 16 else l.k % t.ringLen n sl
      let w := t.ringWords n sl i
      match t.sramSpan 0 w.1 w.2 with
      | (u, []) => u
      | (u, _) => u.setCup n ((u.cup n).setRing sl (Tbl.del ((u.cup n).ring sl) i))) s

/-- Every enabled further slot has delivered its line for `k` (R228): it is in a ring, or was. -/
def State.furthersHere (s : State) (n k : Nat) : Bool :=
  [1, 2].all (fun sl => (s.slotPort n sl).isNone || (s.furtherLine n sl k).isSome ||
    ((s.cup n).stg sl).any (fun e => s.stitchedOf n sl e.1 == k) ||
    (s.cup n).gone.any (fun e => e.1 == sl && s.stitchedOf n sl e.2 == k))

/-! ## Colour (R231, R232) -/

/-- The B words a block keeps. -/
def cupWords : List Nat :=
  [0x130, 0x134, 0x138, 0x13C, 0x140, 0x144, 0x148, 0x14C, 0x150, 0x160, 0x164, 0x168, 0x16C, 0x170, 0x180, 0x184, 0x188,
   0x18C, 0x190, 0x1A0, 0x1A4, 0x1A8, 0x1AC, 0x1B0, 0x1B4, 0x1B8, 0x1BC, 0x200, 0x204, 0x208, 0x20C, 0x210, 0x214, 0x218,
   0x260, 0x264, 0x268, 0x26C, 0x270, 0x274]

/-- A register word of the set that governs a block. -/
def CupBlk.rg (k : CupBlk) (o : Nat) : Nat := Tbl.getD k.regs o 0
def CupBlk.rg64 (k : CupBlk) (o : Nat) : Nat := k.rg o + 2 ^ 32 * k.rg (o + 4)

/-- The missing colour at `x` from its neighbours: C − G and the G gradient of each (R231). -/
def mosaic (edgeth : Nat) (g : Int) (l r : Option (Int × Int)) : Nat :=
  let v := match l, r with
    | some (dl, gl), some (dr, gr) =>
      if (gl - gr).natAbs ≤ edgeth then g + Int.fdiv (dl + dr) 2
      else g + (if gl < gr then dl else dr)
    | some (d, _), none => g + d
    | none, some (d, _) => g + d
    | none, none => g
  (clamp 0 4095 v).toNat

/-- A bilinear line interpolated (R231): the planes R, G, B. -/
def interpolate (mph : Bool) (edgeth w : Nat) (l0 l1 : List Nat) : List (List Nat) :=
  let red := fun x => (x + b2n mph) % 2 == 0
  let g := fun x => ((if red x then l1 else l0).getD x 0 : Int)
  let other := fun x => ((if red x then l0 else l1).getD x 0 : Int)
  let nb := fun (x y : Nat) => if y < w then some (other y - g y, ((g x - g y).natAbs : Int)) else none
  let missing := fun x => mosaic edgeth (g x) (if x = 0 then none else nb x (x - 1)) (nb x (x + 1))
  let ix := List.range w
  [ix.map (fun x => if red x then (other x).toNat else missing x), ix.map (fun x => (g x).toNat),
   ix.map (fun x => if red x then missing x else (other x).toNat)]

/-- A tone curve entry (R233): undefined after power-up. -/
def State.tone (s : State) (n bank a : Nat) : Nat :=
  let i := n * 2 ^ 15 + bank * 2 ^ 14 + a
  match (s.cup n).toneHold.old? s.cycle i with
  | some v => v
  | none => Tbl.getD s.tones i (Config.undefCell 4 s.epoch i % 4096)

/-- An ink curve entry (R233, R237): 32,768 after reset. -/
def State.ink (s : State) (n bank a : Nat) : Nat :=
  let i := n * 2 ^ 15 + bank * 2 ^ 14 + a
  match (s.cup n).inkHold.old? s.cycle i with
  | some v => v
  | none => Tbl.getD s.inks i 32768

/-- The banks of the tone and ink curves in use: of the open block, whose set stays (R35), else as in force (R233). -/
def State.toneFront (s : State) (n : Nat) : Nat :=
  match (s.cup n).blk with
  | some k => bits (k.rg Reg.CUP.CCTL) 3 3
  | none => s.fl (pgCUP n) Reg.CUP.CCTL 3 3
def State.inkFront (s : State) (n : Nat) : Nat :=
  match (s.cup n).blk with
  | some k => bits (k.rg Reg.CUP.RCTL) 0 0
  | none => s.fl (pgCUP n) Reg.CUP.RCTL 0 0

/-- White balance, matrix and tone of one pixel (R232). -/
def State.colourPixel (s : State) (n : Nat) (k : CupBlk) (c : List Nat) : List Nat :=
  let ctl := k.rg Reg.CUP.CCTL
  let wb := fun i => bits (k.rg (if i = 2 then Reg.CUP.WB2 else Reg.CUP.WB01)) (if i = 1 then 31 else 15) (if i = 1 then 16 else 0)
  let m := fun i => sgn 16 (bits (k.rg (Reg.CUP.MAT0 + 4 * (i / 2))) (i % 2 * 16 + 15) (i % 2 * 16))
  let c := if bit ctl 0 then (c.zipIdx).map (fun e => min 4095 ((e.1 * wb e.2 + 8192) / 16384)) else c
  let c := if bit ctl 1 then
      [0, 1, 2].map (fun i => (clamp 0 4095 (rnd (m (3 * i) * c.getD 0 0 + m (3 * i + 1) * c.getD 1 0 +
        m (3 * i + 2) * c.getD 2 0) 13)).toNat) else c
  if bit ctl 2 then (c.zipIdx).map (fun e => s.tone n (bits ctl 3 3) (e.2 * 4096 + e.1)) else c

/-- Stage 2 of a slot's line (R231, R232): its planes, by pixel. -/
def State.stage2 (s : State) (n cam : Nat) (k : CupBlk) (l : CamLine) : List (List Nat) :=
  let w := s.camWidth cam
  match s.fl (pgCAM cam) Reg.CAM.CFG 9 8 with
  | 0 => (l.planes.getD 0 []).map (fun v => [v])
  | f =>
    let pl := if f = 1 then
        interpolate (s.fb (pgCAM cam) Reg.CAM.CFG 12) (bits (k.rg Reg.CUP.CCTL) 27 16) w (l.planes.getD 0 []) (l.planes.getD 1 [])
      else l.planes
    let px := (List.range w).map (fun x => [0, 1, 2].map (fun i => (pl.getD i []).getD x 0))
    if s.cmx then px.map (s.colourPixel n k) else px

/-! ## Stitching (R234) -/

/-- `a / b` to the nearest, ties upward; `b` not 0. -/
def nearUp (a b : Int) : Int := if b < 0 then Int.fdiv (-2 * a - b) (-2 * b) else Int.fdiv (2 * a + b) (2 * b)

/-- X_j in 2^-24 WU. -/
def CupBlk.xj (k : CupBlk) (j : Nat) : Int :=
  sgn 64 (k.rg64 Reg.CUP.X0) * 2 ^ 24 + (j * (k.rg64 Reg.CUP.SP % 2 ^ 56) : Nat)

/-- u in 2^-8 pixel when the slot covers column `j`. -/
def CupBlk.coverAt (k : CupBlk) (sl w j : Nat) : Option Int :=
  let xs := sgn 64 (k.rg64 (Reg.CUP.slotXS sl))
  let trim := k.rg (Reg.CUP.slotTRIM sl)
  if xs = 0 then none
  else
    let u := nearUp ((k.xj j - sgn 64 (k.rg64 (Reg.CUP.slotXC sl)) * 2 ^ 24) * 256) xs
    if ((bits trim 15 0 : Nat) : Int) * 256 ≤ u ∧ u ≤ ((w : Int) - 1 - bits trim 31 16) * 256 then some u else none

/-- The interpolated pixel at u (R234). -/
def pixelAt (px : List (List Nat)) (u : Int) : List Nat :=
  let f := (u % 256).toNat
  let i := (Int.fdiv u 256).toNat
  let a := px.getD i []
  let b := px.getD (i + 1) []
  (a.zipIdx).map (fun e => if f = 0 then e.1 else (e.1 * (256 - f) + b.getD e.2 0 * f + 128) / 256)

/-! ## Reference, print mode (R236 to R238) -/

/-- Column `u` of the source: its overlap with the footprint, in 2^-25 WU. -/
def CupBlk.sourceSpan (k : CupBlk) (lo hi : Int) (u : Int) : Int :=
  let o := sgn 64 (k.rg64 Reg.CUP.RXORG) * 2 ^ 25
  let p : Int := (k.rg64 Reg.CUP.RXP % 2 ^ 56 : Nat)
  max 0 (min hi (o + (2 * u + 1) * p) - max lo (o + (2 * u - 1) * p))

/-- The source columns the footprint of column `j` reaches, with their exact overlaps. -/
def CupBlk.sourceCols (k : CupBlk) (j : Nat) : List (Int × Int) :=
  let sp : Int := (k.rg64 Reg.CUP.SP % 2 ^ 56 : Nat)
  let lo := 2 * k.xj j - sp
  let hi := 2 * k.xj j + sp
  let o := sgn 64 (k.rg64 Reg.CUP.RXORG) * 2 ^ 25
  let p : Int := (k.rg64 Reg.CUP.RXP % 2 ^ 56 : Nat)
  if p = 0 then []
  else
    let first := Int.fdiv (lo - o + p) (2 * p)
    let last := Int.fdiv (hi - o + p) (2 * p)
    ((List.range (last - first + 1).toNat).map (fun (i : Nat) => (first + (i : Int), k.sourceSpan lo hi (first + (i : Int))))).filter
      (fun e => decide (0 < e.2))

/-- The source lines of the footprint with their weights in 2^-8 (R236); rounding ties are free. -/
def lineWeights (x : RefSet) (k key : Nat) : List (Int × Int) :=
  let s0 := x.pos k
  let s1 := s0 + x.rstep
  (x.lineList k).map (fun l =>
    (l, nearest (max 0 (min s1 ((l + 1) * 2 ^ 24) - max s0 (l * 2 ^ 24))) 65536 (Config.tieUp (key + l.toNat % 256))))

/-- The rendered coverage of one plane (R236); free when no weight is left. -/
def State.coverage (s : State) (n : Nat) (x : RefSet) (plane : Nat) (ws : List (Int × Int)) (cs : List (Int × Int)) (free : Nat) : Nat :=
  let terms := ws.flatMap (fun l => cs.map (fun c => (l.2 * c.2, (s.refPixel n x plane l.1 c.1).1)))
  let v := terms.foldl (fun (a : Int) (e : Int × Nat) => a + e.1 * e.2) 0
  let d := terms.foldl (fun (a : Int) (e : Int × Nat) => a + e.1) 0
  if d = 0 then free % 65536 else (Int.fdiv (2 * v + d) (2 * d)).toNat

/-- The paper white of a channel (R237). -/
def CupBlk.pw (k : CupBlk) (c : Nat) : Nat :=
  if c = 2 then bits (k.rg Reg.CUP.PW2) 11 0 else bits (k.rg Reg.CUP.PW01) (c * 16 + 11) (c * 16)

/-- The predicted value of a channel (R237). -/
def State.predict (s : State) (n : Nat) (k : CupBlk) (c : Nat) (cov : List (Nat × Nat)) : Nat :=
  let bank := bits (k.rg Reg.CUP.RCTL) 0 0
  let pw := k.pw c
  cov.foldl (fun p a =>
    let j : Nat := a.2 / 257
    let f : Nat := a.2 - 257 * j
    let e : Nat → Int := fun i => s.ink n bank ((a.1 * 3 + c) * 256 + i)
    let t := if 255 ≤ j then e 255 else e j + Int.fdiv (2 * ((e (j + 1) - e j) * (f : Int)) + 257) 514
    (clamp 0 4095 (rnd ((p : Int) * t) 15)).toNat) pw

/-- A word of the reference line buffer: line, plane, and column / 4. -/
structure RefWord where
  line : Int
  plane : Nat
  col : Int
deriving DecidableEq, Repr

/-- Its item number in the buffer. -/
def RefWord.item (w : RefWord) : Nat := ((w.line % 256).toNat * 16 + w.plane) * 65536 + (w.col % 65536).toNat

/-- The reads of the reference line buffer of camera line `i`; the uncorrectable words (20 R405). -/
def State.refReads (s : State) (n : Nat) (k : CupBlk) (x : RefSet) (i : Nat) : State × List RefWord :=
  if s.sram.flips.isEmpty && s.sram.inject.isEmpty then (s, [])
  else
    let cols := (((List.range (s.outw n)).flatMap k.sourceCols).map (fun e => Int.fdiv e.1 4)).eraseDups
    s.sramItems 2 (pgCUP n) RefWord.item ((x.lineList i).flatMap (fun l =>
      x.planes.flatMap (fun q => cols.map (fun c => (⟨l, q, c⟩ : RefWord)))))

/-- Print-mode reference of column `j`: VOID, coverages, predictions (R236 to R238). -/
def State.refColumn (s : State) (n : Nat) (k : CupBlk) (x : RefSet) (ws : List (Int × Int)) (key j : Nat) (bad : List RefWord) :
    Bool × List (Nat × Nat) × List Nat :=
  let raw := k.sourceCols j
  let p : Int := (k.rg64 Reg.CUP.RXP % 2 ^ 56 : Nat)
  let cs := (raw.map (fun e => (e.1, nearest (e.2 * 256) (2 * p) (Config.tieUp (key + 256 + j))))).filter
    (fun e => decide (0 < e.2))
  let outside := raw.any (fun e => decide (e.1 < x.xfirst) || decide ((x.xfirst + x.xcount : Nat) ≤ e.1))
  let void := x.planes.any (fun i => (ws.filter (fun l => decide (0 < l.2))).any (fun l =>
    cs.any (fun c => (s.refPixel n x i l.1 c.1).2 || bad.contains ⟨l.1, i, Int.fdiv c.1 4⟩)))
  let cov := x.planes.map (fun i => (i, s.coverage n x i ws cs (Config.draw (key + j * 16 + i))))
  (outside || void, cov, (List.range (s.cupNp n)).map (fun c => s.predict n k c cov))

/-! ## Comparison (R241, R242) -/

/-- High and low thresholds of a side: 0 bright, 1 dark; the low test of 0 is the high test. -/
def CupBlk.th (k : CupBlk) (c side : Nat) : Nat × Nat :=
  let w := k.rg (Reg.CUP.TH c + 4 * side)
  (bits w 11 0, if bits w 27 16 = 0 then bits w 11 0 else bits w 27 16)

/-- A channel difference passes a test on an enabled side. -/
def CupBlk.passes (k : CupBlk) (d : List Int) (side : Nat) (low : Bool) : Bool :=
  (d.zipIdx).any (fun e =>
    let t := k.th e.2 side
    t.1 != 0 && decide (((if low then t.2 else t.1 : Nat) : Int) ≤ (if side = 0 then e.1 else -e.1)))

/-- STRONG, and STRONG or WEAK, of a pixel. -/
def CupBlk.strong (k : CupBlk) (d : List Int) : Bool := k.passes d 0 false || k.passes d 1 false
def CupBlk.marked (k : CupBlk) (d : List Int) : Bool := k.strong d || k.passes d 0 true || k.passes d 1 true

/-- The ON marks of a line from (strong, marked, previous ON) per column (R242): runs are decided one after another. -/
def onMarks : List (Bool × Bool × Bool) → List Bool → Bool → List Bool
  | [], run, hit => run.map (fun _ => hit)
  | (st, mk, pv) :: r, run, hit =>
    if mk then onMarks r (true :: run) (hit || st || pv)
    else run.map (fun _ => hit) ++ false :: onMarks r [] false

/-- Stage 5 of a line: marks on every column. -/
def CupBlk.compare (k : CupBlk) (cols : List CupCol) : List CupCol :=
  let mk := (cols.zipIdx).map (fun e => (k.strong e.1.d, k.marked e.1.d, k.prev.getD e.2 false))
  (cols.zip (onMarks mk [] false)).map (fun e =>
    { e.1 with on := e.2, bright := e.2 && k.passes e.1.d 0 true, dark := e.2 && k.passes e.1.d 1 true })

/-! ## Background (R239, R240) -/

/-- Bytes of a history entry, and NB. -/
def State.histBytes (s : State) (n : Nat) : Nat := s.outw n * s.cupNp n * 2
def State.bgNb (s : State) (n : Nat) : Nat := s.fl (pgCUP n) Reg.CUP.BGCTL 5 0

/-- Insertion into an ascending list. -/
def insertNat (x : Nat) : List Nat → List Nat
  | [] => [x]
  | y :: r => if x ≤ y then x :: y :: r else y :: insertNat x r

/-- The statistic of one column and plane over the entries, 12.4 to 12 bits with ties upward. -/
def bgStat (med : Bool) (vs : List Nat) : Nat :=
  let n := vs.length
  if med then min 4095 (((vs.foldl (fun a v => insertNat v a) []).getD ((n - 1) / 2) 0 + 8) / 16)
  else min 4095 ((2 * vs.foldl (· + ·) 0 + 16 * n) / (32 * n))

/-- The background from the newest NB entries; none while fewer are written; an error is reported (R240). -/
def State.bgCompute (s : State) (n : Nat) : State × Option (List Nat) × Bool :=
  let x := s.cup n
  let nb := s.bgNb n
  if s.fl (pgCUP n) Reg.CUP.CFG 1 0 ≠ 2 ∨ x.histN < nb ∨ nb = 0 then (s, none, false)
  else
    match s.dramRead (unitWho (pgCUP n)) (s.rg64 (pgCUP n) Reg.CUP.BGBASE) (nb * s.histBytes n) with
    | (t, none) => (t, none, true)
    | (t, some bs) =>
      let med := s.fb (pgCUP n) Reg.CUP.BGCTL 8
      (t, some ((List.range (s.outw n * s.cupNp n)).map (fun i =>
        bgStat med ((List.range nb).map (fun e => leAt bs (e * s.histBytes n + i * 2) 2)))), false)

/-- The history restarts (R240). -/
def State.bgRestart (s : State) (n : Nat) : State :=
  let s := s.setCup n { s.cup n with hist := [], histN := 0, bgNext := none }
  s.bgShow n false

/-- The entry a clean block writes (R239): means in 12.4, the background used, or a free value when none was. -/
def State.histEntry (s : State) (n : Nat) (k : CupBlk) : List Byte :=
  let np := s.cupNp n
  (List.range (s.outw n * np)).flatMap (fun i =>
    let c := Tbl.getD k.cnts i 0
    leBytes 2 (match k.bg with
      | none => Config.undefCell 5 s.fresh i % 65536
      | some bg => if c = 0 ∨ k.onCols.contains (i / np) then bg.getD i 0 * 16 else Tbl.getD k.sums i 0 * 16 / c))

/-- A clean block (R239). -/
def State.cleanBlk (s : State) (n : Nat) (k : CupBlk) (flags : Nat) : Bool :=
  !bit flags 8 && !bit flags 9 && !bit flags 11 && !bit flags 12 && decide (4 * k.pads ≤ s.camBlen (3 * n))

/-- The history at the end of a block (R239, R240). -/
def State.bgEnd (s : State) (n : Nat) (k : CupBlk) (flags : Nat) : State :=
  if s.fl (pgCUP n) Reg.CUP.CFG 1 0 ≠ 2 then s
  else
    let (s, bg, bad) := s.bgCompute n
    let s := if bad then s.bgRestart n else s
    let s := s.setCup n { s.cup n with bgNext := bg, bgErr := bad }
    if s.cleanBlk n k flags = false then s
    else
      let x := s.cup n
      let at_ := s.rg64 (pgCUP n) Reg.CUP.BGBASE + x.histN % max 1 (s.bgNb n) * s.histBytes n
      match s.drawn.dramWrite (unitWho (pgCUP n)) at_ (s.histEntry n k) with
      | (t, false) => t.bgRestart n
      | (t, true) =>
        let y := t.cup n
        (t.setCup n { y with hist := (k.b :: y.hist).take 64, histN := y.histN + 1 }).bgShow n (t.fb (pgCUP n) Reg.CUP.BGSTAT 0)

/-- The background of a block that begins (R240). -/
def State.bgBegin (s : State) (n b : Nat) : State × Option (List Nat) × Bool :=
  let x := s.cup n
  if s.fl (pgCUP n) Reg.CUP.CFG 1 0 ≠ 2 then (s, none, false)
  else
    let g := (s.cam (3 * n)).genOf (b * s.camBlen (3 * n))
    let restart := s.fb (pgCUP n) Reg.CUP.BGCTL 9 && (match x.lastGen with
      | some h => decide (h ≠ g)
      | none => false)
    let s := if restart then s.bgRestart n else s
    let s := s.setCup n { s.cup n with lastGen := some g }
    let (s, bg, bad) :=
      if !restart && x.lastBlk.any (fun c => c + 1 == b) then (s, x.bgNext, x.bgErr)
      else
        let (s, bg, bad) := s.bgCompute n
        (if bad then s.bgRestart n else s, bg, bad)
    (s.bgShow n bg.isSome, bg, bad)

/-! ## Blocks (R230) -/

/-- Camera FLAGS as block flags of R255. -/
def camFlags (f : Nat) : Nat :=
  b2n (bit f 0) * 2 ^ 8 + b2n (bit f 1) * 2 ^ 9 + b2n (bit f 3) * 2 ^ 10 + b2n (bit f 4) * 2 ^ 11 + b2n (bit f 2) * 2 ^ 17

/-- FLAGS of a port's block: closed, or open so far (R230). -/
def State.blkFlags (s : State) (p b : Nat) : Nat :=
  let x := s.cam p
  match x.ended.find? (fun e => e.b == b) with
  | some e => e.flags
  | none =>
    match x.blocks.find? (fun k => k.b == b) with
    | some k => 4 * b2n k.lineLen + 8 * b2n (decide (0 < k.pads)) + 16 * b2n k.expUnk
    | none => 0

/-- As block flags of a further port (R230). -/
def State.furtherFlags (s : State) (p b : Nat) : Nat := camFlags (s.blkFlags p b)

/-! ## Arrival at DEF (R262, R263) -/

/-- A defect unit beside its registers. -/
def State.defOf (s : State) (n : Nat) : Def := Tbl.getD s.defs n Def.reset
def State.setDef (s : State) (n : Nat) (x : Def) : State := { s with defs := Tbl.put s.defs n x }

/-- OPEN, MAXOPEN, PENDDROP and RINGUSE follow the unit. -/
def State.defShow (s : State) (n : Nat) : State :=
  let p := pgDEF n
  let x := s.defOf n
  let open_ := match x.blk with
    | some k => k.comps.length
    | none => 0
  let s := (s.setRg p Reg.DEF.OPEN (open_ % 4096)).setRg p Reg.DEF.MAXOPEN (max (s.rg p Reg.DEF.MAXOPEN) open_)
  s.setRg p Reg.DEF.PENDDROP (((x.items.findSome? (fun i => match i with
    | .dropped _ c _ _ _ => some c
    | _ => none))).getD 0)

/-- A block becomes late: its records are replaced by a DROPPED record (R262, R263). -/
def State.dropItem (s : State) (n : Nat) (items : List DefItem) (b : Nat) (recs : Nat) (head : Option Nat) (grid : Int) :
    State × List DefItem :=
  let p := pgDEF n
  let s := match head with
    | some h => s.setRg p Reg.DEF.SNPHEAD h
    | none => s
  let s := ((s.sat p Reg.DEF.DROPCNT 1).err p 2 0x1D2 (b % 2 ^ 20)).happen p 1 (n * 65536 + b % 65536)
  match items.getLast? with
  | some (.dropped b0 c d g t) =>
    if b0 + c = b then (s, items.dropLast ++ [.dropped b0 (c + 1) (min (2 ^ 32 - 1) (d + recs)) g t])
    else (s, items ++ [.dropped b 1 recs grid s.timeNs])
  | _ => (s, items ++ [.dropped b 1 recs grid s.timeNs])

/-- The unit works: RUN or DRAIN, not frozen (R266). -/
def State.defLive (s : State) (n : Nat) : Bool :=
  let g := s.page (pgDEF n)
  decide (n < unitCount s.variant .def_) && s.works (pgDEF n) && (g.state == .run || g.state == .drain)

/-- The oldest block is published with one advance of the producer index when its snippets are done and there is room
(R261, R264, 20 R405). A DRAM error makes it late; while a ring in host memory refuses it, it waits (R310). -/
def State.defPublish (s : State) (n : Nat) : State :=
  let p := pgDEF n
  match (s.defOf n).items with
  | .block b _ recs [] head grid :: rest =>
    if s.defLive n = false ∨ (recs ≠ [] ∧ s.publishRoom p n recs.length = false) then s
    else
      let (s, bad) := s.sramItems 2 p (fun (i : Nat) => i) (List.range recs.length)
      let host := match s.portQueue p 0 with
        | some q => (s.queue q).loc
        | none => false
      match (if bad ≠ [] then (s, false) else if recs = [] then (s, true) else s.publish p n recs) with
      | (s, true) =>
        let s := (s.setDef n { s.defOf n with items := rest }).inc p Reg.DEF.BLKCNT 1
        let s := (s.inc p Reg.DEF.RECCNT recs.length).setRg64 p Reg.DEF.LASTBLK (b % 2 ^ 48)
        (s.happen p 0 (n * 65536 + b % 65536)).defShow n
      | (s, false) =>
        if bad = [] ∧ host = true then s
        else
          let (s, items) := s.dropItem n [] b recs.length head grid
          let s := s.err p 6 0x1D6 (b % 2 ^ 20)
          (s.setDef n { s.defOf n with items := items ++ rest }).defShow n
  | _ => s

/-- Blocks that block `b` makes late and that can be published in this cycle are published first (R262). -/
def State.publishFirst (s : State) (n b : Nat) : State :=
  (s.defOf n).items.foldl (fun t _ =>
    match (t.defOf n).items with
    | .block c _ _ [] _ _ :: _ => if c + t.fl (pgDEF n) Reg.DEF.DEADLINE 3 0 ≤ b then t.defPublish n else t
    | _ => t) s

/-- Block `b` arrives: every block that is late now (R262). -/
def State.dropLate (s : State) (n b : Nat) : State :=
  let dl := s.fl (pgDEF n) Reg.DEF.DEADLINE 3 0
  let s := s.publishFirst n b
  let (s, items) := (s.defOf n).items.foldl (fun (a : State × List DefItem) i =>
    match i with
    | .block c _ recs _ head grid => if c + dl ≤ b then a.1.dropItem n a.2 c recs.length head grid else (a.1, a.2 ++ [i])
    | .dropped .. => (a.1, a.2 ++ [i])) (s, [])
  (s.setDef n { s.defOf n with items := items, arrived := some b }).defShow n

/-- The open block ends and is handed to DEF (R230). -/
def State.cupEndBlk (s : State) (n : Nat) (k : CupBlk) (e : CamEnd) : State :=
  let p := pgCUP n
  let x := s.cup n
  let len := s.camBlen (3 * n)
  let flags := k.took.foldl (fun f t => f ||| s.furtherFlags t.1 t.2)
    (camFlags e.flags ||| k.flags ||| (if x.ovr.contains k.b then 2 ^ 12 else 0))
  let s := s.setCup n { x with blk := none, lastBlk := some k.b, ovr := x.ovr.filter (fun b => decide (k.b < b)) }
  let s := s.bgEnd n k flags
  let ce : CupEnd := ⟨k.b, e.lines, x.last.getD 0, e.genA, e.genB, flags, s.timeNs, s.camGrid (3 * n) (k.b * len),
    s.camGrid (3 * n) (k.b * len + len - 1)⟩
  let s := s.drawn
  let df := s.page (pgDEF n)
  let s := if k.toDef then
      if df.frozen then
        (s.setCup n { s.cup n with toDef := (s.cup n).toDef ++ [.drop k.b] }).sat (pgDEF n) Reg.DEF.IDLEBLK 1
      else (s.setCup n { s.cup n with toDef := (s.cup n).toDef ++ [.close ce] }).dropLate n k.b
    else s
  (s.happen p 0 (n * 65536 + k.b % 65536)).cupShow n

/-- An apply: a set that breaks R235 or R242 is refused (R245). -/
def State.cupApplyBad (s : State) (n : Nat) : Option Nat :=
  let p := pgCUP n
  let n64 := fun o => s.normal p o + 2 ^ 32 * s.normal p (o + 4)
  if n64 Reg.CUP.SP % 2 ^ 56 = 0 then some Reg.CUP.SP
  else
    match (s.slotList n).find? (fun e => n64 (Reg.CUP.slotXS e.1) == 0) with
    | some e => some (Reg.CUP.slotXS e.1)
    | none =>
      ([0, 1, 2].map (fun c => Reg.CUP.TH c)).find? (fun o =>
        [s.normal p o, s.normal p (o + 4)].any (fun w => bits w 11 0 != 0 && decide (bits w 11 0 < bits w 27 16)))

/-- An apply trigger at a Cupola's page. -/
def State.cupApply (s : State) (n : Nat) : State :=
  let p := pgCUP n
  if (s.page p).pend = false then s
  else
    match s.cupApplyBad n with
    | some o => (s.refuseSet p).err p 1 0x1C1 o
    | none => s.applySet p

/-- Block `b` begins with its first line entering stage 2 (R230, R245, R266). -/
def State.cupBegin (s : State) (n b : Nat) : State :=
  let p := pgCUP n
  let d := pgDEF n
  let tone := s.toneFront n
  let ink := s.inkFront n
  let s := s.atBoundary p (·.cupApply n)
  let run := (s.page d).state == .run
  let s := if run then s.atBoundary d (fun t => if (t.page d).pend then t.applySet d else t) else s.sat d Reg.DEF.IDLEBLK 1
  let (s, bg, bad) := s.bgBegin n b
  let warm := s.fl p Reg.CUP.CFG 1 0 = 2 ∧ bg = none
  let k : CupBlk :=
    { b := b, regs := cupWords.foldl (fun t o => Tbl.put t o (s.rg p o)) [], flags := if warm then 2 ^ 16 else 0, took := [],
      pads := 0, fwLogged := false, prev := [], onCols := [], sums := [], cnts := [], bg := bg, bgBad := bad,
      toDef := run }
  let x := s.cup n
  let out := if run then x.toDef ++ [.open b (s.rg d Reg.DEF.MINAREA) (s.rg d Reg.DEF.SNPSEL) (k.xj 0)
      (s.rg64 p Reg.CUP.SP % 2 ^ 56)] else x.toDef
  (s.setCup n { x with blk := some k, toDef := out, toneHold := x.toneHold.swap s.cycle tone (bits (k.rg Reg.CUP.CCTL) 3 3)
                       inkHold := x.inkHold.swap s.cycle ink (bits (k.rg Reg.CUP.RCTL) 0 0) }).cupShow n

/-! ## A line through the stages -/

/-- The stitched columns of line `l`: slot, NOCOV and values (R234). -/
def State.stitch (s : State) (n : Nat) (k : CupBlk) (l : CamLine) : List (Nat × Bool × List Nat) :=
  let zero := List.replicate (s.cupNp n) 0
  let src := (s.slotList n).map (fun e =>
    let ln := if e.1 = 0 then some l else s.furtherLine n e.1 l.k
    (e.1, s.camWidth e.2, (ln.filter (fun x => !x.pad)).map (s.stage2 n e.2 k)))
  (List.range (s.outw n)).map (fun j =>
    match src.findSome? (fun e => (k.coverAt e.1 e.2.1 j).map (fun u => (e.1, e.2.2, u))) with
    | some (sl, some px, u) => if l.pad then (sl, true, zero) else (sl, false, pixelAt px u)
    | some (sl, none, _) => (sl, true, zero)
    | none => (0, true, zero))

/-- Reference and comparison of a stitched line (R235 to R242). -/
def State.cupColumns (s : State) (n : Nat) (k : CupBlk) (l : CamLine) (late : Bool) (bad : List RefWord) : List CupCol :=
  let mode := s.fl (pgCUP n) Reg.CUP.CFG 1 0
  let x := s.refSetAt n l.reached
  let key := (s.fresh + 1) * 2 ^ 32
  let ws := lineWeights x l.k key
  let np := s.cupNp n
  let whole := (mode = 1 ∧ (late ∨ x.bad)) ∨ (mode = 2 ∧ k.bgBad)
  let warm := mode = 2 ∧ k.bg = none
  let cols := ((s.stitch n k l).zipIdx).map (fun e =>
    let (sl, nocov, m) := e.1
    let (v, cov, p) :=
      if mode = 1 ∧ ¬whole then s.refColumn n k x ws key e.2 bad
      else if mode = 2 then (false, [], (List.range np).map (fun c => (k.bg.getD []).getD (e.2 * np + c) 0))
      else (false, [], List.replicate np 0)
    let void := v || decide whole
    let d := if nocov ∨ void ∨ l.pad ∨ warm ∨ mode = 0 then List.replicate np 0
      else (m.zip p).map (fun a => (a.1 : Int) - a.2)
    ({ slot := sl, nocov := nocov, void := void, m := m, p := p, d := d, on := false, bright := false, dark := false,
       cov := cov } : CupCol))
  k.compare cols

/-- The background sums of a line (R239). -/
def CupBlk.learn (k : CupBlk) (np : Nat) (cols : List CupCol) : CupBlk :=
  (cols.zipIdx).foldl (fun b e =>
    if e.1.nocov then b
    else (e.1.m.zipIdx).foldl (fun c v =>
      let i := e.2 * np + v.2
      { c with sums := Tbl.put c.sums i (Tbl.getD c.sums i 0 + v.1), cnts := Tbl.put c.cnts i (Tbl.getD c.cnts i 0 + 1) }) b) k

/-- The further lines that line `k` misses (R228). -/
def State.missing (s : State) (n k : Nat) : List Nat :=
  (s.slotList n).filterMap (fun e =>
    if e.1 = 0 then none
    else match s.furtherLine n e.1 k with
      | some l => if l.pad then some e.1 else none
      | none => some e.1)

/-- Missing further lines are counted, logged once a block, and flagged (R228). -/
def State.cupMissing (s : State) (n : Nat) (k : CupBlk) (idx : Nat) : State × CupBlk :=
  let p := pgCUP n
  let ms := s.missing n idx
  let s := (s.slotList n).foldl (fun t e => t.setFl p (Reg.CUP.slotSLSTAT e.1) 6 6 (b2n (ms.contains e.1))) s
  match ms with
  | [] => (s, k)
  | sl :: _ =>
    let s := s.sat p Reg.CUP.FWCNT 1
    let s := if k.fwLogged then s else s.err p 3 0x1C3 (sl * 2 ^ 18 + idx % 2 ^ 18)
    (s, { k with fwLogged := true, flags := k.flags ||| 2 ^ 13 })

/-- The further lines taken leave their rings; SLLAST shows them. -/
def State.cupTake (s : State) (n : Nat) (k : CupBlk) (idx : Nat) : State × CupBlk :=
  [1, 2].foldl (fun (a : State × CupBlk) sl =>
    match a.1.slotPort n sl, a.1.furtherLine n sl idx with
    | some c, some l =>
      let x := a.1.cup n
      let i := if a.1.staged n sl then l.k % 16 else l.k % a.1.ringLen n sl
      let t := (a.1.setCup n (x.setRing sl (Tbl.del (x.ring sl) i))).setRg64 (pgCUP n) (Reg.CUP.slotSLLAST sl) (l.k % 2 ^ 48)
      (t, { a.2 with took := if a.2.took.contains (c, l.b) then a.2.took else (c, l.b) :: a.2.took })
    | _, _ => a) (s, k)

/-- CLPD words of a line (R393): channel CHAN, plane PLANE and the largest of the others. -/
def clpdWords (e : Nat) (l : ClpLine) : List Nat :=
  let ch := bits e 9 8
  let pl := bits e 15 12
  [l.line.k % 2 ^ 48 + b2n l.line.pad * 2 ^ 48 + l.pw.getD ch 0 % 4096 * 2 ^ 52, enc2 64 l.line.pos, enc2 64 l.line.grid,
    enc2 64 (shr l.x0 24), l.sp, l.line.cols.length] ++
  l.line.cols.map (fun c =>
    let a := ((c.cov.find? (fun x => x.1 == pl)).map (·.2)).getD 0
    let o := (c.cov.filter (fun x => x.1 != pl)).foldl (fun m x => max m x.2) 0
    c.m.getD ch 0 % 4096 + c.p.getD ch 0 % 4096 * 2 ^ 16 + b2n c.nocov * 2 ^ 28 + b2n c.void * 2 ^ 29 +
      a % 65536 * 2 ^ 32 + o % 65536 * 2 ^ 48)

/-- The port of an export line whose 256 KB buffer has room for it (R393): the port moves a block every 0.64 ns, 16/100
cycle (R380); none without a port UP. -/
def State.exportPort (s : State) (dst words : Nat) : Option Bool :=
  (s.route dst).filter (fun b => decide (((s.tport b).exportEnd - s.cycle * 100) / 16 * 8 + words * 8 ≤ 262144))

/-- A line goes out as a CLPD frame while CLPEXPn.EN = 1, when it finds room (R393). -/
def State.clpExport (s : State) (n : Nat) (l : ClpLine) : State :=
  let e := s.rg pgTLK (Reg.TLK.CLPEXP n)
  let ws := clpdWords e l
  if bit e 0 = false ∨ l.line.k % (bits e 19 16 + 1) ≠ 0 ∨ s.tlkRuns = false then s
  else match s.exportPort (bits e 7 4) ws.length with
  | some b =>
    let x := s.tport b
    (s.setTport b { x with exportEnd := max x.exportEnd (s.cycle * 100) + 16 * (ws.length + 2) }).tlkPut b 7 (bits e 7 4) 0 0 ws
  | none =>
    let d := s.tlk.dropped
    let s := ({ s with tlk := { s.tlk with dropped := (d + 1) % 1024 } }).sat pgTLK Reg.TLK.CLPDROP 1
    if d = 0 then s.err pgTLK 9 0x299 n else s

/-- In print and background mode a finished line goes to CLP, unless CLPIMP takes the index from another device (R243, R272, R282, R394). -/
def State.cupToClp (s : State) (n : Nat) (k : CupBlk) (o : CupLine) : State :=
  let l : ClpLine := ⟨o, k.xj 0, k.rg64 Reg.CUP.SP % 2 ^ 56, (List.range 3).map k.pw, false, (s.page pgCLP).frozen⟩
  let s := s.clpExport n l
  let c := s.page pgCLP
  if s.fl (pgCUP n) Reg.CUP.CFG 1 0 = 0 ∨ s.fb pgTLK (Reg.TLK.CLPIMP n) 0 ∨ s.present pgCLP = false ∨ (c.state ≠ .run ∧ c.state ≠ .drain) then s
  else (s.setCup n { s.cup n with toClp := (s.cup n).toClp ++ [l] }).sat pgCLP Reg.CLP.SKIPLN (b2n c.frozen)

/-- A finished line goes to DEF and CLP (R243). -/
def State.cupSend (s : State) (n : Nat) (k : CupBlk) (o : CupLine) : State :=
  let x := s.cup n
  let s := if k.toDef && !(s.page (pgDEF n)).frozen then s.setCup n { x with toDef := x.toDef ++ [.line o] } else s
  s.cupToClp n k o

/-- Stages 2 to 5 of the line in the open block (R228 to R243). -/
def State.cupProcess (s : State) (n : Nat) (k : CupBlk) (l : CamLine) : State :=
  let p := pgCUP n
  let mode := s.fl p Reg.CUP.CFG 1 0
  let (s, k) := ((s.stageIn n l.k).ringReads n l.k).cupMissing n k l.k
  let x := s.refSetAt n l.reached
  let unchecked := mode = 1 ∧ s.refLive n = true ∧ x.bad = false ∧ s.refUnchecked n x l.k = true
  let late := decide (mode = 1 ∧ (s.refLive n = false ∨ unchecked))
  let s := if unchecked then s.refLate n else s
  let s := if late then ((s.sat p Reg.CUP.REFLATE 1).err p 4 0x1C4 (l.k % 2 ^ 20)) else s
  let (s, bad) := if mode = 1 ∧ late = false ∧ x.bad = false then ((s.refTakes n x l.k).refTileReads n x l.k).refReads n k x l.k else (s, [])
  let cols := s.cupColumns n k l late bad
  let voids := cols.any (·.void)
  let on := (cols.filter (·.on)).length
  let (s, k) := s.cupTake n k l.k
  let s := s.drawn.setRg64 p (Reg.CUP.slotSLLAST 0) (l.k % 2 ^ 48)
  let s := (s.inc p Reg.CUP.LINECNT 1).inc64 p Reg.CUP.ONCNT on
  let s := if voids then s.sat p Reg.CUP.VOIDCNT 1 else s
  let k := if mode = 2 ∧ l.pad = false then k.learn (s.cupNp n) cols else k
  let k := { k with pads := k.pads + b2n l.pad, prev := cols.map (·.on),
                    flags := k.flags ||| (if late then 2 ^ 14 else 0) ||| (if voids then 2 ^ 15 else 0),
                    onCols := (cols.zipIdx).foldl (fun a e => if e.1.on && !a.contains e.2 then e.2 :: a else a) k.onCols }
  let s := (if on = 0 then s else s.ffMark n l.k).setCup n { s.cup n with blk := some k, last := some l.k }
  s.cupSend n k ⟨l.k, l.pad, decide (mode = 1), cols, l.grid, l.t, x.pos l.k⟩

/-- A block whose close is known ends; closes of blocks without lines are dropped (R230). -/
def State.cupDone (s : State) (n : Nat) : State :=
  let x := s.cup n
  match x.blk with
  | some k =>
    let cs := x.closes.dropWhile (fun e => decide (e.b < k.b))
    let s := s.setCup n { x with closes := cs }
    match cs with
    | e :: es =>
      if e.b = k.b ∧ x.hold.any (fun h => h.1.b == k.b) = false then
        (s.setCup n { x with closes := es }).cupEndBlk n k e
      else s
    | [] => s
  | none => s.setCup n { x with closes := x.closes.dropWhile (fun e => !x.hold.any (fun h => h.1.b == e.b)) }

/-- The oldest held line enters stage 2 (R228, R230); in DRAIN no new block begins (R245). -/
def State.cupEnter (s : State) (n : Nat) : State :=
  match (s.cup n).hold with
  | [] => s
  | (l, _) :: rest =>
    let s := s.setCup n { s.cup n with hold := rest }
    let s := match (s.cup n).blk with
      | some k => if k.b = l.b then s else s.cupDone n
      | none => s
    match (s.cup n).blk with
    | some k => if k.b = l.b then s.cupProcess n k l else s
    | none =>
      if (s.page (pgCUP n)).state ≠ .run then s
      else
        let s := s.cupBegin n l.b
        match (s.cup n).blk with
        | some k => s.cupProcess n k l
        | none => s

/-- The Cupola takes lines into stage 2: not frozen. -/
def State.cupGoes (s : State) (n : Nat) : Bool := s.cupLive n && s.works (pgCUP n)

/-- STAGE2_ENTRY (R228): the oldest held line whose inputs are present. -/
def execStage2Entry (cup : Nat) (s : State) : Host.Outcome State Fault Refusal :=
  match (s.cup cup).hold with
  | [] => .next s
  | (l, _) :: _ => .next (if s.cupGoes cup ∧ s.furthersHere cup l.k = true then s.cupEnter cup else s)

/-- FWAIT_EXPIRY (R228): FWAIT cycles after the delivery of the oldest held line. -/
def execFwaitExpiry (cup : Nat) (s : State) : Host.Outcome State Fault Refusal :=
  match (s.cup cup).hold with
  | [] => .next s
  | (l, _) :: _ =>
    .next (if s.cupGoes cup ∧ l.at_ + s.rg (pgCUP cup) Reg.CUP.FWAIT ≤ s.cycle then s.cupEnter cup else s)

/-- The hold has a place: fewer than 8 delivered lines (R229). -/
def State.holdRoom (s : State) (n : Nat) : Bool := decide (((s.cup n).hold.filter (fun h => !h.2)).length < 8)

/-- The oldest held lines that wait for further lines enter stage 2 until the hold has a place (R229). -/
def State.holdMake (s : State) (n : Nat) : Nat → State
  | 0 => s
  | fuel + 1 =>
    match (s.cup n).hold with
    | (h, _) :: _ =>
      if !s.holdRoom n && s.cupGoes n && !s.furthersHere n h.k && decide (s.cycle < h.at_ + s.rg (pgCUP n) Reg.CUP.FWAIT) then
        (s.cupEnter n).holdMake n fuel
      else s
    | [] => s

/-- A home line enters the hold (R229). -/
def State.homeLine (s : State) (n : Nat) (l : CamLine) : State :=
  let s := s.holdMake n (s.cup n).hold.length
  if s.holdRoom n then s.setCup n { s.cup n with hold := (s.cup n).hold ++ [(l, false)] }
  else
    let s := s.cupOverrun n l.b l.k
    s.setCup n { s.cup n with hold := (s.cup n).hold ++ [({ l with pad := true }, true)] }

/-- HOME_LINE (R229): the next line of the home port; out of its RUN lines and closes are of blocks that have ended (R230). -/
def execHomeLine (cup : Nat) (s : State) : Host.Outcome State Fault Refusal :=
  match nextLine (s.cam (3 * cup)).out with
  | none => .next s
  | some (l, es, rest) =>
    if s.cupTakes cup = false then .next s
    else
      let s := s.setCam (3 * cup) { s.cam (3 * cup) with out := rest }
      .next (if (s.page (pgCAM (3 * cup))).state = .run then
          (s.setCup cup { s.cup cup with closes := (s.cup cup).closes ++ es }).homeLine cup l
        else s)

/-- The closes at the front of a port's output. -/
def frontCloses : List CamOut → List CamEnd × List CamOut
  | .close e :: r => let a := frontCloses r; (e :: a.1, a.2)
  | r => ([], r)

/-- The home port leaves RUN: the open block ends SHORT with the lines taken (R230). -/
def State.cupHomeLeft (s : State) (cam : Nat) : State :=
  let n := cam / 3
  if cam % 3 ≠ 0 ∨ s.cupLive n = false then s
  else
    let x := s.cup n
    let len := s.camBlen cam
    let s := (s.setCup n { x with hold := [], closes := [] }).dropPassed n 1 |>.dropPassed n 2
    let s := match x.blk with
      | some k =>
        let c := s.cam cam
        let ga := c.genOf (k.b * len)
        let gb := c.genOf (k.b * len + len - 1)
        s.cupEndBlk n k ⟨k.b, x.last.getD 0 + 1 - k.b * len, ga, gb,
          s.blkFlags cam k.b ||| 1 ||| 2 * b2n (ga != gb) ||| 8 * b2n (decide (0 < k.pads))⟩
      | none => s
    s.setCup n { s.cup n with last := none, passed := (x.last.map (fun k => (k, s.cycle))).or x.passed }

/-- BLKDONE (R230): every line the home block delivered has left stage 5; or the home port is in FAULT. -/
def execBlkdone (cup : Nat) (s : State) : Host.Outcome State Fault Refusal :=
  if s.cupGoes cup = false then .next s
  else if (s.page (pgCAM (3 * cup))).state = .fault ∧ (s.cup cup).blk.isSome then .next (s.cupHomeLeft (3 * cup))
  else
    let (es, rest) := frontCloses (s.cam (3 * cup)).out
    let s := s.setCam (3 * cup) { s.cam (3 * cup) with out := rest }
    let es := if (s.page (pgCAM (3 * cup))).state = .run then es else []
    .next ((s.setCup cup { s.cup cup with closes := (s.cup cup).closes ++ es }).cupDone cup)

/-! ## Curve memories (R233) -/

/-- The back entries that TCADDR and ICADDR name. -/
def State.tcKey (s : State) (n : Nat) : Nat :=
  n * 2 ^ 15 + (1 - s.toneFront n) * 2 ^ 14 + s.fl (pgCUP n) Reg.CUP.TCADDR 13 0
def State.icKey (s : State) (n : Nat) : Nat :=
  n * 2 ^ 15 + (1 - s.inkFront n) * 2 ^ 14 + s.fl (pgCUP n) Reg.CUP.ICADDR 13 0

/-- An address register increments after an access. -/
def State.addrNext (s : State) (n o : Nat) : State := s.setFl (pgCUP n) o 13 0 ((s.fl (pgCUP n) o 13 0 + 1) % 12288)

def State.tcWord (s : State) (n : Nat) : Nat := Tbl.getD s.tones (s.tcKey n) (Config.undefCell 4 s.epoch (s.tcKey n) % 4096)
def State.icWord (s : State) (n : Nat) : Nat := Tbl.getD s.inks (s.icKey n) 32768
def State.tcWrite (s : State) (n v : Nat) : State :=
  if s.cmx then
    let t := s.setCup n { s.cup n with toneHold := (s.cup n).toneHold.note s.cycle (s.tcKey n) (s.tcWord n) }
    { t with tones := Tbl.put s.tones (s.tcKey n) (v % 4096) }.addrNext n Reg.CUP.TCADDR
  else s
def State.tcRead (s : State) (n : Nat) : State :=
  if s.cmx then { s with readData := s.tcWord n }.addrNext n Reg.CUP.TCADDR else { s with readData := 0 }
def State.icWrite (s : State) (n v : Nat) : State :=
  let t := s.setCup n { s.cup n with inkHold := (s.cup n).inkHold.note s.cycle (s.icKey n) (s.icWord n) }
  { t with inks := Tbl.put s.inks (s.icKey n) (v % 65536) }.addrNext n Reg.CUP.ICADDR
def State.icRead (s : State) (n : Nat) : State := { s with readData := s.icWord n }.addrNext n Reg.CUP.ICADDR

/-- TCDATA_ACCESS (R233). -/
def execTcdataAccess (cup : Nat) (write : Bool) (value req : Nat) (s : State) : Host.Outcome State Fault Refusal :=
  if write then .next (s.gateU .cup cup req Reg.CUP.TCDATA value (·.tcWrite cup value))
  else if unitCount s.variant .cup ≤ cup then .next s
  else .next (s.readGate (pgCUP cup) req (·.tcRead cup))

/-- ICDATA_ACCESS (R233). -/
def execIcdataAccess (cup : Nat) (write : Bool) (value req : Nat) (s : State) : Host.Outcome State Fault Refusal :=
  if write then .next (s.gateU .cup cup req Reg.CUP.ICDATA value (·.icWrite cup value))
  else if unitCount s.variant .cup ≤ cup then .next s
  else .next (s.readGate (pgCUP cup) req (·.icRead cup))

/-! ## Register writes, RUN -/

/-- The home ports of the part (R13). -/
def State.homePort (s : State) (p : Nat) : Bool := (List.range (unitCount s.variant .cup)).any (fun c => 3 * c == p)

/-- Another Cupola's enabled slot holds the port, or will by a stored write (R13, R31). -/
def State.portHeld (s : State) (n p : Nat) : Bool :=
  (List.range (unitCount s.variant .cup)).any (fun c => c != n &&
    [1, 2].any (fun sl => s.slotPort c sl == some p || s.slotSoon c sl == some p))

/-- The code with which a write of PORTS fails, and the slot (R223): ABSENT for one of the 12 ports of R23 that the part
lacks, NOSLOT past them (R26). -/
def State.portsBad (s : State) (n v : Nat) : Option (Nat × Nat) :=
  let en := (if bit v 7 then [(1, bits v 3 0)] else []) ++ (if bit v 15 then [(2, bits v 11 8)] else [])
  match en.find? (fun e => decide (unitCount s.variant .cam ≤ e.2)) with
  | some e => some (if e.2 < 12 then 0x011 else 0x010, e.1)
  | none =>
    match en.find? (fun e => s.homePort e.2 || s.portHeld n e.2) with
    | some e => some (0x010, e.1)
    | none => if bit v 7 && bit v 15 && bits v 3 0 == bits v 11 8 then some (0x010, 2) else none

/-- A value outside a register's range (CUP registers). -/
def cupBad (o v : Nat) : Bool :=
  let st := fun (x : Nat) => decide (x ≠ 0) && (decide (x < 0x8001))
  (o == Reg.CUP.CFG && bits v 1 0 == 3) || (o == Reg.CUP.STAG && (st (bits v 15 0) || st (bits v 31 16))) ||
  (o == Reg.CUP.FWAIT && (decide (v < 1000) || decide (2 ^ 24 ≤ v))) ||
  (o == Reg.CUP.OUTW && (decide (bits v 16 0 < 16) || decide (98304 < bits v 16 0))) ||
  ((o == Reg.CUP.TCADDR || o == Reg.CUP.ICADDR) && decide (12287 < bits v 13 0)) ||
  ((o == Reg.CUP.STGBASE1 || o == Reg.CUP.STGBASE2 || o == Reg.CUP.BGBASE) && v % 64 != 0) ||
  (o == Reg.CUP.BGCTL && (bits v 5 0 == 0 || decide (32 < bits v 5 0)))

/-- Register writes of a Cupola with a rule of their own. -/
def State.cupOnWrite (s : State) (n o v : Nat) : Option State :=
  let p := pgCUP n
  if s.cmx = false ∧ (Reg.CUP.WB01 ≤ o ∧ o ≤ Reg.CUP.TCDATA) then some s
  else if cupBad o v then some (s.err p 1 0x1C1 o)
  else if o = Reg.CUP.TCDATA then some (s.tcWrite n v)
  else if o = Reg.CUP.ICDATA then some (s.icWrite n v)
  else if s.cmx = false ∧ o = Reg.CUP.CCTL then some (s.writeWord p o (v / 2 ^ 16 * 2 ^ 16)) -- R222: EDGETH alone
  else if o = Reg.CUP.PORTS ∧ (s.page p).run = false then
    match s.portsBad n v with
    | some (c, sl) => some (s.bindError p c sl)
    | none => some ((s.writeWord p o v).cupShow n)
  else if o = Reg.CUP.STAG then some ((s.writeWord p o v).cupShow n)
  else none

/-- The LSTORE regions of a Cupola: (base, bytes). -/
def State.lsRegions (s : State) (n : Nat) : List (Nat × Nat) :=
  [1, 2].filterMap (fun sl => if s.slotBytes n sl = 0 then none else some (s.lsBase n sl, s.slotBytes n sl))

/-- The first failing start check (R224). -/
def State.cupCheck (s : State) (n : Nat) : Option Nat :=
  let ps := (s.slotList n).map (·.2)
  let same := fun (f : Nat → Nat) => ps.all (fun p => f p == f (3 * n))
  let others := ((List.range (unitCount s.variant .cup)).filter (fun c => c != n && (s.page (pgCUP c)).state == .run)).flatMap
    s.lsRegions
  if !same (fun p => s.fl (pgCAM p) Reg.CAM.CFG 17 16) then some 1
  else if !same s.camBlen then some 2
  else if !same s.camPlanes then some 3
  else if (s.lsRegions n).any (fun r => decide (sramBytes s.variant 0 < r.1 + r.2) ||
      others.any (fun q => decide (r.1 < q.1 + q.2) && decide (q.1 < r.1 + r.2))) then some 4
  else if [1, 2].any (fun sl => s.staged n sl && s.stgBase n sl == 0) then some 5
  else if s.fl (pgCUP n) Reg.CUP.CFG 1 0 = 2 ∧ s.rg64 (pgCUP n) Reg.CUP.BGBASE = 0 then some 6
  else none

/-- Entry to RUN (R224, R240). -/
def State.cupOnRun (s : State) (n : Nat) : State :=
  let p := pgCUP n
  let s := (s.setCup n { Cup.reset with toDef := (s.cup n).toDef, toneHold := (s.cup n).toneHold, inkHold := (s.cup n).inkHold }).cupShow n |>.bgShow n false
  match s.cupCheck n with
  | some c => ((s.err p 0 0x1C0 c).setIst p 2).toFault p
  | none => s

/-- DRAIN is complete. -/
def State.cupDrained (s : State) (n : Nat) : Bool := (s.cup n).blk.isNone

/-- CTRL.EN = 0: the open block's output is dropped; what DEF was handed stays (R261, R266). -/
def State.cupOff (s : State) (n : Nat) : State :=
  let x := s.cup n
  let out := match x.blk with
    | some k => if k.toDef then x.toDef ++ [.drop k.b] else x.toDef
    | none => x.toDef
  (s.setCup n { Cup.reset with toDef := out, toneHold := x.toneHold, inkHold := x.inkHold }).cupShow n

/-- A soft reset: ink curves return to 32,768 (R237). -/
def State.cupReset (s : State) (n : Nat) : State :=
  { (s.cupOff n) with inks := s.inks.filter (fun e => !(e.1 / 2 ^ 15 == n)) }

end Sys2Proof.Machine
end

