-- ==== Sys2Proof/Machine/Compression.lean ====
section
/-!
DEFINITION. Compression engines CMP0 to CMP7 (14 R283 to R298): streams, frames, commands, completions.
-/

namespace Sys2Proof.Machine

def pgCMP (n : Nat) : Nat := 198 + n

/-- A compression engine beside its registers; a defect unit beside its registers. -/
def State.cmp (s : State) (n : Nat) : Cmp := Tbl.getD s.cmps n ⟨none, none⟩
def State.setCmp (s : State) (n : Nat) (x : Cmp) : State := { s with cmps := Tbl.put s.cmps n x }

/-- The oldest finished block of a defect unit has a snippet due (R259, R261). -/
def Def.wantsSnip (x : Def) : Bool :=
  match x.items with
  | .block _ _ _ (_ :: _) _ _ :: _ => true
  | _ => false

/-- A context-1 request waits at the engine (R284). -/
def State.snipWaits (s : State) (n : Nat) : Bool :=
  (List.range (unitCount s.variant .def_)).any (fun d =>
    (s.defOf d).wantsSnip && s.fl (pgDEF d) Reg.DEF.CTL 10 8 == n && s.works (pgDEF d) &&
      ((s.page (pgDEF d)).state == .run || (s.page (pgDEF d)).state == .drain) && s.running (pgCMP n) &&
      s.fb (pgCMP n) Reg.CMP.CTL 1)

/-! ## Blocks of a stream (R288, R290) -/

/-- A number as bits, least significant first. -/
def numBits (n v : Nat) : List Bool := (List.range n).map (bit v)

/-- An empty fixed-Huffman block of 10 bits. -/
def emptyFixed (final : Bool) : List Bool := final :: true :: false :: List.replicate 7 false

/-- A stored block at bit position `at_` (RFC 1951). -/
def storedBlock (at_ : Nat) (final : Bool) (data : List Byte) : List Bool :=
  [final, false, false] ++ List.replicate ((8 - (at_ + 3) % 8) % 8) false ++ numBits 16 data.length ++
    numBits 16 (65535 - data.length) ++ bitsOf data

/-- Bits padded to whole bytes. -/
def padByte (bs : List Bool) : List Bool := bs ++ List.replicate ((8 - bs.length % 8) % 8) false

/-- A symbol of a block: a literal, or a match of a length at a distance (R287). -/
inductive Tok where
  | lit (v : Nat)
  | ref (len dist : Nat)
deriving DecidableEq, Repr

/-- Depth of the search of a level, and whether it is lazy (R287). -/
def lzDepth (level : Nat) : Nat := [0, 1, 2, 4, 8, 16, 32, 64, 128, 256].getD level 256
def lzLazy (level : Nat) : Bool := decide (4 ≤ level)

/-- Bytes in which the strings at `i` and `j` agree, up to `n`. -/
def agree (d : Nat → Byte) (i j : Nat) : Nat → Nat
  | 0 => 0
  | n + 1 => if d i = d j then agree d (i + 1) (j + 1) n + 1 else 0

/-- The best match at `i` in data that ends at `stop`: the chain holds the earlier positions whose next 3 bytes have the
same hash, nearest first; the longest stands, of equal lengths the nearest (R287). -/
def lzMatch (level : Nat) (d : Nat → Byte) (i stop : Nat) : Option (Nat × Nat) :=
  if stop < i + 3 then none
  else
    let hash := fun (j : Nat) => Config.hash3 (d j).toNat (d (j + 1)).toNat (d (j + 2)).toNat
    let chain := ((List.range i).reverse.filter (fun j => hash j == hash i)).take (lzDepth level)
    let best := (chain.filter (fun j => decide (i ≤ j + 32768))).foldl (fun (a : Nat × Nat) j =>
      let n := agree d i j (min 258 (stop - i))
      if a.1 < n then (n, i - j) else a) (0, 0)
    if best.1 < 3 then none else some best

/-- The symbols of the bytes from `i` to `stop` (R287): greedy, or deferred by one byte for a longer match. -/
def lzToks (level : Nat) (d : Nat → Byte) (stop : Nat) : Nat → Nat → List Tok
  | 0, _ => []
  | fuel + 1, i =>
    if stop ≤ i then []
    else
      match lzMatch level d i stop with
      | none => .lit (d i).toNat :: lzToks level d stop fuel (i + 1)
      | some (n, x) =>
        let longer := match lzMatch level d (i + 1) stop with
          | some m => lzLazy level && decide (n < m.1)
          | none => false
        if longer then .lit (d i).toNat :: lzToks level d stop fuel (i + 1)
        else .ref n x :: lzToks level d stop fuel (i + n)

/-- `n` bits of a Huffman code, most significant first. -/
def codeBits (n v : Nat) : List Bool := (numBits n v).reverse

/-- A literal or length symbol in the fixed code (RFC 1951 3.2.6). -/
def fixedSym (y : Nat) : List Bool :=
  if y < 144 then codeBits 8 (48 + y) else if y < 256 then codeBits 9 (400 + (y - 144))
  else if y < 280 then codeBits 7 (y - 256) else codeBits 8 (192 + (y - 280))

/-- The number of the last base that is at most `v`. -/
def baseIdx (bases : List Nat) (v : Nat) : Nat := (bases.filter (fun b => decide (b ≤ v))).length - 1

/-- A symbol in the fixed code, its extra bits after it. -/
def fixedTok : Tok → List Bool
  | .lit v => fixedSym v
  | .ref n x =>
    let i := baseIdx lenBase n
    let j := baseIdx distBase x
    fixedSym (257 + i) ++ numBits (lenExtra.getD i 0) (n - lenBase.getD i 0) ++ codeBits 5 j ++
      numBits (distExtra.getD j 0) (x - distBase.getD j 0)

/-- The fixed-Huffman block of some symbols. -/
def fixedBlock (final : Bool) (ts : List Tok) : List Bool := [final, true, false] ++ ts.flatMap fixedTok ++ fixedSym 256

/-- The symbols of a block in two codes, and the bits after its end. -/
def readToks (h d : Huff) : Nat → List Bool → Option (List Tok × List Bool)
  | 0, _ => none
  | fuel + 1, l =>
    match h.sym l with
    | none => none
    | some (y, l) =>
      if y = 256 then some ([], l)
      else if y < 256 then (readToks h d fuel l).map (fun r => (.lit y :: r.1, r.2))
      else
        match takeNum (lenExtra.getD (y - 257) 0) l with
        | none => none
        | some (e, l) =>
          match d.sym l with
          | none => none
          | some (z, l) =>
            match takeNum (distExtra.getD z 0) l with
            | none => none
            | some (f, l) =>
              (readToks h d fuel l).map (fun r => (.ref (lenBase.getD (y - 257) 0 + e) (distBase.getD z 0 + f) :: r.1, r.2))

/-- The bits are one dynamic-Huffman block of exactly these symbols. -/
def dynBlock (final : Bool) (ts : List Tok) (l : List Bool) : Bool :=
  match l with
  | f :: false :: true :: l =>
    match dynCodes l with
    | .ok (h, d, l) => f == final && decide (readToks h d (l.length + 1) l = some (ts, []))
    | .error _ => false
  | _ => false

/-- The bits of a block that closes (R288): the shortest form in whole bytes; ties go to stored, then to fixed. The codes of
the dynamic form are free (log entry 34): its bits stand when they are a dynamic block of the same symbols. Level 0
writes stored blocks only, but for the empty stream (R287). -/
def closeBlock (level : Nat) (before : List Bool) (earlier data : List Byte) (final : Bool) : List Bool :=
  if data = [] then (if level = 0 ∧ earlier ≠ [] then storedBlock before.length final [] else emptyFixed final)
  else
    let size := fun (l : List Bool) => (before.length + l.length + 7) / 8
    let stored := storedBlock before.length final data
    if level = 0 then stored
    else
      let all := earlier ++ data
      let ts := lzToks level (fun i => all.getD i 0) all.length data.length earlier.length
      let fixed := fixedBlock final ts
      let dyn := Config.deflate level (before.length % 8) earlier data final
      let rest := if dynBlock final ts dyn && decide (size dyn < size fixed) then dyn else fixed
      if size stored ≤ size rest then stored else rest

/-- The pending block closes. -/
def CmpStream.close (x : CmpStream) (final : Bool) : CmpStream :=
  let earlier := x.input.take (x.input.length - x.pend.length)
  { x with bits := x.bits ++ closeBlock x.level x.bits earlier x.pend final, pend := [] }

/-- Input enters the stream; a block closes after 65,535 bytes (R288). -/
def CmpStream.feed : Nat → CmpStream → List Byte → CmpStream
  | 0, x, _ => x
  | fuel + 1, x, bs =>
    let room := 65535 - x.pend.length
    let y := { x with input := x.input ++ bs.take room, pend := x.pend ++ bs.take room }
    if bs.length ≤ room then y else CmpStream.feed fuel (y.close false) (bs.drop room)

/-- Input bytes used when the output stops after `lim` bytes of payload: those of the blocks up to the one that goes beyond
(DESIGN CHOICE, log entry 34). -/
def CmpStream.usedFor (lim : Nat) : Nat → CmpStream → List Byte → Nat
  | 0, _, bs => bs.length
  | fuel + 1, x, bs =>
    let room := 65535 - x.pend.length
    if bs.length ≤ room then bs.length
    else
      let y := ({ x with input := x.input ++ bs.take room, pend := x.pend ++ bs.take room } : CmpStream).close false
      if lim < y.bits.length / 8 - x.written then room else room + CmpStream.usedFor lim fuel y (bs.drop room)

/-- A flush (R290): the block closes; an empty stored block when it ends mid-byte. -/
def CmpStream.flush (x : CmpStream) : CmpStream :=
  let y := if x.pend = [] then x else x.close false
  if y.bits.length % 8 = 0 then y else { y with bits := y.bits ++ storedBlock y.bits.length false [] }

/-- Bits as bytes. -/
def bitBytes : Nat → List Bool → List Byte
  | 0, _ => []
  | n + 1, l => BitVec.ofNat 8 ((l.take 8).foldr (fun b a => b2n b + 2 * a) 0) :: bitBytes n (l.drop 8)

/-- The payload bytes complete by now and not yet written. -/
def CmpStream.fresh (x : CmpStream) (final : Bool) : List Byte :=
  let l := if final then padByte x.bits else x.bits
  bitBytes (l.length / 8 - x.written) (l.drop (8 * x.written))

/-- Header and trailer of a frame (R286). -/
def frameHead (level : Nat) (flushed : Bool) : List Byte := leBytes 2 0x5A4B ++ leBytes 1 1 ++ leBytes 1 (level + 16 * b2n flushed)
def frameTail (input : List Byte) (plen : Nat) : List Byte :=
  leBytes 4 input.length ++ leBytes 4 plen ++ leBytes 4 (crc32 polyC input)

/-- A whole framed stream of one input (R286), as a snippet request writes it. -/
def frameOf (level : Nat) (data : List Byte) : List Byte :=
  let x := (CmpStream.feed (data.length / 65535 + 2) ⟨level, false, [], [], [], 0, none⟩ data).close true
  let pl := x.fresh true
  frameHead level false ++ pl ++ frameTail data pl.length

/-! ## Output buffers (R291) -/

/-- What a job has written: buffers written into, bytes, 0 or OVERFLOW 6 or DRAM 7, and the buffers in order. -/
structure CmpOut where
  k : Nat
  n : Nat
  code : Nat
  bufs : List (Nat × Nat)
deriving DecidableEq, Repr

/-- Output goes to a buffer, then to the entries of the chain, each read when it is needed (R291, R297). -/
def State.cmpWrite (s : State) (p : Nat) : Nat → Nat × Nat → Nat → List Byte → CmpOut → State × CmpOut
  | more, buf, chain, bs, a =>
    let now := bs.take buf.2
    let rest := bs.drop buf.2
    match (if now = [] then (s, true) else s.dramWrite (unitWho p) buf.1 now) with
    | (s, false) => (s, { a with code := 7 })
    | (s, true) =>
      let a := if now = [] then a else { a with k := a.k + 1, n := a.n + now.length, bufs := a.bufs ++ [buf] }
      if rest = [] then (s, a)
      else
        match more with
        | 0 => (s, { a with code := 6 })
        | m + 1 =>
          match s.dramRead (unitWho p) chain 16 with
          | (s, none) => (s, { a with code := 7 })
          | (s, some e) => s.cmpWrite p m (leAt e 0 8, leAt e 8 4) (chain + 16) rest a

/-- Output of a command to its buffers. -/
def State.cmpStore (s : State) (p : Nat) (c : List Byte) (bs : List Byte) : State × CmpOut :=
  let n := if leAt c 0x28 8 = 0 then 0 else leAt c 0x30 2
  s.cmpWrite p n (leAt c 0x20 8, leAt c 0x1C 4) (leAt c 0x28 8) bs ⟨0, 0, 0, []⟩

/-- The address of byte `i` of the output. -/
def outAddr : List (Nat × Nat) → Nat → Option Nat
  | [], _ => none
  | (a, len) :: r, i => if i < len then some (a + i) else outAddr r (i - len)

/-! ## Commands (R284, R285, R294) -/

/-- The command is refused as BADCMD, its stream aside (R295). -/
def badCmd (c : List Byte) (openStream : Bool) : Bool :=
  let op := leAt c 0 1
  let cf := leAt c 1 1
  let noBuf := leAt c 0x1C 4 == 0 && (leAt c 0x28 8 == 0 || leAt c 0x30 2 == 0)
  op == 0 || decide (3 < op) || decide (9 < leAt c 2 1) || decide (7 < cf) || leAt c 3 1 != 0 || leAt c 6 2 != 0 ||
    leAt c 0x32 6 != 0 || leAt c 0x3C 4 != 0 || (op == 2 && (decide (2 ≤ cf) || openStream || leAt c 0x18 4 == 0)) ||
    (op != 3 && noBuf)

/-- The engine takes a command of context 0 now (R284, R285, R298). -/
def State.cmpReady (s : State) (n : Nat) : Bool :=
  s.unitRuns .cmp n && s.fb (pgCMP n) Reg.CMP.CTL 0 && (s.cmp n).job.isNone && !s.snipWaits n &&
    decide (1 ≤ s.portRoom (pgCMP n) 1)

/-- JSTAT and STRLEN follow the engine. -/
def State.cmpShow (s : State) (n : Nat) : State :=
  let p := pgCMP n
  let x := s.cmp n
  let s := s.setRg p Reg.CMP.JSTAT (if x.job.isSome then 1 else if x.stream.isSome then 2 else 0)
  s.setRg p Reg.CMP.STRLEN (match x.stream with
    | some y => y.input.length % 2 ^ 32
    | none => 0)

/-- The job has done its work with a code. -/
def State.cmpEnd (s : State) (n : Nat) (st : Option CmpStream) (j : CmpJob) : State :=
  (s.setCmp n ⟨st, some j⟩).cmpShow n

/-- CRC-32C of the uncompressed data of the open stream so far (R295). -/
def crcSoFar (x : Option CmpStream) : Nat :=
  match x with
  | some y => crc32 polyC y.input
  | none => 0

/-- A command with the given OP at the front of the CMD queue is taken; `f` does its work. -/
def State.cmpTake (s : State) (n : Nat) (mine : Nat → Bool) (f : State → List Byte → State) : State :=
  if s.cmpReady n = false then s
  else
    match s.peek (pgCMP n) 0 with
    | (t, none) => t
    | (t, some c) =>
      if mine (leAt c 0 1) = false then s
      else
        let t := t.consume (pgCMP n) 0
        let x := t.cmp n
        if badCmd c x.stream.isSome then t.cmpEnd n x.stream ⟨leAt c 0 1, leAt c 8 8, 1, 0, 0, 0, crcSoFar x.stream⟩ else f t c

/-- COMPRESS of an accepted command (R287 to R291). -/
def State.cmpCompress (s : State) (n : Nat) (c : List Byte) : State :=
  let p := pgCMP n
  let level := leAt c 2 1
  let cf := leAt c 1 1
  let raw := bit cf 0
  let more := bit cf 1
  let job := fun (code k i o crc : Nat) => (⟨1, leAt c 8 8, code, k, i, o, crc⟩ : CmpJob)
  let old := (s.cmp n).stream
  let x := old.getD ⟨level, raw, [], [], [], 0, none⟩
  if x.level ≠ level ∨ x.raw ≠ raw then s.cmpEnd n old (job 1 0 0 0 (crcSoFar old))
  else
    match s.dramRead (unitWho p) (leAt c 0x10 8) (leAt c 0x18 4) with
    | (s, none) => s.cmpEnd n none (job 7 0 0 0 (crcSoFar old))
    | (s, some data) =>
      if 2 ^ 32 ≤ x.input.length + data.length then s.cmpEnd n none (job 4 0 0 0 (crcSoFar old))
      else
        let y := CmpStream.feed (data.length / 65535 + 2) x data
        let flush := more && bit cf 2
        let y := if flush then y.flush else if more then y else y.close true
        let pl := y.fresh (!more)
        let total := y.written + pl.length
        let head := if raw || old.isSome then [] else frameHead level flush
        let tail := if raw || more then [] else frameTail y.input total
        let (s, o) := s.cmpStore p c (head ++ pl ++ tail)
        let crc := crc32 polyC y.input
        if o.code ≠ 0 then
          let used := if o.n < head.length then 0
            else CmpStream.usedFor (o.n - head.length) (data.length / 65535 + 2) x data
          s.cmpEnd n none (job o.code o.k used o.n (crc32 polyC (x.input ++ data.take used)))
        else
          let hdr := match old with
            | some z => z.hdr
            | none => if raw then none else outAddr o.bufs 3
          let (s, ok) := match flush && old.isSome, hdr with
            | true, some a => s.dramWrite (unitWho p) a (leBytes 1 (level + 16))
            | _, _ => (s, true)
          s.cmpEnd n (if more && ok then some { y with written := total, hdr := hdr } else none)
            (job (if ok then 0 else 7) o.k data.length o.n crc)

/-- COMPRESS (R287): also takes a command of an unknown OP, which ends with BADCMD. -/
def execCompress (eng : Nat) (s : State) : Host.Outcome State Fault Refusal :=
  .next (s.cmpTake eng (fun op => op != 2 && op != 3) (fun t c => t.cmpCompress eng c))

/-- What the trailer check of a frame finds (R292): LENGTH 4, CRC 3. -/
def tailCode (bs out : List Byte) (used : Nat) : Nat :=
  let t := bs.drop (4 + used)
  if bs.length ≠ 16 + used ∨ leAt t 4 4 ≠ used ∨ leAt t 0 4 ≠ out.length then 4
  else if leAt t 8 4 ≠ crc32 polyC out then 3
  else 0

/-- DECOMPRESS of an accepted command (R292, R293): where the buffers end first, what was inflated up to there counts. -/
def State.cmpInflate (s : State) (n : Nat) (c : List Byte) : State :=
  let p := pgCMP n
  let raw := bit (leAt c 1 1) 0
  let job := fun (code k i o crc : Nat) => (⟨2, leAt c 8 8, code, k, i, o, crc⟩ : CmpJob)
  match s.dramRead (unitWho p) (leAt c 0x10 8) (leAt c 0x18 4) with
  | (s, none) => s.cmpEnd n none (job 7 0 0 0 0)
  | (s, some bs) =>
    if raw = false ∧ bs.length < 4 then s.cmpEnd n none (job 8 0 bs.length 0 0)
    else if raw = false ∧ (leAt bs 0 2 ≠ 0x5A4B ∨ leAt bs 2 1 ≠ 1) then s.cmpEnd n none (job 9 0 4 0 0)
    else
      let ratio := if leAt c 4 2 = 0 then 1032 else leAt c 4 2
      let noMax := decide (leAt c 0x38 4 = 0)
      let top := if noMax then 2 ^ 32 - 1 else leAt c 0x38 4
      let src := if raw then bs else bs.drop 4
      let (why, out, used) := inflateLim top ratio src
      let (s, o) := s.cmpStore p c out
      let (out, used) := if o.code ≠ 0 then
          let r := inflateLim (min top o.n) ratio src
          (r.2.1, r.2.2)
        else (out, used)
      let code := if o.code = 6 then (if noMax then 5 else 6)
        else if o.code ≠ 0 then o.code
        else match why with
          | 0 => if raw then 0 else tailCode bs out used
          | 1 => 2
          | 2 => if noMax ∧ out.length = top then 4 else 5
          | _ => 8
      let inUsed := if raw then used else if why = 0 ∧ o.code = 0 then min bs.length (16 + used) else 4 + used
      s.cmpEnd n none (job code o.k inUsed o.n (crc32 polyC out))

/-- DECOMPRESS (R292). -/
def execDecompress (eng : Nat) (s : State) : Host.Outcome State Fault Refusal :=
  .next (s.cmpTake eng (· == 2) (fun t c => t.cmpInflate eng c))

/-- ABORT (R290): an open stream closes without final block or trailer. -/
def execAbort (eng : Nat) (s : State) : Host.Outcome State Fault Refusal :=
  .next (s.cmpTake eng (· == 3) (fun t c =>
    t.cmpEnd eng none ⟨3, leAt c 8 8, 0, 0, 0, 0, crcSoFar (t.cmp eng).stream⟩))

/-- A job is counted; a code other than OK is an error of the engine (R296). -/
def State.cmpCount (s : State) (n ctx code i o : Nat) : State :=
  let p := pgCMP n
  let s := ((s.inc p Reg.CMP.JOBCNT 1).inc64 p Reg.CMP.INBYTES i).inc64 p Reg.CMP.OUTBYTES o
  if code = 0 then s
  else
    let s := (s.sat p Reg.CMP.ERRJOBS 1).err p (code - 1) (0x1F0 + code) (ctx * 2 ^ 19 + s.rg p Reg.CMP.JOBCNT % 2 ^ 19)
    let s := if code = 5 then s.sat p Reg.CMP.EXPANDCNT 1 else s
    s.happen p 1 n

/-- CMP_JOB_END (R295, R296). -/
def execCmpJobEnd (eng : Nat) (s : State) : Host.Outcome State Fault Refusal :=
  let p := pgCMP eng
  let st := (s.page p).state
  match (s.cmp eng).job with
  | none => .next s
  | some j =>
    if (st == .run || st == .drain) && s.works p then
      let e := leBytes 8 j.tag ++ leBytes 1 j.code ++ leBytes 1 j.op ++ leBytes 2 j.bufs ++ leBytes 4 j.inUsed ++
        leBytes 4 j.outBytes ++ leBytes 4 j.crc ++ leBytes 8 0
      let s := (s.setCmp eng { s.cmp eng with job := none }).cmpCount eng 0 j.code j.inUsed j.outBytes
      let s := ((s.setRg64 p Reg.CMP.LASTTAG j.tag).setIst p 0).cmpShow eng
      .next (s.post p 1 [e]).1
    else .next s

/-- The engine accepts requests of DEF: STATE RUN and CTL.INTEN = 1 (R298). -/
def State.cmpAccepts (s : State) (n : Nat) : Bool :=
  decide (n < unitCount s.variant .cmp) && (s.page (pgCMP n)).state == .run && s.fb (pgCMP n) Reg.CMP.CTL 1

/-- A snippet request of DEF at context 1 (R259, R291, R296, R298): the length of its frame, written at `at_`, or nothing
when the engine refuses it or its write ends with an error. -/
def State.cmpSnippet (s : State) (n level : Nat) (data : List Byte) (at_ : Nat) : State × Option Nat :=
  if s.cmpAccepts n then
    let f := frameOf level data
    match s.dramWrite (unitWho (pgCMP n)) at_ f with
    | (s, true) => (s.cmpCount n 1 0 data.length f.length, some f.length)
    | (s, false) => (s.cmpCount n 1 7 data.length 0, none)
  else (s, none)

/-- Entry to RUN (R298). -/
def State.cmpOnRun (s : State) (n : Nat) : State :=
  let p := pgCMP n
  if s.fb p Reg.CMP.CTL 0 && !(s.portEsize p 0 == some 64 && s.portEsize p 1 == some 32) then
    (s.err p 9 0x1FA 0).toFault p
  else s

/-- DRAIN is complete. -/
def State.cmpDrained (s : State) (n : Nat) : Bool := (s.cmp n).job.isNone

/-- CTRL.EN = 0 or a soft reset (R298). -/
def State.cmpOff (s : State) (n : Nat) : State := (s.setCmp n ⟨none, none⟩).cmpShow n

end Sys2Proof.Machine
end

