-- ==== Sys2Proof/Machine/Defect.lean ====
section
/-!
DEFINITION. Segmentation and defect records DEF0 to DEF3 (12 R246 to R266): components, records, snippets, publication.
-/

namespace Sys2Proof.Machine

/-- Columns of a line as runs of ON pixels, ascending (R248). -/
def onRuns : List Bool → Nat → Option Nat → List (Nat × Nat)
  | [], _, none => []
  | [], j, some a => [(a, j - 1)]
  | true :: r, j, none => onRuns r (j + 1) (some j)
  | true :: r, j, some a => onRuns r (j + 1) (some a)
  | false :: r, j, none => onRuns r (j + 1) none
  | false :: r, j, some a => (a, j - 1) :: onRuns r (j + 1) none

/-- A run of columns `a` to `b` touches one of the runs (R248). -/
def touches (rs : List (Nat × Nat)) (a b : Nat) : Bool := rs.any (fun r => decide (r.1 ≤ b + 1) && decide (a ≤ r.2 + 1))

/-- The measures of one run (R253). -/
def runComp (l : CupLine) (a b ptp : Nat) : Comp :=
  let cols := (l.cols.drop a).take (b + 1 - a)
  let js := span a (b + 1 - a)
  let n := js.length
  let sj := js.foldl (· + ·) 0
  let nd := match cols with
    | c :: _ => c.d.length
    | [] => 0
  { firstK := l.k, firstJ := a, area := n, kf := l.k, kl := l.k, jf := a, jl := b
    sd := (List.range nd).map (fun i => cols.foldl (fun (t : Int) c => t + c.d.getD i 0) 0)
    sj := sj, sk := n * l.k, sjj := js.foldl (fun t j => t + j * j) 0, skk := n * l.k * l.k, sjk := sj * l.k
    slots := cols.foldl (fun m c => m ||| 2 ^ c.slot) 0, bright := cols.any (·.bright), dark := cols.any (·.dark)
    gridF := l.grid, gridL := l.grid, ptp := ptp, lastK := l.k, runs := [], cur := [(a, b)] }

/-- Two components together (R248): the identity of the one whose first pixel came first. -/
def Comp.join (x y : Comp) : Comp :=
  let xf := decide (x.firstK < y.firstK) || (x.firstK == y.firstK && decide (x.firstJ ≤ y.firstJ))
  { firstK := if xf then x.firstK else y.firstK, firstJ := if xf then x.firstJ else y.firstJ
    area := x.area + y.area, kf := min x.kf y.kf, kl := max x.kl y.kl, jf := min x.jf y.jf, jl := max x.jl y.jl
    sd := (List.range (max x.sd.length y.sd.length)).map (fun i => x.sd.getD i 0 + y.sd.getD i 0)
    sj := x.sj + y.sj, sk := x.sk + y.sk, sjj := x.sjj + y.sjj, skk := x.skk + y.skk, sjk := x.sjk + y.sjk
    slots := x.slots ||| y.slots, bright := x.bright || y.bright, dark := x.dark || y.dark
    gridF := if x.kf ≤ y.kf then x.gridF else y.gridF, gridL := if y.kl ≤ x.kl then x.gridL else y.gridL
    ptp := if x.kf ≤ y.kf then x.ptp else y.ptp, lastK := min x.lastK y.lastK
    runs := x.runs ++ y.runs, cur := x.cur ++ y.cur }

/-- Pixels go to the catch-all (R250, R251). -/
def DefBlk.catchAdd (k : DefBlk) (c : Comp) : DefBlk :=
  { k with catch_ := some (match k.catch_ with
      | some x => x.join c
      | none => c) }

/-- The working state of a line: block, runs of the catch-all in this line, places absorbed by merges in this line. -/
structure LineWork where
  k : DefBlk
  caught : List (Nat × Nat)
  absorbed : Nat
deriving DecidableEq, Repr

/-- One run of line `l` (R248, R250). -/
def LineWork.run (w : LineWork) (l : CupLine) (ptp a b : Nat) : LineWork :=
  let c := runComp l a b ptp
  let near := fun (x : Comp) => decide (x.lastK + 1 = l.k) && touches x.runs a b
  match w.k.comps.filter near with
  | [] =>
    if w.k.lastLine.any (fun i => i + 1 == l.k) && touches w.k.catchRuns a b then { w with k := w.k.catchAdd c, caught := w.caught ++ [(a, b)] }
    else if 2048 ≤ w.k.comps.length + w.absorbed then
      { w with k := { w.k.catchAdd c with ovf := w.k.ovf + 1 }, caught := w.caught ++ [(a, b)] }
    else { w with k := { w.k with comps := w.k.comps ++ [c] } }
  | h :: hs =>
    { w with k := { w.k with comps := w.k.comps.filter (fun x => !near x) ++ [(hs.foldl Comp.join h).join c] }
             absorbed := w.absorbed + hs.length }

/-- Lowest column of a component's last runs (R256). -/
def Comp.lowCol (x : Comp) : Nat := x.runs.foldl (fun a r => min a r.1) (2 ^ 20)

/-- Insertion by lowest column. -/
def insertComp (x : Comp) : List Comp → List Comp
  | [] => [x]
  | y :: r => if x.lowCol < y.lowCol then x :: y :: r else y :: insertComp x r

/-- A component closes (R249, R251, R252). -/
def DefBlk.closeComp (k : DefBlk) (maxrec : Nat) (x : Comp) : DefBlk :=
  if x.area < k.minarea then { k with small := k.small + 1 }
  else if maxrec ≤ k.recs.length + 2 then { k.catchAdd x with folded := k.folded + 1 }
  else { k with recs := k.recs ++ [x] }

/-- The records after the first `n`, which share a closing line, in the order of R256: ascending lowest column of the last
run. -/
def sortClosed (recs : List Comp) (n : Nat) : List Comp :=
  recs.take n ++ (recs.drop n).foldl (fun a x => insertComp x a) []

/-- The components close in the order of R256. -/
def DefBlk.closeAll (k : DefBlk) (maxrec : Nat) (xs : List Comp) : DefBlk :=
  (xs.foldl (fun a x => insertComp x a) []).foldl (fun b x => b.closeComp maxrec x) k

/-- A line in segmentation (R248 to R252). -/
def DefBlk.line (k : DefBlk) (maxrec ptp : Nat) (l : CupLine) : DefBlk :=
  let runs := onRuns (l.cols.map (·.on)) 0 none
  let w : LineWork := runs.foldl (fun (w : LineWork) r => w.run l ptp r.1 r.2) ⟨k, [], 0⟩
  let live := w.k.comps.filter (fun x => !x.cur.isEmpty)
  let done := w.k.comps.filter (fun x => x.cur.isEmpty)
  let live := live.map (fun (x : Comp) => { x with runs := x.cur, cur := [], lastK := l.k })
  let on := (l.cols.filter (fun c => c.on)).length
  let k : DefBlk :=
    { w.k with comps := live, catchRuns := w.caught, onPix := w.k.onPix + on, lastLine := some l.k, kept := w.k.recs.length }
  k.closeAll maxrec done

/-! ## Records (R253 to R256) -/

/-- ELONG (R253): the greatest m up to 255 with m² (λ2 + 1/12) ≤ 16 (λ1 + 1/12), in integers. -/
def Comp.elong (x : Comp) : Nat :=
  let n : Int := x.area
  let a := n * x.sjj - (x.sj : Int) * x.sj
  let b := n * x.skk - (x.sk : Int) * x.sk
  let c := n * x.sjk - (x.sj : Int) * x.sk
  let q := (a - b) * (a - b) + 4 * c * c
  ((span 1 255).filter (fun (m : Nat) =>
    let f : Int := (m : Int) * m + 16
    let l := ((m : Int) * m - 16) * (6 * (a + b) + n * n)
    decide (l ≤ 0) || decide (l * l ≤ 36 * f * f * q))).length

/-- MEAN_c in 1/8, signed 16-bit saturating (R253). -/
def Comp.mean (x : Comp) (c : Nat) : Int :=
  match x.sd[c]? with
  | some v => clamp (-32768) 32767 (Int.fdiv (v * 8) x.area)
  | none => 0

/-- XSTART, XEND: floor((X_j ± SP/2) / 256), signed 32-bit saturating (R253). -/
def DefBlk.edge (k : DefBlk) (j : Nat) (right : Bool) : Int :=
  clamp (-2 ^ 31) (2 ^ 31 - 1)
    (shr (2 * (k.x0 + (j * k.sp : Nat)) + (if right then (k.sp : Int) else -(k.sp : Int))) 33)

/-- The 64 bytes of a record from its fields (R254). -/
def recBytes (idx info elong flags gen b : Nat) (mean0 wposf : Int) (dw : Nat) (xs xe : Int) (area bba bbb : Nat)
    (w30 snph ptp : Nat) : List Byte :=
  leBytes 2 idx ++ leBytes 1 info ++ leBytes 1 elong ++ leBytes 2 flags ++ leBytes 2 gen ++ leBytes 6 b ++
    leBytes 2 (enc2 16 mean0) ++ leBytes 8 (enc2 64 wposf) ++ leBytes 4 dw ++ leBytes 4 (enc2 32 xs) ++
    leBytes 4 (enc2 32 xe) ++ leBytes 4 area ++ leBytes 4 bba ++ leBytes 4 bbb ++ leBytes 4 w30 ++ leBytes 4 snph ++
    leBytes 8 ptp

/-- A difference of grid points in units of 256 WU, saturating (R253). -/
def dwpos (a b : Int) : Nat := (clamp 0 (2 ^ 32 - 1) (Int.fdiv (b - a) 256)).toNat

/-- A DEFECT (kind 0) or CATCHALL (kind 1) record (R254, R255). -/
def DefBlk.record (k : DefBlk) (cup len outw kind : Nat) (e : CupEnd) (idx : Nat) (x : Comp) : List Byte :=
  let base := k.b * len
  let flags := b2n k.catch_.isSome + 2 * b2n (x.kf == base) + 4 * b2n (x.kl == base + len - 1) + 8 * b2n (x.jf == 0) +
    16 * b2n (x.jl + 1 == outw) + 32 * b2n x.bright + 64 * b2n x.dark + bits e.flags 15 8 * 256
  recBytes idx (cup + 4 * kind + x.slots % 8 * 32) (if kind = 0 then x.elong else 0) flags e.genA k.b (x.mean 0) x.gridF
    (dwpos x.gridF x.gridL) (k.edge x.jf false) (k.edge x.jl true) (min (2 ^ 32 - 1) x.area)
    (x.jf + (x.kf - base) * 2 ^ 17) (x.jl + (x.kl - base) * 2 ^ 17)
    (enc2 16 (x.mean 1) + enc2 16 (x.mean 2) * 2 ^ 16) 0xFFFFFFFF x.ptp

/-- The BLOCKEND record (R255). -/
def DefBlk.blockEnd (k : DefBlk) (cup : Nat) (e : CupEnd) (n : Nat) : List Byte :=
  recBytes n (cup + 4 * 3) 0 (b2n k.catch_.isSome) 0 k.b 0 e.grid0 (dwpos e.grid0 e.gridE) 0 0 (min (2 ^ 32 - 1) k.onPix)
    (k.small % 2 ^ 32) (k.ovf % 2 ^ 32) e.flags 0xFFFFFFFF e.ptp

/-- All records of a block in the order of R256. -/
def DefBlk.records (k : DefBlk) (cup len outw : Nat) (berec : Bool) (e : CupEnd) : List (List Byte) :=
  let ds := (k.recs.zipIdx).map (fun x => k.record cup len outw 0 e x.2 x.1)
  let cs := match k.catch_ with
    | some x => [k.record cup len outw 1 e ds.length x]
    | none => []
  ds ++ cs ++ (if berec then [k.blockEnd cup e (ds.length + cs.length)] else [])

/-- FLAGS bit NOSNP set in a record. -/
def setNosnp (r : List Byte) : List Byte := r.take 4 ++ leBytes 2 (leAt r 4 2 ||| 128) ++ r.drop 6

/-- SNPH set in a record. -/
def setSnph (r : List Byte) (h : Nat) : List Byte := r.take 0x34 ++ leBytes 4 h ++ r.drop 0x38

/-- Element `i` of a list changed. -/
def alter {α : Type} (l : List α) (i : Nat) (f : α → α) : List α := (l.zipIdx).map (fun e => if e.2 = i then f e.1 else e.1)

/-! ## Lines and block ends -/

/-- NPL of the ring and its line bytes LB (R257). -/
def State.snpNpl (s : State) (n : Nat) : Nat := if s.fb (pgDEF n) Reg.DEF.CTL 3 then s.cupNp n else 1
def State.snpLb (s : State) (n : Nat) : Nat := (s.outw n * s.snpNpl n + 63) / 64 * 64

/-- Ring address of line `i` of block `b` (R257). -/
def State.ringAddr (s : State) (n b i : Nat) : Nat :=
  s.rg64 (pgDEF n) Reg.DEF.SNPRING +
    (b % (s.fl (pgDEF n) Reg.DEF.DEADLINE 3 0 + 1) * s.camBlen (3 * n) + i) * s.snpLb n

/-- The ring bytes of a column (R257). -/
def State.snpPixel (s : State) (n : Nat) (c : CupCol) : List Byte :=
  let p := pgDEF n
  let v := fun i => if s.fb p Reg.DEF.CTL 2 then (clamp 0 255 (Int.fdiv (c.d.getD i 0) 32 + 128)).toNat else c.m.getD i 0 / 16
  ((if s.fb p Reg.DEF.CTL 3 then List.range (s.cupNp n) else [s.fl p Reg.DEF.CTL 5 4])).map (fun i => BitVec.ofNat 8 (v i))

/-- A line is written to the ring when SNPEN = 1 (R257). -/
def State.ringWrite (s : State) (n b : Nat) (l : CupLine) : State :=
  if s.fb (pgDEF n) Reg.DEF.CTL 0 then
    (s.dramWrite (unitWho (pgDEF n)) (s.ringAddr n b (l.k % s.camBlen (3 * n))) (l.cols.flatMap (s.snpPixel n))).1
  else s

/-- Counters and log entries of what a line or a block end did to the block (R250 to R252). -/
def State.defCounts (s : State) (n : Nat) (old new : DefBlk) : State :=
  let p := pgDEF n
  let s := (s.sat p Reg.DEF.SMALLCNT (new.small - old.small)).sat p Reg.DEF.OVFCOMP (new.ovf - old.ovf)
  let s := if old.ovf = 0 ∧ new.ovf ≠ 0 then
      (s.err p 3 0x1D3 (new.b % 2 ^ 20)).happen p 2 (n * 65536 + new.b % 65536) else s
  let s := s.sat p Reg.DEF.OVFREC (new.folded - old.folded)
  if old.folded = 0 ∧ new.folded ≠ 0 then s.err p 4 0x1D4 (new.b % 2 ^ 20) else s

/-- MAXREC. -/
def State.maxRec (s : State) (n : Nat) : Nat := s.fl (pgDEF n) Reg.DEF.MAXREC 14 0

/-- A line reaches segmentation (R248). -/
def State.defLine (s : State) (n : Nat) (l : CupLine) : State :=
  match (s.defOf n).blk with
  | none => s
  | some k =>
    let k' := k.line (s.maxRec n) (s.timeNsAt16 (shr l.t 16 * 65536)) l
    let s := s.setDef n { s.defOf n with blk := some k' }
    let s := (s.defShow n).defCounts n k k'
    s.ringWrite n k.b l

/-- Integer part of the crop extents of a due snippet (R258). -/
def DefBlk.snip (k : DefBlk) (len idx : Nat) (x : Comp) : Snip := ⟨idx, x.jf, x.jl, x.kf - k.b * len, x.kl - k.b * len⟩

/-- A block is handed over (R230, R261, R262): its components close, its records are formed. -/
def State.defClose (s : State) (n : Nat) (e : CupEnd) : State :=
  match (s.defOf n).blk with
  | none => s
  | some k =>
    let p := pgDEF n
    let len := s.camBlen (3 * n)
    let k' := { k with comps := [] }.closeAll (s.maxRec n) k.comps
    let k' := { k' with recs := sortClosed k'.recs (if k.lastLine = some e.last then k.kept else k.recs.length) }
    let s := (s.setDef n { s.defOf n with blk := none }).defCounts n k k'
    let recs := k'.records n len (s.outw n) (s.fb p Reg.DEF.CTL 1) e
    let min_ := bits k.snpsel 15 0
    let due := if s.fb p Reg.DEF.CTL 0 then (k'.recs.zipIdx).filter (fun x => decide (min_ ≤ x.1.area)) else []
    let late := due.drop (bits k.snpsel 28 16)
    let recs := late.foldl (fun r x => alter r x.2 setNosnp) recs
    let s := s.sat p Reg.DEF.NOSNPCNT late.length
    let snips := (due.take (bits k.snpsel 28 16)).map (fun x => k'.snip len x.2 x.1)
    let s := s.setDef n { s.defOf n with items := (s.defOf n).items ++ [.block k.b e.lines recs snips none e.grid0] }
    (match (s.defOf n).arrived with
      | some a => s.dropLate n a
      | none => s).defShow n

/-- One thing the Cupola handed over. -/
def State.defTake (s : State) (n : Nat) : CupOut → State
  | .open b minarea snpsel x0 sp =>
    (s.setDef n { s.defOf n with blk := some ⟨b, minarea, snpsel, x0, sp, [], none, [], [], 0, 0, 0, 0, none, 0⟩ }).defShow n
  | .line l => s.defLine n l
  | .close e => s.defClose n e
  | .drop _ => (s.setDef n { s.defOf n with blk := none }).defShow n

/-- The items up to and with the first line, and the block ends that follow it. -/
def takeLine : List CupOut → Bool → List CupOut × List CupOut
  | [], _ => ([], [])
  | .line l :: r, true => ([], .line l :: r)
  | .open a b c d e :: r, true => ([], .open a b c d e :: r)
  | .line l :: r, false => let a := takeLine r true; (.line l :: a.1, a.2)
  | o :: r, seen => let a := takeLine r seen; (o :: a.1, a.2)

/-- DEF_LINE (R248): the next line of the Cupola, with the block ends around it. -/
def execDefLine (unit : Nat) (s : State) : Host.Outcome State Fault Refusal :=
  if s.defLive unit = false then .next s
  else
    let (now, later) := takeLine (s.cup unit).toDef false
    .next (now.foldl (fun t o => t.defTake unit o) (s.setCup unit { s.cup unit with toDef := later }))

/-! ## Snippets (R258 to R260) -/

/-- Width or height of a crop (R258). -/
def cropSize (ext : Nat) : Nat := if ext + 16 ≤ 64 then 64 else if ext + 16 ≤ 128 then 128 else 256

/-- The crop of a snippet: JO, KO, W, H, VW, VH. -/
def State.crop (s : State) (n lines : Nat) (x : Snip) : Nat × Nat × Nat × Nat × Nat × Nat :=
  let w := cropSize (x.jl + 1 - x.jf)
  let h := cropSize (x.klast + 1 - x.koff)
  let jo := min ((x.jf + x.jl) / 2 - w / 2) (s.outw n - w)
  let ko := min ((x.koff + x.klast) / 2 - h / 2) (s.camBlen (3 * n) - h)
  (jo, ko, w, h, min w (s.outw n - jo), min h (lines - ko))

/-- The crop's bytes from the ring; nothing on an error response. -/
def State.cropBytes (s : State) (n b jo ko w vw vh h : Nat) : State × Option (List Byte) :=
  let npl := s.snpNpl n
  let blank := fun (k : Nat) => List.replicate k (0 : Byte)
  let (s, r) := (List.range vh).foldl (fun (a : State × Option (List Byte)) i =>
    match a.2 with
    | none => a
    | some bs =>
      match a.1.dramRead (unitWho (pgDEF n)) (a.1.ringAddr n b (ko + i) + jo * npl) (vw * npl) with
      | (t, none) => (t, none)
      | (t, some l) => (t, some (bs ++ l ++ blank ((w - vw) * npl)))) (s, some [])
  (s, r.map (· ++ blank ((h - vh) * w * npl)))

/-- A record without its snippet. -/
def State.noSnip (s : State) (n : Nat) (recs : List (List Byte)) (x : Snip) (bad : Bool) : State × List (List Byte) :=
  let p := pgDEF n
  let s := s.sat p Reg.DEF.NOSNPCNT 1
  (if bad then s.err p 5 0x1D5 x.idx else s, alter recs x.idx setNosnp)

/-- A snippet is cropped, compressed and written to its slot (R258 to R260). -/
def State.snippet (s : State) (n b lines : Nat) (recs : List (List Byte)) (x : Snip) : State × List (List Byte) :=
  let p := pgDEF n
  let head := s.rg p Reg.DEF.SNPHEAD
  let slot := bits head 23 0
  let slots := max 1 (s.fl p Reg.DEF.SNPSLOTS 24 0)
  if (slot + 1) % slots = s.fl p Reg.DEF.SNPTAIL 23 0 then s.noSnip n recs x false
  else
    let (jo, ko, w, h, vw, vh) := s.crop n lines x
    match s.cropBytes n b jo ko w vw vh h with
    | (s, none) => s.noSnip n recs x true
    | (s, some raw) =>
      let ctl := s.rg p Reg.DEF.CTL
      let at_ := s.rg64 p Reg.DEF.SNPPOOL + slot * s.rg p Reg.DEF.SNPSLOTSZ
      match s.cmpSnippet (bits ctl 10 8) (min 9 (bits ctl 15 12)) raw (at_ + 64) with
      | (s, none) => s.noSnip n recs x true
      | (s, some len) =>
        let fmt := s.snpNpl n + 4 * b2n (bit ctl 2) + 8 * bits ctl 5 4
        let hd := leBytes 4 0x504E534B ++ leBytes 2 x.idx ++ leBytes 1 n ++ leBytes 1 fmt ++ leBytes 8 (b % 2 ^ 48) ++
          leBytes 4 jo ++ leBytes 2 ko ++ leBytes 2 w ++ leBytes 2 h ++ leBytes 2 vw ++ leBytes 2 vh ++ leBytes 2 0 ++
          leBytes 4 len ++ leBytes 4 raw.length ++ leBytes 24 0
        match s.dramWrite (unitWho p) at_ hd with
        | (s, false) => s.noSnip n recs x true
        | (s, true) =>
          let next := (slot + 1) % slots
          let wrap := (bits head 31 24 + b2n (next == 0)) % 256
          ((s.setRg p Reg.DEF.SNPHEAD (next + wrap * 2 ^ 24)).inc p Reg.DEF.SNPCNT 1, alter recs x.idx (setSnph · head))

/-- SNIPPET_DONE (R259): the next due snippet of the oldest unpublished block, when the engine has no job (R284); it waits
for a frozen engine (R298). -/
def execSnippetDone (unit : Nat) (s : State) : Host.Outcome State Fault Refusal :=
  match (s.defOf unit).items with
  | .block b lines recs (x :: xs) head grid :: rest =>
    let e := s.fl (pgDEF unit) Reg.DEF.CTL 10 8
    if s.defLive unit ∧ (s.cmp e).job = none ∧ (s.cmpAccepts e = false ∨ s.works (pgCMP e)) then
      let h := some (head.getD (s.rg (pgDEF unit) Reg.DEF.SNPHEAD))
      let (s, recs) := s.snippet unit b lines recs x
      .next (s.setDef unit { s.defOf unit with items := .block b lines recs xs h grid :: rest })
    else .next s
  | _ => .next s

/-! ## Publication (R261 to R264) -/

/-- BLKPOST (R261, R264). -/
def execBlkpost (unit : Nat) (s : State) : Host.Outcome State Fault Refusal := .next (s.defPublish unit)

/-- DROPPED_POST (R263). -/
def execDroppedPost (unit : Nat) (s : State) : Host.Outcome State Fault Refusal :=
  let p := pgDEF unit
  match (s.defOf unit).items with
  | .dropped b c d g t :: rest =>
    if s.defLive unit = false then .next s
    else
      match s.publish p unit [recBytes 0 (unit + 4 * 2) 0 0 0 b 0 g 0 0 0 0 c d 0 0xFFFFFFFF t] with
      | (s, true) => .next ((s.setDef unit { s.defOf unit with items := rest }).inc p Reg.DEF.RECCNT 1 |>.defShow unit)
      | (s, false) => .next s
  | _ => .next s

/-! ## Register writes, RUN -/

/-- A value outside a register's range (DEF registers). -/
def State.defBad (s : State) (n o v : Nat) : Bool :=
  (o == Reg.DEF.CTL && (decide (9 < bits v 15 12) || (!bit v 3 && decide (s.cupNp n ≤ bits v 5 4)))) ||
  (o == Reg.DEF.DEADLINE && bits v 3 0 == 0) ||
  (o == Reg.DEF.MAXREC && (decide (bits v 14 0 < 16) || decide (16384 < bits v 14 0))) ||
  (o == Reg.DEF.SNPSEL && decide (4096 < bits v 28 16)) || (o == Reg.DEF.SNPRING && v % 64 != 0) ||
  (o == Reg.DEF.SNPPOOL && v % 4096 != 0) || (o == Reg.DEF.SNPSLOTSZ && v % 4096 != 0) ||
  (o == Reg.DEF.SNPSLOTS && (decide (bits v 24 0 < 2) || decide (2 ^ 24 < bits v 24 0)))

/-- Register writes of a defect unit with a rule of their own. -/
def State.defOnWrite (s : State) (n o v : Nat) : Option State :=
  if s.defBad n o v then some (s.err (pgDEF n) 1 0x1D1 o) else none

/-- The first failing start check (R265). -/
def State.defCheck (s : State) (n : Nat) : Option Nat :=
  let p := pgDEF n
  let on := s.fb p Reg.DEF.CTL 0
  let r := 65536 * s.snpNpl n
  if s.portEsize p 0 ≠ some 64 then some 1
  else if 16384 < (s.fl p Reg.DEF.DEADLINE 3 0 + 1) * s.maxRec n then some 2
  else if on && (decide (unitCount s.variant .cmp ≤ s.fl p Reg.DEF.CTL 10 8) || s.rg64 p Reg.DEF.SNPRING == 0 ||
      s.rg64 p Reg.DEF.SNPPOOL == 0) then some 3
  else if on && decide (s.rg p Reg.DEF.SNPSLOTSZ < 64 + r + 5 * ((r + 65534) / 65535) + 16) then some 4
  else none

/-- Entry to RUN (R257, R265). -/
def State.defOnRun (s : State) (n : Nat) : State :=
  let p := pgDEF n
  let s := s.setRg p Reg.DEF.RINGUSE ((s.fl p Reg.DEF.DEADLINE 3 0 + 1) * s.camBlen (3 * n) * s.snpLb n)
  match s.defCheck n with
  | some c => ((s.err p 0 0x1D0 c).setIst p 3).toFault p
  | none => s.setDef n { s.defOf n with arrived := none }

/-- DRAIN is complete (R266). -/
def State.defDrained (s : State) (n : Nat) : Bool := (s.defOf n).blk.isNone && (s.defOf n).items.isEmpty && (s.cup n).toDef.isEmpty

/-- CTRL.EN = 0 or a soft reset discards every block not published (R266). -/
def State.defOff (s : State) (n : Nat) : State :=
  ((s.setDef n Def.reset).setCup n { s.cup n with toDef := [], blk := (s.cup n).blk.map (fun k => { k with toDef := false }) }).defShow
    n

/-- LASTBLK reads all ones while no block was published (DEF registers): set when the page leaves OFF. -/
def State.lastNone (s : State) (n : Nat) : State :=
  if s.rg (pgDEF n) Reg.DEF.BLKCNT = 0 ∧ s.rg64 (pgDEF n) Reg.DEF.LASTBLK = 0 then
    s.setRg64 (pgDEF n) Reg.DEF.LASTBLK (2 ^ 48 - 1)
  else s

end Sys2Proof.Machine
end

