-- ==== Sys2Proof/Machine/ColourLoop.lean ====
section
/-!
DEFINITION. Closed-loop colour and registration CLP (13 R267 to R282; 19 R394): bindings, accumulation, windows,
correction records, auto-apply.
-/

namespace Sys2Proof.Machine

/-! ## Bars, groups, bindings -/

/-- The colour loop's hidden state of a bar, of a group. -/
def State.clpBar (s : State) (b : Nat) : ClpBar := Tbl.getD s.clp.bars b ⟨false, ClpBank.reset, ClpBank.reset, none, [], none⟩
def State.setClpBar (s : State) (b : Nat) (x : ClpBar) : State := { s with clp := { s.clp with bars := Tbl.put s.clp.bars b x } }
def State.clpGrp (s : State) (g : Nat) : ClpGrp := Tbl.getD s.clp.grps g ⟨[], none, none, none, none⟩
def State.setClpGrp (s : State) (g : Nat) (x : ClpGrp) : State := { s with clp := { s.clp with grps := Tbl.put s.clp.grps g x } }

/-- BINDb fields. -/
def State.bindW (s : State) (b : Nat) : Nat := s.rg pgCLP (Reg.CLP.bindBIND b)
def bindCups (v : Nat) : List Nat := (List.range 4).filter (fun n => bit v (1 + n))
def bindChan (v : Nat) : Nat := bits v 6 5
def bindGrp (v : Nat) : Nat := bits v 9 8

/-- The enabled bindings, ascending. -/
def State.binds (s : State) : List Nat := (List.range (unitCount s.variant .pba)).filter (fun b => bit (s.bindW b) 0)

/-- The enabled bindings of a group, and the Cupolas they name. -/
def State.grpBinds (s : State) (g : Nat) : List Nat := s.binds.filter (fun b => bindGrp (s.bindW b) == g)
def State.grpCups (s : State) (g : Nat) : List Nat :=
  (List.range 4).filter (fun n => (s.grpBinds g).any (fun b => (bindCups (s.bindW b)).contains n))

/-- Cupola index `n` is imported (R394), and its CLPIMP word. -/
def State.impW (s : State) (n : Nat) : Nat := s.rg pgTLK (Reg.TLK.CLPIMP n)
def State.imported (s : State) (n : Nat) : Bool := bit (s.impW n) 0

/-- A bank of a bar, by selector. -/
def ClpBar.bank (x : ClpBar) (sel : Bool) : ClpBank := if sel then x.b1 else x.b0
def ClpBar.setBank (x : ClpBar) (sel : Bool) (k : ClpBank) : ClpBar := if sel then { x with b1 := k } else { x with b0 := k }

/-! ## Accumulation (R269 to R271) -/

/-- XP_b in 2^-24 WU (R154): 25,400 µm by GRID, rounded to 24 fraction bits. -/
def State.nozzlePitch (s : State) (b : Nat) : Nat :=
  let d := 600 * 2 ^ s.fl (pgPBA b) Reg.PBA.CFG 5 4
  (2 * (25400 * 65536 * 2 ^ 24) + d) / (2 * d)

/-- k_b of a line (R269). -/
def State.barLineOf (s : State) (b : Nat) (pos : Int) : Int :=
  let x := s.barSet b
  shr (pos * 2 ^ x.fy) 24 - x.boff

/-- The XORG that governs bar line `kb`; none when it precedes every change held and the value that governs it is held
no longer (R269). DEDUCED (log entry 33): the value at entry governs the lines below the first change. -/
def ClpBar.xorgAt (x : ClpBar) (kb : Int) : Option Int :=
  match x.xorgs.find? (fun e => decide (e.1 ≤ kb)) with
  | some e => some e.2
  | none => if x.lost.any (fun f => decide (f ≤ kb)) then none else x.entry

/-- Coverage of the bar's plane, and the largest of the other planes (R270, R394). -/
def CupCol.solo (c : CupCol) (imp : Bool) (plane : Nat) : Nat × Nat :=
  let key := if imp then 0 else plane
  (((c.cov.find? (fun e => e.1 == key)).map (·.2)).getD 0,
    (c.cov.filter (fun e => e.1 != key)).foldl (fun m e => max m e.2) 0)

/-- An eligible pixel is added (R271). -/
def ClpBank.add (k : ClpBank) (i dm dp : Nat) (x grid kb : Int) : ClpBank :=
  let e := Tbl.getD k.acc i (0, 0)
  { k with acc := Tbl.put k.acc i (satAdd 32 e.1 dm, satAdd 32 e.2 dp), dm := k.dm + dm, dp := k.dp + dp,
           xdm := k.xdm + x * dm, xdp := k.xdp + x * dp, ydm := k.ydm + grid * dm, ydp := k.ydp + grid * dp,
           low := some (match k.low with
             | some l => min l kb
             | none => kb) }

/-- SOLO of the window of a group that line `k` of Cupola `n` belongs to: as it stood when the window began (R35, R282). -/
def ClpGrp.soloOf (x : ClpGrp) (n k now : Nat) : Nat :=
  match x.closing with
  | some c => if !c.changed && c.kw.any (fun e => e.1 == n && decide (k ≤ e.2)) then c.solo else x.solo.getD now
  | none => x.solo.getD now

/-- The eligible columns of a line for a binding under a SOLO (R270). -/
def State.clpColumns (s : State) (b solo : Nat) (l : ClpLine) (kb xorg : Int) (k : ClpBank) : ClpBank :=
  let ch := if l.imp then 0 else bindChan (s.bindW b)
  let lim := min (s.nact b) (s.rangeLen b)
  let plane := (s.barSet b).plane
  let pw := l.pw.getD ch 0
  (l.line.cols.zipIdx).foldl (fun k e =>
    let x := l.x0 + (e.2 * l.sp : Nat) - xorg * 2 ^ 24
    let i := nearUp x (s.nozzlePitch b)
    let c := e.1.solo l.imp plane
    if e.1.nocov ∨ e.1.void ∨ i < 0 ∨ (lim : Int) ≤ i ∨ c.1 < bits solo 15 0 ∨ bits solo 31 16 < c.2 then k
    else k.add i.toNat (pw - e.1.m.getD ch 0) (pw - e.1.p.getD ch 0) x l.line.grid kb) k

/-- A line is accumulated for one binding in the bank it belongs to (R269 to R274). -/
def State.clpAcc (s : State) (b solo : Nat) (sel : Bool) (l : ClpLine) : State :=
  if l.line.print = false ∨ l.line.pad then s
  else
    let x := s.clpBar b
    let kb := s.barLineOf b l.line.pos
    let k := x.bank sel
    match x.xorgAt kb with
    | some o => s.setClpBar b (x.setBank sel (s.clpColumns b solo l kb o k))
    | none =>
      let s := (s.setClpBar b (x.setBank sel { k with xold := true })).sat pgCLP Reg.CLP.XOLDCNT 1
      if k.xold then s else s.err pgCLP 3 0x1E3 b

/-- The line belongs to the window in closing whose banks have not changed (R273). -/
def ClpGrp.old (x : ClpGrp) (n k : Nat) : Bool :=
  match x.closing with
  | some c => !c.changed && c.kw.any (fun e => e.1 == n && decide (k ≤ e.2))
  | none => false

/-- The line is not above KW of the last close before the windows that take lines: its window is closed (R273, R278). -/
def ClpGrp.gone (x : ClpGrp) (n k : Nat) : Bool :=
  let kw := match x.closing with
    | some c => if c.changed then x.kw else c.prev
    | none => x.kw
  kw.any (fun e => e.1 == n && decide (k ≤ e.2))

/-- A group takes the line: RUN, or the window in closing, and no window that is closed. -/
def ClpGrp.takes (x : ClpGrp) (run : Bool) (n k : Nat) : Bool := (run || x.old n k) && !x.gone n k

/-- The line lies above KW of a window in closing whose banks have not changed; every line does of an imported index that
had received none when the window closed (R394). -/
def ClpGrp.ahead (x : ClpGrp) (n k : Nat) : Bool :=
  match x.closing with
  | some c => !c.changed && !c.kw.any (fun e => e.1 == n && decide (k ≤ e.2))
  | none => false

/-- WPOSF of a window: the grid point of the first line from the lowest Cupola of the group (R274). -/
def State.clpFirst (s : State) (g n : Nat) (l : ClpLine) : State :=
  let x := s.clpGrp g
  if (s.grpCups g).head? ≠ some n then s
  else if x.old n l.line.k then (if x.posC.isNone then s.setClpGrp g { x with posC := some l.line.grid } else s)
  else if x.posA.isNone then s.setClpGrp g { x with posA := some l.line.grid }
  else s

/-- The first window of a group begins with the first line taken, with the SOLO in force then (R35, R273). -/
def State.clpOpen (s : State) (g : Nat) : State :=
  let x := s.clpGrp g
  if x.solo.isSome then s else s.setClpGrp g { x with solo := some (s.rg pgCLP Reg.CLP.SOLO) }

/-- A line is excluded from the window of one binding (R272). -/
def State.clpSkip (s : State) (b : Nat) (sel : Bool) : State :=
  let x := s.clpBar b
  s.setClpBar b (x.setBank sel { x.bank sel with skip := true })

/-- A line of Cupola index `n` is taken, or excluded when CLP missed it (R271 to R273, R282). -/
def State.clpTake (s : State) (n : Nat) (l : ClpLine) : State :=
  let run := (s.page pgCLP).state == .run
  let s := (List.range 4).foldl (fun t g =>
    if (t.clpGrp g).takes run n l.line.k then (if l.missed then t else t.clpFirst g n l).clpOpen g else t) s
  let s := (s.binds.filter (fun b => (bindCups (s.bindW b)).contains n)).foldl (fun t b =>
    let x := t.clpGrp (bindGrp (t.bindW b))
    let sel := (t.clpBar b).sel != x.ahead n l.line.k
    if x.takes run n l.line.k then (if l.missed then t.clpSkip b sel
      else t.clpAcc b (x.soloOf n l.line.k (t.rg pgCLP Reg.CLP.SOLO)) sel l) else t) s
  { s with clp := { s.clp with passed := Tbl.put s.clp.passed n (max l.line.k (Tbl.getD s.clp.passed n 0)) } }

/-- CLP serves its lines and windows: in RUN or DRAIN, not frozen. -/
def State.clpLive (s : State) : Bool :=
  s.present pgCLP && ((s.page pgCLP).state == .run || (s.page pgCLP).state == .drain) && s.works pgCLP

/-- CLP_LINE (R271): the next line of a Cupola index. -/
def execClpLine (cup : Nat) (s : State) : Host.Outcome State Fault Refusal :=
  match (s.cup cup).toClp with
  | [] => .next s
  | l :: rest => .next (if s.clpLive then (s.setCup cup { s.cup cup with toClp := rest }).clpTake cup l else s)

/-! ## Windows (R273 to R278) -/

/-- The pending set violates R282. -/
def State.clpApplyBad (s : State) : Bool :=
  let st := s.normal pgCLP Reg.CLP.STEP
  let th := s.normal pgCLP Reg.CLP.THR
  decide (bits th 15 0 < bits th 31 16) || decide (32 < bits st 5 0) || decide (bits st 5 0 < bits st 13 8)

/-- An apply trigger at the CLP page (R282, R507). -/
def State.clpApply (s : State) : State :=
  if (s.page pgCLP).pend then
    if s.clpApplyBad then (s.refuseSet pgCLP).err pgCLP 1 0x1E1 0 else s.applySet pgCLP
  else s

/-- The closing bank of a late window is invalidated (R278). -/
def State.clpInvalidate (s : State) (g : Nat) (c : ClpClose) : State :=
  let s := (s.grpBinds g).foldl (fun t b =>
    let x := t.clpBar b
    if c.changed then t.setClpBar b (x.setBank (!x.sel) ClpBank.reset)
    else t.setClpBar b { x.setBank x.sel ClpBank.reset with sel := !x.sel }) s
  let s := s.setClpGrp g { s.clpGrp g with closing := none }
  ((s.sat pgCLP Reg.CLP.LATECNT 1).err pgCLP 2 0x1E2 (c.w % 2 ^ 20)).happen pgCLP 1 g

/-- A WIN event closes window `w` of its group (R273, R278, R282). -/
def State.clpWin (s : State) (g : Nat) (t : Trig) : State :=
  let s := s.atBoundary pgCLP State.clpApply
  let s := match (s.clpGrp g).closing with
    | some c => s.clpInvalidate g c
    | none => s
  let kw := (s.grpCups g).filterMap (fun n =>
    if s.imported n then (Tbl.get? s.clp.high n).map (fun k => (n, k))
    else some (n, s.rg64 (pgCAM (3 * n)) Reg.CAM.LASTK % 2 ^ 48))
  let x := s.clpGrp g
  let solo := s.rg pgCLP Reg.CLP.SOLO
  s.setClpGrp g
    { x with kw := kw, solo := some solo, posC := x.posA, posA := none,
             closing := some ⟨t.index, kw, x.kw, false, s.rg pgCLP Reg.CLP.STEP, s.rg pgCLP Reg.CLP.THR, s.rg pgCLP Reg.CLP.DPMIN,
               s.rg64 pgCLP Reg.CLP.REGMIN, s.rg pgCLP Reg.CLP.REGGATE, x.solo.getD solo, some (t.origin, t.depth)⟩ }

/-- WIN (R273): a WIN task trigger; discarded out of RUN and while frozen. -/
def execWin (group : Nat) (s : State) : Host.Outcome State Fault Refusal :=
  match s.takeTrig pgCLP group with
  | none => .next s
  | some (t, s) => .next (if group < 4 ∧ s.present pgCLP ∧ s.running pgCLP then s.clpWin group t else s)

/-- Every Cupola of the window has passed KW_n or left RUN (R274 step 1). -/
def State.clpPassed (s : State) (c : ClpClose) : Bool :=
  c.kw.all (fun e => (match Tbl.get? s.clp.passed e.1 with
    | some k => decide (e.2 ≤ k)
    | none => false) || (!s.imported e.1 && (s.page (pgCUP e.1)).state != .run))

/-- BANK_CHANGE (R274 step 2). -/
def execBankChange (group : Nat) (s : State) : Host.Outcome State Fault Refusal :=
  let x := s.clpGrp group
  match x.closing with
  | some c =>
    if s.clpLive = false ∨ c.changed ∨ s.clpPassed c = false then .next s
    else
      let s := (s.grpBinds group).foldl (fun t b => t.setClpBar b { t.clpBar b with sel := !(t.clpBar b).sel }) s
      .next (s.setClpGrp group { x with closing := some { c with changed := true } })
  | none => .next s

/-! ## Evaluation (R275, R276) -/

/-- What one entry gives: the result word, the RATIO when measured, the gain write. -/
structure ClpRes where
  word : Nat
  ratio : Option Nat
  write : Option (Nat × Bool)

/-- The gain write of a measured entry (R279): from the record's value, with free values for what R279 leaves open. -/
def clpGain (c : ClpClose) (rec ratio free : Nat) : Option (Nat × Bool) :=
  let g := bits rec 19 10
  let off := if ratio ≤ 16384 then 16384 - ratio else ratio - 16384
  if bit rec 28 ∨ off * 400 < bits c.step 13 8 * 16384 then none
  else
    let gt := if ratio = 0 then free else (nearest (g * 16384) ratio (bit free 0)).toNat
    let d := g * bits c.step 5 0 / 400
    let gn := min (max (min (max gt (g - d)) (g + d)) 1) 1023
    if gn = g then none else some (gn, gn != gt)

/-- One entry of a bar (R275, R279): `pass` when auto-apply runs. -/
def clpEntry (c : ClpClose) (pass : Bool) (rec dm dp free : Nat) : ClpRes :=
  let nodata := decide (dp < c.dpmin)
  let ratio := if nodata then 0 else if dp = 0 then free % 65536 else min 65535 (dm * 16384 / dp)
  let weak := decide (ratio < bits c.thr 15 0)
  let low := decide (ratio < bits c.thr 31 16)
  let w := ratio + b2n nodata * 2 ^ 16 + b2n weak * 2 ^ 17 + b2n low * 2 ^ 18
  let r := if nodata then none else some ratio
  match (if pass && !nodata && !low then clpGain c rec ratio free else none) with
  | some (gn, cl) => ⟨w + 2 ^ 19 + b2n cl * 2 ^ 20, r, some (gn, weak)⟩
  | none => ⟨w, r, none⟩

/-- DX or DY (R276): the difference of two quotients, to the nearest, ties upward, saturating; a quotient by 0 is free. -/
def clpShift (nm np : Int) (dm dp scale free : Nat) : Int :=
  if dm = 0 ∨ dp = 0 then sgn 32 free
  else clamp (-(2 ^ 31)) (2 ^ 31 - 1) (nearUp (nm * dp - np * dm) ((dm * dp * scale : Nat) : Int))

/-- What a window gives for one binding. -/
structure ClpSum where
  b : Nat
  flags : Nat
  dx : Int
  dy : Int
  res : List ClpRes

/-- The evaluation of one bar of a closing window (R275, R276, R279, R281). -/
def State.clpEval (s : State) (c : ClpClose) (b : Nat) : ClpSum :=
  let x := s.clpBar b
  let k := x.bank (!x.sel)
  let valid := decide (c.regmin ≤ k.dm) && decide (c.regmin ≤ k.dp)
  let dx := if valid then clpShift k.xdm k.xdp k.dm k.dp (2 ^ 24) (Config.draw s.fresh) else 0
  let dy := if valid then clpShift k.ydm k.ydp k.dm k.dp 1 (Config.draw (s.fresh + 1)) else 0
  let skip := valid && (decide ((c.gate : Int) < dx.natAbs) || decide ((c.gate : Int) < dy.natAbs))
  let stale := match k.low with
    | some l => decide (l < sgn 48 (s.rg64 pgCLP (Reg.CLP.bindLASTS b)))
    | none => false
  let busy := s.clp.req.isSome
  let pass := s.fb pgCLP Reg.CLP.ACTL b && !stale && !skip && !busy
  let base := s.rangeBase b
  { b := b,
    flags := b2n valid + 2 * b2n skip + 4 * b2n stale + 8 * b2n busy + 16 * b2n pass + 32 * b2n k.xold + 64 * b2n k.skip,
    dx := dx, dy := dy,
    res := (List.range (s.rangeLen b)).map (fun i =>
      let e := Tbl.getD k.acc i (0, 0)
      clpEntry c pass (s.recRead (base + i)) e.1 e.2 (Config.draw (s.fresh + 2 + i))) }

/-- The mean RATIO of the measured entries, rounded down; free when none is measured (R277). -/
def ClpSum.mean (x : ClpSum) (free : Nat) : Nat :=
  let rs := x.res.filterMap (·.ratio)
  if rs.isEmpty then free % 65536 else rs.foldl (· + ·) 0 / rs.length

def ClpSum.weak (x : ClpSum) : Nat := (x.res.filter (fun r => bit r.word 17)).length
def ClpSum.low (x : ClpSum) : Nat := (x.res.filter (fun r => bit r.word 18)).length
def ClpSum.writes (x : ClpSum) : Nat := (x.res.filter (fun r => r.write.isSome)).length

/-- The correction record (R277). -/
def State.clpRecord (s : State) (g slot : Nat) (c : ClpClose) (posf : Int) (x : ClpSum) (mean : Nat) : List Byte :=
  let v := s.bindW x.b
  leBytes 8 c.w ++ leBytes 1 x.b ++ leBytes 1 (bits v 4 1 + g * 16 + bindChan v * 64) ++ leBytes 2 x.flags ++
    leBytes 4 slot ++ leBytes 8 (enc2 64 posf) ++ leBytes 8 (s.timeNs % 2 ^ 64) ++ leBytes 4 (enc2 32 x.dx) ++
    leBytes 4 (enc2 32 x.dy) ++ leBytes 4 (x.res.filterMap (·.ratio)).length ++ leBytes 4 x.weak ++ leBytes 4 x.low ++
    leBytes 4 x.writes ++ leBytes 2 mean ++ leBytes 1 (s.fl (pgPBA x.b) Reg.PBA.CFG 19 16) ++ leBytes 5 0

/-- The result words of a bar go to the group's slot (R274 step 3); false on an error response. -/
def State.clpWords (s : State) (g slot : Nat) (x : ClpSum) : State × Bool :=
  let a := s.rg64 pgCLP Reg.CLP.RESBASE + (g * max 1 (s.rg pgCLP Reg.CLP.RESSLOTS) + slot) * 4 * s.nrec + 4 * s.rangeBase x.b
  if x.res.isEmpty then (s, true) else s.dramWrite (unitWho pgCLP) a (x.res.flatMap (fun r => leBytes 4 r.word))

/-- One record is posted and the binding's registers show it (R274 step 4). -/
def State.clpPost (s : State) (g slot : Nat) (c : ClpClose) (posf : Int) (x : ClpSum) : State :=
  let mean := x.mean (Config.draw s.fresh)
  let s := s.drawn
  let s := match s.post pgCLP 0 [s.clpRecord g slot c posf x mean] with
    | (t, true) => t
    | (t, false) => t.sat pgCLP Reg.CLP.CORDROP 1
  let s := s.setRg pgCLP (Reg.CLP.bindFLAGS x.b) x.flags
  let s := (s.setRg pgCLP (Reg.CLP.bindDX x.b) (enc2 32 x.dx)).setRg pgCLP (Reg.CLP.bindDY x.b) (enc2 32 x.dy)
  s.setRg64 pgCLP (Reg.CLP.bindMEANR x.b) (mean + x.weak % 2 ^ 32 * 2 ^ 16)

/-- The write pass of a binding (R279): gain writes in ascending nozzle. -/
def State.clpWrites (s : State) (x : ClpSum) : State :=
  let base := s.rangeBase x.b
  (x.res.zipIdx).foldl (fun t e =>
    match e.1.write with
    | some w => (t.nctPut ⟨false, base + e.2, [], some w⟩).inc pgCLP Reg.CLP.WRCNT 1
    | none => t) s

/-- The bars of the swap request: those written, and every bar that R139 pairs with one of them (R280). -/
def State.clpMask (s : State) (written : Nat) : Nat :=
  (List.range 128).foldl (fun m q =>
    if s.slotOn q && s.slotSubst q && (bit written (s.slotBar q) || bit written (s.slotPrimary q)) then
      m ||| 2 ^ s.slotBar q ||| 2 ^ s.slotPrimary q else m) written

/-- Steps 3 to 5 of the close of a window (R274 to R281). -/
def State.clpClose (s : State) (g : Nat) (c : ClpClose) : State :=
  let slot := s.fl pgCLP (Reg.CLP.WGSTAT g + 4) 31 24
  let bs := s.grpBinds g
  let sums := bs.map (s.clpEval c)
  let s := { s with fresh := s.fresh + 2 + 2 ^ 20 }
  let (s, ok) := sums.foldl (fun (a : State × Bool) x =>
    let r := a.1.clpWords g slot x
    (r.1, a.2 && r.2)) (s, true)
  let s := if ok then s else s.err pgCLP 4 0x1E5 g
  let sums := if ok then sums else sums.map (fun x => { x with flags := x.flags + 128 })
  let s := bs.foldl (fun t b => t.setClpBar b ((t.clpBar b).setBank (!(t.clpBar b).sel) ClpBank.reset)) s
  let posf := ((s.clpGrp g).posC).getD (sgn 64 (Config.draw s.fresh))
  let s := if (s.clpGrp g).posC.isNone then s.drawn else s
  let s := sums.foldl (fun t x => t.clpPost g slot c posf x) s
  let next := (slot + 1) % max 1 (s.rg pgCLP Reg.CLP.RESSLOTS)
  let s := s.setRg64 pgCLP (Reg.CLP.WGSTAT g) (c.w % 2 ^ 48 + next % 256 * 2 ^ 56)
  let s := s.setClpGrp g { s.clpGrp g with closing := none }
  let s := s.happenFrom pgCLP 0 g c.chain
  let s := sums.foldl State.clpWrites s
  let written : Nat := sums.foldl (fun (m : Nat) x => if x.writes = 0 then m else m ||| 2 ^ x.b) 0
  if written = 0 then s
  else
    ({ s with clp := { s.clp with req := some (s.clpMask written, 0) } }).setRg pgCLP Reg.CLP.ASTAT (1 + g * 16)

/-- CORRECTION_RECORD (R274): the end of evaluation. -/
def execCorrectionRecord (group : Nat) (s : State) : Host.Outcome State Fault Refusal :=
  match (s.clpGrp group).closing with
  | some c => .next (if s.clpLive ∧ c.changed then s.clpClose group c else s)
  | none => .next s

/-! ## Swap requests (R280) -/

/-- The request ends without a swap. -/
def State.clpNoReq (s : State) : State :=
  ({ s with clp := { s.clp with req := none } }).setFl pgCLP Reg.CLP.ASTAT 0 0 0

/-- CLP leaves RUN: a rejected request is not repeated (R280). -/
def State.clpLeft (s : State) : State :=
  match s.clp.req with
  | some (_, 1) => s.clpNoReq
  | _ => s

/-- An APPLY event of NCT is due and not yet delivered: its request comes before the colour loop's (R146). -/
def State.nctEventDue (s : State) : Bool :=
  let x := s.page pgNCT
  x.bsel == 1 && x.pend && !x.hold && s.evs.any (fun e => e.ch == x.ech && decide (e.entered + 2 ≤ s.cycle))

/-- CLP_SWAP_REQUEST (R280): a new request, or a rejected one after SWAPDONE. -/
def execClpSwapRequest (s : State) : Host.Outcome State Fault Refusal :=
  match if s.nctEventDue then none else s.clp.req with
  | some (m, st) =>
    let repeat_ := decide (st = 1) && decide (s.swapState = 0) && (s.page pgCLP).state == .run
    if s.clpLive ∧ (st = 0 ∨ repeat_ = true) then
      let busy := decide (s.swapState ≠ 0)
      match s.swapRequest m false 2 with
      | (t, true) => .next { t with clp := { t.clp with req := t.clp.req.map (fun _ => (m, 2)) } }
      | (t, false) => .next (if busy ∧ (t.page pgNCT).en ∧ (t.page pgCLP).state = .run then { t with clp := { t.clp with req := some (m, 1) } } else t.clpNoReq)
    else .next s
  | none => .next s

/-! ## Register writes, RUN -/

/-- The ports bound to a Cupola index, or the DOM of an imported one, agree with the bar's domain (R268, R394). -/
def State.bindDomOk (s : State) (b n : Nat) : Bool :=
  let d := s.fl (pgPBA b) Reg.PBA.CFG 1 0
  if s.imported n then bits (s.impW n) 13 12 == d
  else (s.slotList n).all (fun e => s.fl (pgCAM e.2) Reg.CAM.CFG 17 16 == d)

/-- A write of BINDb with EN = 1 (R268). -/
def State.bindWrite (s : State) (b v : Nat) : State :=
  let cups := bindCups v
  if cups.isEmpty then s.err pgCLP 1 0x1E1 b
  else if unitCount s.variant .pba ≤ b ∨ cups.any (fun n => decide (unitCount s.variant .cup ≤ n)) then s.bindError pgCLP 0x011 b
  else if cups.any (fun n => !s.bindDomOk b n) then s.bindError pgCLP 0x012 b
  else s.writeWord pgCLP (Reg.CLP.bindBIND b) v

/-- Register writes of the colour loop with a rule of their own. -/
def State.clpOnWrite (s : State) (o v : Nat) : Option State :=
  if Reg.CLP.bindBIND 0 ≤ o then
    let b := (o - Reg.CLP.bindBIND 0) / 0x20
    if unitCount s.variant .pba ≤ b then some s
    else if o = Reg.CLP.bindBIND b ∧ bit v 0 ∧ (s.page pgCLP).run = false then some (s.bindWrite b v)
    else none
  else if o = Reg.CLP.RESSLOTS ∧ (v = 0 ∨ 256 < v) then some (s.err pgCLP 1 0x1E1 o)
  else none

/-- The first failing start check of a binding (R268, R394). -/
def State.bindCheck (s : State) (b : Nat) : Option Nat :=
  let v := s.bindW b
  let cups := bindCups v
  let plane := (s.barSet b).plane
  if s.rangeOn b = false then some 1
  else if cups.any (fun n => if s.imported n then bits (s.impW n) 19 16 != plane else !bit (s.refSet n).pmask plane) then some 2
  else if cups.any (fun n => decide ((if s.imported n then bits (s.impW n) 11 10 else s.cupNp n) ≤ bindChan v)) then some 3
  else if s.portEsize pgCLP 0 ≠ some 64 ∨ s.rg64 pgCLP Reg.CLP.RESBASE = 0 then some 4
  else none

/-- Entry to RUN (R268, R269, R273): banks cleared, XORG in force held for every bar; the first line taken is one that
arrives from now on. -/
def State.clpOnRun (s : State) : State :=
  let bars := (List.range (unitCount s.variant .pba)).map (fun b =>
    (b, (⟨false, ClpBank.reset, ClpBank.reset, some (s.rgI (pgPBA b) Reg.PBA.XORG), [], none⟩ : ClpBar)))
  let s := { s with clp := { s.clp with bars := bars, grps := [], passed := [], high := [] },
                    cups := s.cups.map (fun (e : Nat × Cup) => (e.1, { e.2 with toClp := [] })) }
  match s.binds.findSome? (fun b => (s.bindCheck b).map (fun c => b * 65536 + c)) with
  | some c => ((s.err pgCLP 0 0x1E0 c).setIst pgCLP 2).toFault pgCLP
  | none => s

/-- DRAIN is complete (R282). -/
def State.clpDrained (s : State) : Bool :=
  s.clp.grps.all (fun e => e.2.closing.isNone) && (match s.clp.req with
    | some (_, 0) => false
    | _ => true)

/-- CTRL.EN = 0 or a soft reset (R282): both banks invalidated, no repetition of a request; lines not taken are lost, and
so is a gain write NCT has not accepted. -/
def State.clpOff (s : State) : State :=
  let s := { s.dropStalled with clp := ⟨[], [], [], [], none⟩, cups := s.cups.map (fun (e : Nat × Cup) => (e.1, { e.2 with toClp := [] })) }
  s.setRg pgCLP Reg.CLP.ASTAT 0

end Sys2Proof.Machine
end

