-- ==== Sys2Proof/Machine/Belfry.lean ====
section
/-!
DEFINITION. Belfry, the interrupt controller BIC (16 R323 to R330; 15 R312): sources, claims, completions, messages,
latches.
-/

namespace Sys2Proof.Machine

/-- A source. -/
def State.src (s : State) (i : Nat) : Src := Tbl.getD s.srcs i Src.reset
def State.setSrc (s : State) (i : Nat) (x : Src) : State := { s with srcs := Tbl.putD s.srcs i x Src.reset }

/-- Kinds of sources (R323). -/
def srcIsLevel (i : Nat) : Bool := decide (i < 4321)
def srcIsEdge (i : Nat) : Bool := decide (4352 ≤ i) && decide (i < 4896)

/-- CFG fields (R324). -/
def Src.en (x : Src) : Bool := bit x.cfg 0
def Src.tkind (x : Src) : Nat := bits x.cfg 2 1
def Src.tidx (x : Src) : Nat := bits x.cfg 7 4
def Src.prio (x : Src) : Nat := bits x.cfg 11 8
def Src.sec (x : Src) : Bool := bit x.cfg 12
def Src.fn (x : Src) (i : Nat) : Nat := if i < 4096 then i / 2048 else bits x.cfg 13 13
def Src.vec (x : Src) (i : Nat) : Nat := if i < 4096 then i % 2048 else bits x.cfg 26 16

/-- The input of a level source (R323). -/
def State.srcLevel (s : State) (i : Nat) : Bool :=
  if i < 4096 then s.queueLevel i
  else
    let p := i - 4096
    s.present p && ((s.page p).ist &&& (s.page p).ien) != 0

/-- CTRL.EN of BIC (R345). -/
def State.bicOn (s : State) : Bool := s.enabled pgBIC

/-! ## MSI-X (R312, R313, R327) -/

/-- A vector's table entry: address, data, mask; masked at reset as the PCIe standard has it. -/
def State.vector (s : State) (fn v : Nat) : Nat × Nat × Bool := Tbl.getD s.pcie.vectors (fn * 2048 + v) (0, 0, true)

/-- The message of a vector may go out now. -/
def State.msixOpen (s : State) (fn v : Nat) : Bool :=
  s.pcie.msixEn.getD fn false && !s.pcie.msixMask.getD fn false && !(s.vector fn v).2.2 && (s.hostRefusal fn).isNone

/-- The message of a vector: a write of its table entry's data to its address (R312). -/
def State.message (s : State) (fn v : Nat) : Out := .msix fn v (s.vector fn v).1 (s.vector fn v).2.1

/-- A message falls due: sent, or recorded in the PBA. -/
def State.msix (s : State) (fn v : Nat) : State :=
  if s.msixOpen fn v then s.emit (s.message fn v)
  else if s.pcie.pba.contains (fn * 2048 + v) then s
  else { s with pcie := { s.pcie with pba := s.pcie.pba ++ [fn * 2048 + v] } }

/-- The cause of a message that never went out is completed: its PBA bit is cleared, as the PCIe standard has it, unless
another delivery in progress names the vector (R312). -/
def State.pbaServed (s : State) (i : Nat) (x : Src) : State :=
  let k := x.fn i * 2048 + x.vec i
  if x.claimer ≠ 4 + x.fn i ∨ s.srcs.any (fun e => e.1 != i && e.2.st == 2 && e.2.claimer == x.claimer && e.2.vec e.1 == x.vec i)
  then s
  else { s with pcie := { s.pcie with pba := s.pcie.pba.filter (· != k) } }

/-- Messages of the PBA that may now go out are sent. -/
def State.pbaFlush (s : State) : State :=
  let ready := s.pcie.pba.filter (fun k => s.msixOpen (k / 2048) (k % 2048))
  ready.foldl (fun t k => t.emit (s.message (k / 2048) (k % 2048)))
    { s with pcie := { s.pcie with pba := s.pcie.pba.filter (fun k => !s.msixOpen (k / 2048) (k % 2048)) } }

/-! ## Sources (R325) -/

/-- The level of pin `p` (R328): asserted or not. -/
def State.irqPin (s : State) (p : Nat) : Bool :=
  s.bicOn && s.srcs.any (fun e => e.2.en && e.2.tkind == 2 && e.2.tidx == p && e.2.st == 1)

/-- Core `c` has its line asserted (R326). -/
def State.coreLine (s : State) (c : Nat) : Bool :=
  s.bicOn && s.srcs.any (fun e => e.2.en && e.2.tkind == 0 && e.2.tidx == c && e.2.st == 1 &&
    decide (s.fl pgBIC (Reg.BIC.THR c) 3 0 < e.2.prio))

/-- IRQ_OUT pins follow their sources: pins whose level changed since `old` are driven (R328). -/
def State.drivePins (s old : State) : State :=
  (List.range 16).foldl (fun t p =>
    if s.irqPin p == old.irqPin p then t
    else t.pin pgBIC p (b2n (s.irqPin p == s.fb pgBIC Reg.BIC.PINCFG p))) s

/-- A source becomes PENDING; one that targets MSI-X is claimed by its message in the same cycle (R325, R327). -/
def State.srcPend (s : State) (i : Nat) : State :=
  let x := s.src i
  if x.tkind = 1 then
    (s.setSrc i { x with st := 2, claimer := 4 + x.fn i, cnt := (x.cnt + 1) % 2 ^ 32, epend := false }).msix (x.fn i) (x.vec i)
  else (s.setSrc i { x with st := 1, epend := false }).drivePins s

/-- The input of a level source is sampled (R325); while BIC has EN = 0 it keeps its state (R345). -/
def State.srcSample (s : State) (i : Nat) : State :=
  if srcIsLevel i = false then s
  else
    let l := s.srcLevel i
    let s := s.setSrc i { s.src i with inp := l }
    let x := s.src i
    if x.st = 0 ∧ l ∧ x.en ∧ s.bicOn then s.srcPend i
    else if x.st = 1 ∧ l = false ∧ s.bicOn then (s.setSrc i { x with st := 0 }).drivePins s
    else s

/-- An edge arrives at a source (R325, R345). -/
def State.srcEdge (s : State) (i : Nat) : State :=
  let x := s.src i
  if srcIsEdge i = false ∨ s.bicOn = false ∨ x.en = false then s
  else if x.st = 2 then
    if x.epend then s.sat pgBIC Reg.BIC.EDGELOST 1 else s.setSrc i { x with epend := true }
  else if x.st = 0 then s.srcPend i
  else s

/-- SOURCE_INPUT (R325): a level source is sampled, an edge source takes an edge. -/
def execSourceInput (source : Nat) (s : State) : Host.Outcome State Fault Refusal :=
  .next (if srcIsLevel source then s.srcSample source else s.srcEdge source)

/-- The source a claim returns: highest PRIO, then lowest number. -/
def bestSrc : List (Nat × Src) → Option (Nat × Src)
  | [] => none
  | e :: es =>
    match bestSrc es with
    | some f => if f.2.prio ≤ e.2.prio then some e else some f
    | none => some e

/-- A read of CLAIMc or PCLAIMp (R326, R328): `kind` 0 core, 2 pin; `act` when the read claims. -/
def State.claim (s : State) (kind idx req : Nat) (act : Bool) : State :=
  let fits := s.srcs.filter (fun e => e.2.en && e.2.tkind == kind && e.2.tidx == idx && e.2.st == 1 &&
    (kind == 2 || decide (s.fl pgBIC (Reg.BIC.THR idx) 3 0 < e.2.prio)) && (!e.2.sec || s.secure req))
  match (if s.bicOn then bestSrc fits else none) with
  | none => { s with readData := 0x1FFF }
  | some (i, x) =>
    let s := { s with readData := i + x.prio * 2 ^ 16 }
    if act then
      (s.setSrc i { x with st := 2, claimer := if kind = 0 then idx else 16 + idx, cnt := (x.cnt + 1) % 2 ^ 32 }).drivePins s
    else s

/-- CLAIM (R326). -/
def execClaim (core req : Nat) (s : State) : Host.Outcome State Fault Refusal :=
  .next (if core < 4 then s.readGate pgBIC req (·.claim 0 core req true) else s)

/-- PCLAIM (R328). -/
def execPclaim (pin req : Nat) (s : State) : Host.Outcome State Fault Refusal :=
  .next (if pin < 16 then s.readGate pgBIC req (·.claim 2 pin req true) else s)

/-- A completion of source `i` by a claimer in `lo` to `hi` (R325, R326, R329). -/
def State.complete (s : State) (i lo hi : Nat) : State :=
  let x := s.src i
  if s.bicOn = false then s
  else if 4992 ≤ i ∨ x.st ≠ 2 ∨ x.claimer < lo ∨ hi < x.claimer then
    ((s.sat pgBIC Reg.BIC.SPURCMP 1).err pgBIC 0 0x240 i).setIst pgBIC 0
  else if srcIsEdge i then
    let s := s.pbaServed i x
    if x.epend then s.srcPend i else s.setSrc i { x with st := 0 }
  else
    let l := s.srcLevel i
    let s := (s.pbaServed i x).setSrc i { x with st := 0, inp := l }
    if l ∧ x.en then s.srcPend i else s

/-- COMPLETE (R326). -/
def execComplete (core source req : Nat) (s : State) : Host.Outcome State Fault Refusal :=
  .next (if core < 4 then s.gateH pgBIC req (Reg.BIC.COMPLETE core) source (·.complete (source % 8192) core core) else s)

/-- PCOMPLETE (R328). -/
def execPcomplete (source req : Nat) (s : State) : Host.Outcome State Fault Refusal :=
  .next (s.gateH pgBIC req Reg.BIC.PCOMPLETE source (·.complete (source % 8192) 16 31))

/-- HCMP (R327). -/
def execHcmp (fn source req : Nat) (s : State) : Host.Outcome State Fault Refusal :=
  .next (if fn < 2 then s.gateH pgBIC req (if fn = 0 then Reg.BIC.HCMP0 else Reg.BIC.HCMP1) source
    (·.complete (source % 8192) (4 + fn) (4 + fn)) else s)

/-- SWSET (R323). -/
def execSwset (swi req : Nat) (s : State) : Host.Outcome State Fault Refusal :=
  .next (s.gateH pgBIC req Reg.BIC.SWSET swi (·.srcEdge (4608 + swi % 256)))

/-! ## Source entries (R324) -/

/-- A word write to the entry of source `i` at offset 0, 4, 8 or 12. -/
def State.srcWrite (s : State) (i o v req : Nat) : State :=
  let x := s.src i
  if srcIsLevel i = false ∧ srcIsEdge i = false then s
  else if x.sec ∧ s.secure req = false then s.ownerError pgBIC req
  else if o = 8 then s.setSrc i { x with cnt := v % 2 ^ 32 }
  else if o ≠ 0 then s
  else if bits v 2 1 = 3 ∨ (bits v 2 1 = 0 ∧ 3 < bits v 7 4) then s.err pgBIC 1 0x241 i
  else
    let m := if i < 4096 then 0x00001FF7 else 0x07FF3FF7
    let v := v &&& m
    let v := if s.secure req then v else setBits v 12 12 (b2n x.sec)
    let s' := s.setSrc i { x with cfg := v }
    if bit v 0 = false ∧ x.st = 1 then (s'.setSrc i { s'.src i with st := 0 }).drivePins s
    else if x.st = 1 ∧ bits v 2 1 = 1 ∧ s.bicOn then (s'.srcPend i).drivePins s -- the delivery due is now by message
    else (s'.drivePins s).srcSample i

/-- A 64-bit write to an entry is one write: refused for SEC it is one error (R324). -/
def State.srcWide (s : State) (i o v req : Nat) : State :=
  let t := s.srcWrite i o (v % 2 ^ 32) req
  if (s.src i).sec ∧ s.secure req = false then t else t.srcWrite i (o + 4) (v / 2 ^ 32 % 2 ^ 32) req

/-- A word read of the entry of source `i`. -/
def State.srcRead (s : State) (i o req : Nat) : Nat :=
  let x := s.src i
  if (srcIsLevel i = false ∧ srcIsEdge i = false) ∨ (x.sec ∧ s.secure req = false) then 0
  else if o = 0 then x.cfg + (if i < 4096 then x.fn i * 2 ^ 13 + x.vec i * 2 ^ 16 else 0)
  else if o = 4 then
    b2n x.inp + 2 * b2n (x.st == 1) + 4 * b2n (x.st == 2) + 8 * b2n x.epend + (if x.st = 2 then x.claimer * 16 else 0) + b2n (srcIsEdge i) * 4096
  else if o = 8 then x.cnt
  else 0

/-! ## Latches (R330) -/

/-- The latches whose catch waits are handed to Belfry: CTLCLK runs. -/
def State.latchHand (s : State) (n : Nat) : State :=
  if s.fb pgBIC (Reg.BIC.ALAT n) 24 ∧ s.clocked then (s.setFl pgBIC (Reg.BIC.ALAT n) 24 24 0).srcEdge (4864 + n) else s

/-- LATCH_CATCH (R330): an edge that only the latch shows, on the GPIO input pin it watches; of a latch on an asynchronous
channel, whose events it has caught, the hand-over. -/
def execLatchCatch (latch : Nat) (rising : Bool) (s : State) : Host.Outcome State Fault Refusal :=
  let v := s.rg pgBIC (Reg.BIC.ALAT latch)
  if 32 ≤ latch ∨ bit v 0 = false then .next s
  else if bit v 1 = false then .next (s.latchHand latch)
  else if s.gpioIsOut (bits v 13 8) ∨ bit v (if rising then 16 else 17) = false then .next s
  else
    let s := s.setRg pgBIC (Reg.BIC.ALAT latch) (setBits v 24 24 1)
    let s := if bit v 20 then s.wakeBy 1 [1, 2, 3, 4] else s
    .next (s.latchHand latch)

/-- The caught latches on an input are handed over. -/
def State.latchesHand (s : State) (gpio : Bool) (idx : Nat) : State :=
  (List.range 32).foldl (fun t n =>
    let v := t.rg pgBIC (Reg.BIC.ALAT n)
    if bit v 1 == gpio && bits v 13 8 == idx then t.latchHand n else t) s

/-- Register writes of BIC with a rule of their own. -/
def State.bicOnWrite (s : State) (o v : Nat) : Option State :=
  match (List.range 4).find? (fun c => o == Reg.BIC.COMPLETE c) with
  | some c => some (s.complete (bits v 12 0) c c)
  | none =>
    if o = Reg.BIC.PCOMPLETE then some (s.complete (bits v 12 0) 16 31)
    else if o = Reg.BIC.HCMP0 then some (s.complete (bits v 12 0) 4 4)
    else if o = Reg.BIC.HCMP1 then some (s.complete (bits v 12 0) 5 5)
    else if o = Reg.BIC.SWSET then some (s.srcEdge (4608 + bits v 7 0))
    else if o = Reg.BIC.PINCFG then
      let t := s.writeWord pgBIC o v
      some ((List.range 16).foldl (fun u p =>
        if s.fb pgBIC o p == t.fb pgBIC o p then u
        -- before the first EN = 1 the pins are inactive under PINCFG (R500)
        else if (t.page pgBIC).shown = false ∧ t.standby = false then u.emit (.pin pgBIC p (b2n !(t.fb pgBIC o p)))
        else u.pin pgBIC p (b2n (t.irqPin p == t.fb pgBIC o p))) t)
    else none

/-- CTRL.EN of BIC became 1: level inputs are sampled and messages that wait are due; either way the pins follow. -/
def State.bicShow (s old : State) : State :=
  let s := if s.bicOn && !old.bicOn then (s.srcs.map (·.1)).foldl (fun t i =>
      let u := t.srcSample i
      if (u.src i).st = 1 ∧ (u.src i).tkind = 1 then u.srcPend i else u) s else s
  s.drivePins old

/-- A soft reset of BIC: the source table returns to reset (R32). -/
def State.bicReset (s : State) : State := ({ s with srcs := [] }).drivePins s

end Sys2Proof.Machine
end

