-- ==== Sys2Proof/Machine/Queues.lean ====
section
/-!
DEFINITION. Queue descriptors, doorbells and the PCIe endpoint (15 R299 to R313): HQF and PCIE.
-/

namespace Sys2Proof.Machine

/-! ## Descriptors (R304, R305, R307) -/

/-- A forbidden or refused descriptor write (R304, R305). -/
def State.qcfgError (s : State) (q : Nat) : State := s.err pgHQF 1 0x201 q

/-- The kind of a unit's port (R306): some true producer, some false consumer. -/
def portKind (u port : Nat) : Option Bool :=
  match blkOf u with
  | some .cam => if port < 2 then some true else none
  | some .def_ | some .clp | some .dma | some .sdf | some .tlk => if port = 0 then some true else none
  | some .cmp | some .eth | some .keep => if port = 0 then some false else if port = 1 then some true else none
  | _ => none

/-- A write of BIND (R307). -/
def State.queueBind (s : State) (q v : Nat) : State :=
  let x := s.queue q
  let u := bits v 7 0
  let p := bits v 11 8
  if u = x.unit ∧ p = x.port then s
  else if x.en then s.qcfgError q
  else if u = 0xFF then s.setQueue q { x with unit := u, port := p }
  else
    match s.bindFault u with
    | some c => s.bindError pgHQF c q
    | none =>
      if (portKind u p).isNone ∨ s.queues.any (fun e => e.1 != q && e.2.unit == u && e.2.port == p) then s.bindError pgHQF 0x010 q
      else s.setQueue q { x with unit := u, port := p }

/-- The CFG word of a descriptor. -/
def Queue.cfg (x : Queue) : Nat :=
  b2n x.en + 2 * b2n x.loc + 4 * x.esz + 16 * x.log2n + 512 * x.imode + 65536 * x.ithr

/-- The fields of CFG other than EN. -/
def Queue.withCfg (x : Queue) (v : Nat) : Queue :=
  { x with loc := bit v 1, esz := bits v 3 2, log2n := bits v 8 4, imode := bits v 10 9, ithr := bits v 23 16 }

/-- An enable breaks R305. -/
def Queue.enableBad (x : Queue) : Bool :=
  x.esz == 3 || decide (x.log2n < 6) || decide (16 < x.log2n) || x.base % (2 ^ x.log2n * x.esize) != 0 || x.shadow % 8 != 0

/-- A write of CFG that sets EN from 0 to 1 (R305). -/
def State.queueEnable (s : State) (q v : Nat) : State :=
  let x := (s.queue q).withCfg v
  if x.enableBad then s.qcfgError q
  else s.setQueue q { x with en := true, pidx := 0, cidx := 0, qerr := false, code := 0, timer := none, head := none }

/-- A queue without EN: a queue in ERROR stays there until it is enabled again (R310). -/
def Queue.off (x : Queue) : Queue := { x with en := false, closing := false, timer := none, head := none }

/-- An entry of the queue is on its way from the host. -/
def State.inTransfer (s : State) (q : Nat) : Bool := s.hostReads.any (fun r => r.kind == 0 && r.num == q && r.data.isNone)

/-- EN of a queue becomes 0, after the entry transfer in progress (R305). -/
def State.queueOff (s : State) (q : Nat) : State :=
  let x := s.queue q
  if s.inTransfer q then s.setQueue q { x with closing := true } else (s.hostForget 0 q).setQueue q x.off

/-- A write of CFG that clears EN (R304, R305); other fields are tested against EN as it stood. -/
def State.queueDisable (s : State) (q v : Nat) : State :=
  let x := s.queue q
  let t := s.queueOff q
  if x.withCfg v = x then t else t.qcfgError q

/-- The entry transfer of a queue has ended: a clear of EN that waited for it takes effect (R305). -/
def State.transferEnded (s : State) (r : HostRead) : State :=
  if r.kind = 0 ∧ (s.queue r.num).closing ∧ s.inTransfer r.num = false then s.queueOff r.num else s

/-- A write of CFG (R304, R305). -/
def State.queueCfg (s : State) (q v : Nat) : State :=
  let x := s.queue q
  if x.en then
    if bit v 0 then (if x.withCfg v = x then s else s.qcfgError q) else s.queueDisable q v
  else if bit v 0 then s.queueEnable q v
  else s.setQueue q (x.withCfg v)

/-- A write of another field, forbidden while EN = 1 when it would change it (R304). -/
def State.queueField (s : State) (q : Nat) (y : Queue) : State :=
  if y = s.queue q then s else if (s.queue q).en then s.qcfgError q else s.setQueue q y

/-! ## Doorbells (R308) -/

/-- Software owns PIDX, and CIDX (R306). -/
def Queue.softP (x : Queue) : Bool := x.unit == 0xFF || portKind x.unit x.port == some false
def Queue.softC (x : Queue) : Bool := x.unit == 0xFF || portKind x.unit x.port == some true

/-- An invalid doorbell (R308, R313): a violation when the host sent it. -/
def State.doorbellBad (s : State) (q req : Nat) : State :=
  let s := (s.sat pgHQF Reg.HQF.DBERRCNT 1).err pgHQF 0 0x200 q
  if req < 2 then s.violate pgPCIE 0x200 else s

/-- A producer doorbell (R308). -/
def State.bellP (s : State) (q v req : Nat) : State :=
  let x := s.queue q
  let n := (v % 2 ^ 32 + 2 ^ 32 - x.pidx) % 2 ^ 32
  if x.en = false ∨ x.softP = false ∨ 2 ^ x.log2n < x.count + n then s.doorbellBad q req
  else s.setQueue q { x.advanceP n s.cycle with by_ := req }

/-- A consumer doorbell (R308, R311): a valid one restarts the timer. -/
def State.bellC (s : State) (q v req : Nat) : State :=
  let x := s.queue q
  let n := (v % 2 ^ 32 + 2 ^ 32 - x.cidx) % 2 ^ 32
  if x.en = false ∨ x.softC = false ∨ x.count < n then s.doorbellBad q req
  else
    let y := x.advanceC n
    s.setQueue q { y with timer := if y.count = 0 then none else some s.cycle }

/-- A word write to a descriptor, at offset `o` (R304). -/
def State.queueWrite (s : State) (q o v req : Nat) : State :=
  let x := s.queue q
  if o = 0 then s.queueField q { x with base := setBits x.base 31 0 v }
  else if o = 4 then s.queueField q { x with base := setBits x.base 63 32 v }
  else if o = 8 then s.queueCfg q v
  else if o = 0xC then s.queueBind q v
  else if o = 0x10 then s.bellP q v req
  else if o = 0x14 then s.bellC q v req
  else if o = 0x18 then s.queueField q { x with shadow := setBits x.shadow 31 0 v }
  else if o = 0x1C then s.queueField q { x with shadow := setBits x.shadow 63 32 v }
  else if o = 0x24 then s.queueField q { x with itmo := v % 65536 }
  else s

/-- A 64-bit write to a descriptor (R304, R308): BASE and SHADOW are one register each, other pairs two writes. -/
def State.queueWide (s : State) (q o v req : Nat) : State :=
  let x := s.queue q
  if o = 0 then s.queueField q { x with base := v % 2 ^ 64 }
  else if o = 0x18 then s.queueField q { x with shadow := v % 2 ^ 64 }
  else (s.queueWrite q o (v % 2 ^ 32) req).queueWrite q (o + 4) (v / 2 ^ 32 % 2 ^ 32) req

/-- A word read of a descriptor (R304). -/
def State.queueRead (s : State) (q o : Nat) : Nat :=
  let x := s.queue q
  if o = 0 then bits x.base 31 0
  else if o = 4 then bits x.base 63 32
  else if o = 8 then x.cfg
  else if o = 0xC then x.unit + x.port * 256
  else if o = 0x10 then x.pidx
  else if o = 0x14 then x.cidx
  else if o = 0x18 then bits x.shadow 31 0
  else if o = 0x1C then bits x.shadow 63 32
  else if o = 0x20 then (if x.qerr then 2 else b2n x.en) + x.code * 16
  else if o = 0x24 then x.itmo
  else 0

/-- QUEUE_ENABLE (R305): a write of CFG with EN = 1. -/
def execQueueEnable (queue value req : Nat) (s : State) : Host.Outcome State Fault Refusal :=
  .next (if queue < 4096 then (s.mirror (0x200000 + 64 * queue + 8) false (setBits value 0 0 1) req).gate pgHQF req 8
    (·.queueCfg queue (setBits value 0 0 1)) else s)

/-- QUEUE_DISABLE (R305): a write of CFG with EN = 0. -/
def execQueueDisable (queue value req : Nat) (s : State) : Host.Outcome State Fault Refusal :=
  .next (if queue < 4096 then (s.mirror (0x200000 + 64 * queue + 8) false (setBits value 0 0 0) req).gate pgHQF req 8
    (·.queueCfg queue (setBits value 0 0 0)) else s)

/-- QUEUE_BIND (R307). -/
def execQueueBind (queue value req : Nat) (s : State) : Host.Outcome State Fault Refusal :=
  .next (if queue < 4096 then (s.mirror (0x200000 + 64 * queue + 0xC) false value req).gate pgHQF req 0xC (·.queueBind queue value) else s)

/-- A doorbell through the descriptor, or through the doorbell array of the queue's function (`array`, R300, R308). -/
def State.bell (s : State) (q req : Nat) (array : Bool) (o v : Nat) (f : State → State) : State :=
  if 4096 ≤ q then s
  else if array then (if req = queueFn q ∧ s.reaches req then f s else s)
  else (s.mirror (0x200000 + 64 * q + o) false v req).gate pgHQF req o f

/-- PRODUCER_DOORBELL (R308). -/
def execProducerDoorbell (queue value req : Nat) (array : Bool) (s : State) : Host.Outcome State Fault Refusal :=
  .next (s.bell queue req array 0x10 value (·.bellP queue value req))

/-- CONSUMER_DOORBELL (R308). -/
def execConsumerDoorbell (queue value req : Nat) (array : Bool) (s : State) : Host.Outcome State Fault Refusal :=
  .next (s.bell queue req array 0x14 value (·.bellC queue value req))

/-- The interrupt timer of a queue has run out (R311). -/
def State.itmoDue (s : State) (q : Nat) : Bool :=
  let x := s.queue q
  match x.timer with
  | some t0 => x.active && bit x.imode 0 && x.itmo != 0 && x.count != 0 && decide (t0 + x.itmo * 250 ≤ s.cycle)
  | none => false

/-- ITMO_EXPIRY (R311): the level rises and reaches Belfry. -/
def execItmoExpiry (queue : Nat) (s : State) : Host.Outcome State Fault Refusal :=
  .next (if queue < 4096 ∧ s.itmoDue queue then s.srcSample queue else s)

/-- A soft reset of HQF: descriptors return to reset (R304). -/
def State.hqfReset (s : State) : State :=
  { s with queues := [], hostReads := (s.hostDiscard (fun r => r.kind == 0)).hostReads }

/-- ACTIVE, ERRMAPw and PENDMAPw words as they read. -/
def State.hqfRead (s : State) (o : Nat) : Option Nat :=
  let word := fun (f : Nat → Bool) (base : Nat) =>
    (List.range 32).foldl (fun m i => if f (base + i) then m + 2 ^ i else m) 0
  if o = Reg.HQF.ACTIVE then some ((s.queues.filter (fun e => e.2.en)).length)
  else if 0x200 ≤ o ∧ o < 0x400 then
    some (word (fun q => (s.queue q).qerr) ((o - 0x200) / 4 * 32))
  else if 0x400 ≤ o ∧ o < 0x600 then some (word (fun q => s.queueLevel q) ((o - 0x400) / 4 * 32))
  else none

/-! ## PCIe (R299 to R302, R313) -/

/-! ## The end of a DMA chain (R315, R319, R320) -/

/-- A channel. -/
def State.dma (s : State) (c : Nat) : DmaCh := Tbl.getD s.dmas c ⟨0, none, 0, none⟩
def State.setDma (s : State) (c : Nat) (x : DmaCh) : State := { s with dmas := Tbl.put s.dmas c x }

/-- STATE of a channel: 0 IDLE, 1 PENDING, 2 RUN, 3 STOPPING, 4 STOPPED, 5 ERROR; its CODE. -/
def State.dmaState (s : State) (c : Nat) : Nat := s.fl pgDMA (Reg.DMA.chSTAT c) 2 0
def State.setDmaState (s : State) (c v : Nat) : State := s.setFl pgDMA (Reg.DMA.chSTAT c) 2 0 v

/-- The channel the engine runs. -/
def State.dmaRunning (s : State) : Option Nat := (List.range 16).find? (fun c => s.dmaState c == 2 || s.dmaState c == 3)

/-- ESTAT follows the engine. -/
def State.dmaShow (s : State) : State :=
  s.setRg pgDMA Reg.DMA.ESTAT (match s.dmaRunning with
    | some c => 1 + c * 16
    | none => 0)

/-- The completion entry of a channel with CPLEN (R320). -/
def State.dmaCpl (s : State) (c code : Nat) : State :=
  if s.fb pgDMA (Reg.DMA.chCTL c) 8 = false then s
  else
    let e := leBytes 1 c ++ leBytes 1 code ++ leBytes 2 0 ++ leBytes 4 (s.dma c).ndesc ++ leBytes 8 (s.rg64 pgDMA (Reg.DMA.chTAG c))
    match s.post pgDMA 0 [e] with
    | (t, true) => t
    | (t, false) => t.sat pgDMA Reg.DMA.CPLDROP 1

/-- A chain ends with a code in a state (R315, R319, R320). -/
def State.dmaEnd (s : State) (c code st : Nat) : State :=
  let p := pgDMA
  let a := s.rg64 p (Reg.DMA.chCUR c) / 32 * 32
  let s := (s.setRg p (Reg.DMA.chSTAT c) (st + code * 256)).hostForget 1 c
  let s := s.setDma c { s.dma c with desc := none }
  let s :=
    if 2 ≤ code ∧ code ≤ 5 then (s.err p (code - 2) (0x220 + code) (a % 2 ^ 20)).setIst p 1
    else if code = 6 then s.err p 5 0x227 (a % 2 ^ 20) else s
  (((s.dmaCpl c code).happenFrom p 0 c (s.dma c).chain)).dmaShow

/-- A device read ends in error: queue STATE ERROR with its CODE, the DMA channel in ERROR with code HOST, CUR at the
descriptor in progress (R310, R313, R315, R319); a frame of an Ethernet port is refused when it is taken up again. -/
def State.hostReadError (s : State) (r : HostRead) (code : Nat) : State :=
  let s := { s with hostReads := s.hostReads.filter (fun x => !(x.tag == r.tag && x.data.isNone)) }
  match r.kind with
  | 0 => (if (s.queue r.num).qerr then s else s.queueError r.num code).transferEnded r
  | 1 => if s.dmaState r.num = 2 ∨ s.dmaState r.num = 3 then s.dmaEnd r.num 5 5 else s
  | 2 => { s with hostEnds := if s.hostEnds.contains (256 + r.num) then s.hostEnds else s.hostEnds ++ [256 + r.num] }
  | _ => s

/-- A PCIe violation (R313): ERR bit, counter, log, count; the error is reported through AER. -/
def State.pcieBad (s : State) (bit_ cnt code : Nat) : State :=
  (({ s with pcie := { s.pcie with aer := s.pcie.aer ||| 2 ^ bit_ } }.sat pgPCIE cnt 1).err pgPCIE bit_ code 0).violate pgPCIE code

/-- Data of a device read arrives: kept for its requester, or discarded where the requester has ended (R302). -/
def State.hostDeliver (s : State) (r : HostRead) (d : List Byte) : State :=
  let mine := fun (x : HostRead) => x.tag == r.tag && x.data.isNone
  let s := { s with hostReads :=
    if r.kind = 3 then s.hostReads.filter (fun x => !mine x)
    else s.hostReads.map (fun x => if mine x then { x with data := some d } else x) }
  (s.setHostBytes r.fn r.addr d).transferEnded r

/-- HOST_COMPLETION (R313): status 0 is Successful Completion, others are Unsupported Request or Completer Abort;
`ep` marks poisoned data. -/
def execHostCompletion (tag status : Nat) (ep : Bool) (data : List (BitVec 8)) (s : State) :
    Host.Outcome State Fault Refusal :=
  match s.hostReads.find? (fun r => r.tag == tag && r.data.isNone) with
  | none => .next s
  | some r =>
    if status ≠ 0 then .next ((s.hostReadError r 3).pcieBad 1 Reg.PCIE.CPLERRCNT 0x211)
    else if ep then .next ((s.hostReadError r 4).pcieBad 2 Reg.PCIE.POISONCNT 0x212)
    else .next (s.hostDeliver r ((data ++ List.replicate r.len 0).take r.len))

/-- The least time of a completion timeout value of Device Control 2 in cycles of 4 ns, none for a reserved value
(PRESUMED: the ranges of the PCIe standard; log entry 35). -/
def ctoLeast (v : Nat) : Option Nat :=
  match v with
  | 0 => some 12500
  | 1 => some 12500
  | 2 => some 250000
  | 5 => some 4000000
  | 6 => some 16250000
  | 9 => some 65000000
  | 10 => some 250000000
  | 13 => some 1000000000
  | 14 => some 4250000000
  | _ => none

/-- The completion timeout of a read can pass: its function's Device Control 2 does not disable it and the least time of
the range set there has gone by since the issue (R299). -/
def State.ctoDue (s : State) (r : HostRead) : Bool :=
  let d := s.pcie.devCtl2.getD r.fn 0
  !bit d 4 && decide (r.at_ + (ctoLeast (d % 16)).getD 0 ≤ s.cycle)

/-- COMPLETION_TIMEOUT (R299, R313): acts where Device Control 2 lets the timeout of that read pass. -/
def execCompletionTimeout (tag : Nat) (s : State) : Host.Outcome State Fault Refusal :=
  match s.hostReads.find? (fun r => r.tag == tag && r.data.isNone) with
  | none => .next s
  | some r => .next (if s.ctoDue r then (s.hostReadError r 2).pcieBad 0 Reg.PCIE.CTOCNT 0x210 else s)

/-- MALFORMED_TLP (R313). -/
def execMalformedTlp (s : State) : Host.Outcome State Fault Refusal :=
  .next (s.pcieBad 4 Reg.PCIE.MALFCNT 0x214)

/-- A host access through PF1 BAR0 (R300, R301, R313): DRAM as requester 1, UR beyond installed DRAM; a poisoned write
is discarded. A request outside the BAR is none of the endpoint's and gets UR. -/
def State.hostDram (s : State) (write : Bool) (a n : Nat) (data : List Byte) (ep : Bool) : State :=
  let len := if write then data.length else n
  if 2 ^ s.pcie.bar < a + len then s.emit (.pcie (b2n write) 1 0)
  else if s.dramEnd < a + len then
    (s.pcieBad 3 Reg.PCIE.URCNT 0x213).emit (.pcie (b2n write) 1 0)
  else if write then
    if ep then s.pcieBad 2 Reg.PCIE.POISONCNT 0x212 else (s.dramWrite (s.who 1) a data).1
  else
    match s.dramRead (s.who 1) a n with
    | (t, some bs) => { t with readData := leVal bs }.emit (.pcie 0 0 (leVal bs))
    | (t, none) => t.emit (.pcie 0 2 0)

/-- DEVICE_MEMORY_ACCESS (R300): before the window opens the host reaches nothing; a request wakes the part (R477). -/
def execDeviceMemoryAccess (write : Bool) (addr len : Nat) (data : List (BitVec 8)) (ep : Bool) (s : State) :
    Host.Outcome State Fault Refusal :=
  .next (if s.windowOpen 1 = false then s.emit (.pcie (b2n write) 1 0)
    else
      let t := s.wakeBy 2 [1, 2, 3]
      if t.clocked || t.pwr.wake.isSome then t.hostDram write addr len data ep else t)

/-- Every queue of a function is disabled (R302). -/
def State.flrQueues (s : State) (fn : Nat) : State :=
  { s with
    queues := s.queues.map (fun (e : Nat × Queue) =>
      (e.1, if queueFn e.1 = fn then e.2.off else e.2))
    hostReads := (s.hostDiscard (fun r => r.fn == fn)).hostReads }

/-- A function's MSI-X table and PBA cleared, its enables and Device Control registers at their reset values (R302, R299;
log entry 35). -/
def Pcie.flr (x : Pcie) (fn : Nat) : Pcie :=
  { x with
    bme0 := x.bme0 && fn != 0
    bme1 := x.bme1 && fn != 1
    msixEn := (x.msixEn.zipIdx).map (fun e => e.1 && e.2 != fn)
    msixMask := (x.msixMask.zipIdx).map (fun e => e.1 && e.2 != fn)
    vectors := x.vectors.filter (fun e => e.1 / 2048 != fn)
    pba := x.pba.filter (fun k => k / 2048 != fn)
    mps := x.mps.set fn 128
    mrrs := x.mrrs.set fn 512
    devCtl2 := x.devCtl2.set fn 0
    d3 := (x.d3.zipIdx).map (fun e => e.1 && e.2 != fn) }

/-- Register writes of PCIE with a rule of their own: none; a page enabled again sends what the PBA holds (R313). -/
def State.pcieShow (s : State) : State := s.pbaFlush

/-- PCIE_LINK_UP (R299): negotiated rate and width; lanes are released for traffic. -/
def execPcieLinkUp (speed width : Nat) (s : State) : Host.Outcome State Fault Refusal :=
  .next (if s.fb pgPCIE Reg.PCIE.LSTAT 0 ∨ speed = 0 ∨ 5 < speed ∨ [1, 2, 4, 8].contains width = false then s
    else
      let s := s.setFl pgPCIE Reg.PCIE.LSTAT 13 0 (1 + speed * 2 + width * 16 + s.pcie.bar * 256)
      (List.range width).foldl (fun t n => t.noteUp 4 n) (s.happen pgPCIE 0 0))

/-- PCIE_LINK_DOWN (R299). -/
def execPcieLinkDown (s : State) : Host.Outcome State Fault Refusal :=
  .next (if s.fb pgPCIE Reg.PCIE.LSTAT 0 then (s.setFl pgPCIE Reg.PCIE.LSTAT 7 0 0).happen pgPCIE 1 0 else s)

/-- A word of BAR2 as a read returns it (R300): table entry v at 16 × v holds the address, the data and the mask bit, the
PBA lies at 0x8000. -/
def State.bar2Read (s : State) (fn o : Nat) : Nat :=
  if o < 0x8000 then
    let v := s.vector fn (o / 16)
    match o % 16 / 4 with
    | 0 => bits v.1 31 0
    | 1 => bits v.1 63 32
    | 2 => v.2.1 % 2 ^ 32
    | _ => b2n v.2.2
  else if o < 0x8100 then
    (List.range 32).foldl (fun m i => if s.pcie.pba.contains (fn * 2048 + (o - 0x8000) / 4 * 32 + i) then m + 2 ^ i else m) 0
  else 0

/-- The doorbell array BAR4 as a 32-bit read returns it (R300, R308). -/
def State.bar4Read (s : State) (fn o : Nat) : Nat :=
  let x := s.queue (fn * 2048 + o / 8 % 2048)
  if o % 8 < 4 then x.pidx else x.cidx

/-- What a configuration request, or a read of BAR2 (7) or BAR4 (8) at offset `value`, returns; `vec` 8 reads 64 bits. -/
def State.configRead (s : State) (fn kind vec value : Nat) : Nat :=
  let two := fun (f : Nat → Nat) => f value + (if vec = 8 then f (value + 4) * 2 ^ 32 else 0)
  match kind with
  | 1 => b2n (if fn = 0 then s.pcie.bme0 else s.pcie.bme1)
  | 2 => b2n (s.pcie.msixEn.getD fn false)
  | 3 => b2n (s.pcie.msixMask.getD fn false)
  | 6 => if fn = 1 then s.pcie.bar else 0
  | 7 => two (s.bar2Read fn)
  | 8 => two (s.bar4Read fn)
  | 9 => b2n (s.pcie.d3.getD fn false)
  | 10 => s.pcie.mps.getD fn 128
  | 11 => s.pcie.mrrs.getD fn 512
  | 12 => s.pcie.aer
  | 14 => s.pcie.devCtl2.getD fn 0
  | _ => 0

/-- A configuration request, or a memory request to BAR2 or BAR4, that changes what the model holds: 1 Bus Master Enable,
2 MSI-X Enable, 3 function mask, 4 vector address and data, 5 vector mask, 6 size of PF1 BAR0, 9 D0 or D3hot, 10 Max Payload
Size, 11 Max Read Request Size, 12 AER status written with 1s, 13 a poisoned write through a BAR of PF0 or a doorbell,
14 Device Control 2, whose reserved timeout values are not taken (R299 to R301, R312, R313); 7 and 8 are reads. -/
def State.config (s : State) (fn kind vec value data : Nat) : State :=
  let x := s.pcie
  let b := bit value 0
  let v := s.vector fn vec
  match kind with
  | 1 => { s with pcie := if fn = 0 then { x with bme0 := b } else { x with bme1 := b } }.pbaFlush
  | 2 => { s with pcie := { x with msixEn := x.msixEn.set fn b } }.pbaFlush
  | 3 => { s with pcie := { x with msixMask := x.msixMask.set fn b } }.pbaFlush
  | 4 => if vec < 2048 then { s with pcie := { x with vectors := Tbl.put x.vectors (fn * 2048 + vec) (value, data, v.2.2) } } else s
  | 5 => if vec < 2048 then { s with pcie := { x with vectors := Tbl.put x.vectors (fn * 2048 + vec) (v.1, v.2.1, b) } }.pbaFlush else s
  | 6 => if fn = 1 ∧ 28 ≤ value ∧ value ≤ 35 then { s with pcie := { x with bar := value } }.setFl pgPCIE Reg.PCIE.LSTAT 13 8 value else s
  | 9 => { s with pcie := { x with d3 := x.d3.set fn b } }.pbaFlush
  | 10 => if value ∈ [128, 256, 512] then { s with pcie := { x with mps := x.mps.set fn value } } else s
  | 11 => if value ∈ [128, 256, 512, 1024, 2048, 4096] then { s with pcie := { x with mrrs := x.mrrs.set fn value } } else s
  | 12 => { s with pcie := { x with aer := x.aer &&& (0xFFFFFFFF ^^^ value % 2 ^ 32) } }
  | 13 => s.pcieBad 2 Reg.PCIE.POISONCNT 0x212
  | 14 => if (ctoLeast (value % 16)).isSome then { s with pcie := { x with devCtl2 := x.devCtl2.set fn (value % 32) } } else s
  | _ => s

/-- PCIE_CONFIG_REQUEST (R484): Configuration Request Retry Status (2) before the window opens, else answered (0). -/
def execPcieConfigRequest (fn kind vec value data : Nat) (s : State) : Host.Outcome State Fault Refusal :=
  if 2 ≤ fn then .next s
  else if s.reaches fn = false then .next (s.emit (.pcie 2 2 0))
  else
    let v := s.configRead fn kind vec value
    .next ({ s.config fn kind vec value data with readData := v }.emit (.pcie 2 0 v))

end Sys2Proof.Machine
end

