-- ==== Sys2Proof/Machine/Apply.lean ====
section
/-!
DEFINITION. Apply triggers at every page (02 R34, R37, R507), and the events and tasks each page has (16 R332, R335).
-/

namespace Sys2Proof.Machine

/-- An apply trigger at a page: `now` for APPLYNOW, else by event (R34). -/
def State.applyPage (s : State) (p : Nat) (now : Bool) : State :=
  let n := instOf p
  match blkOf p with
  | some .axs => s.axApply n
  | some .sdf => s.sdApply n
  | some .cam => s.camApply n
  | some .cup => s.cupApply n
  | some .clp => s.clpApply
  | some .job => s.jobApply
  | some .stp => s.stpApply n
  | some .nct => s.nctApply (b2n now)
  | some .pba => s.pbaApply n
  | _ => if (s.page p).pend then s.applySet p else s

/-- Every page subscribed to a channel applies its set (R34, R333). -/
def State.applyBy (s : State) (ch : Nat) : State :=
  (s.pages.filter (fun e => e.2.bsel == 1 && e.2.ech == ch && !e.2.hold && e.2.pend)).foldl
    (fun t e => t.applyPage e.1 false) s

/-- The IST bits of a page that are events, as a mask (R332 and the chapters' IST lists). -/
def eventMask : Blk → Nat
  | .enc => 0x3
  | .obs => 0x1F
  | .axs => 0x7
  | .sdf => 0x1B
  | .cam => 0x7
  | .cup => 0x3
  | .def_ => 0x7
  | .clp => 0x3
  | .job => 0x9
  | .stp => 0x1
  | .nct => 0x3
  | .pba => 0x7
  | .hlk => 0x3B
  | .cmp => 0x2
  | .pcie => 0x7
  | .dma => 0x1
  | .evf => 0x7
  | .ptp => 0x1
  | .eth => 0x3
  | .tlk => 0xF
  | .red => 0xF
  | .dmc => 0x5
  | .sram => 0x1
  | .lant => 0x7
  | .calc => 0x3
  | .keep => 0x7
  | .dbgc => 0xF
  | .pwrc => 0x3
  | .rstc => 0x1
  | _ => 0

/-- The page has the event (R332). -/
def hasEvent (p evt : Nat) : Bool :=
  match blkOf p with
  | some b => (decide (evt < 31) && bit (eventMask b) evt) || ((b == .evf || b == .tlk) && decide (64 ≤ evt) && decide (evt < 128))
  | none => false

/-- The page has the task input (R335). -/
def hasTask (p task : Nat) : Bool :=
  match blkOf p with
  | some .obs | some .pba | some .cam | some .ptp | some .pwrc => task == 0
  | some .clp => decide (task < 4)
  | some .dma => decide (task < 16)
  | some .axs | some .dbgc => decide (task < 2)
  | some .tlk | some .evf => decide (64 ≤ task) && decide (task < 128)
  | _ => false

end Sys2Proof.Machine
end

