-- ==== Sys2Proof/Machine/Events.lean ====
section
/-!
DEFINITION. The event fabric EVF: delivery, channel entries, software fires, GPIO, asynchronous channels
(16 R331 to R345, R509).
-/

namespace Sys2Proof.Machine

/-! ## GPIO (R344) -/

/-- PULSE_END (R344): PW cycles after the pulse the output returns to 0. -/
def execPulseEnd (pin : Nat) (s : State) : Host.Outcome State Fault Refusal :=
  match Tbl.get? s.pulses pin with
  | some t => .next (if t ≤ s.cycle then { s.gpioSet pin false with pulses := Tbl.del s.pulses pin } else s)
  | none => .next s

/-- A write of GPIOOUT sets the outputs; bits of input pins are ignored. -/
def State.gpioOutWrite (s : State) (hi : Bool) (v : Nat) : State :=
  (List.range 32).foldl (fun t i => t.gpioSet (if hi then 32 + i else i) (bit v i)) s

/-- GPIOOUT (R344): a 64-bit write. -/
def execGpioout (value req : Nat) (s : State) : Host.Outcome State Fault Refusal :=
  .next (s.gateW pgEVF req Reg.EVF.GPIOOUT value (fun t => (t.gpioOutWrite false value).gpioOutWrite true (value / 2 ^ 32)))

/-- INEDGE selects an edge: 1 rising, 2 falling, 3 both. -/
def inEdge (c : Nat) (rising : Bool) : Bool := bit c (if rising then 1 else 2)

/-- Sampling of the GPIO inputs begins (R47, R344). -/
def State.gpioStart (s : State) : State := { s with gpioFrom := [(64, s.cycle)] }

/-- Pins that became inputs since `old` are sampled from now on. -/
def State.gpioTurned (s old : State) : State :=
  { s with gpioFrom := (List.range 64).foldl (fun m g =>
      if old.gpioIsOut g && !s.gpioIsOut g then Tbl.put m g s.cycle else m) s.gpioFrom }

/-- The cycle of a pin's first sample. -/
def State.gpioSince (s : State) (g : Nat) : Nat := max (Tbl.getD s.gpioFrom 64 0) (Tbl.getD s.gpioFrom g 0)

/-- The filter of a GPIO input has `held` equal samples of a level: the levels of the first sample are taken as they are; a new
level held for FILT + 1 samples raises event 64 + g (R47, R344). -/
def State.gpioSampled (s : State) (pin : Nat) (level : Bool) (held : Nat) : State :=
  let c := s.gpioCfg pin
  let v := s.rg64 pgEVF Reg.EVF.GPIOIN
  if s.enabled pgEVF = false ∨ s.clocked = false ∨ held = 0 ∨ bit v pin = level then s
  else
    let t := s.setRg64 pgEVF Reg.EVF.GPIOIN (setBits v pin pin (b2n level))
    if s.cycle < s.gpioSince pin + held then t
    else if held < bits c 7 4 + 1 then s
    else if inEdge c level then
      ((t.producers pgEVF (64 + pin) pin).filter (fun ch => decide (ch < 248))).foldl (fun t ch => t.enterNew ch 1 0 0 pin) t
    else t

/-- GPIO_INPUT_EDGE (R330, R344): an input pin has read a level for `held` samples; latches on the pin see the edge unfiltered. -/
def execGpioInputEdge (pin : Nat) (level : Bool) (held : Nat) (s : State) : Host.Outcome State Fault Refusal :=
  if 64 ≤ pin ∨ s.gpioIsOut pin then .next s
  else .next (((s.latchSee true pin level (!level)).latchesHand true pin).gpioSampled pin level held)

/-! ## Delivery (R333 to R339) -/

/-- One trigger at a task input: of several in one cycle the lowest channel's stays (R334). -/
def State.trigger (s : State) (t : Trig) : State :=
  match s.trigs.find? (fun x => x.page == t.page && x.task == t.task && x.cycle == t.cycle) with
  | some x =>
    let s := s.inc pgEVF Reg.EVF.MERGECNT 1
    if t.ch < x.ch then { s with trigs := s.trigs.map (fun y => if y = x then t else y) } else s
  | none => { s with trigs := s.trigs ++ [t] }

/-- An event reaches one task input (R333, R335); GPIO outputs act at once. Those and WAKE of an asynchronous channel have acted
at its entry (R341). -/
def State.deliverTask (s : State) (e : Ev) (slot v : Nat) : State :=
  let p := bits v 7 0
  let k := bits v 14 8
  if p = 0xFF then s
  else if (s.page p).sec ∧ (s.chan e.ch).sec = false then
    ((s.err pgEVF 2 0x232 (e.ch * 256 + slot)).sat pgEVF Reg.EVF.SECDROPCNT 1).happen pgEVF 2 e.ch
  else if (p = pgEVF ∨ p = pgPWRC) ∧ 248 ≤ e.ch then s
  else if p = pgEVF then s.hit p k (e.entered + 2) (·.gpioTask (k - 64))
  else s.trigger
    { page := p, task := k, ch := e.ch, cycle := e.entered, index := e.index, ovs := e.ovs, arg := e.arg, origin := e.origin,
      depth := e.depth, speeds := e.speeds, mark := e.mark }

/-- EVENT_DELIVERY (R333): the oldest event of the channel, two cycles after it entered. -/
def execEventDelivery (ch : Nat) (s : State) : Host.Outcome State Fault Refusal :=
  match s.evs.find? (fun e => e.ch == ch && decide (e.entered + 2 ≤ s.cycle) && s.clocked) with
  | none => .next s
  | some e =>
    let s := { s with evs := s.evs.erase e }
    let s := (e.tasks.zipIdx).foldl (fun t x => t.deliverTask e x.2 x.1) s
    let s := (s.applyBy ch).srcEdge (4352 + ch)
    .next (if 248 ≤ ch then s.latchesHand false (ch - 248) else s)

/-- ASYNC_CHANNEL_EDGE (R341): an unfiltered GPIO edge enters an asynchronous channel; while POSCLK stands still only what needs
no clock acts. -/
def execAsyncChannelEdge (ch pin : Nat) (rising : Bool) (s : State) : Host.Outcome State Fault Refusal :=
  let c := s.chan ch
  if ch < 248 ∨ 256 ≤ ch ∨ 64 ≤ pin ∨ c.en = false ∨ c.prod ≠ pgEVF + (64 + pin) * 256 ∨ bit (s.gpioCfg pin) 0 ∨
      inEdge (s.gpioCfg pin) rising = false ∨ (pin &&& c.filtm) ≠ (c.filtv &&& c.filtm) then .next s
  else .next (if s.clocked then s.enterNew ch 1 0 0 0 else s.asyncActs ch c)

/-! ## Channel entries (R335 to R338, R342, R343) -/

/-- A word written to a channel entry. -/
def Chan.write (c : Chan) (ch o v : Nat) : Chan :=
  if o = Reg.EVF.CCTRL then
    { c with en := bit v 0, sec := decide (248 ≤ ch) || bit v 1, lock := c.lock || bit v 2, own := bits v 11 8,
             dis := c.dis && !bit v 0, loopcnt := if bit v 0 then 0 else c.loopcnt }
  else if o = Reg.EVF.PROD then { c with prod := v % 2 ^ 15 }
  else if o = Reg.EVF.FILTV then { c with filtv := v }
  else if o = Reg.EVF.FILTM then { c with filtm := v }
  else if Reg.EVF.TASK 0 ≤ o ∧ o < Reg.EVF.TASK 8 then { c with tasks := c.tasks.set ((o - Reg.EVF.TASK 0) / 4) (v % 2 ^ 15) }
  else if o = Reg.EVF.CFIRE then { c with cfire := v }
  else c

/-- The entry as it will stand once every accepted write has taken effect (R338). -/
def State.chanSoon (s : State) (ch : Nat) : Chan :=
  (s.chanWrites.filter (fun w => w.ch == ch)).foldl (fun c w => c.write ch w.off w.val) (s.chan ch)

/-- OWN or SEC of the entry refuses the requester (R338, R342). -/
def State.chanRefuses (s : State) (ch req : Nat) : Bool :=
  let c := s.chanSoon ch
  (c.own != 0xF && c.own != req && req != 6) || (c.sec && !s.secure req)

/-- The code with which a write of PROD or TASK fails as a binding (R336, R343). -/
def State.chanBindFault (s : State) (ch o v : Nat) : Option (Nat × Nat) :=
  let u := bits v 7 0
  let k := bits v 14 8
  let task := decide (Reg.EVF.TASK 0 ≤ o) && decide (o < Reg.EVF.TASK 8)
  if u = 0xFF ∨ (o ≠ Reg.EVF.PROD ∧ task = false) then none
  else
    let field := if task then 1 + (o - Reg.EVF.TASK 0) / 4 else 0
    match s.bindFault u with
    | some c => some (c, ch * 256 + field)
    | none =>
      let numbered := task && decide (248 ≤ ch) && (match blkOf u with
        | some .pba | some .cam | some .clp => true
        | _ => false)
      if numbered ∨ (if task then hasTask u k else hasEvent u k) = false then some (0x010, ch * 256 + field) else none

/-- A word of an entry write that its owner may make (R336, R337, R342). -/
def State.chanPut (s : State) (ch o v : Nat) : State :=
  if o = Reg.EVF.CSTAT then s
  else if o = Reg.EVF.CCTRL ∧ 248 ≤ ch ∧ bits v 11 8 ≠ 0xF ∧ (bits v 11 8 < 2 ∨ 6 < bits v 11 8) then s.err pgEVF 3 0x233 ch
  else match s.chanBindFault ch o v with
    | some (code, ctx) => s.bindError pgEVF code ctx
    | none => { s with chanWrites := s.chanWrites ++ [⟨s.cycle + 2, ch, o, v⟩] }

/-- LOCK, OWN or SEC of the entry refuses a write (R338). -/
def State.chanShut (s : State) (ch req : Nat) : Bool := (s.chanSoon ch).lock || s.chanRefuses ch req

/-- An entry write that reaches EVF (R336 to R338, R342). -/
def State.chanWrite (s : State) (ch o v req : Nat) : State :=
  if s.chanShut ch req then s.ownerError pgEVF req else s.chanPut ch o v

/-- A 64-bit write to an entry is one write, checked once (R338). -/
def State.chanPair (s : State) (ch o lo hi req : Nat) : State :=
  if s.chanShut ch req then s.ownerError pgEVF req else (s.chanPut ch o lo).chanPut ch (o + 4) hi

/-- CHSEL of a requester. -/
def State.chsel (s : State) (req : Nat) : Nat := Tbl.getD s.chSels req 0

/-- CHANNEL_WRITE (R337): a word of the entry that CHSEL names. -/
def execChannelWrite (off value req : Nat) (s : State) : Host.Outcome State Fault Refusal :=
  .next (if 0x200 ≤ off ∧ off < 0x238 ∧ off % 4 = 0 then
    s.gateH pgEVF req off value (fun t => t.chanWrite (t.chsel req) off (value % 2 ^ 32) req) else s)

/-- CHANNEL_WRITE_EFFECT (R337): accepted writes whose cycle has come, in order. -/
def execChannelWriteEffect (s : State) : Host.Outcome State Fault Refusal :=
  let due := s.chanWrites.filter (fun w => decide (w.at_ ≤ s.cycle))
  .next (due.foldl (fun t w => t.setChan w.ch ((t.chan w.ch).write w.ch w.off w.val))
    { s with chanWrites := s.chanWrites.filter (fun w => !decide (w.at_ ≤ s.cycle)) })

/-- A word read of the entry of a channel (R338). -/
def State.chanRead (s : State) (ch o req : Nat) : Nat :=
  let c := s.chan ch
  if c.sec ∧ s.secure req = false then 0
  else if o = Reg.EVF.CCTRL then
    b2n c.en + 2 * b2n c.sec + 4 * b2n c.lock + 8 * b2n (decide (248 ≤ ch)) + 16 * b2n c.dis + 256 * c.own
  else if o = Reg.EVF.PROD then c.prod
  else if o = Reg.EVF.FILTV then c.filtv
  else if o = Reg.EVF.FILTM then c.filtm
  else if Reg.EVF.TASK 0 ≤ o ∧ o < Reg.EVF.TASK 8 then c.tasks.getD ((o - Reg.EVF.TASK 0) / 4) 0xFF
  else if o = Reg.EVF.CSTAT then c.loopcnt
  else if o = Reg.EVF.CFIRE then c.cfire
  else 0

/-! ## Software fires (R338, R509) -/

/-- A fire of a channel by a requester. -/
def State.swfire (s : State) (ch arg req : Nat) : State :=
  if s.chanRefuses ch req then s.ownerError pgEVF req else s.enterNew ch 2 0 0 arg

/-- A 64-bit write of SWFIRE (R509): it fires and stores its ARG; a refused fire is ignored as a whole (R338). -/
def State.swfireBoth (s : State) (ch arg req : Nat) : State :=
  if s.chanRefuses ch req then s.ownerError pgEVF req
  else { s with swArgs := Tbl.put s.swArgs req arg }.swfire ch arg req

/-- SWFIRE (R509). -/
def execSwfire (ch arg req : Nat) (s : State) : Host.Outcome State Fault Refusal :=
  .next (s.gateW pgEVF req Reg.EVF.SWFIRE (ch % 256 + arg % 2 ^ 32 * 2 ^ 32) (·.swfireBoth (ch % 256) (arg % 2 ^ 32) req))

/-- SWFIRE_ARG (R509): a 32-bit write at 0x1EC. -/
def execSwfireArg (value req : Nat) (s : State) : Host.Outcome State Fault Refusal :=
  .next (s.gateH pgEVF req (Reg.EVF.SWFIRE + 4) value (fun t => { t with swArgs := Tbl.put t.swArgs req (value % 2 ^ 32) }))

/-- SWFIRE_CH (R509): a 32-bit write at 0x1E8. -/
def execSwfireCh (ch req : Nat) (s : State) : Host.Outcome State Fault Refusal :=
  .next (s.gateH pgEVF req Reg.EVF.SWFIRE ch (fun t => t.swfire (ch % 256) (Tbl.getD t.swArgs req 0) req))

/-! ## Register writes, reset -/

/-- Register writes of EVF with a rule of their own, by requester. -/
def State.evfOnWrite (s : State) (o v req : Nat) : Option State :=
  if 0x200 ≤ o ∧ o < 0x238 then some (s.chanWrite (s.chsel req) o v req)
  else if o = Reg.EVF.CHSEL then some { s with chSels := Tbl.put s.chSels req (v % 256) }
  else if o = Reg.EVF.SWFIRE then some (s.swfire (v % 256) (Tbl.getD s.swArgs req 0) req)
  else if o = Reg.EVF.SWFIRE + 4 then some { s with swArgs := Tbl.put s.swArgs req v }
  else if o = Reg.EVF.GPIOOUT then some (s.gpioOutWrite false v)
  else if o = Reg.EVF.GPIOOUT + 4 then some (s.gpioOutWrite true v)
  else if Reg.EVF.GPIOCFG 0 ≤ o ∧ o < Reg.EVF.GPIOCFG 64 ∧ bits v 9 8 = 3 ∧ bits v 31 16 = 0 then some (s.err pgEVF 3 0x233 o)
  else if Reg.EVF.GPIOCFG 0 ≤ o ∧ o < Reg.EVF.GPIOCFG 64 ∧ (s.page pgEVF).run = false then
    -- a pin that becomes an output takes its level
    let g := (o - Reg.EVF.GPIOCFG 0) / 4
    let t := (s.writeWord pgEVF o v).gpioTurned s
    some (if t.gpioIsOut g && !s.gpioIsOut g then t.pin pgEVF g (b2n (bit (t.rg64 pgEVF Reg.EVF.GPIOOUT) g)) else t)
  else none

/-- A soft reset of EVF (R345, EVF registers): events in synchronous channels are discarded, unlocked entries reset. -/
def State.evfReset (s : State) : State :=
  { s with
    evs := s.evs.filter (fun e => decide (248 ≤ e.ch))
    chans := s.chans.filter (fun e => e.2.lock)
    chanWrites := [], chSels := [], swArgs := [], hits := [], pulses := [] }

end Sys2Proof.Machine
end

