-- ==== Sys2Proof/Machine/NetTime.lean ====
section
/-!
DEFINITION. Network time PTP and the Ethernet ports (18 R368 to R378).
-/

namespace Sys2Proof.Machine

def pgETH (n : Nat) : Nat := 212 + n

/-! ## Time parameters (R372 to R375) -/

/-- The first POSCLK cycle that begins at least 4 CTLCLK cycles (2 POSCLK cycles) after a write (R373). -/
def State.ptpAt (s : State) : Nat := s.cycle + 2

/-- A parameter write awaits its cycle. -/
def State.ptpPend (s : State) (kind : Nat) (v : Int) : State :=
  { s with ptp := { s.ptp with pend := s.ptp.pend ++ [⟨s.ptpAt, kind, v⟩] } }

/-- A write of INC: 3.996 ns to 4.004 ns, else ignored (R373). -/
def State.incWrite (s : State) (v : Nat) : State :=
  let x := v % 2 ^ 48
  if x * 1000 < 3996 * 2 ^ 44 ∨ 4004 * 2 ^ 44 < x * 1000 then s.err pgPTP 0 0x280 0
  else (s.setRg64 pgPTP Reg.PTP.INC x).ptpPend 2 x

/-- A write of OFSADJ: signed 48.16 ns. -/
def State.ofsWrite (s : State) (v : Nat) : State := (s.setFl pgPTP Reg.PTP.PSTAT 0 0 0).ptpPend 1 (sgn 64 v * 65536)

/-- A write of TSETFRAC applies TSETNS and the fraction. -/
def State.tsetWrite (s : State) (frac : Nat) : State :=
  (s.setFl pgPTP Reg.PTP.PSTAT 0 0 0).ptpPend 0 ((s.rg64 pgPTP Reg.PTP.TSETNS * 2 ^ 32 + frac % 2 ^ 32 : Nat) : Int)

/-- INC_WRITE (R373). -/
def execIncWrite (value req : Nat) (s : State) : Host.Outcome State Fault Refusal :=
  .next (s.gateW pgPTP req Reg.PTP.INC value (·.incWrite value))

/-- OFSADJ (R373). -/
def execOfsadj (value req : Nat) (s : State) : Host.Outcome State Fault Refusal :=
  .next (s.gateW pgPTP req Reg.PTP.OFSADJ value (·.ofsWrite value))

/-- TSET (R373): a write of TSETFRAC. -/
def execTset (frac req : Nat) (s : State) : Host.Outcome State Fault Refusal :=
  .next (s.gateH pgPTP req Reg.PTP.TSETFRAC frac (·.tsetWrite frac))

/-- The last write of a kind among those of cycle `m`. -/
def ptpLast (ws : List PtpWrite) (m kind : Nat) : Option Int :=
  ((ws.filter (fun w => w.at_ == m && w.kind == kind)).getLast?).map (·.val)

/-- The writes of cycle `m` act in order TSET, OFSADJ, INC; NB = m (R373). Offsets of one cycle add up. -/
def Ptp.applyAt (x : Ptp) (m : Nat) : Ptp :=
  let told : Int := x.timeAt m
  let t := (ptpLast x.pend m 0).getD told
  let o := ((x.pend.filter (fun w => w.at_ == m && w.kind == 1)).map (·.val)).foldl (· + ·) 0
  { x with tb := enc2 96 (t + o), nb := m, inc := ((ptpLast x.pend m 2).map Int.toNat).getD x.inc,
           pend := x.pend.filter (fun w => w.at_ != m), past := (x.tb, x.nb, x.inc) :: x.past }

/-- TIME_PARAMETERS_APPLY (R373): the earliest cycle due. -/
def execTimeParametersApply (s : State) : Host.Outcome State Fault Refusal :=
  match s.ptp.pend.find? (fun w => decide (w.at_ ≤ s.cycle)) with
  | some w => .next { s with ptp := s.ptp.applyAt w.at_ }
  | none => .next s

/-- A capture of T, F and N for a requester (R374). -/
def State.timeCapture (s : State) (req : Nat) : State :=
  { s with readData := s.timeNs % 2 ^ 64
           ptp := { s.ptp with caps := Tbl.put s.ptp.caps req (s.timeNs, s.timeFrac % 2 ^ 32, s.cycle) } }

/-- TIMENS_CAPTURE (R374): a 64-bit read of TIMENS. -/
def execTimensCapture (req : Nat) (s : State) : Host.Outcome State Fault Refusal :=
  .next (s.readGate pgPTP req (·.timeCapture req))

/-- STAMP (R374): the STAMP task, while CTRL.EN = 1. -/
def execStamp (s : State) : Host.Outcome State Fault Refusal :=
  match s.takeTrig pgPTP 0 with
  | none => .next s
  | some (t, s) =>
    if s.enabled pgPTP = false then .next s
    else
      let s := (s.setRg64 pgPTP Reg.PTP.STAMPNS s.timeNs).setRg pgPTP Reg.PTP.STAMPFRAC (s.timeFrac % 2 ^ 32)
      .next (((s.setRg64 pgPTP Reg.PTP.STAMPCYC s.cycle).inc pgPTP Reg.PTP.STAMPCNT 1).happenFrom pgPTP 0 0
        (some (t.origin, t.depth)))

/-- Register writes of PTP with a rule of their own. -/
def State.ptpOnWrite (s : State) (o v : Nat) : Option State :=
  if o = Reg.PTP.INC then some (s.incWrite (v + s.rg pgPTP (Reg.PTP.INC + 4) * 2 ^ 32))
  else if o = Reg.PTP.INC + 4 then some (s.incWrite (s.rg pgPTP Reg.PTP.INC + v * 2 ^ 32))
  else if o = Reg.PTP.OFSADJ then some { s with ofsLow := v }
  else if o = Reg.PTP.OFSADJ + 4 then some (s.ofsWrite (s.ofsLow + v * 2 ^ 32))
  else if o = Reg.PTP.TSETFRAC then some (s.tsetWrite v)
  else none

/-! ## Ethernet (R369 to R371, R376 to R378) -/

/-- A port's hidden state. -/
def State.eth (s : State) (n : Nat) : Eth := Tbl.getD s.eths n ⟨[]⟩
def State.setEth (s : State) (n : Nat) (x : Eth) : State := { s with eths := Tbl.put s.eths n x }

/-- LSTATE 1: UP, on a port the part has. -/
def State.ethUp (s : State) (n : Nat) : Bool :=
  decide (n < unitCount s.variant .eth) && s.running (pgETH n) && s.fl (pgETH n) Reg.ETH.LSTAT 1 0 == 1

/-- T at the stamp point of a frame of port `n` plus a correction in ps (R376): the instant lies anywhere in this cycle, and is
resolved within 0.8 ns, in 1000BASE-X within 2 ns, of where it lies. -/
def State.ethStamp (s : State) (n : Nat) (cor : Int) : Nat :=
  let bound := if s.fb (pgETH n) Reg.ETH.CFG 0 then 32768 else 13107
  let instant : Int := (s.cycle : Int) * 65536 + (s.draw 16 : Nat)
  let e : Int := ((s.drawn.draw 32 % (2 * bound + 1) : Nat) : Int) - bound
  enc2 96 (s.ptp.timeAt16 (instant + e) + fdiv (cor * 2 ^ 32) 1000)

/-- TSQCNT and TXTSQ0, TXTSQ1 show the oldest stamp (R377). -/
def State.showTsq (s : State) (n : Nat) : State :=
  let p := pgETH n
  let q := (s.eth n).tsq
  let s := s.setRg p Reg.ETH.TSQCNT q.length
  match q with
  | (ns, fr, id) :: _ => (s.setRg64 p Reg.ETH.TXTSQ0 ns).setRg64 p Reg.ETH.TXTSQ1 (fr + id * 2 ^ 32 + 2 ^ 63)
  | [] => (s.setRg64 p Reg.ETH.TXTSQ0 0).setRg64 p Reg.ETH.TXTSQ1 0

/-- A transmit stamp enters the queue of 16 (R377). -/
def State.pushTs (s : State) (n t id : Nat) : State :=
  let p := pgETH n
  let x := s.eth n
  if 16 ≤ x.tsq.length then (s.sat p Reg.ETH.TSOVFCNT 1).err p 4 0x274 id
  else ((s.setEth n { x with tsq := x.tsq ++ [(t / 2 ^ 32 % 2 ^ 64, t % 2 ^ 32, id)] }).showTsq n).setIst p 2

/-- Why a TX entry is refused: LEN or an RSV field (R370). -/
def State.txBad (s : State) (n : Nat) (e : List Byte) : Bool :=
  decide (s.fl (pgETH n) Reg.ETH.MAXLEN 11 0 < leAt e 8 2 + 4) || decide (8 ≤ leAt e 10 2) || leAt e 14 18 != 0

/-- The TX entry is refused (R370). -/
def State.txRefuse (s : State) (n : Nat) : State :=
  let p := pgETH n
  let i := match s.portQueue p 0 with
    | some q => (s.queue q).cidx
    | none => 0
  ((s.sat p Reg.ETH.TXDROP 1).err p 5 0x275 (i % 2 ^ 20)).consume p 0

/-- The frame leaves the port (R369, R370, R377): padded to 60 bytes, then its FCS. -/
def State.txSend (s : State) (n : Nat) (e d : List Byte) : State :=
  let p := pgETH n
  let d := d ++ List.replicate (60 - d.length) 0
  let d := d ++ leBytes 4 (crc32 polyE d)
  let s := (s.emit (.frame p 0 [d.length] (d.map (·.toNat)))).inc p Reg.ETH.TXFRM 1
  let s := if bit (leAt e 10 2) 0 then
      s.drawn.drawn.pushTs n (s.ethStamp n (sgn 32 (s.rg p Reg.ETH.EGRCOR))) (leAt e 12 2)
    else s
  s.consume p 0

/-- TXTSQ1_POP (R377): a 64-bit read of TXTSQ1. -/
def State.tsPop (s : State) (n : Nat) : State :=
  let t := { s with readData := s.rg64 (pgETH n) Reg.ETH.TXTSQ1 }
  (t.setEth n { tsq := (t.eth n).tsq.drop 1 }).showTsq n

def execTxtsq1Pop (port req : Nat) (s : State) : Host.Outcome State Fault Refusal :=
  .next (if port < unitCount s.variant .eth then s.readGate (pgETH port) req (·.tsPop port) else s)

/-- The address filter of R369: the first byte on the wire is ADDR[7:0]. -/
def State.rxAccepts (s : State) (n : Nat) (d : List Byte) : Bool :=
  let p := pgETH n
  let dst := leAt d 0 6
  s.fb p Reg.ETH.CFG 2 || dst == s.rg64 p Reg.ETH.MACADDR % 2 ^ 48 || dst == 2 ^ 48 - 1 || (bit dst 0 && s.fb p Reg.ETH.CFG 3)

/-- A frame is written to its slot with its entry (R371); false when there is no room or an error. -/
def State.rxStore (s : State) (n : Nat) (d : List Byte) : State × Bool :=
  let p := pgETH n
  match s.portQueue p 1 with
  | none => (s, false)
  | some q =>
    let x := s.queue q
    if x.room = 0 then (s, false)
    else
      let slot := x.pidx % 2 ^ x.log2n
      match s.put (unitWho p) x.loc (queueFn q) (s.rg64 p Reg.ETH.RXBASE + slot * 2048) d with
      | (t, some c) => (if x.loc then t.queueError q c else t, false)
      | (t, none) =>
        let ts := t.ethStamp n (-(sgn 32 (t.rg p Reg.ETH.INGCOR)))
        let dst := leAt d 0 6
        let bc := dst == 2 ^ 48 - 1
        t.drawn.drawn.post p 1 [leBytes 4 slot ++ leBytes 2 d.length ++ leBytes 2 (b2n (bit dst 0 && !bc) + 2 * b2n bc) ++
          leBytes 8 (ts / 2 ^ 32 % 2 ^ 64) ++ leBytes 4 (ts % 2 ^ 32) ++ leBytes 12 0]

/-- A frame violation (R378): kind 0 FCS, 1 length, 2 code. -/
def State.ethBad (s : State) (n kind len : Nat) : State :=
  let p := pgETH n
  let cnt := if kind = 0 then Reg.ETH.FCSCNT else if kind = 1 then Reg.ETH.LENCNT else Reg.ETH.CODECNT
  let s := ((s.sat p cnt 1).err p kind (0x270 + kind) (if kind = 1 then len else 0)).violate p (0x270 + kind)
  if (s.page p).state = .fault then s.setFl p Reg.ETH.LSTAT 1 0 2 else s

/-- RX_FRAME (R371): the frame without its FCS. -/
def execRxFrame (port : Nat) (data : List (BitVec 8)) (s : State) : Host.Outcome State Fault Refusal :=
  let p := pgETH port
  if s.ethUp port = false then .next s
  else if data.length + 4 < 64 ∨ s.fl p Reg.ETH.MAXLEN 11 0 < data.length + 4 then .next (s.ethBad port 1 (data.length + 4))
  else if s.rxAccepts port data = false ∨ leAt data 12 2 = 0x0888 then .next (s.sat p Reg.ETH.RXDROP 1)
  else
    match s.rxStore port data with
    | (t, true) => .next (t.inc p Reg.ETH.RXFRM 1)
    | (t, false) => .next (t.sat p Reg.ETH.RXDROP 1)

/-- ETH_FRAME_ERROR (R378). -/
def execEthFrameError (port kind len : Nat) (s : State) : Host.Outcome State Fault Refusal :=
  .next (if s.ethUp port ∧ kind < 3 then s.ethBad port kind len else s)

/-- ETH_LINK_DOWN (R378). -/
def execEthLinkDown (port : Nat) (s : State) : Host.Outcome State Fault Refusal :=
  let p := pgETH port
  if port < unitCount s.variant .eth ∧ s.fl p Reg.ETH.LSTAT 1 0 = 1 then
    let s := ((s.setRg p Reg.ETH.LSTAT 0).sat p Reg.ETH.DOWNCNT 1).err p 3 0x273 0
    let s := (s.happen p 1 port).violate p 0x273
    .next (if (s.page p).state = .fault then s.setFl p Reg.ETH.LSTAT 1 0 2 else s)
  else .next s

/-- ETH_LINK_UP (R378). -/
def execEthLinkUp (port : Nat) (s : State) : Host.Outcome State Fault Refusal :=
  let p := pgETH port
  if port < unitCount s.variant .eth ∧ s.fl p Reg.ETH.LSTAT 1 0 = 0 ∧ s.enabled p then
    let an := s.fb p Reg.ETH.CFG 0 && s.fb p Reg.ETH.CFG 1
    .next (((s.setRg p Reg.ETH.LSTAT (5 + 8 * b2n an)).happen p 0 port).noteUp 3 port)
  else .next s

/-- Register writes of an Ethernet port with a rule of their own. -/
def State.ethOnWrite (s : State) (n o v : Nat) : Option State :=
  if (o = Reg.ETH.MAXLEN ∧ (bits v 11 0 < 64 ∨ 2048 < bits v 11 0)) ∨ (o = Reg.ETH.RXBASE ∧ v % 2048 ≠ 0) then
    some (s.err (pgETH n) 7 0x277 o)
  else none

/-- Entry to RUN (ETH registers): both queues of 32-byte entries, RXBASE not 0. -/
def State.ethOnRun (s : State) (n : Nat) : State :=
  let p := pgETH n
  if s.portEsize p 0 ≠ some 32 ∨ s.portEsize p 1 ≠ some 32 ∨ s.rg64 p Reg.ETH.RXBASE = 0 then
    (s.err p 6 0x276 0).toFault p
  else s

/-- CTRL.EN = 0 or a soft reset: the link is DOWN, stamps are discarded. -/
def State.ethOff (s : State) (n : Nat) : State :=
  let s := { s with hostEnds := s.hostEnds.filter (· != 256 + n) }.hostForget 2 n
  ((s.setRg (pgETH n) Reg.ETH.LSTAT 0).setEth n ⟨[]⟩).showTsq n

end Sys2Proof.Machine
end

