-- ==== Sys2Proof/Machine/Calib.lean ====
section
/-!
DEFINITION. Calibration CALC (21 R422 to R433; 24 R486, R487): requests, head-link recalibration, DRAM retraining and
start-up training, flat field, filter offset, results.
-/

namespace Sys2Proof.Machine

/-- Instances of a domain on the part (R422, R423). -/
def State.calInsts (s : State) (dom : Nat) : Nat :=
  match dom with
  | 0 => unitCount s.variant .hlk
  | 1 => unitCount s.variant .cam
  | 2 => 8
  | 3 => unitCount s.variant .eth
  | 4 => 8
  | 5 => s.nch
  | 6 => unitCount s.variant .cam
  | 7 => unitCount s.variant .sdf
  | _ => 0

/-- The instance's link is UP, its channel or unit in STATE RUN (R425). -/
def State.calServes (s : State) (dom inst : Nat) : Bool :=
  match dom with
  | 0 => s.lstate inst == 2
  | 1 => s.camUp inst
  | 2 => s.portState (decide (4 ≤ inst)) == 2
  | 3 => s.fl (pgETH inst) Reg.ETH.LSTAT 1 0 == 1
  | 4 => s.fb pgPCIE Reg.PCIE.LSTAT 0 && decide (inst < s.fl pgPCIE Reg.PCIE.LSTAT 7 4)
  | 5 => (s.page (pgDMC inst)).state == .run
  | 6 => (s.page (pgCAM inst)).state == .run
  | _ => (s.page (pgSDF inst)).state == .run

/-- An entry of the calibration history (R433): its slot is the next of the ring of 2,048. -/
def State.calHist (s : State) (dom inst code qual : Nat) : State :=
  let w1 := dom % 16 + inst % 256 * 2 ^ 8 + b2n (decide (code = 0)) * 2 ^ 16 + code % 16 * 2 ^ 20 + qual % 65536 * 2 ^ 32
  let c := s.cal
  { s with cal := { c with hist := Tbl.put c.hist (c.histN % 2048) [s.timeNs % 2 ^ 64, w1, 0, 0], histN := c.histN + 1 } }

/-- A calibration fails with a reason (R425). -/
def State.calFail (s : State) (dom inst code : Nat) : State :=
  let p := pgCALC
  let c := s.cal
  let k := dom * 64 + inst
  let s := { s with cal := { c with recover := if c.recover.contains k then c.recover else k :: c.recover } }
  let s := (s.sat p (Reg.CALC.FAILCNT dom) 1).setFl p (Reg.CALC.QUAL dom) 27 24 code
  let s := (s.setFl p (Reg.CALC.QUAL dom) 21 16 inst).err p 0 0x2E0 (dom % 16 * 2 ^ 16 + inst)
  (s.happen p 1 (dom * 2 ^ 16 + inst)).calHist dom inst code 0

/-- A calibration passes (R425, R426). -/
def State.calPass (s : State) (dom inst : Nat) (qual : Bool) (q : Nat) : State :=
  let p := pgCALC
  let s := (s.inc p (Reg.CALC.CNT dom) 1).setRg64 p (Reg.CALC.LASTPTP dom) s.timeNs
  let s := s.setFl p (Reg.CALC.QUAL dom) 21 16 inst
  let s := if qual || s.fb p Reg.CALC.CFG 0 then s.setFl p (Reg.CALC.QUAL dom) 15 0 (min 65535 q) else s
  (s.happen p 0 (dom * 2 ^ 16 + inst)).calHist dom inst 0 (min 65535 q)

/-! ## Requests (R424) -/

/-- A GO of CALC.CMD. -/
def State.calGo (s : State) (dom inst : Nat) (force : Bool) : State :=
  if s.calInsts dom ≤ inst then s.err pgCALC 2 0x2E2 Reg.CALC.CMD else s.calRequest dom inst false force

/-- CAL_GO (R424). -/
def execCalGo (dom inst : Nat) (force : Bool) (req : Nat) (s : State) : Host.Outcome State Fault Refusal :=
  .next (s.gateH pgCALC req Reg.CALC.CMD (1 + 2 * b2n force + 16 * dom + 256 * inst) (·.calGo dom inst force))

/-- CAL_DRIFT (R424): the monitored eye width of an instance in service. -/
def execCalDrift (dom inst width : Nat) (s : State) : Host.Outcome State Fault Refusal :=
  if dom < 5 ∧ inst < s.calInsts dom ∧ s.calServes dom inst = true ∧ s.fb pgCALC Reg.CALC.CFG (8 + dom) = true ∧
      width < s.fl pgCALC Reg.CALC.EYEMIN 7 0 + 16 then .next (s.calRequest dom inst false false)
  else .next s

/-! ## Head-link recalibration (R427, R428) -/

/-- The bars with a used entry on a link. -/
def State.linkBars (s : State) (n : Nat) : List Nat :=
  (List.range (unitCount s.variant .pba)).filter (fun b => !(s.linkEntries n b).isEmpty)

/-- Domain of a bar, its speed. -/
def State.barDomain (s : State) (b : Nat) : Nat := s.fl (pgPBA b) Reg.PBA.CFG 1 0
def State.barSpeed (s : State) (b : Nat) : Int := s.rgI (24 + s.barDomain b) Reg.OBS.SPEED

/-- A web gap holds for a bar (R428). -/
def State.barGap (s : State) (b : Nat) : Bool :=
  let d := s.barDomain b
  let v := s.barSpeed b
  (s.page (pgPBA b)).state != .run || decide (v < (s.rg64 pgFIRE Reg.FIRE.VMIN : Int)) ||
    decide (v * 13000 < (s.rgI pgPSC (Reg.PSC.NEXT0 + 8 * d) - s.rgI (24 + d) Reg.OBS.WPOS_S) * 2 ^ 32)

/-- A web gap of a link; its lines are long enough for a forced recalibration. -/
def State.webGap (s : State) (n : Nat) : Bool := (s.linkBars n).all s.barGap
def State.slowLines (s : State) (n : Nat) : Bool :=
  (s.linkBars n).all (fun b => decide (2084 * s.barSpeed b ≤ (s.pitch b : Int) * 2 ^ 8))

/-- RECAL_START (R428): the next link of domain 0, once what it transmits has ended. -/
def execRecalStart (s : State) : Host.Outcome State Fault Refusal :=
  match s.cal.nextJob 0 with
  | none => .next s
  | some j =>
    if s.cal.running.any (·.dom == 0) then .next s
    else if s.lstate j.inst ≠ 2 then
      .next ({ s with cal := { s.cal with waiting := s.cal.waiting.erase j } }.calFail 0 j.inst 5)
    else if (s.link j.inst).laneEnd ≤ s.cycle * 100 ∧ (s.webGap j.inst ∨ (j.force ∧ s.slowLines j.inst = true)) then
      let s := s.calBegin j
      let s := s.setLink j.inst { s.link j.inst with answers := 0, rttSum := 0 }
      .next { s with cal := { s.cal with recal := some (j.inst, s.cycle) } }
    else .next s

/-- GAPWAIT_EXPIRY (R428): the next link's wait. -/
def execGapwaitExpiry (s : State) : Host.Outcome State Fault Refusal :=
  let g := s.rg pgCALC Reg.CALC.GAPWAIT
  match s.cal.nextJob 0 with
  | some j =>
    if g ≠ 0 ∧ j.at_ + g ≤ s.cycle then
      .next { s with cal := { s.cal with waiting := s.cal.waiting.map (fun e => if e = j then { e with force := true } else e) } }
    else .next s
  | none => .next s

/-! ## DRAM (R429, R486) -/

/-- DRAM_RETRAIN (R429): the next channel of domain 5. -/
def execDramRetrain (s : State) : Host.Outcome State Fault Refusal :=
  match s.cal.nextJob 5 with
  | none => .next s
  | some j =>
    let early := match s.cal.retrainAt with
      | some t => decide (s.cycle < t + 25000)
      | none => false
    if s.cal.running.any (·.dom == 5) ∨ early = true then .next s
    else if s.calServes 5 j.inst = false then
      .next ({ s with cal := { s.cal with waiting := s.cal.waiting.erase j } }.calFail 5 j.inst 5)
    else
      let s := (s.calBegin j).setFl (pgDMC j.inst) Reg.DMC.DSTAT 2 2 1
      .next { s with cal := { s.cal with retrainAt := some s.cycle } }

/-- DERATE_CHANGE (R429): the refresh rate that MR4 of a channel reports. -/
def execDerateChange (ch rate : Nat) (s : State) : Host.Outcome State Fault Refusal :=
  let p := pgDMC ch
  if s.nch ≤ ch ∨ 3 ≤ rate ∨ s.fl p Reg.DMC.DSTAT 5 4 = rate then .next s
  else
    let t := s.setFl p Reg.DMC.DSTAT 5 4 rate
    .next (if t.fb pgCALC Reg.CALC.CFG 13 then t.calRequest 5 ch false false else t)

/-- A channel's start-up training ends (R486): it leaves self-refresh, TRAINED and QUAL follow the outcome. -/
def State.trained (s : State) (ch width : Nat) (converged : Bool) : State :=
  let p := pgDMC ch
  let code := if converged = false then 6 else if width < s.fl pgCALC Reg.CALC.DRMIN 7 0 then 1 else 0
  let s := { s with cal := { s.cal with training := s.cal.training.erase ch, recover := s.cal.recover.erase (5 * 64 + ch) } }
  let s := s.setFl p Reg.DMC.DSTAT 1 0 (b2n (decide (code = 0)))
  if code = 0 then s.calPass 5 ch true width else s.calFail 5 ch code

/-! ## Flat field (R430) -/

/-- Column sums of the usable lines of one sensor line. -/
def ffSums (ls : List FfLine) (sl : Nat) : List Int :=
  ls.foldl (fun a l => if a.isEmpty then l.d.getD sl [] else List.zipWith (· + ·) a (l.d.getD sl [])) []

/-- The usable lines (R430). -/
def State.ffUsable (s : State) : List FfLine :=
  s.cal.ffLines.filter (fun l => l.ok &&
    s.cal.ffEnds.any (fun e => e.1 == l.b && e.2 &&& 23 == 0) &&
    (match l.cup with
     | some x => !s.cal.ffOn.contains x
     | none => true))

/-- One pixel of a flat field: key and word of the back bank; newly defective; the square of what non-uniformity its gain
leaves, in 2^-64 of the reference level squared, for a pixel without defect (R426). -/
structure FfPixel where
  key : Nat
  word : Nat
  hurt : Bool
  rest : Option Nat
deriving DecidableEq, Repr

/-- The pixels of one sensor line; none when the reference level is below 256 (R430). -/
def State.ffLineWords (s : State) (n sl cnt : Nat) (sums : List Int) : Option (List FfPixel) :=
  let front := s.fl (pgCAM n) Reg.CAM.FECTL 0 0
  let old := fun (x : Nat) => s.corrWord n front (sl * 32768 + x)
  let good := (sums.zipIdx).filter (fun (e : Int × Nat) => !bit (old e.2) 28)
  let total : Int := (good.map (·.1)).foldl (· + ·) 0
  if good.isEmpty ∨ total < 256 * (cnt * good.length : Nat) then none
  else
    some ((sums.zipIdx).map (fun (e : Int × Nat) =>
      let w := old e.2
      if bit w 28 then ⟨sl * 32768 + e.2, w % 2 ^ 29, false, none⟩
      else
        let g : Int := if e.1 ≤ 0 then 0 else nearest (total * 16384) ((good.length : Int) * e.1) (Config.tieUp s.fresh)
        if g < 8192 ∨ 32768 < g then ⟨sl * 32768 + e.2, setBits w 28 28 1 % 2 ^ 29, true, none⟩
        else
          let d := (e.1 * g * good.length - total * 16384).natAbs
          let r := (total * 16384).toNat
          ⟨sl * 32768 + e.2, setBits w 15 0 g.toNat % 2 ^ 29, false, some (d * d * 2 ^ 64 / (r * r))⟩))

/-- RMS residual non-uniformity in 2^-16 of the reference level, over the pixels without defect (R426); one of its two
neighbours (log entry 12). -/
def ffRms (es : List FfPixel) (up : Bool) : Nat :=
  let l := es.filterMap (·.rest)
  isqrt (l.foldl (· + ·) 0 / max 1 l.length) / 2 ^ 16 + b2n (up && l.any (· != 0))

/-- Failure code of a flat field, or the words of the back bank and the RMS residual. -/
def State.flatField (s : State) (n : Nat) : Nat ⊕ (List (Nat × Nat) × Nat) :=
  let ls := s.ffUsable
  let ws := (List.range (s.camNs n)).map (fun sl => s.ffLineWords n sl ls.length (ffSums ls sl))
  if ls.isEmpty then .inl 4
  else if ws.any (·.isNone) then .inl 2
  else
    let es := ws.flatMap (·.getD [])
    if s.fl pgCALC Reg.CALC.FFCFG 31 16 < (es.filter (·.hurt)).length then .inl 2
    else if 2 * ls.length < s.fl pgCALC Reg.CALC.FFCFG 7 0 * s.camBlen n then .inl 4
    else .inr (es.map (fun e => (e.key, e.word)), ffRms es (Config.tieUp (s.fresh + 1)))

/-- The back bank is written (R430). -/
def State.ffWrite (s : State) (n : Nat) (ws : List (Nat × Nat)) : State :=
  let base := n * 2 ^ 18 + (1 - s.fl (pgCAM n) Reg.CAM.FECTL 0 0) * 2 ^ 17
  { s with camCorr := ws.foldl (fun c e => Tbl.put c (base + e.1) e.2) s.camCorr }

/-! ## Filter offset (R431) -/

/-- Failure code of an offset calibration, or the offset and its RMS. -/
def State.filterOffset (s : State) : Nat ⊕ (Int × Nat) :=
  let us := (s.cal.sdOut.filter (·.2)).map (·.1)
  let n := us.length
  if 2 * n < s.cal.sdOut.length ∨ n = 0 then .inl 4
  else
    let sum : Int := us.foldl (· + ·) 0
    let sq : Int := (us.map (fun v => v * v)).foldl (· + ·) 0
    let o := nearest sum n (Config.tieUp s.fresh)
    let x := (sq * n - sum * sum).toNat
    let q := isqrt x / n
    if (s.fl pgCALC Reg.CALC.OFFCFG 31 8 : Int) < o.natAbs then .inl 3
    else .inr (o, if q * n * (q * n) = x then q else q + b2n (Config.tieUp (s.fresh + 1)))

/-! ## The end of a calibration (R425 to R431) -/

/-- The calibration has run its course. -/
def State.calDue (s : State) (j : CalJob) : Bool :=
  match j.dom with
  | 0 => decide (j.at_ + 12500 ≤ s.cycle)
  | 6 => decide (s.fl pgCALC Reg.CALC.FFCFG 7 0 ≤ s.cal.ffEnds.length)
  | 7 => decide (2 ^ s.fl pgCALC Reg.CALC.OFFCFG 4 0 ≤ s.cal.sdOut.length)
  | _ => true

/-- The result of the calibration is installed, or the old values stay. `width` is the eye measured. -/
def State.calResult (s : State) (j : CalJob) (width : Nat) (converged : Bool) : State :=
  let eye := s.fl pgCALC Reg.CALC.EYEMIN 7 0
  match j.dom with
  | 0 =>
    if width < eye then s.calFail 0 j.inst 1
    else if (s.link j.inst).answers < 8 then s.calFail 0 j.inst 4
    else (s.hlkMeasured j.inst).calPass 0 j.inst j.qual width
  | 5 =>
    if converged = false then s.calFail 5 j.inst 6
    else if width < s.fl pgCALC Reg.CALC.DRMIN 7 0 then s.calFail 5 j.inst 1
    else s.calPass 5 j.inst j.qual width
  | 6 =>
    match s.flatField j.inst with
    | .inl c => s.drawn.drawn.calFail 6 j.inst c
    | .inr (ws, q) => ((s.ffWrite j.inst ws).drawn.drawn).calPass 6 j.inst j.qual q
  | 7 =>
    match s.filterOffset with
    | .inl c => s.drawn.drawn.calFail 7 j.inst c
    | .inr (o, q) => ((s.setRg pgCALC (Reg.CALC.SDFOFF j.inst) (enc2 32 o)).drawn.drawn).calPass 7 j.inst j.qual q
  | _ => if width < eye then s.calFail j.dom j.inst 1 else s.calPass j.dom j.inst j.qual width

/-- What a calibration held is released. -/
def State.calRelease (s : State) (j : CalJob) : State :=
  let s := { s with cal := { s.cal with running := s.cal.running.erase j } }
  match j.dom with
  | 0 => ({ s with cal := { s.cal with recal := none } }).setLink j.inst { s.link j.inst with hbAt := s.cycle }
  | 5 => s.setFl (pgDMC j.inst) Reg.DMC.DSTAT 2 2 0
  | _ => s

/-- CAL_END (R425): the calibration that runs in a domain ends. -/
def execCalEnd (dom width : Nat) (converged : Bool) (s : State) : Host.Outcome State Fault Refusal :=
  match s.cal.running.find? (·.dom == dom) with
  | none => .next s
  | some j =>
    if j.lost || !s.calServes dom j.inst then .next (((s.calRelease j).calFail dom j.inst 5).calPump dom)
    else if s.calDue j then .next (((s.calResult j width converged).calRelease j).calPump dom)
    else .next s

/-! ## Registers -/

/-- CSTAT and HDATA as they read. -/
def State.calcRead (s : State) (o : Nat) : Option Nat :=
  let c := s.cal
  let h := (Tbl.getD c.hist (s.fl pgCALC Reg.CALC.HSEL 10 0) []).getD (s.fl pgCALC Reg.CALC.HSEL 13 12) 0
  if o = Reg.CALC.CSTAT then
    some (((List.range 8).map (fun d => b2n ((c.running ++ c.waiting).any (·.dom == d) || (d == 5 && !c.training.isEmpty)) * 2 ^ d)).foldl (· + ·) 0)
  else if o = Reg.CALC.HDATA then some (h % 2 ^ 32)
  else if o = Reg.CALC.HDATA + 4 then some (h / 2 ^ 32)
  else none

/-- Register writes of CALC with a rule of their own. -/
def State.calcOnWrite (s : State) (o v : Nat) : Option State :=
  if o = Reg.CALC.CMD then some (if bit v 0 then s.calGo (bits v 7 4) (bits v 13 8) (bit v 1) else s)
  else if (o = Reg.CALC.FFCFG ∧ bits v 7 0 = 0) ∨ (o = Reg.CALC.OFFCFG ∧ (bits v 4 0 < 4 ∨ 16 < bits v 4 0)) then
    some (s.err pgCALC 2 0x2E2 o)
  else none

end Sys2Proof.Machine
end

