-- ==== Sys2Proof/Machine/Lantern.lean ====
section
/-!
DEFINITION. Lantern margin planning LANT (21 R432 to R437): monitors, plans, the PMBus master, the margin log.
-/

namespace Sys2Proof.Machine

abbrev pgLANT : Nat := 4
abbrev pgCLKC : Nat := 1

/-- PXCLK of a step in MHz (R434). -/
def stepMhz (f : Nat) : Nat := 900 + 25 * f

/-- The period of a step in ps, to one of its two neighbours (log entry 12). -/
def stepPs (f : Nat) : Int := looseDiv 1000000 (stepMhz f) (Config.tieUp (2 ^ 40 + f))

/-- The step in force, as CLKC reports it; the voltage of PSTAT. -/
def State.pxStep (s : State) : Nat := s.fl pgCLKC Reg.CLKC.PXCLK 2 0
def State.vout (s : State) : Nat := s.fl pgLANT Reg.LANT.PSTAT 31 16
def State.setVout (s : State) (v : Nat) : State := s.setFl pgLANT Reg.LANT.PSTAT 31 16 v

/-- The readings of a kind, by index (R432). -/
def Lant.kind (x : Lant) (k : Nat) : List (Nat × Int) :=
  x.mon.filterMap (fun e => if e.1 / 256 = k then some (e.1 % 256, e.2) else none)

/-- The least slack over the replicas at a step, with its replica (R432); none without a reading. -/
def Lant.slackAt (x : Lant) (f : Nat) : Option (Nat × Int) :=
  (x.kind 0).foldl (fun a e =>
    let v := stepPs f - e.2
    match a with
    | some (i, w) => if v < w then some (e.1, v) else some (i, w)
    | none => some (e.1, v)) none

/-- SLACKMIN and WORST at the step in force. -/
def State.slackShow (s : State) : State :=
  match s.lant.slackAt s.pxStep with
  | some (i, v) => s.setRg pgLANT Reg.LANT.SLACK (enc2 16 v + i * 2 ^ 16)
  | none => s
def State.slackMin (s : State) : Int := sgn 16 (s.rg pgLANT Reg.LANT.SLACK)

/-- PXCLK changes its step (R17, R435): CLKC and PSTAT report it. -/
def State.setPx (s : State) (f : Nat) : State :=
  ((s.setFl pgLANT Reg.LANT.PSTAT 2 0 f).setRg pgCLKC Reg.CLKC.PXCLK (f + stepMhz f * 2 ^ 16)).slackShow

/-- What a plan measures at a step: the least slack of replicas and SRAM margins; free without a reading (R432, R434). -/
def State.planSlack (s : State) (f : Nat) : Int :=
  let r := (s.lant.slackAt f).map (·.2)
  let m := (s.lant.kind 1).map (fun e => Config.sramSlack e.1 e.2)
  let r := m.foldl (fun a v => match a with
    | some w => some (min v w)
    | none => some v) r
  r.getD (sgn 16 (s.draw 16))

/-- POSCLK cycles of LANT STATE RUN so far; RUNH in hours, from what MRAM holds (R430 registers). -/
def State.runCycles (s : State) : Nat := s.lant.runCyc + (match s.lant.runSince with
  | some c => s.cycle - c
  | none => 0)
def State.runh (s : State) : Nat := Config.otp 9 % 2 ^ 24 + s.runCycles / (250000000 * 3600)

/-- STATE RUN is left: hours count no more. -/
def State.lantLeft (s : State) : State := { s with lant := { s.lant with runCyc := s.runCycles, runSince := none } }

/-- LANT works: in RUN, and in DRAIN until its plan has ended (R30). -/
def State.lantLive (s : State) : Bool :=
  let g := s.page pgLANT
  (g.state == .run || g.state == .drain) && s.works pgLANT

/-! ## PMBus (R437) -/

/-- A PMBus transaction starts: kind 1 VOUT_COMMAND, 2 READ_VOUT, 3 VOUT_MODE, 4 CLEAR_FAULTS, 5 nine clocks and STOP. -/
def State.pmb (s : State) (kind v : Nat) : State := s.emit (.frame pgLANT kind [s.fl pgLANT Reg.LANT.PMBCFG 6 0, s.fl pgLANT Reg.LANT.PMBCFG 15 8, v] [])

/-- A PMBus violation: ERR.PMBUS, log, counter, window (R437, R45); a quarantined LANT drops its plan. -/
def State.pmbViolate (s : State) (cnt code ctx : Nat) : State :=
  let t := ((s.sat pgLANT cnt 1).err pgLANT 1 code ctx).violate pgLANT code
  if (t.page pgLANT).state = .fault then
    ({ t.lantLeft with lant := { t.lantLeft.lant with plan := none } }).setFl pgLANT Reg.LANT.PSTAT 3 3 0
  else t

/-! ## Plans (R434 to R436) -/

/-- A plan starts (R434, R435 step 1). -/
def State.planStart (s : State) (cause : Nat) : State :=
  if s.running pgLANT = false ∨ s.lant.plan.isSome then s
  else
    let avs := s.fb pgLANT Reg.LANT.CFG 12
    let f := s.fl pgLANT Reg.LANT.CFG 6 4
    let x : Plan :=
      { cause := cause, step := f, vout := s.vout, back := s.vout, phase := if avs then 0 else 1, lowered := false,
        tried := [], vout0 := s.vout, step0 := s.pxStep, noAvs := !avs, margin := false, wait := none }
    let s := ({ s with lant := { s.lant with plan := some x } }).setFl pgLANT Reg.LANT.PSTAT 3 3 1
    if avs then s.pmb 3 0 else s

def State.setPlan (s : State) (x : Plan) : State := { s with lant := { s.lant with plan := some x } }

/-- A voltage step (R435 step 2): VOUT_COMMAND, then READ_VOUT is awaited. A lower voltage comes only after a lower
step is in force (step 4). -/
def State.planVolt (s : State) (x : Plan) (v phase : Nat) (lowered : Bool) : State :=
  let s := if v < x.vout ∧ x.step < s.pxStep then s.setPx x.step else s
  ((s.setPlan { x with vout := v, back := x.vout, phase := phase, lowered := lowered, wait := some s.cycle }).pmb 1 v).pmb 2 0

/-- Slack gained per mV over the voltage steps of the plan, those at one PXCLK step, least of all, in 1/256 ps per mV
(R436); free without a step. -/
def State.sensOf (s : State) (tried : List (Nat × Nat × Int)) : Int :=
  let gains := (tried.zip (tried.drop 1)).filterMap (fun (e : (Nat × Nat × Int) × (Nat × Nat × Int)) =>
    let (f, v, a) := e.1
    let (g, w, b) := e.2
    let dv : Int := (v : Int) - w
    if dv = 0 ∨ f ≠ g then none
    else some (looseDiv (if 0 < dv then (a - b) * 256 else (b - a) * 256) dv.natAbs (Config.tieUp s.fresh)))
  match gains with
  | [] => sgn 32 (s.draw 32)
  | g :: gs => gs.foldl min g

/-- The fifth root (floor), by bits from bit `k` down. -/
def root5Go : Nat → Nat → Nat → Nat
  | 0, _, r => r
  | k + 1, x, r => let t := r + 2 ^ k; root5Go k x (if t * t * t * t * t ≤ x then t else r)

/-- REMAIN (R436): (t^0.2 + (S − SLACKT) / K)^5 − t hours, t^0.2 to 2^-64. -/
def remain (t : Nat) (slack256 : Int) (k : Int) : Nat :=
  if slack256 = 0 then 0
  else
    let q : Nat := k.toNat * 2 ^ 64
    let b : Int := (root5Go 96 (t * 2 ^ 320) 0 * k.toNat : Nat) + slack256 * 2 ^ 64
    min (2 ^ 32 - 1) (Int.fdiv (b * b * b * b * b) (q * q * q * q * q : Nat) - t).toNat

/-- A margin-log entry as the fit takes it (R433, R436): its RUNH^0.2 to 2^-64, and its slack at VMAX and FMIN in 1/256 ps,
corrected to the temperature of plan `n`. -/
def agePoint (vmax fmin n : Nat) (e : List Nat) : Int × Int :=
  let w1 := e.getD 1 0
  let w2 := e.getD 2 0
  let step := stepPs fmin - stepPs (bits w1 42 40)
  ((root5Go 96 (w1 % 2 ^ 32 * 2 ^ 320) 0 : Nat),
    (sgn 16 (bits w2 31 16) + step) * 256 + sgn 16 (bits w2 47 32) * ((vmax : Int) - bits w2 15 0) + Config.tempSlack e n)

/-- K (R436): least squares of slack against −RUNH^0.2, to one of two neighbours (log entry 12); none when every entry has
the same RUNH. -/
def ageFit (l : List (Int × Int)) (up : Bool) : Option Int :=
  let sum := fun (f : Int × Int → Int) => (l.map f).foldl (· + ·) 0
  let n : Int := l.length
  let d := n * sum (fun e => e.1 * e.1) - sum (·.1) * sum (·.1)
  if d = 0 then none
  else some (looseDiv ((sum (·.1) * sum (·.2) - n * sum (fun e => e.1 * e.2)) * 2 ^ 64) d up)

/-- Step 6: SENS, K, REMAIN and the margin-log entry (R433, R436). -/
def State.planLog (s : State) (x : Plan) : State :=
  let p := pgLANT
  let l := s.lant
  let sens := s.sensOf x.tried
  let fit := ageFit (l.mlog.map (fun e => agePoint (s.fl p Reg.LANT.VRANGE 31 16) (s.fl p Reg.LANT.CFG 10 8) l.mlogN e.2))
    (Config.tieUp (s.fresh + 1))
  let k := fit.getD (sgn 32 (Config.draw (s.fresh + 1) % 2 ^ 32))
  let s256 := s.slackMin * 256 + sens * ((s.fl p Reg.LANT.VRANGE 31 16 : Int) - s.vout) - (s.fl p Reg.LANT.SLACKT 15 0 : Int) * 256
  let r := if l.mlogN < 4 ∨ k ≤ 0 then 2 ^ 32 - 1 else remain s.runh s256 k
  let s := ((s.drawn.drawn.setRg p Reg.LANT.SENS (enc2 32 sens)).setRg p Reg.LANT.MODELK (enc2 32 k)).setRg p Reg.LANT.REMAIN r
  let e := [s.timeNs % 2 ^ 64,
    s.runh % 2 ^ 32 + x.cause * 2 ^ 32 + s.pxStep * 2 ^ 40 + b2n x.margin * 2 ^ 43,
    s.vout + enc2 16 s.slackMin * 2 ^ 16 + enc2 16 sens * 2 ^ 32 + enc2 16 k * 2 ^ 48, r, 0, 0, 0, 0]
  { s with lant := { s.lant with mlog := Tbl.put s.lant.mlog (l.mlogN % 2048) e, mlogN := l.mlogN + 1, plan := none,
                                 slack0 := some s.slackMin, planAt := s.runCycles } }

/-- Step 5: domains 0 to 5, every instance in service whose AUTO bit is 1. -/
def State.planCalibrate (s : State) : State :=
  (List.range 6).foldl (fun t d =>
    if t.fb pgCALC Reg.CALC.CFG (8 + d) then
      ((List.range (t.calInsts d)).filter (fun i => t.calServes d i)).foldl (fun t i => t.calRequest d i false false) t
    else t) s

/-- Steps 4 to 6: the result is applied, calibrations requested, the log written (R435). -/
def State.planFinish (s : State) (x : Plan) : State :=
  let p := pgLANT
  let s := (s.setPx x.step).setFl p Reg.LANT.PSTAT 3 3 0
  let s := if x.margin then (s.err p 0 0x2D0 0).happen p 1 0 else s
  let s := s.planCalibrate.happen p 0 0
  ((s.planLog x).inc p Reg.LANT.PLANCNT 1).setRg64 p Reg.LANT.LASTPLAN s.timeNs

/-- The voltage cannot be raised: VMAX reached, or no voltage steps. -/
def State.planTop (s : State) (x : Plan) : Bool := x.noAvs || decide (s.fl pgLANT Reg.LANT.VRANGE 31 16 ≤ x.vout)

/-- One step of R435 with the slack measured now. -/
def State.planMove (s : State) (x : Plan) : State :=
  let p := pgLANT
  let slack := s.planSlack x.step
  let target : Int := s.fl p Reg.LANT.SLACKT 15 0
  let vmin := s.fl p Reg.LANT.VRANGE 15 0
  let vmax := s.fl p Reg.LANT.VRANGE 31 16
  let x := { x with tried := if x.noAvs then x.tried else x.tried ++ [(x.step, x.vout, slack)] }
  let s := s.drawn
  if x.phase = 3 then s.planFinish x
  else if x.phase = 1 ∧ slack < target then
    if s.planTop x = false then s.planVolt x (min vmax (x.vout + 5)) 1 false
    else if s.fl p Reg.LANT.CFG 10 8 < x.step then s.setPlan { x with step := x.step - 1 }
    else s.planFinish { x with margin := true }
  else if x.noAvs then s.planFinish x
  else if target + 10 ≤ slack ∧ vmin < x.vout then s.planVolt x (max vmin (x.vout - 5)) 2 true
  else if x.lowered then s.planVolt x (min vmax (x.vout + 5)) 3 true
  else s.planFinish x

/-- PLAN_STEP (R435): the voltage has settled, or SETTLE µs have passed. -/
def execPlanStep (s : State) : Host.Outcome State Fault Refusal :=
  match s.lant.plan with
  | none => .next s
  | some x =>
    let settled := match x.wait with
      | some t => decide (t + 250 * s.fl pgLANT Reg.LANT.VTOL 31 16 ≤ s.cycle)
      | none => true
    if s.lantLive = false ∨ x.phase = 0 ∨ settled = false then .next s
    else
      let s := if x.noAvs then s else s.setVout x.vout
      .next (s.planMove { x with wait := none })

/-- PLAN (R434): a write of CMD.PLAN. -/
def execPlan (req : Nat) (s : State) : Host.Outcome State Fault Refusal :=
  .next (s.gateH pgLANT req Reg.LANT.CMD 1 (·.planStart 3))

/-- PLAN_INTERVAL (R434): PERIOD seconds of RUN since the last plan. -/
def execPlanInterval (s : State) : Host.Outcome State Fault Refusal :=
  let p := s.rg pgLANT Reg.LANT.PERIOD
  if s.fb pgLANT Reg.LANT.CFG 0 ∧ s.lant.planAt + p * 250000000 ≤ s.runCycles then .next (s.planStart 1) else .next s

/-! ## Monitors (R432) -/

/-- How many monitors of a kind there are. -/
def monCount (k : Nat) : Nat := match k with
  | 0 => 96
  | 1 => 24
  | 2 => 130
  | 3 => 16
  | _ => 0

/-- A thermal reading: TEMP on the first of each run above TMAXC. -/
def State.thermal (s : State) (i : Nat) (v : Int) : State :=
  let hot := s.lant.hot
  if sgn 32 (s.rg pgLANT Reg.LANT.TMAXC) < v then
    if hot.contains i then s
    else (({ s with lant := { s.lant with hot := i :: hot } }).err pgLANT 2 0x2D2 0).happen pgLANT 2 0
  else { s with lant := { s.lant with hot := hot.erase i } }

/-- MONITOR_READ (R432, R434): one reading; `value` is its 32-bit word. A plan that drains measures on (R30). -/
def execMonitorRead (kind idx value : Nat) (s : State) : Host.Outcome State Fault Refusal :=
  if s.lantLive = false ∨ monCount kind ≤ idx then .next s
  else
    let v : Int := if kind = 1 ∨ kind = 3 then sgn 32 value else (value % 2 ^ 32 : Nat)
    let s := { s with lant := { s.lant with mon := Tbl.put s.lant.mon (kind * 256 + idx) v } }
    let s := if kind = 0 then s.slackShow else if kind = 3 then s.thermal idx v else s
    match s.lant.slack0 with
    | some z =>
      if kind = 0 ∧ s.fb pgLANT Reg.LANT.CFG 0 ∧ (s.fl pgLANT Reg.LANT.DRIFTTH 15 0 : Int) < z - s.slackMin then
        .next (s.planStart 2)
      else .next s
    | none => .next s

/-! ## Ends of PMBus transactions (R435, R437) -/

/-- The plan leaves its wait for VOUT_MODE: READ_VOUT gives the voltage it starts from. -/
def State.planMode (s : State) : State :=
  match s.lant.plan with
  | some x =>
    if x.phase ≠ 0 then s
    else if s.lant.badMode then s.setPlan { x with phase := 1, noAvs := true }
    else s.pmb 2 0
  | none => s

/-- READ_VOUT outside VTOL after SETTLE: the plan ends at the previous voltage and step (R437). -/
def State.voutMiss (s : State) (x : Plan) : State :=
  let s := ((s.pmb 4 0).pmb 1 x.vout0).pmbViolate Reg.LANT.VMISCNT 0x2D6 0
  if s.lant.plan.isSome then
    ((s.setVout x.vout0).setPx x.step0 |>.setFl pgLANT Reg.LANT.PSTAT 3 3 0).planLog { x with step := x.step0 }
  else s

/-- READ_VOUT delivered a voltage in mV. -/
def State.voutRead (s : State) (v : Nat) : State :=
  match s.lant.plan with
  | none => s.setVout v
  | some x =>
    if x.phase = 0 then (s.setVout v).setPlan { x with vout := v, back := v, vout0 := v, phase := 1 }
    else
      match x.wait with
      | none => s
      | some t =>
        if ((v : Int) - x.vout).natAbs ≤ s.fl pgLANT Reg.LANT.VTOL 7 0 then (s.setVout x.vout).setPlan { x with wait := none }
        else if t + 250 * s.fl pgLANT Reg.LANT.VTOL 31 16 ≤ s.cycle then s.voutMiss x else s.pmb 2 0

/-- A transaction was not acknowledged, its retry neither: the step is abandoned, the voltage taken as unchanged. -/
def State.pmbNack (s : State) (cmd : Nat) : State :=
  let s := s.pmbViolate Reg.LANT.NACKCNT 0x2D4 0
  match s.lant.plan with
  | none => s
  | some x =>
    if x.phase = 0 then s.setPlan { x with phase := 1, noAvs := x.noAvs || s.lant.badMode }
    else if (cmd = 1 ∨ cmd = 2) ∧ x.wait.isSome then s.setPlan { x with vout := x.back, wait := none, phase := if x.phase = 3 then 3 else 1 }
    else s

/-- A read with a PEC mismatch: the value is discarded (R437). A plan goes on with the last mode or voltage it knows, and
reads the voltage it waits for again. -/
def State.pmbPec (s : State) (cmd : Nat) : State :=
  let s := s.pmbViolate Reg.LANT.PECCNT 0x2D5 0
  if cmd = 3 then s.planMode
  else match s.lant.plan with
    | some x => if cmd ≠ 2 then s else if x.phase = 0 then s.setPlan { x with phase := 1 } else if x.wait.isSome then s.pmb 2 0 else s
    | none => s

/-- PMBUS_TRANSACTION (R437): cmd 1 VOUT_COMMAND, 2 READ_VOUT (value in mV), 3 VOUT_MODE (the mode byte); outcome 0 data,
1 NACK after the retry, 2 PEC mismatch. -/
def execPmbusTransaction (cmd outcome value : Nat) (s : State) : Host.Outcome State Fault Refusal :=
  if s.lantLive = false then .next s
  else
    match outcome with
    | 0 =>
      if cmd = 3 then
        let bad := decide (bits value 7 5 ≠ 0)
        let s := { s with lant := { s.lant with badMode := bad } }
        let s := if bad then s.pmbViolate Reg.LANT.VMODECNT 0x2D8 (value % 256) else s
        .next s.planMode
      else if cmd = 2 then .next (s.voutRead value)
      else .next s
    | 1 => .next (s.pmbNack cmd)
    | _ => .next (s.pmbPec cmd)

/-- BUS_STUCK (R437): SCL or SDA low for 35 ms. -/
def execBusStuck (s : State) : Host.Outcome State Fault Refusal :=
  .next (if s.lantLive then (s.pmb 5 0).pmbViolate Reg.LANT.NACKCNT 0x2D7 0 else s)

/-! ## RUN, registers -/

/-- Entry to RUN: VOUT_MODE is read (R437). -/
def State.lantOnRun (s : State) : State := ({ s with lant := { s.lant with runSince := some s.cycle } }).pmb 3 0

/-- DRAIN lasts while a plan is in progress. -/
def State.lantDrained (s : State) : Bool := s.lant.plan.isNone

/-- EN = 0 or soft reset: a plan in progress is dropped. -/
def State.lantOff (s : State) : State :=
  ({ s.lantLeft with lant := { s.lantLeft.lant with plan := none } }).setFl pgLANT Reg.LANT.PSTAT 3 3 0

/-- A value outside a register's range (LANT registers). -/
def lantBad (o v : Nat) : Bool :=
  (o == Reg.LANT.CFG && (bits v 6 4 == 7 || bits v 10 8 == 7)) ||
    (o == Reg.LANT.VRANGE && (decide (bits v 15 0 < 700) || decide (900 < bits v 31 16) || decide (bits v 31 16 < bits v 15 0))) ||
    (o == Reg.LANT.MONSEL && decide (monCount (bits v 2 0) ≤ bits v 15 8))

/-- Register writes of LANT with a rule of their own. -/
def State.lantOnWrite (s : State) (o v : Nat) : Option State :=
  if lantBad o v then some (s.err pgLANT 3 0x2D3 o)
  else if o = Reg.LANT.CMD then some (if bit v 0 then s.planStart 3 else s)
  else none

/-- MONVAL, RUNH, MLOGDATA as they read. -/
def State.lantRead (s : State) (o : Nat) : Option Nat :=
  let m := (Tbl.getD s.lant.mlog (s.fl pgLANT Reg.LANT.MLOGSEL 10 0) []).getD (s.fl pgLANT Reg.LANT.MLOGSEL 14 12) 0
  if o = Reg.LANT.MONVAL then
    some (enc2 32 (Tbl.getD s.lant.mon (s.fl pgLANT Reg.LANT.MONSEL 2 0 * 256 + s.fl pgLANT Reg.LANT.MONSEL 15 8) 0))
  else if o = Reg.LANT.RUNH then some (s.runh % 2 ^ 32)
  else if o = Reg.LANT.MLOGDATA then some (m % 2 ^ 32)
  else if o = Reg.LANT.MLOGDATA + 4 then some (m / 2 ^ 32)
  else none

/-- Step and voltage of the newest margin-log entry before the cores are released (24 R485). -/
def State.bootClock (s : State) (answered : Bool) : State :=
  match (if s.lant.mlogN = 0 then none else Tbl.get? s.lant.mlog ((s.lant.mlogN - 1) % 2048)), answered with
  | some e, true =>
    let f := bits (e.getD 1 0) 42 40
    let v := bits (e.getD 2 0) 15 0
    ((s.pmb 1 v).setVout v).setPx f
  | _, _ => s.setPx 4

end Sys2Proof.Machine
end

