-- ==== Sys2Proof/Machine/Keep.lean ====
section
/-!
DEFINITION. Keep (22 R438 to R455, R462): boot sources and stages, signed objects, anti-rollback, identity, lifecycle.
The command queue is in KeepCmd.lean.
-/

namespace Sys2Proof.Machine

abbrev pgRSTC : Nat := 3

/-- The device serial, 64 bits, of OTP (free: log entry 5). -/
def serial : Nat := Config.otp 0 % 2 ^ 64

/-- The anchor hash of a vendor root (R445), of ROM and OTP. -/
def rootHash (r : Nat) : List Byte := Config.keepBytes 0 r

/-- A byte string of exactly `n` bytes. -/
def fixLen (n : Nat) (bs : List Byte) : List Byte := (bs ++ List.replicate (n - bs.length) 0).take n

/-- The value of big-endian bytes `o` to `o + n - 1`, as the standards' byte strings have it. -/
def beAt (bs : List Byte) (o n : Nat) : Nat := leVal ((bs.drop o).take n).reverse

/-- The `n` big-endian bytes of `v`. -/
def beBytes (n v : Nat) : List Byte := (leBytes n v).reverse

/-! ## OTP and MRAM (R408, R450, R462) -/

/-- The valid copy with the higher sequence number; `d` where there is none (R450). -/
def Twin.cur {α : Type} (x : Twin α) (d : α) : α :=
  match x.a, x.b with
  | some p, some q => if p.1 < q.1 then q.2 else p.2
  | some p, Option.none => p.2
  | Option.none, some q => q.2
  | Option.none, Option.none => d

/-- The new value goes into the older copy, under the next sequence number (R450). -/
def Twin.put {α : Type} (x : Twin α) (v : α) : Twin α :=
  match x.a, x.b with
  | some p, some q => if p.1 < q.1 then { x with a := some (q.1 + 1, v) } else { x with b := some (p.1 + 1, v) }
  | some p, Option.none => { x with b := some (p.1 + 1, v) }
  | Option.none, some q => { x with a := some (q.1 + 1, v) }
  | Option.none, Option.none => { x with a := some (1, v) }

/-- A lifecycle state is reached: at least 3 of its 4 bits read 1. -/
def Keep.reached (k : Keep) (l : Nat) : Bool :=
  decide (3 ≤ ((List.range 4).map (fun i => b2n (bit k.fuses (4 * (l - 1) + i)))).foldl (· + ·) 0)

/-- The lifecycle in force, the highest state reached: 0 BLANK, 1 DEV, 2 PROD, 3 RMA. -/
def Keep.lc (k : Keep) : Nat := if k.reached 3 then 3 else if k.reached 2 then 2 else if k.reached 1 then 1 else 0

/-- The boot record. -/
def Keep.bootRec (k : Keep) : BootRec := k.boot.cur ⟨0, 0, 0⟩

/-- The bits of a lifecycle state are programmed, after its copy in the boot record (R462). -/
def Keep.program (k : Keep) (l : Nat) : Keep :=
  { k with boot := k.boot.put { k.bootRec with lc := l }, fuses := k.fuses ||| 0xF * 16 ^ (l - 1) }

/-- Boots since PROVISION. -/
def Keep.bootCnt (k : Keep) : Nat := k.bootRec.count

/-- The enrolled owner anchors. -/
def Keep.owners (k : Keep) : Tbl (List Byte) := k.anchors.cur []

/-- The next unused leaf of the top tree (R454). -/
def Keep.nextLeaf (k : Keep) : Nat := (k.leaf.cur ⟨0, [], []⟩).q

/-! ## Identity (R453 to R455) -/

/-- The order of the P-384 group less one. -/
abbrev p384n1 : Nat :=
  0xFFFFFFFFFFFFFFFFFFFFFFFFFFFFFFFFFFFFFFFFFFFFFFFFC7634D81F4372DDF581A0DB248B0A77AECEC196ACCC52972

/-- A private scalar by the extra-random-bits method of FIPS 186-5: 448 derived bits. -/
def scalarOf (bs : List Byte) : Nat := beAt bs 0 56 % p384n1 + 1

/-- HKDF-SHA-384 of the device secret with the serial as salt and key `n`'s own label. -/
def Keep.derive (k : Keep) (n len : Nat) : List Byte :=
  fixLen len (Config.hkdf (leBytes 8 serial) (leBytes 32 k.secret) (Config.keepBytes 1 n) len)

/-- The identity keys of the secret in OTP (R453). -/
def Keep.identity (k : Keep) : Ident :=
  let top := k.derive 2 48
  { ec := scalarOf (k.derive 0 56), dh := scalarOf (k.derive 1 56), seed := top.take 32, id := top.drop 32 }

/-- The identity keys Keep holds. -/
def Keep.keys (k : Keep) : Ident := k.ident.getD k.identity

/-- Keep derives its identity keys. -/
def Keep.derived (k : Keep) : Keep := { k with ident := some k.identity }

/-- An LMS public key (RFC 8554) of a tree of height 10 or 20 with W8: types, identifier, root; 56 bytes. -/
def lmsPub (h : Nat) (seed id : List Byte) : List Byte :=
  beBytes 4 (h / 5 + 4) ++ beBytes 4 4 ++ fixLen 16 id ++ fixLen 32 (Config.lmsRoot h seed id)

/-- An LMS signature (RFC 8554) by leaf q: q, one-time signature, tree type, authentication path; 1,132 + 32 h bytes. -/
def lmsSig (h : Nat) (seed id : List Byte) (q : Nat) (path msg : List Byte) : List Byte :=
  beBytes 4 q ++ beBytes 4 4 ++ fixLen 1120 (Config.lmots seed id q msg) ++ beBytes 4 (h / 5 + 4) ++ fixLen (32 * h) path

/-- The HSS public key: 2 levels over the top tree; 60 bytes. -/
def Ident.hssPub (x : Ident) : List Byte := beBytes 4 2 ++ lmsPub 20 x.seed x.id

/-- The HSS key state names leaf q next (R454). -/
def Keep.setLeaf (k : Keep) (q : Nat) : Keep :=
  let x := k.keys
  { k with leaf := k.leaf.put ⟨q, Config.lmsPath 20 x.seed x.id q, Config.lmsTrav 20 x.seed x.id q⟩ }

/-- The next top leaf signs a message: the state moves on first (R454). -/
def Keep.topSign (k : Keep) (msg : List Byte) : Keep × List Byte :=
  let x := k.keys
  let q := k.nextLeaf
  let path := (k.leaf.cur ⟨0, Config.lmsPath 20 x.seed x.id 0, []⟩).path
  (k.setLeaf (q + 1), lmsSig 20 x.seed x.id q path msg)

/-- Fields of BSTAT (R451, KEEP registers). -/
def State.stage (s : State) : Nat := s.fl pgKEEP Reg.KEEP.BSTAT 2 0
def State.setStage (s : State) (v : Nat) : State := s.setFl pgKEEP Reg.KEEP.BSTAT 2 0 v
def State.bootSrc (s : State) : Nat := s.fl pgKEEP Reg.KEEP.BSTAT 13 12
def State.bootFail (s : State) : Bool := s.fb pgKEEP Reg.KEEP.BSTAT 3

/-- The debug level in force; the lifecycle's default level (R464, R467). -/
def State.level (s : State) : Nat := s.fl pgDBGC Reg.DBGC.LEVEL 2 0
def defLevel (lc : Nat) : Nat := match lc with
  | 0 => 3
  | 1 => 2
  | 2 => 1
  | _ => 0

/-- New 256-bit nonce in eight words from an offset on. -/
def State.newNonce (s : State) (p o : Nat) : State :=
  (List.range 8).foldl (fun t i => (t.setRg p (o + 4 * i) (t.draw 32)).drawn) s

/-- Both nonces are new (R458, R466), at each boot. -/
def State.bootNonces (s : State) : State :=
  (s.newNonce pgKEEP (Reg.KEEP.NONCE 0)).newNonce pgDBGC (Reg.DBGC.TKNONCE 0)

/-- The straps permit xSPI, PCIe; BLANK boots from PCIe (R441). -/
def State.xspiOk (s : State) : Bool :=
  s.fl pgKEEP Reg.KEEP.BSTAT 15 14 != 1 && s.keep.lc != 0 && !s.keep.xspiEnd
def State.pcieOk (s : State) : Bool := s.fl pgKEEP Reg.KEEP.BSTAT 15 14 != 0 || s.keep.lc == 0

/-- The boot ROM's stage 1 begins (R451): OTP and MRAM records are read, a boot is counted, the nonces are new. -/
def State.bootRom (s : State) : State :=
  if s.stage ≠ 0 then s
  else
    let k := s.keep
    let k := { k with boot := k.boot.put { k.bootRec with lc := k.lc, count := if k.lc = 0 then 0 else k.bootCnt + 1 } }
    { s.bootNonces with keep := { k with bootAt := s.cycle } }.setStage 1

/-- Stage 2 begins: the source is the first the straps permit (R441, R451). -/
def State.bootLoad (s : State) : State :=
  if s.stage = 1 then (s.setStage 2).setFl pgKEEP Reg.KEEP.BSTAT 13 12 (if s.xspiOk then 0 else 2) else s

/-- Keep has run stage 1 and works on stage 2 or later. -/
def State.keepStart (s : State) : State := s.bootRom.bootLoad

/-- Stage 1 is over 0.20 ms after it began (22, the example; log entry 43). -/
def State.keepLate (s : State) : State :=
  if s.stage = 1 ∧ s.cycle < s.keep.bootAt + 50000 then s else s.keepStart

/-- BSTAT as it reads: stage 1 is over after its time. -/
def State.bstat (s : State) : Nat :=
  if s.stage = 1 then s.keepLate.rg pgKEEP Reg.KEEP.BSTAT else s.rg pgKEEP Reg.KEEP.BSTAT

/-! ## Signed objects (R444 to R448) -/

/-- The signer's anchor is valid and is the signature block's (R445, R447 step 4). -/
def Keep.anchored (k : Keep) (signer : Nat) (sig : List Byte) : Bool :=
  let h := Config.sha384 (sig.take 97 ++ (sig.drop 0x64).take 60)
  if signer ≤ 1 then !bit k.vrev signer && h == rootHash signer
  else if 4 ≤ signer ∧ signer ≤ 7 then Tbl.get? k.owners (signer - 4) == some h
  else false

/-- An LMS and an LMOTS type of RFC 8554 are among those Keep verifies: M32 of heights 5 to 25, N32 of W1 to W8 (R446). -/
def lmsTypeOk (lms ots : Nat) : Bool := decide (5 ≤ lms) && decide (lms ≤ 9) && decide (1 ≤ ots) && decide (ots ≤ 4)

/-- The bytes of an LMS signature of those types (RFC 8554). -/
def lmsSigLen (lms ots : Nat) : Nat :=
  let p := match ots with
    | 1 => 265
    | 2 => 133
    | 3 => 67
    | _ => 34
  4 + (4 + 32 + 32 * p) + 4 + 32 * (5 * (lms - 4))

/-- An HSS key has 1 or 2 levels of permitted types, and the signature as many (R446). -/
def hssTypesOk (pub sig : List Byte) : Bool :=
  let l := beAt pub 0 4
  let lms := beAt pub 4 4
  let ots := beAt pub 8 4
  let next := 4 + lmsSigLen lms ots
  (l == 1 || l == 2) && beAt sig 0 4 + 1 == l && lmsTypeOk lms ots &&
    (l == 1 || lmsTypeOk (beAt sig next 4) (beAt sig (next + 4) 4))

/-- Both signatures verify over the signed bytes (R445 to R447 steps 6 and 7). -/
def sigsOk (msg sig : List Byte) : Bool :=
  Config.ecdsaOk (sig.take 97) msg ((sig.drop 0xA0).take 96) && hssTypesOk ((sig.drop 0x64).take 60) (sig.drop 0x100) &&
    Config.hssOk ((sig.drop 0x64).take 60) msg (sig.drop 0x100)

/-- The lifecycle permits KIND, SIGNER and DEVONLY (R447 step 3, R448, lifecycle table). -/
def Keep.permits (k : Keep) (kind signer : Nat) (devonly fromPcie : Bool) : Bool :=
  let vendor := decide (signer ≤ 1)
  let owner := decide (4 ≤ signer) && decide (signer ≤ 7)
  (!devonly || decide (k.lc ≤ 1)) &&
    (match kind with
     | 1 => vendor && (k.lc != 0 || fromPcie)
     | 2 => if k.lc = 0 ∨ k.lc = 3 then vendor else if k.owners.isEmpty then vendor else owner
     | 3 => true
     | _ => vendor)

/-- A counter's value (R449), and the counters with one raised. -/
def Keep.counter (k : Keep) (c : Nat) : Nat := (Tbl.getD k.counters c Twin.none).cur 0
def Keep.raiseCtr (k : Keep) (c v : Nat) : Keep :=
  { k with counters := Tbl.put k.counters c ((Tbl.getD k.counters c Twin.none).put (max (k.counter c) (v % 2 ^ 32))) }

/-- R447 on an object of the KIND expected: 0, or the code of the first check that fails. -/
def Keep.check (k : Keep) (kind : Nat) (fromPcie : Bool) (o : List Byte) : Nat :=
  let plen := leAt o 0x14 4
  let siglen := leAt o 0x38 4
  let flags := leAt o 0x0A 2
  let signer := leAt o 9 1
  let ctr := leAt o 0x0C 1
  let sn := leAt o 0x18 8
  let payload := (o.drop 128).take plen
  let sig := o.drop (128 + plen)
  let limit := match kind with
    | 1 => decide (plen ≤ 196608)
    | 2 => decide (plen ≤ 2097152)
    | _ => decide (plen = 96)
  if leAt o 0 4 ≠ 0x4D49424B ∨ leAt o 4 2 ≠ 1 ∨ leAt o 6 2 ≠ 128 ∨ leAt o 8 1 ≠ kind ∨ leAt o 0x0D 3 ≠ 0 ∨
      leAt o 0x3C 4 ≠ 0 ∨ leAt o 0x70 16 ≠ 0 ∨ bits flags 15 8 ≠ 0 ∨ bits flags 3 2 ≠ 0 ∨ limit = false ∨ 63 < ctr ∨
      (3 ≤ kind ∧ leAt o 0x20 8 ≠ 0) ∨ (kind ≠ 1 ∧ leAt o 0x30 8 ≠ 0) ∨ siglen < 256 ∨ o.length ≠ 128 + plen + siglen ∨ leAt sig 0x61 3 ≠ 0 then 11
  else if (sn ≠ 0 ∧ sn ≠ serial) ∨ (sn = 0 ∧ kind = 3) then 7
  else if k.permits kind signer (bit flags 0) fromPcie = false then 5
  else if k.anchored signer sig = false ∨ (ctr ≤ 7 ∧ 1 < signer) then 3
  else if fixLen 48 (Config.sha384 payload) ≠ (o.drop 0x40).take 48 ∨ sigsOk (o.take 128) sig = false then 2
  else if leAt o 0x10 4 < k.counter ctr then 4
  else 0

/-- The image an accepted object brings, loaded at LOAD; COMMIT = 1 raises its counter (R444, R449). -/
def imgOf (o : List Byte) : KeepImg :=
  { ctr := leAt o 0x0C 1, svn := leAt o 0x10 4, signer := leAt o 9 1, hash := fixLen 48 (Config.sha384 (o.take 128)),
    load := leAt o 0x20 8, entry := leAt o 0x28 8, link := leAt o 0x30 8, body := (o.drop 128).take (leAt o 0x14 4) }
def Keep.commitOf (k : Keep) (o : List Byte) : Keep :=
  if bit (leAt o 0x0A 2) 1 then k.raiseCtr (leAt o 0x0C 1) (leAt o 0x10 4) else k

/-! ## Boot (R441 to R443, R451, R452) -/

/-- The flash offset the xSPI source reads the object of this stage at (R442). -/
def State.flashAt (s : State) : Nat :=
  if s.stage = 4 then (s.keep.img1.map (·.link)).getD 0 else if s.bootSrc = 0 then 0 else 0x800000

/-- The subtree's computation begins with a fresh seed and identifier, while the top tree has a leaf to sign it (R455). -/
def State.subtree (s : State) : State :=
  if s.keep.nextLeaf < 2 ^ 20 then
    let x : SubTree := ⟨leBytes 32 (s.draw 256), leBytes 16 (s.drawn.draw 128), [], []⟩
    { s.drawn.drawn with keep := { s.keep with sub := some s.cycle, tree := some x } }
  else s

/-- The subtree is computed: the next top leaf signs its public key (R454, R455). -/
def Keep.subtreeDone (k : Keep) : Keep :=
  match k.tree with
  | some x =>
    let pub := lmsPub 10 x.seed x.id
    let r := k.topSign pub
    { r.1 with sub := none, tree := some { x with pub := pub, sig := r.2 } }
  | none => { k with sub := none }

/-- The boot record takes the boot status (R408). -/
def State.recordBoot (s : State) : State :=
  { s with keep := { s.keep with boot := s.keep.boot.put { s.keep.bootRec with status := s.rg pgKEEP Reg.KEEP.BSTAT % 2 ^ 14 } } }

/-- The control cores are marked and released at the ENTRY of their image (R440, R451, R485, R488). -/
def State.releaseCores (s : State) (o : List Byte) (pmbus : Bool) : State :=
  let s := s.bootClock pmbus
  let s := (s.setRg pgKEEP Reg.KEEP.CORESVN (leAt o 0x10 4)).setRg pgKEEP Reg.KEEP.CORESEC (bits (leAt o 0x0A 2) 7 4)
  let s := (s.setFl pgRSTC Reg.RSTC.BOOT 17 17 1).setRg64 pgRSTC Reg.RSTC.TCORES s.cycle
  let s := { s with keep := { s.keep with img2 := some (imgOf o) } }
  let s := if s.keep.ready then s.setStage 6 else if s.keep.sub.isSome then s.setStage 5 else (s.setStage 5).subtree
  s.recordBoot

/-- Stage 3 (R439, R451, R453): Keep firmware starts, STATE reads RUN (but after a quarantine, R45), identity keys are derived.
Stage 4 follows. -/
def State.bootFirmware (s : State) (o : List Byte) : State :=
  let s := (s.setStage 3).setRg pgKEEP Reg.KEEP.KEEPSVN (leAt o 0x10 4)
  let s := { s with keep := { s.keep.derived with img1 := some (imgOf o) } }
  let g := s.page pgKEEP
  (if g.state = .fault then s else s.setPage pgKEEP { g with state := .run }).setStage 4

/-- An object was accepted for the stage (R449, R451). -/
def State.bootAccept (s : State) (o : List Byte) (pmbus : Bool) : State :=
  let s := { s with keep := { s.keep.commitOf o with bldOpen := false, bldLen := none, retries := 0 } }
  if s.stage = 2 then s.bootFirmware o else s.releaseCores o pmbus

/-- A source yielded no acceptable object: the next one, or the boot stops (R441, R451, R452). -/
def State.bootReject (s : State) (src code : Nat) : State :=
  let s := { s with keep := { s.keep with bldOpen := false, bldLen := none, bld := [], retries := 0 } }
  let s := s.setFl pgKEEP Reg.KEEP.BSTAT 11 4 code
  if src = 0 ∧ s.stage = 2 ∧ s.xspiOk then s.setFl pgKEEP Reg.KEEP.BSTAT 13 12 1
  else if src < 2 ∧ s.pcieOk then s.setFl pgKEEP Reg.KEEP.BSTAT 13 12 2
  else ((s.setFl pgKEEP Reg.KEEP.BSTAT 3 3 1).recordBoot).err pgKEEP 8 0x310 0

/-- The SFDP tables were read before the object (R442). -/
def State.sfdpRead (s : State) : State := { s with keep := { s.keep with x8d := some (s.keep.x8d.getD true) } }

/-- OBJECT_VERIFY (R447): Keep has loaded an object from xSPI (`src` 0 primary, 1 alternate; `data` what the flash gave at
State.flashAt) or through BLDDATA (`src` 2) and finishes its check. `pmbus`: the regulator answers (R485). -/
def execObjectVerify (src : Nat) (data : List (BitVec 8)) (pmbus : Bool) (s : State) : Host.Outcome State Fault Refusal :=
  let s := s.keepStart
  let kind := if s.stage = 2 then 1 else 2
  if s.stage ≠ 2 ∧ s.stage ≠ 4 then .next s
  else if src < 2 then
    if s.xspiOk = false ∨ s.bootSrc ≠ src ∨ s.bootFail = true then .next s
    else
      let s := s.sfdpRead
      match s.keep.check kind false data with
      | 0 => .next (s.bootAccept data pmbus)
      | c => .next (s.bootReject src c)
  else
    match s.keep.bldLen with
    | none => .next s
    | some n =>
      let o := s.keep.bld.take n
      match s.keep.check kind true o with
      | 0 => .next (s.bootAccept o pmbus)
      | c => .next (s.bootReject 2 c)

/-- DQS_TIMEOUT (R442, R443, R45): kind 0 data strobe absent in an 8D-8D-8D read, 1 no SFDP signature or no such read declared:
reads stay 1S-1S-1S. A quarantine enters STATE FAULT. -/
def execDqsTimeout (kind : Nat) (s : State) : Host.Outcome State Fault Refusal :=
  let s := s.keepStart
  if s.xspiOk = false ∨ (s.stage ≠ 2 ∧ s.stage ≠ 4) ∨ 2 ≤ s.bootSrc ∨ s.bootFail = true then .next s
  else
    if kind = 1 then
      .next (({ s with keep := { s.keep with x8d := some false } }.sat pgKEEP Reg.KEEP.XERRCNT 1).err pgKEEP 9 0x312 0)
    else if s.keep.x8d = some false then .next s
    else
      let s := s.sfdpRead.sat pgKEEP Reg.KEEP.XERRCNT 1
      let s := s.err pgKEEP 9 0x313 0
      let g := s.page pgKEEP
      let s := s.setPage pgKEEP { g with viol := g.viol + 1 }
      let n := s.keep.retries + 1
      if s.fl pgKEEP Reg.KEEP.VIOL 15 0 < g.viol + 1 then
        .next (({ s with keep := { s.keep with xspiEnd := true } }.quarantine pgKEEP 0x313).bootReject 1
          (s.fl pgKEEP Reg.KEEP.BSTAT 11 4))
      else if 3 < n then .next (s.bootReject s.bootSrc (s.fl pgKEEP Reg.KEEP.BSTAT 11 4))
      else .next { s with keep := { s.keep with retries := n } }

/-- A write of BLDCTL.START (R443): a PCIe load opens in a stage that takes one. -/
def State.bldStart (s : State) : State :=
  if (s.stage = 2 ∨ s.stage = 4) ∧ (s.bootSrc = 2 ∨ s.bootFail = true) then
    let s := { s with keep := { s.keep with bldOpen := true, bld := [], bldLen := none } }
    (s.setFl pgKEEP Reg.KEEP.BSTAT 3 3 0).setFl pgKEEP Reg.KEEP.BSTAT 13 12 2
  else s

/-- A 64-bit word of the object; one beyond 2,359,296 bytes fails the load with FORMAT (R443). -/
def State.bldWord (s : State) (v : Nat) : State :=
  let k := s.keep
  if k.bldOpen = false ∨ k.bldLen.isSome then s
  else if 2359296 < k.bld.length + 8 then s.bootReject 2 11
  else { s with keep := { k with bld := k.bld ++ leBytes 8 v } }

/-- The length ends the load; it must match the words received. -/
def State.bldEnd (s : State) (n : Nat) : State :=
  let k := s.keep
  let s := s.setRg pgKEEP Reg.KEEP.BLDLEN n
  if k.bldOpen = false ∨ k.bldLen.isSome then s
  else if (n + 7) / 8 * 8 ≠ k.bld.length then s.bootReject 2 11
  else { s with keep := { k with bldLen := some n } }

/-- BLDCTL_START, BLDDATA, BLDLEN (R443). -/
def execBldctlStart (req : Nat) (s : State) : Host.Outcome State Fault Refusal :=
  .next (s.gateH pgKEEP req Reg.KEEP.BLDCTL 1 (·.keepLate.bldStart))
def execBlddata (value req : Nat) (s : State) : Host.Outcome State Fault Refusal :=
  .next (s.gateW pgKEEP req Reg.KEEP.BLDDATA value (·.bldWord value))
def execBldlen (value req : Nat) (s : State) : Host.Outcome State Fault Refusal :=
  .next (s.gateH pgKEEP req Reg.KEEP.BLDLEN value (·.bldEnd value))

/-- ATTREADY (R455, R488): 8,881,151 blocks of 160 ns after the subtree began. -/
def execAttready (s : State) : Host.Outcome State Fault Refusal :=
  match s.keep.sub with
  | some t =>
    if s.cycle < t + 355246040 then .next s
    else
      let first := !s.keep.ready
      let s := ({ s with keep := { s.keep.subtreeDone with ready := true } }).setRg pgKEEP Reg.KEEP.SUBLEFT 1024
      if first then
        let s := if s.stage = 5 then s.setStage 6 else s
        .next ((s.setRg64 pgRSTC Reg.RSTC.TATT s.cycle).happen pgKEEP 1 0)
      else .next s
  | none => .next s

/-! ## Registers -/

/-- KEYMAP and LCS (KEEP registers). -/
def State.keyMap (s : State) : Nat := (s.keys.map (fun e => 2 ^ e.1)).foldl (· + ·) 0
def State.anchorMap (s : State) : Nat := (s.keep.owners.map (fun e => 2 ^ e.1)).foldl (· + ·) 0

/-- The variant number of the attestation report and of CHIP.VARIANT. -/
def varNum (v : Variant) : Nat := match v with
  | .kry4812 => 0
  | .kry4812I => 1
  | .kry4812P => 2
  | .kry2406 => 3

/-- The current command nonce as bytes. -/
def State.nonceBytes (s : State) (p o : Nat) : List Byte := (List.range 8).flatMap (fun i => leBytes 4 (s.rg p (o + 4 * i)))

/-- LCS, SERIAL, TOPLEFT, CTRVAL, KEYMAP as they read. -/
def State.keepRead (s : State) (o : Nat) : Option Nat :=
  let k := s.keep
  if o = Reg.KEEP.LCS then
    some (k.lc + s.level * 2 ^ 4 + s.anchorMap * 2 ^ 8 + k.vrev * 2 ^ 12 + b2n k.ready * 2 ^ 16)
  else if o = Reg.KEEP.BSTAT then some s.bstat
  else if o = Reg.KEEP.SERIAL then some (serial % 2 ^ 32)
  else if o = Reg.KEEP.SERIAL + 4 then some (serial / 2 ^ 32)
  else if o = Reg.KEEP.TOPLEFT then some (2 ^ 20 - k.nextLeaf)
  else if o = Reg.KEEP.CTRVAL then some (k.counter (s.fl pgKEEP Reg.KEEP.CTRSEL 5 0))
  else if o = Reg.KEEP.KEYMAP then some s.keyMap
  else none

/-- Register writes of KEEP with a rule of their own. -/
def State.keepOnWrite (s : State) (o v : Nat) : Option State :=
  if o = Reg.KEEP.BLDCTL then some (if bit v 0 then s.keepLate.bldStart else s)
  else if o = Reg.KEEP.BLDLEN then some (s.bldEnd v)
  else if o = Reg.KEEP.BLDDATA then some { s with keep := { s.keep with bldLow := v } }
  else if o = Reg.KEEP.BLDDATA + 4 then some (s.bldWord (s.keep.bldLow + v * 2 ^ 32))
  else none

/-- What a reset that restarts the Keep processor leaves of Keep: OTP and MRAM (R461, R481). -/
def Keep.restart (k : Keep) : Keep :=
  { Keep.reset with fuses := k.fuses, vrev := k.vrev, secret := k.secret, anchors := k.anchors, counters := k.counters,
                    leaf := k.leaf, boot := k.boot, errSum := k.errSum }

end Sys2Proof.Machine
end

