-- ==== Sys2Proof/Machine/Debug.lean ====
section
/-!
DEFINITION. Debug levels, unlock token, TAP and debug module (23 R463 to R472): halts, breakpoints, freeze sets.
-/

namespace Sys2Proof.Machine

/-! ## Cores (R470, R471) -/

/-- A core is halted; it was released; the level reaches it (R463). -/
def State.coreHalted (s : State) (c : Nat) : Bool := s.fb pgDBGC (Reg.DBGC.coreCSTAT c) 0
def State.coresUp (s : State) : Bool := s.fb pgRSTC Reg.RSTC.BOOT 17
def State.coreReached (s : State) (c : Nat) : Bool :=
  decide (3 ≤ s.level) || (decide (2 ≤ s.level) && !s.fb pgKEEP Reg.KEEP.CORESEC c)

/-- The watchdog pauses while every core of WDMASK is halted (R490). -/
def State.wdPause (s : State) : State :=
  let m := s.fl pgRSTC Reg.RSTC.CFG 7 4
  let paused := m != 0 && (List.range 4).all (fun c => !bit m c || s.coreHalted c)
  match s.wdog.held, paused with
  | none, true => { s with wdog := { s.wdog with held := some s.cycle } }
  | some h, false => { s with wdog := { s.wdog with held := none, at_ := s.wdog.at_ + (s.cycle - h) } }
  | _, _ => s

/-! ## Freeze (R27, R463, R472) -/

/-- STAT.FROZEN follows CTRL.FREEZE and the debug module; at the end of a freeze the marks are evaluated anew (R79) and a
sinc filter restarts (R367). -/
def State.showFrozen (s : State) (p : Nat) : State :=
  let g := s.page p
  let f := g.freeze || s.dbg.frz.contains p
  let t := s.setPage p { g with frozen := f }
  if g.frozen && !f then
    match blkOf p with
    | some .psc => t.pscOnRun
    | some .sdf => t.sdRestart (instOf p)
    | _ => t
  else t

/-- The present pages of FRZSET. -/
def State.freezePages (s : State) : List Nat :=
  (List.range 225).filter (fun p => s.present p && s.fb pgDBGC (Reg.DBGC.FRZSET (p / 64) + 4 * (p % 64 / 32)) (p % 32))

/-- Every page of FRZSET the level reaches freezes; the others are logged (R472). -/
def State.freezeSet (s : State) : State :=
  s.freezePages.foldl (fun t p =>
    if t.freezeHonoured p then
      State.showFrozen { t with dbg := { t.dbg with frz := if t.dbg.frz.contains p then t.dbg.frz else p :: t.dbg.frz } } p
    else t.logOnly pgDBGC 0x331 p) s

/-- The pages of FRZSET the level reaches are released, the others left out and logged (R472). -/
def State.freezeRelease (s : State) : State :=
  s.freezePages.foldl (fun t p =>
    if t.freezeHonoured p then State.showFrozen { t with dbg := { t.dbg with frz := t.dbg.frz.erase p } } p
    else t.logOnly pgDBGC 0x331 p) s

/-- A soft reset of DBGC (R32): halts and freezes of the debug module end, a token load is dropped, the token nonce is new. -/
def State.dbgReset (s : State) : State :=
  let t := { s with
    dbg := { s.dbg with frz := [], coreRegs := [] }
    keep := { s.keep with tkOpen := false, tk := [], tkLow := 0, tkBad := false, tkLen := none } }
  ((s.dbg.frz.foldl State.showFrozen t).wdPause).newNonce pgDBGC (Reg.DBGC.TKNONCE 0)

/-! ## Halt and resume -/

/-- What a running core left in its registers is no longer known to the model. -/
def State.forgetCore (s : State) (c : Nat) : State :=
  let s := { s with dbg := { s.dbg with coreRegs := s.dbg.coreRegs.filter (fun e => e.1 / 8192 != c) } }
  (s.drawn.setRg64 pgDBGC (Reg.DBGC.coreDPC c) (s.draw 64))

/-- A core enters the halted state: CAUSE 1 request, 2 task, 3 breakpoint, 4 watchpoint, 5 step (R470 to R472). -/
def State.haltCore (s : State) (c cause : Nat) (chain : Option (Nat × Nat) := none) : State :=
  if 4 ≤ c ∨ s.coresUp = false ∨ s.coreHalted c = true then s
  else
    let s := (s.forgetCore c).setRg pgDBGC (Reg.DBGC.coreCSTAT c) (1 + cause * 16)
    let s := (s.happenFrom pgDBGC 0 c chain).wdPause
    if s.fb pgDBGC Reg.DBGC.XTRIG (8 + c) then s.freezeSet else s

/-- A halted core runs again; STEP = 1 lets it execute one instruction (R470). -/
def State.resumeCore (s : State) (c : Nat) : State :=
  if 4 ≤ c ∨ s.coreHalted c = false then s
  else
    let t := (s.setRg pgDBGC (Reg.DBGC.coreCSTAT c) 0).wdPause
    if t.fb pgDBGC (Reg.DBGC.coreCCTL c) 2 then t.haltCore c 5 else t

/-- CCTL.HALTREQ (R470). -/
def State.haltReq (s : State) (c : Nat) : State :=
  if s.coreReached c then s.haltCore c 1 else s.err pgDBGC 2 0x331 c

/-- HALTREQ, RESUMEREQ (R470): writes of CCTL. -/
def execHaltreq (core req : Nat) (s : State) : Host.Outcome State Fault Refusal :=
  .next (if core < 4 then s.gateH pgDBGC req (Reg.DBGC.coreCCTL core) 1 (·.haltReq core) else s)
def execResumereq (core req : Nat) (s : State) : Host.Outcome State Fault Refusal :=
  .next (if core < 4 then s.gateH pgDBGC req (Reg.DBGC.coreCCTL core) 2 (·.resumeCore core) else s)

/-- HALT, RESUME (R472): the tasks; HALTED continues the trigger's chain (R340). -/
def execHalt (s : State) : Host.Outcome State Fault Refusal :=
  match s.takeTrig pgDBGC 0 with
  | none => .next s
  | some (x, t) =>
    .next ((List.range 4).foldl (fun u c =>
      if u.fb pgDBGC Reg.DBGC.XTRIG c && u.coreReached c then u.haltCore c 2 (some (x.origin, x.depth)) else u) t)
def execResume (s : State) : Host.Outcome State Fault Refusal :=
  match s.takeTrig pgDBGC 1 with
  | none => .next s
  | some (_, t) =>
    .next ((List.range 4).foldl (fun u c => if u.fb pgDBGC Reg.DBGC.XTRIG (4 + c) && u.coreReached c then u.resumeCore c else u) t)

/-- REGSEL with GO (R470): a register of a halted core is read or written. -/
def State.regselGo (s : State) (c v : Nat) : State :=
  let o := Reg.DBGC.coreREGSEL c
  let data := Reg.DBGC.coreREGDATA c
  let r := bits v 12 0
  let k := c * 8192 + r
  let s := s.setRg pgDBGC o (v &&& 0x11FFF)
  if s.coreHalted c = false then s
  else if 0x101F < r ∨ (r < 0x1000 ∧ Config.coreCsr r = false) then s.setFl pgDBGC o 20 20 1
  else if bit v 16 then
    if 0x1000 < r then { s with dbg := { s.dbg with coreRegs := Tbl.put s.dbg.coreRegs k (s.rg64 pgDBGC data) } } else s
  else if r = 0x1000 then s.setRg64 pgDBGC data 0
  else
    let x := (Tbl.get? s.dbg.coreRegs k).getD (s.draw 64)
    let t := s.drawn.setRg64 pgDBGC data x
    if r < 0x1000 then t else { t with dbg := { t.dbg with coreRegs := Tbl.put t.dbg.coreRegs k x } }

/-- REGSEL_GO (R470). -/
def execRegselGo (core value req : Nat) (s : State) : Host.Outcome State Fault Refusal :=
  .next (if core < 4 then s.gateH pgDBGC req (Reg.DBGC.coreREGSEL core) (value ||| 2 ^ 17) (·.regselGo core (value ||| 2 ^ 17)) else s)

/-- A match acts as BPACT or WPACT says (R471): 0 halt, 1 TRIG, 2 halt and freeze. -/
def State.coreMatch (s : State) (c act cause index : Nat) : State :=
  match act with
  | 0 => s.haltCore c cause
  | 1 => s.happen pgDBGC 3 (c * 65536 + index)
  | 2 => if s.fb pgDBGC Reg.DBGC.XTRIG (8 + c) then s.haltCore c cause else (s.haltCore c cause).freezeSet
  | _ => s

/-- Breakpoints and watchpoints act on the core. -/
def State.coreWatched (s : State) (c : Nat) : Bool := decide (c < 4) && s.coresUp && !s.coreHalted c && s.coreReached c

/-- BREAKPOINT (R471): a core is about to execute the instruction at an address. -/
def execBreakpoint (core addr : Nat) (s : State) : Host.Outcome State Fault Refusal :=
  let hit := (List.range 8).find? (fun i =>
    let b := s.rg64 pgDBGC (Reg.DBGC.coreBP core i)
    bit b 0 && b / 2 == addr % 2 ^ 64 / 2)
  match hit, s.coreWatched core with
  | some i, true => .next (s.coreMatch core (s.fl pgDBGC (Reg.DBGC.coreCCFG core) 1 0) 3 i)
  | _, _ => .next s

/-- WATCHPOINT (R471): a core has made an access of `len` bytes. -/
def execWatchpoint (core addr len : Nat) (store : Bool) (s : State) : Host.Outcome State Fault Refusal :=
  let hit := (List.range 4).find? (fun w =>
    let c := s.rg pgDBGC (Reg.DBGC.coreWP core w + 8)
    let z := 2 ^ min 12 (bits c 9 4)
    let base := s.rg64 pgDBGC (Reg.DBGC.coreWP core w) / z * z
    bit c 0 && bit c (if store then 2 else 1) && decide (base < addr + len) && decide (addr < base + z))
  match hit, s.coreWatched core with
  | some w, true => .next (s.coreMatch core (s.fl pgDBGC (Reg.DBGC.coreCCFG core) 3 2) 4 (8 + w))
  | _, _ => .next s

/-- FRZCMD (R472). -/
def execFrzcmdFreeze (req : Nat) (s : State) : Host.Outcome State Fault Refusal :=
  .next (s.gateH pgDBGC req Reg.DBGC.FRZCMD 1 (·.freezeSet))
def execFrzcmdRelease (req : Nat) (s : State) : Host.Outcome State Fault Refusal :=
  .next (s.gateH pgDBGC req Reg.DBGC.FRZCMD 2 (·.freezeRelease))

/-! ## Levels (R463, R464) -/

/-- Cores and pages that a fall of the level affects lose halts, breakpoints and freezes (R464). -/
def State.levelDrop (s : State) (core : Nat → Bool) (page : Page → Bool) : State :=
  let s := ((List.range 4).filter core).foldl (fun t c =>
    let t := (t.setRg pgDBGC (Reg.DBGC.coreCSTAT c) 0).wdPause
    let t := (List.range 8).foldl (fun u i => u.setFl pgDBGC (Reg.DBGC.coreBP c i) 0 0 0) t
    (List.range 4).foldl (fun u w => u.setFl pgDBGC (Reg.DBGC.coreWP c w + 8) 0 0 0) t) s
  let ps := (List.range 225).filter (fun p => page (s.page p) && ((s.page p).freeze || (s.page p).frozen))
  let s := { s with dbg := { s.dbg with frz := s.dbg.frz.filter (fun p => !page (s.page p)) } }
  ps.foldl (fun t p => State.showFrozen (t.setPage p { t.page p with freeze := false }) p) s

/-- The level changes (R464). -/
def State.setLevel (s : State) (v : Nat) : State :=
  let old := s.level
  if v = old then s
  else
    let s := (s.setFl pgDBGC Reg.DBGC.LEVEL 2 0 v).logOnly pgDBGC 0x331 (old * 16 + v)
    let s := s.happen pgDBGC 2 0
    if v < 2 then s.levelDrop (fun _ => true) (fun _ => true)
    else if v < old then s.levelDrop (fun c => s.fb pgKEEP Reg.KEEP.CORESEC c) (·.sec)
    else s

/-- RELOCK (R464). -/
def execRelock (value req : Nat) (s : State) : Host.Outcome State Fault Refusal :=
  .next (s.gateH pgDBGC req Reg.DBGC.RELOCK value (fun t => t.setLevel (min (bits value 2 0) t.level)))

/-! ## Unlock token (R465, R466) -/

/-- A token check is in progress: writes to the load are ignored. -/
def State.tkBusy (s : State) : Bool := s.fb pgDBGC Reg.DBGC.TKSTAT 0

/-- A write of TKCTL.START, of a token word, of the length. -/
def State.tkStart (s : State) : State :=
  if s.tkBusy then s.errBit pgDBGC 1
  else { s with keep := { s.keep with tkOpen := true, tk := [], tkBad := false, tkLen := none } }
def State.tkWord (s : State) (v : Nat) : State :=
  let k := s.keep
  if s.tkBusy then s.errBit pgDBGC 1
  else if k.tkOpen = false then s
  else if 16512 < k.tk.length + 8 then { s with keep := { k with tkBad := true } }
  else { s with keep := { k with tk := k.tk ++ leBytes 8 v } }
def State.tkEnd (s : State) (n : Nat) : State :=
  if s.tkBusy then s.errBit pgDBGC 1
  else
    let s := s.setRg pgDBGC Reg.DBGC.TKLEN n
    if s.keep.tkOpen = false then s
    else ({ s with keep := { s.keep with tkOpen := false, tkLen := some n } }).setFl pgDBGC Reg.DBGC.TKSTAT 0 0 1

/-- TKCTL_START, TKDATA, TKLEN (R466). -/
def execTkctlStart (req : Nat) (s : State) : Host.Outcome State Fault Refusal :=
  .next (s.gateH pgDBGC req Reg.DBGC.TKCTL 1 (·.tkStart))
def execTkdata (value req : Nat) (s : State) : Host.Outcome State Fault Refusal :=
  .next (s.gateW pgDBGC req Reg.DBGC.TKDATA value (·.tkWord value))
def execTklen (value req : Nat) (s : State) : Host.Outcome State Fault Refusal :=
  .next (s.gateH pgDBGC req Reg.DBGC.TKLEN value (·.tkEnd value))

/-- The combination table: a token may reach the level, its signer is permitted (R467). -/
def tokenLevel (lc l : Nat) : Bool := match lc with
  | 0 => false
  | 1 => l == 3
  | 2 => l == 2
  | _ => true
def tokenSigner (lc signer : Nat) : Bool := match lc with
  | 1 => decide (signer ≤ 1) || (decide (4 ≤ signer) && decide (signer ≤ 7))
  | 2 => decide (4 ≤ signer) && decide (signer ≤ 7)
  | 3 => decide (signer ≤ 1)
  | _ => false

/-- The code a token's check ends with (R466). -/
def State.tokenCode (s : State) (n : Nat) : Nat :=
  let k := s.keep
  let o := k.tk.take n
  let siglen := leAt o 0x0C 4
  let l := leAt o 8 1
  let signer := leAt o 9 1
  let sig := o.drop 128
  if k.tkBad ∨ o.length ≠ n ∨ leAt o 0 4 ≠ 0x4742444B ∨ leAt o 4 2 ≠ 1 ∨ leAt o 6 2 ≠ 128 ∨ leAt o 0x0A 2 ≠ 0 ∨
      leAt o 0x40 64 ≠ 0 ∨ l < 1 ∨ 3 < l ∨ siglen < 256 ∨ 16384 < siglen ∨ n ≠ 128 + siglen then 11
  else if leAt o 0x10 8 ≠ serial then 7
  else if (o.drop 0x20).take 32 ≠ s.nonceBytes pgDBGC (Reg.DBGC.TKNONCE 0) then 6
  else if l ≤ s.level ∨ tokenLevel k.lc l = false then 5
  else if tokenSigner k.lc signer = false ∨ k.anchored signer sig = false then 3
  else if sigsOk (o.take 128) sig = false then 2
  else 0

/-- TOKEN (R466): the check ends. -/
def execToken (s : State) : Host.Outcome State Fault Refusal :=
  match s.keep.tkLen with
  | none => .next s
  | some n =>
    let c := s.tokenCode n
    let l := leAt s.keep.tk 8 1
    let s := { s with keep := { s.keep with tkLen := none, tk := [], tkBad := false } }
    let s := s.setRg pgDBGC Reg.DBGC.TKSTAT (c * 16 + (if c = 0 then l * 2 ^ 12 else 0))
    let s := s.newNonce pgDBGC (Reg.DBGC.TKNONCE 0)
    let s := if c = 0 then s.setLevel l else s.err pgDBGC 0 0x330 c
    .next (s.happen pgDBGC 1 0)

/-! ## TAP (R467, R468) -/

/-- IDCODE (R468). -/
def idcode (v : Variant) : Nat :=
  let part := match v with
    | .kry4812 => 0x4812
    | .kry4812I => 0x4813
    | .kry4812P => 0x4814
    | .kry2406 => 0x2406
  0x10000000 + part * 2 ^ 12 + 0x2B7 * 2 + 1

/-- The TAP is powered; an instruction of level 1 acts: scan level in RUN or IDLE. -/
def State.tapOn (s : State) : Bool := s.pwr.state != 4
def State.tapScan (s : State) : Bool := s.clocked && decide (1 ≤ s.level)

/-- The instruction register takes a code. -/
def State.tapIr (s : State) (ir : Nat) : State := { s with dbg := { s.dbg with ir := ir } }

/-- BYPASS and what acts as it: the bypass register captures 0. -/
def State.tapBypass (s : State) : State := { s.tapIr 0x1F with readData := 0 }

/-- A boundary instruction, or BYPASS below its level. -/
def State.tapBoundary (s : State) (ir : Nat) (f : State → State) : State :=
  if s.tapOn = false then s else if s.tapScan then f (s.tapIr ir) else s.tapBypass

/-- The pins as an instruction drives or samples them: kind 1 EXTEST, 2 SAMPLE, 3 HIGHZ, 4 CLAMP. -/
def State.tapPins (s : State) (kind : Nat) (l : List Bool) : State := s.emit (.frame pgDBGC kind [] (l.map b2n))

/-- IDCODE (R468). -/
def execIdcode (s : State) : Host.Outcome State Fault Refusal :=
  .next (if s.tapOn then { s.tapIr 1 with readData := idcode s.variant } else s)
/-- BYPASS (R468). -/
def execBypass (s : State) : Host.Outcome State Fault Refusal := .next (if s.tapOn then s.tapBypass else s)
/-- EXTEST (R468): the bits shifted in drive the pins. -/
def execExtest (shift : List Bool) (s : State) : Host.Outcome State Fault Refusal :=
  .next (s.tapBoundary 0 (fun t => ({ t with dbg := { t.dbg with bsr := shift } }).tapPins 1 shift))
/-- SAMPLE/PRELOAD (R468): the pins go out, the bits shifted in are held. -/
def execSamplePreload (pins shift : List Bool) (s : State) : Host.Outcome State Fault Refusal :=
  .next (s.tapBoundary 2 (fun t => ({ t with dbg := { t.dbg with bsr := shift } }).tapPins 2 pins))
/-- HIGHZ (R468). -/
def execHighz (s : State) : Host.Outcome State Fault Refusal := .next (s.tapBoundary 3 (fun t => t.tapPins 3 []))
/-- CLAMP (R468). -/
def execClamp (s : State) : Host.Outcome State Fault Refusal := .next (s.tapBoundary 4 (fun t => t.tapPins 4 t.dbg.bsr))
/-- TAP_RESET (R468): Test-Logic-Reset selects IDCODE, as IEEE 1149.1 has it (log entry 17). -/
def execTapReset (s : State) : Host.Outcome State Fault Refusal := .next (if s.tapOn then s.tapIr 1 else s)

/-- WAKE_INSTRUCTION (R468, R477): Update-DR of 1. -/
def execWakeInstruction (dr : Bool) (s : State) : Host.Outcome State Fault Refusal :=
  .next (if s.tapOn = false then s else if dr then (s.tapIr 0x13).wakeBy 3 [1, 2, 3] else s.tapIr 0x13)

/-! ## Registers -/

/-- LEVEL, FRZSTAT and CSTAT as they read. -/
def State.dbgcRead (s : State) (o : Nat) : Option Nat :=
  if o = Reg.DBGC.LEVEL then some (s.level + defLevel s.keep.lc * 16 + b2n (s.level == 3) * 256)
  else if o = Reg.DBGC.FRZSTAT then some (b2n !s.dbg.frz.isEmpty)
  else match (List.range 4).find? (fun c => o == Reg.DBGC.coreCSTAT c) with
  | some c => some (s.rg pgDBGC o ||| b2n (s.fb pgKEEP Reg.KEEP.CORESEC c) * 4)
  | none => none

/-- Register writes of the debug module with a rule of their own (but for system-bus access). -/
def State.dbgcOnWrite (s : State) (o v : Nat) : Option State :=
  if o = Reg.DBGC.RELOCK then some (s.setLevel (min (bits v 2 0) s.level))
  else if o = Reg.DBGC.TKCTL then some (if bit v 0 || s.tkBusy then s.tkStart else s)
  else if o = Reg.DBGC.TKLEN then some (s.tkEnd v)
  else if o = Reg.DBGC.TKDATA then
    some (if s.tkBusy then s.errBit pgDBGC 1 else { s with keep := { s.keep with tkLow := v } })
  else if o = Reg.DBGC.TKDATA + 4 then some (s.tkWord (s.keep.tkLow + v * 2 ^ 32))
  else if o = Reg.DBGC.FRZCMD then
    let s := if bit v 0 then s.freezeSet else s
    some (if bit v 1 then s.freezeRelease else s)
  else match (List.range 4).find? (fun c => decide (Reg.DBGC.coreCCTL c ≤ o) && decide (o < Reg.DBGC.coreCCTL c + 0x100)) with
  | some c =>
    if o = Reg.DBGC.coreCCTL c then
      let s := s.writeWord pgDBGC o v
      let s := if bit v 0 then s.haltReq c else s
      some (if bit v 1 then s.resumeCore c else s)
    else if o = Reg.DBGC.coreREGSEL c then
      some (if bit v 17 then s.regselGo c v else s.setRg pgDBGC o (mix (s.rg pgDBGC o) v 0x11FFF))
    else if (o = Reg.DBGC.coreDPC c ∨ o = Reg.DBGC.coreDPC c + 4) ∧ s.coreHalted c = false then some s
    else none
  | none => none

end Sys2Proof.Machine
end

