-- ==== Sys2Proof/Machine/Power.lean ====
section
/-!
DEFINITION. Power states PWRC (23 R474 to R479), resets, start-up and the watchdog RSTC (24 R480 to R490).
-/

namespace Sys2Proof.Machine

/-! ## Resets (R480 to R483) -/

/-- RSTC.CAUSE and RSTCNT of a reset (R488). -/
def State.resetCause (s : State) (b : Nat) : State :=
  s.setRg pgRSTC Reg.RSTC.CAUSE (s.rg pgRSTC Reg.RSTC.CAUSE ||| 2 ^ b)

/-- RSTOUTn. -/
def State.rstout (s : State) (lvl : Nat) : State := s.emit (.pin pgRSTC 0 lvl)

/-- Entries of a table that belong to the pages `keep` names. -/
def keepPages {α : Type} (t : Tbl α) (f : Nat → Nat) (keep : Nat → Bool) : Tbl α := t.filter (fun e => keep (f e.1))

/-- Everything a reset of the whole part leaves: OTP and MRAM, the outside world, the model's own record (R481). -/
def State.bare (s : State) : State :=
  { State.reset with
    pending := s.pending, cycle := s.cycle, variant := s.variant, fresh := s.fresh, readData := s.readData, out := s.out
    dram := s.dram, dramBad := s.dramBad, dramSoft := s.dramSoft, host0 := s.host0, host1 := s.host1, epoch := s.epoch, dramLost := s.dramLost
    keep := s.keep.restart
    lant := { State.reset.lant with mlog := s.lant.mlog, mlogN := s.lant.mlogN, runCyc := s.runCycles, planAt := s.runCycles }
    cal := { State.reset.cal with hist := s.cal.hist, histN := s.cal.histN } }

/-- Pages that may be in RUN in HOLD, SLEEP and OFF (R475). -/
def lowPage (p : Nat) : Bool := [0, 1, 2, 3, pgKEEP, pgDBGC, pgBIC, 210, pgPCIE, pgSRAM].contains p || (decide (216 ≤ p) && decide (p < 224))

/-- What SLEEP leaves: the blocks it powers off are at reset, the pages R475 lets stay keep theirs. -/
def State.sleptBare (s : State) : State :=
  let b := s.bare
  let low := fun (k : Nat) => lowPage (k / 4096)
  { b with
    pages := keepPages s.pages (fun p => p) lowPage, regs := keepPages s.regs (fun k => k / 4096) lowPage
    shadow := s.shadow.filter (fun e => low e.1), stored := s.stored.filter (fun e => low e.1)
    pcie := s.pcie, chans := s.chans, chSels := s.chSels, swArgs := s.swArgs, srcs := s.srcs,
    ptp := { State.reset.ptp with tb := s.timeFrac, nb := s.cycle, past := (s.ptp.tb, s.ptp.nb, s.ptp.inc) :: s.ptp.past }
    hits := s.hits, gpioFrom := s.gpioFrom, pulses := s.pulses, evs := s.evs, chanWrites := s.chanWrites, keep := s.keep, keys := s.keys
    pwr := s.pwr, dbg := s.dbg, wdog := s.wdog, rst := s.rst, dmcs := s.dmcs, epoch := s.epoch + 1
    sram := (s.sramZero (fun p => p != 3)).sram }

/-- The blocks SLEEP powered off read their reset values, their pins too; NCT is neutral (R478, R500). -/
def State.slept (s : State) : State :=
  (List.range 225).foldl (fun t p => if t.present p && !lowPage p then t.pinsRest p else t) s.sleptBare

/-- The debug level becomes the lifecycle's default (R464); a CLK or power-on reset restarts N. -/
def State.defaultLevel (s : State) : State := s.setRg pgDBGC Reg.DBGC.LEVEL (defLevel s.keep.lc)

/-- DRAM content becomes undefined. -/
def State.loseDram (s : State) : State := { s with dram := [], dramBad := [], dramSoft := [], dramLost := s.dramLost + 1 }

/-- A power-on reset (R481, R482): BOOTSEL is sampled; SRAM is zeroed, NCT neutral. -/
def State.powerOn (s : State) (bootsel : Nat) : State :=
  let t := { s.bare with cycle := 0, epoch := s.epoch + 1 }
  let t := (t.loseDram.defaultLevel.setFl pgKEEP Reg.KEEP.BSTAT 15 14 bootsel)
  t.pinsAllRest.rstout 0

/-- The registers a warm reset keeps: the RSTC page but OUTCTL.REL and the boot bits, WAKEEN, WAKETMR, the latches, NCT's
fronts (R132). -/
def warmWord (k : Nat) : Bool :=
  let p := k / 4096
  let o := k % 4096
  (p == pgRSTC && o != Reg.RSTC.OUTCTL && o != Reg.RSTC.BOOT) ||
    (p == pgPWRC && (o == Reg.PWRC.WAKEEN || o == Reg.PWRC.WAKETMR)) ||
    (p == pgNCT && o == Reg.NCT.FRONT) || (p == pgBIC && decide (Reg.BIC.ALAT 0 ≤ o) && decide (o < Reg.BIC.ALAT 32))

/-- The part is in a low-power state that its entry has reached: an early wake has powered nothing off (R479). -/
def State.inLow (s : State) (st : Nat) : Bool := s.pwr.state == st && !s.pwr.early

/-- A warm reset (R481): `orderly`, and `clk` when N restarts. BOOTSEL is read again: the straps have not moved. From SLEEP
the memories come back as a wake leaves them (R478, R482). -/
def State.warm (s : State) (orderly clk : Bool) : State :=
  let sref := orderly || s.inLow 2 || s.inLow 3 || s.pwr.sref
  let s := if s.inLow 3 then s.slept else s
  let b := s.bare
  let t : State := { b with
    cycle := if clk then 0 else s.cycle
    pages := keepPages s.pages (fun p => p) (· == pgRSTC)
    nct := s.nctAfter, camCorr := s.camCorr, tones := s.tones, screens := Tbl.drop s.screens (fun k => decide (2 ^ 21 ≤ k)), 
    sram := { s.sram with scrubAt := if clk then 0 else s.sram.scrubAt }
    wdog := { s.wdog with at_ := if clk then 0 else s.wdog.at_ + (s.wdog.held.map (s.cycle - ·)).getD 0, held := none }
    rst := if orderly then 3 else 4
    fresh := s.fresh + 1 }
  let kept := s.regs.filter (fun (e : Nat × Word) => warmWord e.1)
  let t := { t with regs := kept.foldl (fun r (e : Nat × Word) => Tbl.put r e.1 e.2) b.regs }
  let t := if sref then { t with pwr := { t.pwr with sref := true } } else t.loseDram
  let t := (t.defaultLevel.setFl pgKEEP Reg.KEEP.BSTAT 15 14 (s.fl pgKEEP Reg.KEEP.BSTAT 15 14)).setFl pgPTP Reg.PTP.PSTAT 0 0 1
  t.pinsAllRest.rstout 0

/-- A reset of a strength acts unless one as strong is in progress (R482); its cause bit is set and it is counted. In OFF
only the always-on domain works, and the exit is a power-on reset (R474, R480). -/
def State.resetBy (s : State) (cause strength : Nat) (f : State → State) : State :=
  if s.inLow 4 then s
  else if strength ≤ s.rst then s.resetCause cause
  else (f s).resetCause cause |>.sat pgRSTC Reg.RSTC.RSTCNT 1

/-- POR (R480). -/
def execPor (bootsel : Nat) (s : State) : Host.Outcome State Fault Refusal :=
  .next ((s.powerOn bootsel).resetCause 0)

/-- PIN_RESET (R480). -/
def execPinReset (s : State) : Host.Outcome State Fault Refusal := .next (s.resetBy 1 4 (·.warm false false))

/-- A core reset (R481): the cores are held and lose their marks (R440), their image is loaded and verified again. -/
def State.coreReset (s : State) : State :=
  if s.stage < 5 then s.err pgRSTC 1 0x352 0
  else
    let s := (List.range 4).foldl (fun t c => (t.setRg pgDBGC (Reg.DBGC.coreCSTAT c) 0).wdPause) s
    let s := ((s.setFl pgRSTC Reg.RSTC.BOOT 17 17 0).setStage 4).setRg pgKEEP Reg.KEEP.CORESEC 0
    let s := s.setFl pgKEEP Reg.KEEP.BSTAT 13 12 (if s.xspiOk && s.bootSrc != 2 then s.bootSrc else 2)
    (s.resetCause 5).sat pgRSTC Reg.RSTC.RSTCNT 1

/-- A write of RSTC.CMD (R480 to R482). -/
def State.rstcCmd (s : State) (v : Nat) : State :=
  if bits v 31 16 ≠ 0x5253 then s.err pgRSTC 0 0x350 0
  else
    let core := bit v 1
    if bit v 0 then (s.resetBy 2 3 (·.warm true false) |> fun t => if core then t.resetCause 5 else t)
    else if core then s.coreReset else s

/-- SW_RESET, CORE_RESET (R480, R481): writes of RSTC.CMD. -/
def execSwReset (value req : Nat) (s : State) : Host.Outcome State Fault Refusal :=
  .next (s.gateH pgRSTC req Reg.RSTC.CMD value (·.rstcCmd value))
def execCoreReset (value req : Nat) (s : State) : Host.Outcome State Fault Refusal :=
  .next (s.gateH pgRSTC req Reg.RSTC.CMD value (·.rstcCmd value))

/-- CLK_LOSS (R480): REFCLK absent or a PLL out of lock, for at most 1 µs or longer. -/
def execClkLoss (pll long : Bool) (s : State) : Host.Outcome State Fault Refusal :=
  if long then .next (s.resetBy 4 4 (·.warm false true))
  else if s.inLow 4 then .next s
  else .next ((s.err pgCLKC (b2n pll) (if pll then 0x341 else 0x340) 0).sat pgCLKC Reg.CLKC.LOSSCNT 1)

/-- A PCIe reset (R481): PCIE page, both functions, configuration space, link. -/
def State.pcieReset (s : State) : State :=
  let s := (s.flrQueues 0).flrQueues 1
  let s := { s.clearRegs pgPCIE (fun _ => false) with pcie := State.reset.pcie, pages := Tbl.del s.pages pgPCIE }
  (s.resetCause 6).sat pgRSTC Reg.RSTC.RSTCNT 1

/-! ## Watchdog, start-up (R484, R488, R490) -/

/-- A write of WDKICK (R490). -/
def State.wdKick (s : State) (v : Nat) : State :=
  if v = 0x4B49 then { s with wdog := { s.wdog with at_ := s.cycle, warned := false, held := s.wdog.held.map (fun _ => s.cycle) } }
  else s.logOnly pgRSTC 0x350 0

/-- WDKICK (R490). -/
def execWdkick (value req : Nat) (s : State) : Host.Outcome State Fault Refusal :=
  .next (s.gateH pgRSTC req Reg.RSTC.WDKICK value (·.wdKick value))

/-- WATCHDOG_EXPIRY (R490): the count has reached WDTO. -/
def execWatchdogExpiry (s : State) : Host.Outcome State Fault Refusal :=
  let w := s.wdog
  if s.fb pgRSTC Reg.RSTC.CFG 1 = false ∨ w.held.isSome = true ∨ s.clocked = false ∨
      s.cycle < w.at_ + 4096 * s.fl pgRSTC Reg.RSTC.WDTO 23 0 then .next s
  else
    let s := { s with wdog := { w with at_ := s.cycle, warned := !w.warned } }
    if w.warned then .next (s.resetBy 3 3 (·.warm true false))
    else .next ((s.logOnly pgRSTC 0x351 0).happen pgRSTC 0 0)

/-- A write of OUTCTL (R488). -/
def State.outctl (s : State) (v : Nat) : State :=
  let old := s.fb pgRSTC Reg.RSTC.OUTCTL 0
  let s := s.setRg pgRSTC Reg.RSTC.OUTCTL (v % 2)
  if old == bit v 0 then s else s.rstout (v % 2)

/-- OUTCTL_REL (R488). -/
def execOutctlRel (value req : Nat) (s : State) : Host.Outcome State Fault Refusal :=
  .next (s.gateH pgRSTC req Reg.RSTC.OUTCTL value (·.outctl value))

/-- WINOPEN (R484): SRAM zeroed, NCT filled; the window opens and the reset is over. After a warm reset Keep is released with it
and its stage 1 begins; after power-on that stage is over. -/
def execWinopen (s : State) : Host.Outcome State Fault Refusal :=
  if s.windowOpen 0 then .next s
  else
    let s := { (if s.rst = 3 ∨ s.rst = 4 then s.bootRom else s.keepStart) with rst := 0 }
    .next (((s.setFl pgRSTC Reg.RSTC.BOOT 16 16 1).setRg64 pgRSTC Reg.RSTC.TWIN s.cycle).setRg pgCLKC Reg.CLKC.PLLSTAT 0x33F)

/-! ## Power requests (R475, R476) -/

/-- The first page that keeps the part out of a state (R475, condition 1). -/
def State.blocker (s : State) (target : Nat) : Option Nat :=
  (List.range 225).find? (fun p =>
    let st := (s.page p).state
    (st == .run || st == .drain) && (if target = 1 then pxPage p else !lowPage p))

/-- A WAKEEN source works in the state (R475 condition 3, R477). -/
def State.wakeable (s : State) (target : Nat) : Bool :=
  let e := fun (b : Nat) => s.fb pgPWRC Reg.PWRC.WAKEEN b
  (e 0 && decide (target ≤ 3)) || e 1 || ((e 2 || e 3) && decide (target ≤ 3)) || e 4

/-- The code with which a request is refused (R475). -/
def State.reqBad (s : State) (target : Nat) : Option Nat :=
  if (s.blocker target).isSome then some 1
  else if (List.range 4).any s.coreHalted ∨ (List.range 225).any (fun p => (s.page p).frozen) then some 2
  else if s.wakeable target = false then some 3
  else if target = 3 ∧ s.rg64 pgPWRC Reg.PWRC.RESUMEVEC = 0 then some 4
  else none

/-- The error summary of an orderly power-down (R408): ERRCNT of every page, SRAM and DMC error counters. -/
def State.errSummary (s : State) : List Nat :=
  (List.range 225).map (fun p => (s.page p).errcnt) ++
    (List.range 4).flatMap (fun p => [s.rg pgSRAM (Reg.SRAM.CECNT p), s.rg pgSRAM (Reg.SRAM.UECNT p)]) ++
    (List.range 8).flatMap (fun c => [s.rg (pgDMC c) Reg.DMC.CECNT, s.rg (pgDMC c) Reg.DMC.UECNT, s.rg (pgDMC c) Reg.DMC.RANGECNT, s.rg (pgDMC c) Reg.DMC.PROTCNT])

/-- A write of REQ.STATE (R475, R476). -/
def State.powerReq (s : State) (target : Nat) : State :=
  let x := s.pwr
  if x.wake.isSome ∨ 5 ≤ target ∨ s.clocked = false then s
  else if target = 0 then (if x.met = 1 then s.wakeBy 5 [1] else s)
  else if x.entering ∨ target = x.state then s
  else
    match s.reqBad target with
    | some c =>
      let s := (s.sat pgPWRC Reg.PWRC.REFUSECNT 1).setFl pgPWRC Reg.PWRC.PSTAT 14 12 c
      let s := match s.blocker target, c with
        | some p, 1 => s.setFl pgPWRC Reg.PWRC.PSTAT 23 16 p
        | _, _ => s
      (s.err pgPWRC 0 0x320 c).happen pgPWRC 1 0
    | none =>
      let s := if target = 4 then { s with keep := { s.keep with errSum := s.keep.errSum.put s.errSummary } } else s
      State.showPwr { s with pwr := { x with entering := true, target := target } }

/-- REQ_IDLE, REQ_HOLD, REQ_SLEEP, REQ_OFF, REQ_RUN (R475, R476): writes of REQ. -/
def execReqIdle (req : Nat) (s : State) : Host.Outcome State Fault Refusal := .next (s.gateH pgPWRC req Reg.PWRC.REQ 1 (·.powerReq 1))
def execReqHold (req : Nat) (s : State) : Host.Outcome State Fault Refusal := .next (s.gateH pgPWRC req Reg.PWRC.REQ 2 (·.powerReq 2))
def execReqSleep (req : Nat) (s : State) : Host.Outcome State Fault Refusal := .next (s.gateH pgPWRC req Reg.PWRC.REQ 3 (·.powerReq 3))
def execReqOff (req : Nat) (s : State) : Host.Outcome State Fault Refusal := .next (s.gateH pgPWRC req Reg.PWRC.REQ 4 (·.powerReq 4))
def execReqRun (req : Nat) (s : State) : Host.Outcome State Fault Refusal := .next (s.gateH pgPWRC req Reg.PWRC.REQ 0 (·.powerReq 0))

/-- The trained channels enter or leave self-refresh, with an all-bank refresh (R409). -/
def State.selfRefresh (s : State) (on : Bool) : State :=
  (List.range s.nch).foldl (fun t n =>
    if t.fb (pgDMC n) Reg.DMC.DSTAT 0 ∧ t.fb (pgDMC n) Reg.DMC.DSTAT 1 ≠ on then
      (t.dmcAllBank n).setFl (pgDMC n) Reg.DMC.DSTAT 1 1 (b2n on)
    else t) s

/-- The pins in OFF (R499, R500): CORE_EN and RSTOUTn low, IRQ_OUT pulled down, the others as at reset. -/
def State.pinsOff (s : State) : State :=
  ((List.range 16).foldl (fun t k => t.emit (.pin pgBIC k 0)) s.pinsAllRest).rstout 0 |>.emit (.pin pgPWRC 0 0)

/-- POWER_ENTRY_DONE (R475): the DMC queues have drained, the steps are complete. -/
def execPowerEntryDone (s : State) : Host.Outcome State Fault Refusal :=
  let x := s.pwr
  if x.entering = false then .next s
  else
    let s := if x.target = 1 then s
      else State.selfRefresh { s with dmcs := s.dmcs.map (fun (e : Nat × DramChan) => (e.1, e.2.drained)) } true
    let s := State.showPwr { s with pwr := { x with state := x.target, entering := false } }
    .next (if x.target = 4 then s.pinsOff else s)

/-! ## Wakes (R477 to R479) -/

/-- WAKE (R477): the task on a synchronous channel. -/
def execWake (s : State) : Host.Outcome State Fault Refusal :=
  match s.takeTrig pgPWRC 0 with
  | none => .next s
  | some (_, t) => .next (t.wakeBy 0 [1])

/-- HOST_WAKE (R477). -/
def execHostWake (s : State) : Host.Outcome State Fault Refusal := .next (s.wakeBy 2 [1, 2, 3])

/-- AON_TIMER (R477): `ticks` AONCLK ticks have passed since entry. -/
def execAonTimer (ticks : Nat) (s : State) : Host.Outcome State Fault Refusal :=
  let n := s.rg pgPWRC Reg.PWRC.WAKETMR
  .next (if n ≠ 0 ∧ n ≤ ticks then s.wakeBy 4 [1, 2, 3, 4] else s)

/-- CTLCLK and POSCLK run again: network time lost, latches handed over (R375, R330). -/
def State.reclocked (s : State) : State :=
  (List.range 32).foldl State.latchHand (s.setFl pgPTP Reg.PTP.PSTAT 0 0 1)

/-- WAKE_COMPLETE (R478, R479): STATE = RUN after `ticks` AONCLK ticks in the low-power state. From OFF the power-on
sequence follows (R480). -/
def execWakeComplete (ticks : Nat) (s : State) : Host.Outcome State Fault Refusal :=
  let x := s.pwr
  match x.wake with
  | none => .next s
  | some cause =>
    if x.state = 4 ∧ x.early = false then
      .next (((s.emit (.pin pgPWRC 0 1)).powerOn (s.fl pgKEEP Reg.KEEP.BSTAT 15 14)).resetCause 0)
    else
      let s := { s with pwr := { x with state := 0, entering := false, wake := none, early := false } }
      let s := if x.state = 3 ∧ x.early = false then { s.slept with pwr := s.pwr } else s
      let s := (s.selfRefresh false).showPwr.setRg pgPWRC Reg.PWRC.LPTIME ticks
      let s := if 2 ≤ x.state ∧ x.early = false then s.reclocked else s
      .next (s.happen pgPWRC 0 cause)

/-! ## Registers -/

/-- Register writes of PWRC and RSTC with a rule of their own. -/
def State.pwrcOnWrite (s : State) (o v : Nat) : Option State :=
  if o = Reg.PWRC.REQ then some (s.powerReq (bits v 2 0)) else none
def State.rstcOnWrite (s : State) (o v : Nat) : Option State :=
  if o = Reg.RSTC.CAUSE then some (s.setRg pgRSTC o (s.rg pgRSTC o &&& (0xFFFFFFFF ^^^ v % 2 ^ 32)))
  else if o = Reg.RSTC.CMD then some (s.rstcCmd v)
  else if o = Reg.RSTC.CFG then
    let old := s.rg pgRSTC o
    let s := s.setRg pgRSTC o ((v &&& 0xF1) ||| ((old ||| v) &&& 2))
    some ((if bit v 1 && !bit old 1 then { s with wdog := ⟨s.cycle, false, none⟩ } else s).wdPause)
  else if o = Reg.RSTC.WDKICK then some (s.wdKick v)
  else if o = Reg.RSTC.OUTCTL then some (s.outctl v)
  else none

/-- RSTC.BOOT mirrors KEEP.BSTAT (R488). -/
def State.rstcRead (s : State) (o : Nat) : Option Nat :=
  if o = Reg.RSTC.BOOT then some ((s.rg pgRSTC o &&& 0x30000) + (s.bstat &&& 0x3FFF)) else none

/-- CHIP as it reads (R25, R483, CHIP registers). -/
def State.chipRead (s : State) (o : Nat) : Option Nat :=
  let half := fun (v : Nat) (hi : Bool) => some (if hi then v / 2 ^ 32 % 2 ^ 32 else v % 2 ^ 32)
  if o = Reg.CHIP.VARIANT then some (varNum s.variant + bits (idcode s.variant) 27 12 * 2 ^ 16)
  else if o = Reg.CHIP.SERIAL ∨ o = Reg.CHIP.SERIAL + 4 then half serial (o == Reg.CHIP.SERIAL + 4)
  else if o = Reg.CHIP.POSCNT ∨ o = Reg.CHIP.POSCNT + 4 then half s.cycle (o == Reg.CHIP.POSCNT + 4)
  else if 0x140 ≤ o ∧ o < 0x160 then
    some (((List.range 32).map (fun b => b2n (s.present ((o - 0x140) * 8 + b)) * 2 ^ b)).foldl (· + ·) 0)
  else none

/-- The DMC clock in MHz, one eighth of the data rate (R16); how a fraction shows is free. -/
def dmcMhz (rate : Nat) : Nat :=
  match rate with
  | 0 => 400
  | 1 => 533 + b2n (Config.tieUp (2 ^ 41 + 1))
  | 2 => 687 + b2n (Config.tieUp (2 ^ 41 + 2))
  | 3 => 800
  | 4 => 937 + b2n (Config.tieUp (2 ^ 41 + 4))
  | _ => 1066 + b2n (Config.tieUp (2 ^ 41 + 5))

/-- CLKC as it reads once the PLLs are locked: REFMON is measured. -/
def State.clkcRead (s : State) (o : Nat) : Option Nat :=
  if o = Reg.CLKC.REFMON ∧ s.fb pgCLKC Reg.CLKC.PLLSTAT 8 = true then some (Config.measure 0 s.cycle % 2 ^ 32)
  else if o = Reg.CLKC.DMCCLK ∧ s.fb pgCLKC Reg.CLKC.PLLSTAT 5 = true then some (dmcMhz (s.fl (pgDMC 0) Reg.DMC.CFG 2 0))
  else none

end Sys2Proof.Machine
end

