-- ==== Sys2Proof/Machine/Dma.lean ====
section
/-!
DEFINITION. DMA channels (15 R314, R315, R319, R320, R322), function-level and PCIe resets (15 R302; 24 R480).
-/

namespace Sys2Proof.Machine

/-- START: in IDLE, STOPPED and ERROR, while the page is enabled (R315). -/
def State.dmaStart (s : State) (c req : Nat) (chain : Option (Nat × Nat)) : State :=
  let st := s.dmaState c
  if 16 ≤ c ∨ s.enabled pgDMA = false ∨ (st ≠ 0 ∧ st ≠ 4 ∧ st ≠ 5) then s
  else
    let t := (s.setDma c ⟨req, chain, 0, none⟩).setDmaState c 1
    t.setRg64 pgDMA (Reg.DMA.chCUR c) (s.rg64 pgDMA (Reg.DMA.chDESC c))

/-- RESUME: a STOPPED chain goes on at CUR. -/
def State.dmaResume (s : State) (c req : Nat) : State :=
  if 16 ≤ c ∨ s.enabled pgDMA = false ∨ s.dmaState c ≠ 4 then s
  else (s.setDma c { s.dma c with req := req, chain := none, desc := none }).setDmaState c 1

/-- STOP. -/
def State.dmaStop (s : State) (c : Nat) : State :=
  if 16 ≤ c then s
  else match s.dmaState c with
  | 1 => s.dmaEnd c 1 4
  | 2 => s.setDmaState c 3
  | _ => s

/-- DMA_START (R315): a write of CTL.START, or the task. -/
def execDmaStart (ch req : Nat) (byTask : Bool) (s : State) : Host.Outcome State Fault Refusal :=
  if byTask then
    match s.takeTrig pgDMA ch with
    | none => .next s
    | some (t, u) => .next (u.dmaStart ch 9 (some (t.origin, t.depth)))
  else .next (s.gateH pgDMA req (Reg.DMA.chCTL ch) 1 (·.dmaStart ch req none))

/-- DMA_STOP, DMA_RESUME (R315). -/
def execDmaStop (ch req : Nat) (s : State) : Host.Outcome State Fault Refusal :=
  .next (s.gateH pgDMA req (Reg.DMA.chCTL ch) 2 (·.dmaStop ch))
def execDmaResume (ch req : Nat) (s : State) : Host.Outcome State Fault Refusal :=
  .next (s.gateH pgDMA req (Reg.DMA.chCTL ch) 4 (·.dmaResume ch req))

/-- A chain in progress ends at once (R315); a channel without one is IDLE. -/
def State.dmaAbort (s : State) (c code : Nat) : State :=
  let st := s.dmaState c
  if st = 1 ∨ st = 2 ∨ st = 3 then s.dmaEnd c code 0
  else if st = 0 then s
  else s.setRg pgDMA (Reg.DMA.chSTAT c) (code * 256)

/-- CTRL.EN = 0 or soft reset of DMA. -/
def State.dmaOff (s : State) : State := (List.range 16).foldl (fun t c => t.dmaAbort c 1) s

/-- Entry to RUN (R322). -/
def State.dmaOnRun (s : State) : State :=
  if (List.range 16).any (fun c => s.fb pgDMA (Reg.DMA.chCTL c) 8) ∧ s.portEsize pgDMA 0 ≠ some 16 then
    (s.err pgDMA 4 0x226 0).toFault pgDMA
  else s

/-- DRAIN is complete when no channel runs (R322). -/
def State.dmaDrained (s : State) : Bool := s.dmaRunning.isNone

/-- Register writes of DMA with a rule of their own. -/
def State.dmaOnWrite (s : State) (o v req : Nat) : Option State :=
  if o < 0x200 ∨ 0x400 ≤ o then none
  else
    let c := (o - 0x200) / 0x20
    let st := s.dmaState c
    if o = Reg.DMA.chDESC c then
      some (if st = 0 ∨ st = 4 ∨ st = 5 then s.setRg pgDMA o (v % 2 ^ 32 &&& 0xFFFFFFE3) else s)
    else if o = Reg.DMA.chDESC c + 4 then some (if st = 0 ∨ st = 4 ∨ st = 5 then s.setRg pgDMA o v else s)
    else if o = Reg.DMA.chCTL c then
      let s := s.writeWord pgDMA o v
      let s := if bit v 0 then s.dmaStart c req none else if bit v 2 then s.dmaResume c req else s
      some (if bit v 1 then s.dmaStop c else s)
    else none

/-- FLR (R302): queues, MSI-X and DMA chains of the function. -/
def execFlr (fn : Nat) (s : State) : Host.Outcome State Fault Refusal :=
  if 2 ≤ fn then .next s
  else
    let s := (List.range 16).foldl (fun t c => if (t.dma c).req = fn then t.dmaAbort c 6 else t) s
    let s := { (s.flrQueues fn) with pcie := s.pcie.flr fn }
    .next (((s.sat pgPCIE Reg.PCIE.FLRCNT 1).err pgPCIE 5 0x215 fn).happen pgPCIE 2 0)

/-- PERST (R480, R481): a PCIe reset, or an orderly warm reset with PERSTCHIP. -/
def execPerst (s : State) : Host.Outcome State Fault Refusal :=
  if s.fb pgRSTC Reg.RSTC.CFG 0 then .next (s.resetBy 6 3 (·.warm true false))
  else if s.inLow 4 then .next s
  else if 3 ≤ s.rst then .next (s.resetCause 6)
  else .next ((List.range 16).foldl (fun t c => if (t.dma c).req < 2 then t.dmaAbort c 6 else t) s).pcieReset

end Sys2Proof.Machine
end

