-- ==== Sys2Proof/Machine/Toltur.lean ====
section
/-!
DEFINITION. The Toltur link and the standby manager (19 R379 to R401): ports, ring, timebase, remote events, tunnel,
record forwarding, colour-loop import, takeover. Frames arrive as commands; a frame sent is recorded as Lane says.
-/

namespace Sys2Proof.Machine

/-! ## Ports (R381, R401) -/

/-- Lock of a port's lanes, as PSTAT shows it. -/
def State.portLock (s : State) (b : Bool) : Nat := if b then s.fl pgTLK Reg.TLK.PSTAT 23 20 else s.fl pgTLK Reg.TLK.PSTAT 19 16
def State.setPortLock (s : State) (b : Bool) (v : Nat) : State :=
  if b then s.setFl pgTLK Reg.TLK.PSTAT 23 20 v else s.setFl pgTLK Reg.TLK.PSTAT 19 16 v

/-- LDLY of a port, in 1/16 cycle. -/
def State.ldly (s : State) (b : Bool) : Nat := if b then s.rg pgTLK Reg.TLK.LDLYB else s.rg pgTLK Reg.TLK.LDLYA

/-- The port stops: state `v`; a port that leaves UP raises LINKDOWN and forgets its routes (R381, R384). -/
def State.portStop (s : State) (b : Bool) (v : Nat) : State :=
  let up := s.portState b == 2
  let x := s.tport b
  let t := ((s.setPortState b v).setPortLock b 0).setTport b { x with t1 := none, answers := 0, rttSum := 0, hops := [], exportEnd := 0 }
  if up then t.happen pgTLK 1 0 else t

/-- A lane of a port loses lock or deskew: DOWN (R381). -/
def State.laneLost (s : State) (b : Bool) (lane : Nat) : State :=
  (s.portStop b 3).setPortLock b (setBits (s.portLock b) lane lane 0)

/-- A violation of a port's partner (R401, R45): above the threshold the port is quarantined and the page enters STATE
FAULT, in which a ring that ran goes on over the other port (R384). -/
def State.tlkViolate (s : State) (b : Bool) (code : Nat) : State :=
  let x := s.tport b
  let t := s.setTport b { x with viol := x.viol + 1 }
  if s.fl pgTLK Reg.TLK.VIOL 15 0 < x.viol + 1 ∧ s.portState b ≠ 4 ∧ s.portState b ≠ 0 then
    let t : State := { t with tlk := { t.tlk with cut := t.tlk.cut || (t.page pgTLK).state == .run } }
    (t.quarantine pgTLK code).portStop b 4
  else t

/-- A malformed frame is dropped (R383, R401). -/
def State.tlkMalf (s : State) (b : Bool) : State :=
  ((s.err pgTLK 1 0x291 (b2n b)).sat pgTLK Reg.TLK.MALFCNT 1).tlkViolate b 0x291

/-- A port is enabled by CFG (R381). -/
def State.portEn (s : State) (b : Bool) : Bool := s.fb pgTLK Reg.TLK.CFG (if b then 9 else 8)

/-- An enabled port that is OFF starts training; a disabled one is held in OFF (R381). A quarantined port stays so until
CTRL.EN = 0 takes the page OFF (R45). -/
def State.portSet (s : State) (b : Bool) : State :=
  if s.portState b = 4 then s
  else if s.portEn b then (if s.portState b = 0 then s.portStop b 1 else s)
  else if s.portState b = 0 then s else s.portStop b 0

/-- The TLK page leaves OFF, and goes OFF. -/
def State.tlkEnable (s : State) : State := (s.portSet false).portSet true
def State.tlkOff (s : State) : State :=
  let t := (s.portStop false 0).portStop true 0
  { t with tlk := { t.tlk with cut := false } }

/-- A frame on a port whatever its state: PING (R383). -/
def State.pingPut (s : State) (b : Bool) (words : List Nat) : State := s.tlkOwn b 0xA 0xF 0 0 words

/-- The stamp of this cycle in 2^-16 cycle; its fraction is free (R185). -/
def State.tlkStamp (s : State) : Nat := (s.cycle * 65536 + s.draw 16) % 2 ^ 64

/-- A PING goes out and awaits its answer. -/
def State.pingSend (s : State) (b : Bool) : State :=
  let t := s.tlkStamp
  ((s.drawn.setTport b { s.tport b with t1 := some t }).pingPut b [t, 0, 0])

/-- TOLTUR_LOCK_DONE (R381). -/
def execTolturLockDone (portB : Bool) (s : State) : Host.Outcome State Fault Refusal :=
  if s.portState portB = 1 ∧ s.portLock portB ≠ 0xF ∧ s.clocked then .next ((s.setPortLock portB 0xF).pingSend portB) else .next s

/-- TLK_LANE_LOCK_LOSS (R381, R401): DOWN, and training again at once. -/
def execTlkLaneLockLoss (portB : Bool) (lane : Nat) (s : State) : Host.Outcome State Fault Refusal :=
  if lane < 4 ∧ bit (s.portLock portB) lane ∧ (s.portState portB = 1 ∨ s.portState portB = 2) then
    let t := ((s.laneLost portB lane).err pgTLK 2 0x292 (b2n portB)).sat pgTLK Reg.TLK.DOWNCNT 1
    let t := t.tlkViolate portB 0x292
    .next (if t.portState portB = 3 then t.setPortState portB 1 else t)
  else .next s

/-- The port comes UP: LDLY is the mean RTT / 2 (R381); a rounding to one of two neighbours is free. -/
def State.portTrained (s : State) (b : Bool) : State :=
  let x := s.tport b
  let l := Int.fdiv x.rttSum 65536
  let l := enc2 32 (if Config.tieUp s.fresh && l * 65536 != x.rttSum then l + 1 else l)
  let t := ((s.drawn.setPortState b 2).setRg pgTLK (if b then Reg.TLK.LDLYB else Reg.TLK.LDLYA) l).happen pgTLK 0 0
  (List.range 4).foldl (fun t i => t.noteUp 2 (4 * b2n b + i)) t

/-- PING (R383, R381): a request is answered on its port; an answer to the PING outstanding is taken in training. -/
def execPing (portB answer : Bool) (src hops t1 t2 t3 : Nat) (s : State) : Host.Outcome State Fault Refusal :=
  if ¬ (s.portState portB = 1 ∨ s.portState portB = 2) ∨ s.portLock portB ≠ 0xF ∨ s.clocked = false then .next s
  else if hops ≠ 0 then .next (s.tlkMalf portB)
  else
    let s := if portB then s.setFl pgTLK Reg.TLK.PSTAT 15 12 src else s.setFl pgTLK Reg.TLK.PSTAT 11 8 src
    if answer = false then
      let a := s.tlkStamp
      let s := s.drawn
      .next (s.drawn.pingPut portB [t1, a, s.tlkStamp])
    else
      let x := s.tport portB
      if x.t1 ≠ some t1 ∨ s.portState portB ≠ 1 then .next s
      else
        let rtt := enc2 64 (((s.tlkStamp : Int) - t1) - ((t3 : Int) - t2))
        let s := s.drawn.setTport portB { x with t1 := none, answers := x.answers + 1, rttSum := x.rttSum + rtt }
        .next (if 8 ≤ x.answers + 1 then s.portTrained portB else s.pingSend portB)

/-- TOLTUR_FRAME_ERROR (R401): a CRC error, else a malformed frame. -/
def execTolturFrameError (portB crc : Bool) (s : State) : Host.Outcome State Fault Refusal :=
  if s.portUp portB = false then .next s
  else if crc then .next (((s.err pgTLK 0 0x290 (b2n portB)).sat pgTLK Reg.TLK.CRCCNT 1).tlkViolate portB 0x290)
  else .next (s.tlkMalf portB)

/-! ## Broadcast and unicast (R384) -/

/-- A copy of a broadcast frame was accepted before; at most 256 of them are held. -/
def State.tlkCopy (s : State) (type src ident : Nat) : Bool :=
  s.tlk.seen.any (fun e => e.type == type && e.src == src && e.ident == ident)
def State.tlkNote (s : State) (b : Bool) (type src ident : Nat) : State :=
  { s with tlk := { s.tlk with seen := (⟨type, src, ident, b⟩ :: s.tlk.seen).take 256 } }

/-- A frame passed on from port `b`: HOPS + 1 (R384). -/
def State.tlkForward (s : State) (b : Bool) (type src dst shadow hops pfault arg : Nat) (words : List Nat) : State :=
  if s.portUp b then s.tlkFrame b type src dst shadow (hops + 1) pfault arg words else s

/-- A first copy of a broadcast frame is passed on while HOPS allows it (R384). -/
def State.tlkRepeat (s : State) (b : Bool) (type src shadow hops pfault arg : Nat) (words : List Nat) : State :=
  if hops + 1 < s.rsize then s.tlkForward (!b) type src 0xF shadow hops pfault arg words else s

/-- Fields of byte 3 of a frame's header (R382): SHADOW, HOPS, PFAULT. -/
abbrev b3Shadow (b3 : Nat) : Nat := b3 % 2
abbrev b3Hops (b3 : Nat) : Nat := b3 / 2 % 16
abbrev b3Pfault (b3 : Nat) : Nat := b3 / 32 % 2

/-- A unicast frame with byte 3 of its header: taken by its destination, passed on by the others, which change nothing but
HOPS (R384). -/
def State.tlkTake (s : State) (b : Bool) (type src dst b3 arg : Nat) (words : List Nat) (f : State → State) : State :=
  if s.portUp b = false then s
  else if 15 < dst ∨ (dst = 0xF ∧ s.devid ≠ 0xF) then s.tlkMalf b
  else if dst = s.devid then f s
  else match s.route dst with
    | some o => s.tlkForward o type src dst (b3Shadow b3) (b3Hops b3) (b3Pfault b3) arg words
    | none => s

/-- RING_SEND (R384). -/
def execRingSend (s : State) : Host.Outcome State Fault Refusal :=
  if s.tlkRuns ∧ s.tlk.ringSent + 1024 ≤ s.cycle then
    .next ({ s with tlk := { s.tlk with ringSent := s.cycle, ringSeq := (s.tlk.ringSeq + 1) % 65536 } }.tlkCast 9 s.tlk.ringSeq
      [s.role + 16 * s.rsize])
  else .next s

/-- RING_FRAME with byte 3 of its header (R384, R401). -/
def execRingFrame (portB : Bool) (src b3 seq role rsize : Nat) (s : State) : Host.Outcome State Fault Refusal :=
  if s.portUp portB = false then .next s
  else
    let s := if src = s.devid then
        ((s.err pgTLK 4 0x294 (b2n portB)).sat pgTLK Reg.TLK.DUPIDCNT 1).tlkViolate portB 0x294
      else
        let x := s.tport portB
        s.setTport portB { x with hops := Tbl.put x.hops (src % 16) (b3Hops b3 + 1) }
    if s.tlkCopy 9 src seq then .next s
    else .next ((s.tlkNote portB 9 src seq).tlkRepeat portB 9 src (b3Shadow b3) (b3Hops b3) (b3Pfault b3) seq
      [role % 4 + rsize % 16 * 16])

/-! ## Timebase (R385 to R388, R395 to R400) -/

/-- RSTAT and TBSTAT show the current manager and MEPOCH (R386). -/
def State.setMgr (s : State) (m e : Nat) : State :=
  ((s.setFl pgTLK Reg.TLK.TBSTAT 3 0 m).setFl pgTLK Reg.TLK.TBSTAT 31 16 e).setFl pgRED Reg.RED.RSTAT 31 16 e

/-- The RED state changes; FOLLOW shows in TBSTAT (R395). -/
def State.setRed (s : State) (v : Nat) : State :=
  (s.setFl pgRED Reg.RED.RSTAT 2 0 v).setFl pgTLK Reg.TLK.TBSTAT 4 4 (b2n (v == 5))

/-- Every domain awaits alignment (R398). -/
def State.redAlign (s : State) : State :=
  { s with tlk := { s.tlk with align := [true, true, true, true], diff := [0, 0, 0, 0] } }

/-- RED enters STATE RUN (R395). -/
def State.redOnRun (s : State) : State :=
  let s := { s with tlk := { s.tlk with tbAt := s.cycle, tbSent := s.cycle, mirNext := none, pf := false } }
  match s.role with
  | 0 => (s.setRed 1).setMgr s.devid 1
  | 1 => (s.setRed 2).redAlign
  | _ => s.setRed 5

/-- The output pins of a page take the levels its registers give: EMU, GPIO, AXS, IRQ_OUT (R397, R500). -/
def State.pinsShow (s : State) (p : Nat) : State :=
  let n := instOf p
  match blkOf p with
  | some .emu => s.emuShowAll
  | some .evf => (List.range 64).foldl (fun t g => if bit (t.rg p (Reg.EVF.GPIOCFG g)) 0 then
      t.pin p g (b2n (bit (t.rg64 p Reg.EVF.GPIOOUT) g)) else t) s
  | some .axs =>
    let t := s.pin p 1 (if s.fb p Reg.AXS.CFG 0 then 1 else b2n ((s.ax n).dirUp != s.fb p Reg.AXS.CFG 1))
    (t.pin p 2 (b2n (t.axCoil n == 0))).pin p 3 (b2n (t.axCoil n == 2))
  | some .sdf => s.pin p 0 (b2n (s.sdToggles n))
  | some .bic => (List.range 16).foldl (fun t k => t.pin p k (b2n (t.irqPin k == t.fb p Reg.BIC.PINCFG k))) s
  | _ => s

/-- The pages whose pins a standby holds (R397, R500). -/
def heldPages : List Nat := pgEMU :: pgEVF :: pgBIC :: (List.range 16).map pgAXS ++ (List.range 12).map Blk.cam.page

/-- A standby's outputs are released; they are held (R397). -/
def State.outputsShow (s : State) : State := heldPages.foldl State.pinsShow s
def State.outputsHold (s : State) : State := heldPages.foldl (fun t p => if t.present p then t.pinsRest p else t) s

/-- The outputs follow a change between a standby that holds them and a device that drives them. -/
def State.outputsFollow (s old : State) : State :=
  if s.standby && !old.standby then s.outputsHold else if !s.standby && old.standby then s.outputsShow else s

/-- RED leaves STATE RUN: IDLE (R395); a standby's outputs are held again (R397). -/
def State.redLeft (s : State) : State :=
  State.outputsFollow { (s.setRed 0).setFl pgRED Reg.RED.RSTAT 3 3 0 with released := false } s

/-- An observer enters RUN: a standby aligns the domain again (R398). -/
def State.alignDom (s : State) (d : Nat) : State := { s with tlk := { s.tlk with align := s.tlk.align.set d true } }

/-- Takeover (R399): MEPOCH + 1; the first TB frame goes out at the next point of the grid. -/
def State.takeOver (s : State) (cause : Nat) : State :=
  let e := (s.mepoch + 1) % 65536
  let s := ((s.setRed 1).setFl pgRED Reg.RED.RSTAT 6 4 cause).setMgr s.devid e
  ((s.setRg64 pgRED Reg.RED.TAKECYC s.cycle).sat pgRED Reg.RED.TAKECNT 1).logOnly pgRED 0x2A1 cause |>.happen pgRED 0 0

/-- DIVERGED (R395, R396, R398). -/
def State.diverge (s : State) : State :=
  if s.redState = 2 then
    (((s.setRed 3).sat pgRED Reg.RED.DIVCNT 1).err pgRED 0 0x2A0 0).happen pgRED 1 0
  else s

/-- The words of a TB frame of this cycle (R385). -/
def State.tbWords (s : State) : List Nat :=
  (s.mepoch + s.cycle % 2 ^ 48 * 2 ^ 16) :: (List.range 4).flatMap (fun d =>
    [s.rg64 (pgOBS d) Reg.OBS.WPOS_R, s.rg64 (pgOBS d) Reg.OBS.WPOS_S, s.rg64 (pgOBS d) Reg.OBS.SPEED,
      s.epochOf d % 65536 + s.fl (pgOBS d) Reg.OBS.OSTAT 1 0 * 2 ^ 16 + s.fl (pgOBS d) Reg.OBS.OSTAT 2 2 * 2 ^ 18 +
        b2n ((s.page (pgOBS d)).state == .run) * 2 ^ 19])

/-- TB_SEND (R385, R397, R399): an ACTIVE manager every 32 cycles; a standby at the points of its grid, with SHADOW until
it is ACTIVE. Its first frame without SHADOW releases its outputs. -/
def execTbSend (s : State) : Host.Outcome State Fault Refusal :=
  let r := s.redState
  if s.tlkRuns = false then .next s
  else if s.role = 1 then
    if (r = 1 ∨ r = 2 ∨ r = 3) ∧ s.tlk.tbAt < s.cycle ∧ (s.cycle - s.tlk.tbAt) % 32 = 0 ∧ s.tlk.tbSent ≠ s.cycle then
      let t := { s with tlk := { s.tlk with tbSent := s.cycle }, released := s.released || decide (r = 1) }
      .next ((t.tlkCast 1 0 t.tbWords).outputsFollow s)
    else .next s
  else if s.role = 0 ∧ r = 1 ∧ s.tlk.tbSent + 32 ≤ s.cycle then
    .next ({ s with tlk := { s.tlk with tbSent := s.cycle } }.tlkCast 1 0 s.tbWords)
  else .next s

/-- What a TB frame says of a domain (R385). -/
structure TbDom where
  r : Int
  s : Int
  v : Int
  epoch : Nat
  rev : Bool
  valid : Bool
deriving DecidableEq, Repr

/-- The words of domain `d`. -/
def tbDom (words : List Nat) (d : Nat) : TbDom :=
  let w := words.getD (4 + 4 * d) 0
  ⟨sgn 64 (words.getD (1 + 4 * d) 0), sgn 64 (words.getD (2 + 4 * d) 0), sgn 64 (words.getD (3 + 4 * d) 0), bits w 15 0, bit w 18,
    bit w 19⟩

/-- floor(speed × DLY / 16) (R387). -/
def tbAhead (v : Int) (dly : Nat) : Int := shr (v * dly) 36

/-- The observer shows the gate direction of the frame; a reversal is an event (R387). -/
def State.tbDir (s : State) (d : Nat) (rev : Bool) : State :=
  let p := pgOBS d
  if s.fb p Reg.OBS.OSTAT 2 = rev then s
  else
    let t := s.setFl p Reg.OBS.OSTAT 2 2 (b2n rev)
    if rev then (t.sat p Reg.OBS.REVCNT 1).happen p 0 0 else t.happen p 1 0

/-- An accepted TB frame moves a timebase domain of a worker (R387). -/
def State.tbApply (s : State) (d dly : Nat) (f : TbDom) : State :=
  let p := pgOBS d
  if s.unitRuns .obs d = false ∨ s.obsMode d ≠ 3 then s
  else
    let s := match Tbl.get? s.tlk.epochs d with
      | some e => if e = f.epoch then s else (s.setEpoch d (s.rg p Reg.OBS.EPOCH + 1)).gearLost d
      | none => s
    let s := { s with tlk := { s.tlk with epochs := Tbl.put s.tlk.epochs d f.epoch } }
    let x := s.obsOf d
    if f.valid = false then (s.setObs d { x with v := 0 }).showSpeed d
    else
      let r := f.r + tbAhead f.v dly
      let c := f.s + tbAhead f.v dly
      let old := s.wposS d
      let ps := if f.rev = false ∧ c ≤ old then x.ps else c * 2 ^ 32
      let s := ((s.setObs d { x with v := f.v, p := fix96 (r * 2 ^ 32), ps := fix96 ps }).showSpeed d).setRgI p Reg.OBS.WPOS_R r
      (s.setRgI p Reg.OBS.WPOS_S (if f.rev = false ∧ c ≤ old then old else c)).tbDir d f.rev

/-- Alignment of a standby's domain (R398): it is rebased so that WPOS_R and WPOS_S equal the candidates. -/
def State.tbAlign (s : State) (d dly : Nat) (f : TbDom) : State :=
  let p := pgOBS d
  if s.tlk.align.getD d false = false then s
  else
    let s := { s with tlk := { s.tlk with align := s.tlk.align.set d false } }
    if s.unitRuns .obs d = false ∨ 1 < s.obsMode d then s
    else
      let r := f.r + tbAhead f.v dly
      let c := f.s + tbAhead f.v dly
      let x := s.obsOf d
      let m := r * 2 ^ 32 - x.v * s.fl p Reg.OBS.LEAD 7 0
      let s := s.setObs d { x with p := m, turn := c }
      let s := if s.usableSrc d false then s.rebase d false m else s
      let s := if s.usableSrc d true then s.rebase d true m else s
      let s := if s.obsUsed d = 3 then s.renewPair d else s
      let s := ((s.setRgI p Reg.OBS.WPOS_R r).setRgI p Reg.OBS.WPOS_S c).setFl p Reg.OBS.OSTAT 2 2 (b2n f.rev)
      let e := setBits (s.rg p Reg.OBS.EPOCH) 15 0 f.epoch
      (if e = s.rg p Reg.OBS.EPOCH then s else s.setEpoch d e).gearLost d

/-- The comparison of a standby's domain (R398). -/
def State.tbCompare (s : State) (d dly : Nat) (f : TbDom) : State :=
  if f.valid = false then s
  else
    let e := s.wposS d - (f.s + tbAhead f.v dly)
    let n := if s.rg pgRED Reg.RED.CMPTH < e.natAbs then s.tlk.diff.getD d 0 + 1 else 0
    let s := { s.setRgI pgRED (Reg.RED.CMPDIFF d) e with tlk := { s.tlk with diff := s.tlk.diff.set d n } }
    if s.fl pgRED Reg.RED.CMPN 7 0 ≤ n ∧ n ≠ 0 then s.diverge else s

/-- A standby takes a TB frame (R395, R398): alignment where due, else the comparison. -/
def State.tbStandby (s : State) (dly : Nat) (words : List Nat) (pfault : Bool) : State :=
  if s.redState ≠ 2 ∧ s.redState ≠ 3 then s
  else
    let doms := List.range 4
    let s := doms.foldl (fun t d =>
      if t.tlk.align.getD d false then t.tbAlign d dly (tbDom words d)
      else t.tbCompare d dly (tbDom words d)) s
    let s := if s.tlk.realign ∧ s.redState = 3 then s.setRed 2 else s
    let s : State := { s with tlk := { s.tlk with realign := false } }
    let s := if pfault && !s.tlk.pf then s.happen pgRED 3 0 else s
    if pfault ∧ s.redState = 2 ∧ s.fb pgRED Reg.RED.CFG 4 then s.takeOver 2 else s

/-- A forwarded frame is sent again (R391). -/
def State.fwdResend (s : State) (l : List FwdFrame) : State :=
  let t := l.foldl (fun (t : State) x => t.tlkSend 5 t.mgr 0 x.words) s
  { t.sat pgTLK Reg.TLK.RESENDCNT l.length with tlk := { t.tlk with ackAt := t.cycle } }

/-- Frames not yet acknowledged. -/
def State.fwdOpen (s : State) : List FwdFrame :=
  s.tlk.sent.filter (fun (f : FwdFrame) => decide ((f.fseq + 2 ^ 32 - s.tlk.ackSeq) % 2 ^ 32 < 2 ^ 31))

/-- A change of manager: the worker resends from the oldest block held, its first frame with RESTART (R391). -/
def State.fwdRestart (s : State) : State :=
  match s.tlk.sent with
  | [] => s
  | f :: rest =>
    let g := { f with words := (f.words.headD 0 ||| 2 ^ 35) :: f.words.drop 1 }
    ({ s with tlk := { s.tlk with sent := g :: rest, ackSeq := f.fseq } }.fwdResend (g :: rest)).showFwd

/-- A TB frame is accepted (R386 to R388, R395, R400). -/
def State.tbAccept (s : State) (src dly mep ncyc : Nat) (pfault : Bool) (words : List Nat) : State :=
  let newer := decide (s.mepoch < mep)
  let s := if newer then ((s.setMgr src mep).happen pgTLK 3 0).fwdRestart else s
  let s : State := { (s.setRg pgTLK Reg.TLK.TBDLY dly).setFl pgTLK Reg.TLK.TBSTAT 5 5 0 with
    tlk := { s.tlk with tbAt := s.cycle, tbLast := s.cycle, ncyc := ncyc } }
  let s := if newer ∧ s.redState = 1 then
      State.outputsFollow { ((s.setRed 4).logOnly pgRED 0x2A2 src).happen pgRED 2 0 with released := false } s
    else s
  let s := (List.range 4).foldl (fun t d => t.tbApply d dly (tbDom words d)) s
  let s := s.tbStandby dly words pfault
  { s with tlk := { s.tlk with pf := pfault } }

/-- TB_FRAME (R384, R386 to R388). The forwarding latency, at most 8 cycles, is a free value. -/
def execTbFrame (portB shadow pfault : Bool) (src hops dly : Nat) (words : List Nat) (s : State) :
    Host.Outcome State Fault Refusal :=
  if s.portUp portB = false then .next s
  else if words.length ≠ 17 then .next (s.tlkMalf portB)
  else
    let w := words.headD 0
    let mep := w % 65536
    let ncyc := bits w 63 16
    let dly := dly + s.ldly portB
    if s.tlkCopy 1 0 (w % 2 ^ 64) then .next s
    else
      let lat := s.draw 8 % 129
      let s := (s.drawn.tlkNote portB 1 0 (w % 2 ^ 64)).tlkRepeat portB 1 src (b2n shadow) hops (b2n pfault)
        ((dly + lat) % 65536) words
      if shadow ∨ mep < s.mepoch then .next s
      else if mep = s.mepoch ∧ src ≠ s.mgr then
        .next (((s.err pgTLK 3 0x293 src).sat pgTLK Reg.TLK.CONFCNT 1).tlkViolate portB 0x293)
      else if mep = s.mepoch ∧ ncyc ≤ s.tlk.ncyc then .next s
      else .next (s.tbAccept src dly mep ncyc pfault words)

/-- The device follows a manager's timebase: it is not the ACTIVE one. -/
def State.tbFollows (s : State) : Bool :=
  s.tlkRuns && s.redState != 1 && (s.role != 0 || s.redState == 4)

/-- TBLOST (R388). -/
def execTblost (s : State) : Host.Outcome State Fault Refusal :=
  if s.tbFollows ∧ s.fb pgTLK Reg.TLK.TBSTAT 5 = false ∧ s.tlk.tbAt + s.fl pgTLK Reg.TLK.TBMAX 7 0 * 32 ≤ s.cycle then
    .next ((((s.setFl pgTLK Reg.TLK.TBSTAT 5 5 1).sat pgTLK Reg.TLK.TBLOSTCNT 1).err pgTLK 7 0x297 0).happen pgTLK 2 0)
  else .next s

/-- TBHALT (R388): every timebase domain enters HALT. -/
def execTbhalt (s : State) : Host.Outcome State Fault Refusal :=
  if s.tbFollows ∧ s.tlk.tbAt + s.rg pgTLK Reg.TLK.TBHALT ≤ s.cycle then
    .next ((List.range 4).foldl (fun t d => if t.unitRuns .obs d && t.obsMode d == 3 then t.obsHalt d else t) s)
  else .next s

/-- TB_LOSS (R399): a standby with AUTO takes over 104 cycles after the last accepted frame. -/
def execTbLoss (s : State) : Host.Outcome State Fault Refusal :=
  if s.running pgRED ∧ s.redState = 2 ∧ s.fb pgRED Reg.RED.CFG 4 ∧ s.tlk.tbAt + 104 ≤ s.cycle then .next (s.takeOver 1) else .next s

/-- RED.CMD.TAKEOVER, DECLFAIL and ALIGN (R395, R398, R399). -/
def State.redTakeover (s : State) : State := if s.redState = 2 ∨ s.redState = 3 then s.takeOver 3 else s
def State.redDeclfail (s : State) : State :=
  if s.redState = 1 then (s.setFl pgRED Reg.RED.RSTAT 3 3 1).happen pgRED 3 0 else s
def State.redRealign (s : State) : State := if s.redState = 2 ∨ s.redState = 3 then 
    let t := s.redAlign
    { t with tlk := { t.tlk with mirNext := none, realign := true } }
  else s

/-- TAKEOVER (R399). -/
def execTakeover (req : Nat) (s : State) : Host.Outcome State Fault Refusal := .next (s.gateH pgRED req Reg.RED.CMD 1 (·.redTakeover))

/-- DECLFAIL (R395). -/
def execDeclfail (req : Nat) (s : State) : Host.Outcome State Fault Refusal := .next (s.gateH pgRED req Reg.RED.CMD 2 (·.redDeclfail))

/-- ALIGN (R395, R398). -/
def execAlign (req : Nat) (s : State) : Host.Outcome State Fault Refusal := .next (s.gateH pgRED req Reg.RED.CMD 4 (·.redRealign))

/-! ## Remote events (R389) -/

/-- RSEND (R389): the triggers of one cycle, at most 8 in a frame. A FAILED device sends none (R400). -/
def execRsend (s : State) : Host.Outcome State Fault Refusal :=
  match s.trigs.find? (fun t => t.page == pgTLK && decide (64 ≤ t.task)) with
  | none => .next s
  | some t =>
    let l := (s.trigs.filter (fun x => x.page == pgTLK && decide (64 ≤ x.task) && x.cycle == t.cycle)).take 8
    let s := { s with trigs := s.trigs.filter (fun x => !l.contains x) }
    if s.tlkRuns = false ∨ s.redState = 4 then .next s
    else
      let s1 := s.inc pgTLK Reg.TLK.REVCNT l.length
      let s1 := { s1 with tlk := { s1.tlk with evtSeq := (s1.tlk.evtSeq + 1) % 65536 } }
      .next (s1.tlkCast 2 s.tlk.evtSeq
        (l.map (fun x => (x.task - 64) % 64 + x.depth % 16 * 2 ^ 8 + x.arg % 2 ^ 32 * 2 ^ 32)))

/-- A remote event begins a new chain, one deeper than the event that sent it (R389, R340). -/
def State.enterRemote (s : State) (ch arg depth : Nat) : State :=
  let c := s.chan ch
  if ch > 255 ∨ c.en = false then s
  else if ch < 248 ∧ s.running pgEVF = false then (s.err pgEVF 4 0x234 (ch * 256)).sat pgEVF Reg.EVF.DROPCNT 1
  else if 8 < depth + 1 then s.loopDrop ch ch
  else
    s.merge
      { ch := ch, entered := s.cycle, kind := 1, index := 0, ovs := 0, arg := if ch < 248 then arg % 2 ^ 32 else 0,
        origin := ch, depth := depth + 1, tasks := c.tasks, speeds := s.speeds, mark := none }

/-- EVT_FRAME (R389): accepted, it raises TLK event 64 + r for each word; a SHADOW frame is discarded. -/
def execEvtFrame (portB shadow pfault : Bool) (src hops seq : Nat) (words : List Nat) (s : State) :
    Host.Outcome State Fault Refusal :=
  if s.portUp portB = false then .next s
  else if words.length = 0 ∨ 8 < words.length then .next (s.tlkMalf portB)
  else if s.tlkCopy 2 src seq then .next s
  else
    let s := (s.tlkNote portB 2 src seq).tlkRepeat portB 2 src (b2n shadow) hops (b2n pfault) seq words
    if shadow then .next s
    else .next (words.foldl (fun (t : State) w =>
      (t.producers pgTLK (64 + w % 64) (bits w 63 32)).foldl (fun u ch => u.enterRemote ch (bits w 63 32) (bits w 11 8)) t) s)

/-! ## Register tunnel of the ring (R390) -/

/-- TUNSTAT at the end of an operation: DONE, CODE (R390). -/
def State.ringTunEnd (s : State) (code : Nat) : State :=
  ({ s with tlk := { s.tlk with tun := none } }.setRg pgTLK Reg.TLK.TUNSTAT (2 + code * 16)).setIst pgTLK 4

/-- TUNCMD with GO = 1 (R390). -/
def State.ringTun (s : State) (wr wide : Bool) : State :=
  if s.tlk.tun.isSome then s.errBit pgTLK 6
  else
    let dev := s.fl pgTLK Reg.TLK.TUNDEV 3 0
    let t := s.setRg pgTLK Reg.TLK.TUNSTAT 1
    match s.route dev with
    | none => t.ringTunEnd 4
    | some b =>
      let q := s.tlk.tunSeq
      let data := if wr then (if wide then s.rg64 pgTLK Reg.TLK.TUNDATA else s.rg pgTLK Reg.TLK.TUNDATA) else 0
      { t with tlk := { t.tlk with tunSeq := (q + 1) % 65536, tun := some ⟨q, dev, wr, b, s.cycle⟩ } }.tlkPut b 3 dev 0 q
        [s.fl pgTLK Reg.TLK.TUNADDR 21 0 + b2n wide * 2 ^ 22 + b2n wr * 2 ^ 23, data]

/-- TLK_TUNCMD (R390). -/
def execTlkTuncmd (wr wide : Bool) (req : Nat) (s : State) : Host.Outcome State Fault Refusal :=
  .next (s.gateH pgTLK req Reg.TLK.TUNCMD (1 + 2 * b2n wr + 4 * b2n wide) (·.ringTun wr wide))

/-- TRSP (R390, R383): the answer to the operation outstanding ends it with its code. -/
def execTrsp (portB : Bool) (src dst b3 seq code data : Nat) (s : State) : Host.Outcome State Fault Refusal :=
  .next (s.tlkTake portB 4 src dst b3 seq [code % 256, data] (fun s =>
    match s.tlk.tun with
    | some t =>
      if t.seq = seq ∧ t.dev = src then
        (if t.wr then s else s.setRg64 pgTLK Reg.TLK.TUNDATA data).ringTunEnd (code % 8)
      else s
    | none => s))

/-- TLK_TUNTMO (R390, R401). -/
def execTlkTuntmo (s : State) : Host.Outcome State Fault Refusal :=
  match s.tlk.tun with
  | some t =>
    if t.at_ + s.rg pgTLK Reg.TLK.TUNTMO ≤ s.cycle then
      .next (((s.ringTunEnd 2).err pgTLK 6 0x296 t.dev).tlkViolate t.portB 0x296)
    else .next s
  | none => .next s

/-! ## Record forwarding (R391, R392) -/

/-- The manager's stream of a worker. -/
def State.fwdRx (s : State) (src : Nat) : FwdRx := Tbl.getD s.tlk.rx src ⟨0, [], 0, 0, s.cycle⟩
def State.setFwdRx (s : State) (src : Nat) (x : FwdRx) : State := { s with tlk := { s.tlk with rx := Tbl.put s.tlk.rx src x } }

/-- A FACK (R391). -/
def State.fackSend (s : State) (src : Nat) (nak : Bool) : State :=
  let x := s.fwdRx src
  (s.setFwdRx src { x with since := 0, at_ := s.cycle }).tlkSend 6 src 0 [x.expect + b2n nak * 2 ^ 32]

/-- The header entry of a block (R392), and its records. -/
def fwdEntries (src defn : Nat) (words : List Nat) : List (List Byte) :=
  let rec split : Nat → List Nat → List (List Byte)
    | 0, _ => []
    | n + 1, l => if l.isEmpty then [] else ((l.take 8).flatMap (leBytes 8)) :: split n (l.drop 8)
  let recs := split (words.length / 8) words
  (leBytes 2 recs.length ++ leBytes 1 (defn % 4 + 7 * 4) ++ leBytes 1 src ++ leBytes 4 0 ++
    leBytes 8 (words.getD 1 0 % 2 ^ 48) ++ leBytes 48 0) :: recs

/-- Frames of blocks in progress that the manager holds (R392). -/
def State.fwdHeld (s : State) : Nat := (s.tlk.rx.map (fun (e : Nat × FwdRx) => e.2.frames)).foldl (· + ·) 0

/-- The frame expected next is accepted when the queue has room for its block (R392). -/
def State.fwdAccept (s : State) (src w : Nat) (recs : List Nat) (x : FwdRx) : State :=
  let all := x.recs ++ recs
  let last := bit w 34
  if s.portRoom pgTLK 0 < 1 + all.length / 8 ∨ (last = false ∧ 64 ≤ s.fwdHeld) then s
  else
    let (s, ok) := if last then s.post pgTLK 0 (fwdEntries src (bits w 33 32) all) else (s, true)
    if ok = false then s
    else
      let y : FwdRx := { x with
        expect := (x.expect + 1) % 2 ^ 32
        recs := if last then [] else all
        frames := if last then 0 else x.frames + 1
        since := x.since + 1 }
      let s := s.setFwdRx src y
      if 8 ≤ y.since then s.fackSend src false else s

/-- FWD_FRAME (R391, R392). -/
def execFwdFrame (portB : Bool) (src dst b3 : Nat) (words : List Nat) (s : State) : Host.Outcome State Fault Refusal :=
  let w := words.headD 0
  if s.portUp portB ∧ (words.length ≠ 1 + 8 * bits w 41 36 ∨ 32 < bits w 41 36) then .next (s.tlkMalf portB)
  else .next (s.tlkTake portB 5 src dst b3 0 words (fun s =>
    if s.mgr ≠ s.devid then s
    else
      let f := w % 2 ^ 32
      let x := s.fwdRx src
      let x := if bit w 35 then { x with expect := f, recs := [], frames := 0 } else x
      let s := s.setFwdRx src x
      let d := (f + 2 ^ 32 - x.expect) % 2 ^ 32
      if d = 0 then s.fwdAccept src w (words.drop 1) x
      else if 2 ^ 31 ≤ d then s
      else (((s.fackSend src true).err pgTLK 5 0x295 src).sat pgTLK Reg.TLK.FGAPCNT 1).tlkViolate portB 0x295))

/-- FACK_SEND (R391): 1,024 cycles after the last FACK to a worker. -/
def execFackSend (worker : Nat) (s : State) : Host.Outcome State Fault Refusal :=
  match Tbl.get? s.tlk.rx worker with
  | some x => if s.tlkRuns ∧ s.mgr = s.devid ∧ x.at_ + 1024 ≤ s.cycle then .next (s.fackSend worker false) else .next s
  | none => .next s

/-- Whole blocks whose frames are all acknowledged leave the list. -/
def fwdDrop (ack : Nat) : List FwdFrame → List FwdFrame → List FwdFrame
  | kept, [] => kept.reverse
  | kept, f :: rest =>
    if (f.fseq + 2 ^ 32 - ack) % 2 ^ 32 < 2 ^ 31 then kept.reverse ++ f :: rest
    else if f.last then fwdDrop ack [] rest
    else fwdDrop ack (f :: kept) rest

/-- FACK (R391). -/
def execFack (portB : Bool) (src dst b3 ackseq : Nat) (nak : Bool) (s : State) : Host.Outcome State Fault Refusal :=
  .next (s.tlkTake portB 6 src dst b3 0 [ackseq % 2 ^ 32 + b2n nak * 2 ^ 32] (fun s =>
    if src ≠ s.mgr then s
    else
      let a := ackseq % 2 ^ 32
      let s := { s with tlk := { s.tlk with ackSeq := a, ackAt := s.cycle, sent := fwdDrop a [] s.tlk.sent } }
      (if nak then s.fwdResend s.fwdOpen else s).showFwd))

/-- FWTMO (R391). -/
def execFwtmo (s : State) : Host.Outcome State Fault Refusal :=
  if s.tlkRuns ∧ s.fwdOpen.isEmpty = false ∧ s.tlk.ackAt + s.rg pgTLK Reg.TLK.FWTMO ≤ s.cycle then
    .next (s.fwdResend s.fwdOpen)
  else .next s

/-! ## Colour-loop data (R394) -/

/-- The line a CLPD frame carries (R393). -/
def clpdLine (words : List Nat) : ClpLine :=
  let w := words.headD 0
  let cols := (words.drop 6).map (fun c =>
    (⟨0, bit c 28, bit c 29, [bits c 11 0], [bits c 27 16], [], false, false, false, [(0, bits c 47 32), (1, bits c 63 48)]⟩ : CupCol))
  ⟨⟨w % 2 ^ 48, bit w 48, true, cols, sgn 64 (words.getD 2 0), 0, sgn 64 (words.getD 1 0)⟩,
    sgn 64 (words.getD 3 0) * 2 ^ 24, words.getD 4 0 % 2 ^ 56, [bits w 63 52], true, false⟩

/-- An imported line reaches CLP (R394). -/
def State.clpImport (s : State) (n : Nat) (l : ClpLine) : State :=
  let c := s.page pgCLP
  if s.present pgCLP = false ∨ (c.state ≠ .run ∧ c.state ≠ .drain) then s
  else
    let s := { s with clp := { s.clp with high := Tbl.put s.clp.high n (max l.line.k (Tbl.getD s.clp.high n 0)) } }
    (s.setCup n { s.cup n with toClp := (s.cup n).toClp ++ [{ l with missed := c.frozen }] }).sat pgCLP Reg.CLP.SKIPLN
      (b2n c.frozen)

/-- CLPD_FRAME (R394): a line of Cupola `cup` of device `src`. -/
def execClpdFrame (portB : Bool) (src dst b3 cup : Nat) (words : List Nat) (s : State) : Host.Outcome State Fault Refusal :=
  if s.portUp portB ∧ (words.length ≠ 6 + words.getD 5 0 ∨ words.length < 6) then .next (s.tlkMalf portB)
  else .next (s.tlkTake portB 7 src dst b3 0 words (fun s =>
      (List.range 4).foldl (fun (t : State) n =>
        let w := t.impW n
        if bit w 0 && bits w 7 4 == src && bits w 9 8 == cup then t.clpImport n (clpdLine words) else t) s))

/-! ## Page rules of TLK and RED -/

/-- The TLK page enters STATE RUN: the manager's FWD producer is checked in the cycle after (R392). -/
def State.tlkOnRun (s : State) : State :=
  let s := { s with tlk := { s.tlk with tbAt := s.cycle, ringSent := s.cycle } }
  if s.role = 0 ∧ s.portEsize pgTLK 0 ≠ some 64 then (s.err pgTLK 10 0x29A 0).toFault pgTLK else s

/-- The slot a binding of TLK to an absent unit names: the DEF of FWDCTL, else the number of the entry (R26, R379). DEDUCED
(log entry 39): the spec gives no slot number to these registers. -/
def State.tlkAbsent (s : State) (o v : Nat) : Option Nat :=
  (List.range 4).find? (fun n => (o == Reg.TLK.FWDCTL && bit v n && !s.present (Blk.def_.page n)) ||
    (o == Reg.TLK.CLPEXP n && bit v 0 && !s.present (Blk.cup.page n)) || (o == Reg.TLK.CLPIMP n && bit v 0 && !s.present pgCLP))

/-- A value outside its range (TLK registers): R379's absent units fail with ABSENT. -/
def State.tlkRange (s : State) (o v : Nat) : Option State :=
  let bad := (o = Reg.TLK.TBMAX ∧ bits v 7 0 < 4) ∨ (o = Reg.TLK.FWDCTL ∧ (bits v 15 8 < 8 ∨ 64 < bits v 15 8)) ∨
    ((o = Reg.TLK.FWTMO ∨ o = Reg.TLK.TUNTMO) ∧ v < 1000)
  match s.tlkAbsent o v with
  | some n => some (s.bindError pgTLK 0x011 n)
  | none => if bad then some (s.err pgTLK 8 0x298 o) else none

/-- Register writes of TLK with a rule of their own. -/
def State.tlkOnWrite (s : State) (o v : Nat) : Option State :=
  if o = Reg.TLK.TUNCMD then some (if bit v 0 then s.ringTun (bit v 1) (bit v 2) else s)
  else if o = Reg.TLK.CFG then
    let t := s.writeWord pgTLK o v
    some (if (t.page pgTLK).state = .off then t else t.tlkEnable)
  else s.tlkRange o v

/-- Register reads of TLK computed when read. -/
def State.tlkRead (s : State) (o : Nat) : Option Nat :=
  if o = Reg.TLK.TBAGE then some (min (2 ^ 32 - 1) (s.cycle - s.tlk.tbLast))
  else if o = Reg.TLK.VIOLCNT then some (min 65535 s.tlk.pa.viol + min 65535 s.tlk.pb.viol * 65536)
  else none

/-- A violation window of the ring's ports ends (R401, R45). -/
def State.tlkWindow (s : State) : State :=
  (s.setTport false { s.tport false with viol := 0 }).setTport true { s.tport true with viol := 0 }

/-- Register writes of RED with a rule of their own (R379, R395, R398). -/
def State.redOnWrite (s : State) (o v : Nat) : Option State :=
  if o = Reg.RED.CFG ∧ (bits v 1 0 = 3 ∨ (bits v 1 0 = 1 ∧ s.variant = .kry2406)) then some (s.err pgRED 2 0x2A4 o)
  else if o = Reg.RED.CFG then some ((s.writeWord pgRED o v).outputsFollow s)
  else if o = Reg.RED.CMPN ∧ bits v 7 0 = 0 then some (s.err pgRED 2 0x2A4 o)
  else if o = Reg.RED.CMD then
    let s := if bit v 0 then s.redTakeover else s
    let s := if bit v 1 then s.redDeclfail else s
    some (if bit v 2 then s.redRealign else s)
  else none

end Sys2Proof.Machine
end

