-- ==== Sys2Proof/Machine/Access.lean ====
section
/-!
DEFINITION. The register window (02 R21 to R45): page headers, STATE and its entry and exit work in every block, soft
reset, register writes and reads of every page and table window.
-/

namespace Sys2Proof.Machine

/-! ## Header words (R27, R39) -/

/-- CAP of a page, as the blocks' chapters give it. -/
def capWord (v : Variant) (b : Blk) : Nat :=
  let small := decide (v = .kry2406)
  match b with
  | .chip => 0
  | .clkc => 0x3F
  | .pwrc => 0x1F
  | .rstc => 0x7F
  | .lant => 0x82101860
  | .calc => 8
  | .keep => 0x4090
  | .dbgc => 0x4448
  | .enc => 7
  | .obs => 3
  | .psc => 0x40800
  | .emu => 8
  | .axs => 0x140
  | .sdf => 0x7F
  | .cam => 0x74
  | .cup => if small then 0x63 else 0x73
  | .def_ => 0x04000800
  | .clp => if small then 0x88 else 0x90
  | .job => (match v with
    | .kry4812 => 0x1890
    | .kry4812I => 0x1880
    | .kry4812P => 0x1830
    | .kry2406 => 0x1848)
  | .stp => 0x344
  | .nct => if small then 0x80080000 else 0x80100000
  | .pba => 0x440
  | .fire => if small then 8 else 16
  | .hlk => 0xF8
  | .cmp => 0xB92
  | .hqf => 0x1000
  | .pcie => 0x245
  | .dma => 0x10
  | .bic => 0x04109380
  | .evf => 0x00408100
  | .ptp => 1
  | .eth => 3
  | .tlk => 0x00104042
  | .red => if small then 0 else 1
  | .dmc => 0x104B
  | .sram => 0x14

/-- ID of a page: TYPE in the order of R23, INST, VER 1. -/
def idWord (p : Nat) : Nat :=
  match blkOf p with
  | some b => (0x4B00 + Blk.all.idxOf b) * 2 ^ 16 + instOf p * 2 ^ 8 + 1
  | none => 0

/-- A log entry as LOGDATA returns it (R38). -/
def LogEntry.word (e : LogEntry) : Nat := e.code * 2 ^ 52 + e.time * 2 ^ 20 + e.ctx

/-- LOGDATA: the oldest entry, 0 when the log is empty. -/
def Page.logHead (g : Page) : Nat :=
  match g.log with
  | e :: _ => e.word
  | [] => 0

/-- STATE as STAT shows it. -/
def PState.num : PState → Nat
  | .off => 0
  | .idle => 1
  | .run => 2
  | .drain => 3
  | .fault => 4

/-- A header word as it reads (R27). -/
def State.headRead (s : State) (p o : Nat) : Nat :=
  let g := s.page p
  if o = 0x000 then idWord p
  else if o = 0x004 then (match blkOf p with
    | some b => capWord s.variant b
    | none => 0)
  else if o = 0x008 then b2n g.en + 2 * b2n g.run + 8 * b2n (g.freeze && s.freezeHonoured p)
  else if o = 0x00C then
    g.state.num + 8 * b2n (decide (s.cycle < g.busyUntil)) + 16 * b2n g.pend + 32 * b2n g.frozen
  else if o = 0x010 then g.err
  else if o = 0x014 then g.errcnt
  else if o = 0x018 then g.ien
  else if o = 0x01C then g.ist
  else if o = 0x020 then g.own + 256 * b2n g.sec + 2 ^ 31 * b2n g.lock
  else if o = 0x024 then g.log.length + 256 * b2n g.logMode + 65536 * g.lost
  else if o = 0x028 then g.logHead % 2 ^ 32
  else if o = 0x02C then g.logHead / 2 ^ 32
  else if o = 0x030 then g.bsel + 4 * b2n g.hold + 256 * g.ech + 2 ^ 17 * b2n g.pend
  else if o = 0x034 then g.gen
  else 0

/-! ## Entry and exit work of the blocks (R30) -/

/-- A page enters RUN: the block's start work and start checks. -/
def State.pageOnRun (s : State) (p : Nat) : State :=
  let n := instOf p
  match blkOf p with
  | some .enc => s.encOnRun n
  | some .obs => (s.obsOnRun n).alignDom n
  | some .psc => s.pscOnRun
  | some .axs => s.axOnRun n
  | some .sdf => (s.sdOnRun n).calLost 7 n
  | some .cam => (s.camOnRun n).calLost 6 n
  | some .cup => s.cupOnRun n
  | some .def_ => s.defOnRun n
  | some .clp => s.clpOnRun
  | some .stp => s.stpOnRun n
  | some .pba => s.pbaOnRun n
  | some .cmp => s.cmpOnRun n
  | some .dma => s.dmaOnRun
  | some .eth => s.ethOnRun n
  | some .tlk => s.tlkOnRun
  | some .red => s.redOnRun
  | some .dmc => (s.dmcOnRun n).calLost 5 n
  | some .lant => s.lantOnRun
  | some .pcie => s.pcieShow
  | _ => s

/-- A page leaves RUN. -/
def State.pageLeft (s : State) (p : Nat) : State :=
  let n := instOf p
  match blkOf p with
  | some .stp => s.stpLeft
  | some .pba => s.pbaLeft n
  | some .psc => if (s.page p).state = .off then s.pscOff else s
  | some .cam => s.cupHomeLeft n
  | some .clp => s.clpLeft
  | some .red => s.redLeft
  | some .lant => s.lantLeft
  | _ => s

/-- A page leaves OFF (R30). -/
def State.pageOn (s : State) (p : Nat) : State :=
  let n := instOf p
  match blkOf p with
  | some .hlk => s.hlkTrain n
  | some .evf => s.gpioStart
  | some .cam => s.camShow n
  | some .cup => s.cupShow n
  | some .def_ => s.lastNone n
  | some .tlk => s.tlkEnable
  | some .pcie => s.pcieShow
  | _ => s

/-- An axis goes OFF: no segment, no gear, coils at rest. -/
def State.axOff (s : State) (n : Nat) : State :=
  let t := s.setAx n { s.ax n with seg := none, vlast := 0, stopReq := false, wake := none }
  ((t.setPstate n 0).setGeared n false).setCoil n (t.restCoil n)

/-- A page goes OFF: the output of the period in progress is dropped (R30). -/
def State.pageOff (s : State) (p : Nat) : State :=
  let n := instOf p
  match blkOf p with
  | some .enc => s.encOff n
  | some .axs => s.axOff n
  | some .sdf => s.sdHalt n false
  | some .cam => s.camOff n
  | some .cup => s.cupOff n
  | some .def_ => s.defOff n
  | some .clp => s.clpOff
  | some .job => s.jobOff
  | some .stp => s.stpClear n
  | some .pba => s.pbaClear n
  | some .hlk => s.hlkOff n
  | some .cmp => s.cmpOff n
  | some .dma => s.dmaOff
  | some .eth => s.ethOff n
  | some .tlk => s.tlkOff
  | some .lant => s.lantOff
  | some .dmc => { s with cal := { s.cal with training := s.cal.training.erase n } }
  | _ => s

/-- The period in progress is complete (R30). -/
def State.pageDrained (s : State) (p : Nat) : Bool :=
  let n := instOf p
  match blkOf p with
  | some .axs => (s.ax n).seg.isNone
  | some .cam => s.camDrained n
  | some .cup => s.cupDrained n
  | some .def_ => s.defDrained n
  | some .clp => s.clpDrained
  | some .stp => (s.laneList n).isEmpty
  | some .pba => s.pendLines n == 0
  | some .cmp => s.cmpDrained n
  | some .dma => s.dmaDrained
  | some .sdf => (s.sd n).halted || !s.sdClocked n
  | some .lant => s.lantDrained
  | _ => true

/-- The header of a page takes a STATE. -/
def State.setPstateOf (s : State) (p : Nat) (st : PState) : State := s.setPage p { s.page p with state := st }

/-- Entry to IDLE: stored S writes take effect (R31). -/
def State.enterIdle (s : State) (p : Nat) : State :=
  let t := (s.setPstateOf p .idle).commitStored p
  match blkOf p with
  | some .pba => t.showBar (instOf p)
  | some .stp => t.scrSettle (instOf p) true
  | some .emu => t.emuShowAll
  | some .evf => (t.gpioTurned s).pinsShow p
  | some .sdf => (if (s.page p).state = .drain then t.sdHalt (instOf p) true else t).sdClkShow (instOf p) t
  | some .tlk => t.tlkEnable
  | some .red => t.outputsFollow s
  | some .cup => t.cupShow (instOf p)
  | some .cam => (t.camShow (instOf p)).cupsShow
  | _ => t

/-- Entry to RUN. -/
def State.enterRun (s : State) (p : Nat) : State := (s.setPstateOf p .run).pageOnRun p

/-- STATE follows CTRL.EN and CTRL.RUN (R30). -/
def State.settlePage (s : State) (p : Nat) : State :=
  let g := s.page p
  let was := g.state
  if g.en = false then
    match was with
    | .off => s
    | _ =>
      let t := s.setPstateOf p .off
      (if was = .run then t.pageLeft p else if was = .fault then t.calReturn p else t).pageOff p
  else
    match was with
    | .off =>
      let t := (s.enterIdle p).pageOn p
      if g.run then t.enterRun p else t
    | .idle => if g.run then s.enterRun p else s
    | .run => if g.run then s else (s.setPstateOf p .drain).pageLeft p
    | _ => s

/-- CTRL.EN and CTRL.RUN take values: KEEP's are fixed (R439); a DMC page leaves OFF when its training ends (R486). -/
def State.setRunEn (s : State) (p : Nat) (en run : Bool) : State :=
  if p = 6 then s
  else
    let g := s.page p
    let old := s
    let s := s.setPage p { g with en := en, run := run, shown := g.shown || en }
    let s := if en && !g.shown then s.pinsShow p else s
    match blkOf p with
    | some .dmc =>
      let n := instOf p
      if en && g.state == .off then
        if s.cal.training.contains n then s
        else { s with cal := { s.cal with training := n :: s.cal.training }, pwr := { s.pwr with sref := false } }
      else if en = false ∧ g.state = .off then s.pageOff p
      else s.settlePage p
    | some .bic => (s.settlePage p).bicShow old
    | some .sdf => (s.settlePage p).sdClkShow (instOf p) old
    | _ => s.settlePage p

/-! ## Soft reset and freeze (R27, R32) -/

/-- Register words a soft reset keeps: NCT.LOSTCNT and the fronts (R132, R148), RSTC (24), what the clocks, the PCIe link,
the regulator and the debug level show. -/
def srstKeeps (p o : Nat) : Bool :=
  match blkOf p with
  | some .nct => nctKeeps o
  | some .rstc | some .chip => true
  | some .clkc => o != Reg.CLKC.LOSSCNT
  | some .pcie => o == Reg.PCIE.LSTAT
  | some .dbgc => o == Reg.DBGC.LEVEL
  | some .lant => o == Reg.LANT.PSTAT
  | _ => false

/-- The datapath of a block returns to reset. -/
def State.pageReset (s : State) (p : Nat) : State :=
  let n := instOf p
  match blkOf p with
  -- an observer sees that the source left RUN (R62)
  | some .enc => s.setEnc n { Enc.reset with runs := (s.encOf n).runs }
  | some .obs => (s.setObs n Obs.reset).gearLost n
  | some .psc => s.pscReset
  | some .emu => { s with emu := [] }
  | some .axs => s.setAx n Axs.reset
  | some .sdf => s.setSd n Sdf.reset
  | some .cam => (s.camReset n).cupsShow
  | some .cup => s.cupReset n
  | some .stp => s.scrSettle n false
  | some .pba => s.setBar n ⟨none, 0, [], [], []⟩
  | some .job => s.jobReset
  | some .hqf => s.hqfReset
  | some .bic => s.bicReset
  | some .dbgc => s.dbgReset
  | some .evf => s.evfReset
  | some .lant => { s with lant := { s.lant with mon := [], slack0 := none, hot := [], badMode := false } }
  | some .pcie => s.pcieShow
  | some .ptp => { s with ptp := { tb := 0, nb := s.cycle, inc := 2 ^ 46, pend := [], caps := [], past := (s.ptp.tb, s.ptp.nb, s.ptp.inc) :: s.ptp.past } }
  | some .tlk => { s with tlk := Tlk.reset }
  | some .red => s.outputsShow
  | some .calc =>
    let s := s.cal.running.foldl (fun t j => t.calRelease j) s
    { s with cal := { s.cal with waiting := [] } }
  | some .dmc => s.setDmc n { s.dmc n with banks := [], input := [], arr := [] }
  | some .sram => { s with sram := { s.sram with inject := [] } }
  | _ => s

/-- A write of SRST (R32): CTRL.EN, RUN and PEND cleared, STATE OFF, BUSY for at most 64 CTLCLK cycles (a free number);
the violations of the window are gone with the registers. DESIGN CHOICE (log entry 11): IST, IEN, LOGCTL.MODE, APPLY's
BSEL, HOLD and ECH and CTRL.FREEZE stay, as the spec names them neither kept nor cleared. -/
def State.softReset (s : State) (p : Nat) : State :=
  if p = 6 then s
  else
    let g := s.page p
    let s := if p = pgNCT then s.nctReset else s
    let s := s.setPage p { s.page p with en := false, run := false, pend := false, state := .off,
                                         busyUntil := s.cycle + s.draw 16 % 33, viol := 0, violStart := s.cycle,
                                         shown := false }
    let s := if g.state = .run then s.drawn.pageLeft p else if g.state = .fault then s.drawn.calReturn p else s.drawn
    let s := (if blkOf p = some .cam then s else s.pageOff p).clearRegs p (srstKeeps p)
    ((s.pageReset p).pinsRest p).showPwr

/-- A write of CTRL.FREEZE (R27): honoured where the debug level permits; never on the page whose CTRL ignores writes (R439). -/
def State.setFreeze (s : State) (p : Nat) (b : Bool) : State :=
  if s.freezeHonoured p ∧ p ≠ 6 then (s.setPage p { s.page p with freeze := b }).showFrozen p else s

/-- A write of CTRL (R27, R30, R32). -/
def State.ctrlWrite (s : State) (p v : Nat) : State :=
  let s := s.setFreeze p (bit v 3)
  if bit v 2 then s.softReset p else s.setRunEn p (bit v 0) (bit v 1)

/-! ## Header writes -/

/-- A write of OWNER while LOCK = 0 (R43). -/
def State.ownerWrite (s : State) (p v : Nat) : State :=
  let g := s.page p
  if g.lock then s else s.setPage p { g with own := bits v 3 0, sec := bit v 8, lock := bit v 31 }

/-- LOGCTL.CLR (R39). -/
def State.logClear (s : State) (p : Nat) : State := s.setPage p { s.page p with log := [], lost := 0 }

/-- LOGDATA's entry is removed (R39). -/
def State.logPop (s : State) (p : Nat) : State := s.setPage p { s.page p with log := (s.page p).log.drop 1 }

/-- A write of a header word. -/
def State.headWrite (s : State) (p o v : Nat) : State :=
  let g := s.page p
  if o = 0x008 then s.ctrlWrite p v
  else if o = 0x010 then s.setPage p { g with err := g.err &&& (0xFFFFFFFF ^^^ v % 2 ^ 32) }
  else if o = 0x014 then s.setPage p { g with errcnt := v % 2 ^ 32 }
  else if o = 0x018 then s.setPage p { g with ien := v % 2 ^ 32 }
  else if o = 0x01C then s.setPage p { g with ist := g.ist &&& (0xFFFFFFFF ^^^ v % 2 ^ 32) }
  else if o = 0x020 then s.ownerWrite p v
  else if o = 0x024 then
    let t := s.setPage p { g with logMode := bit v 8 }
    if bit v 9 then t.logClear p else t
  else if o = 0x030 then
    let t := s.setPage p { g with bsel := bits v 1 0, hold := bit v 2, ech := bits v 15 8 }
    if bit v 16 then t.applyPage p true else t
  else s

/-! ## Block registers -/

/-- A word write that a block treats by a rule of its own; none when the change classes alone govern it (R8). -/
def State.ruleWrite (s : State) (p o v req : Nat) : Option State :=
  let n := instOf p
  match blkOf p with
  | some .enc => s.encOnWrite n o v
  | some .obs => s.obsOnWrite n o v
  | some .psc => s.pscOnWrite o v
  | some .emu => s.emuOnWrite o v
  | some .axs => s.axOnWrite n o v
  | some .sdf => s.sdOnWrite n o v
  | some .cam => (s.camOnWrite n o v).map (·.cupsShow)
  | some .cup => s.cupOnWrite n o v
  | some .def_ => s.defOnWrite n o v
  | some .clp => s.clpOnWrite o v
  | some .job => s.jobOnWrite o v
  | some .stp => s.stpOnWrite n o v
  | some .nct => s.nctOnWrite o v
  | some .pba => s.pbaOnWrite n o v
  | some .fire => s.fireOnWrite o v
  | some .hlk => s.hlkOnWrite n o v
  | some .dma => s.dmaOnWrite o v req
  | some .bic => s.bicOnWrite o v
  | some .evf => s.evfOnWrite o v req
  | some .ptp => s.ptpOnWrite o v
  | some .eth => s.ethOnWrite n o v
  | some .tlk => s.tlkOnWrite o v
  | some .red => s.redOnWrite o v
  | some .dmc => s.dmcOnWrite n o v
  | some .sram => s.sramOnWrite o v
  | some .lant => s.lantOnWrite o v
  | some .calc => s.calcOnWrite o v
  | some .keep => s.keepOnWrite o v
  | some .dbgc => s.dbgcOnWrite o v
  | some .pwrc => s.pwrcOnWrite o v
  | some .rstc => s.rstcOnWrite o v
  | _ => none

/-- A 32-bit write to a word of a page, admitted. -/
def State.wordWrite (s : State) (p o v req : Nat) : State :=
  if o < 0x100 then s.headWrite p o v
  else (s.ruleWrite p o v req).getD (s.writeWord p o v)

/-- The word write would change an S field while CTRL.RUN = 1 (R8). -/
def State.sRefused (s : State) (p o v : Nat) : Bool :=
  let m := classMask p o (·.s)
  m != 0 && (v &&& m) != (s.normal p o &&& m) && (s.page p).run

/-- A 64-bit write to a page, admitted: one write, so that one CFGRUN error covers both halves; INC and SWFIRE whole. -/
def State.pairWrite (s : State) (p o v req : Nat) : State :=
  let lo := v % 2 ^ 32
  let hi := v / 2 ^ 32 % 2 ^ 32
  if p = pgPTP ∧ o = Reg.PTP.INC then s.incWrite v
  else if p = pgEVF ∧ o = Reg.EVF.SWFIRE then
    s.swfireBoth (lo % 256) hi req
  else if p = pgEVF ∧ 0x200 ≤ o ∧ o < 0x238 then s.chanPair (s.chsel req) o lo hi req
  else if p = pgNCT ∧ Reg.NCT.RANGE 0 ≤ o ∧ o < Reg.NCT.RANGE 16 ∧ (s.page p).run = false then s.rangeWrite o lo hi
  else if blkOf p = some .pba ∧ 0x200 ≤ o ∧ o = Reg.PBA.entryMAP ((o - 0x200) / 0x18) ∧ o < Reg.PBA.entryMAP 64 ∧
      (s.page p).run = false then
    s.entryPair (instOf p) o lo hi
  else if p = pgJOB ∧ s.slotRefuses o lo ∧ s.slotRefuses (o + 4) hi then s.wordWrite p o lo req
  else
    -- of two refused halves one error is left: the second half's S bits are those that stand
    let hi := if 0x100 ≤ o ∧ s.sRefused p o lo ∧ s.sRefused p (o + 4) hi then
        mix hi (s.normal p (o + 4)) (classMask p (o + 4) (·.s)) else hi
    if p = pgEMU ∧ 0x100 ≤ o ∧ o % 32 = 0 then (s.wordWrite p (o + 4) hi req).wordWrite p o lo req
    else (s.wordWrite p o lo req).wordWrite p (o + 4) hi req

/-! ## Reads -/

/-- The VIOLCNT register of an interface page. -/
def violOff : Blk → Option Nat
  | .lant => some Reg.LANT.VIOLCNT
  | .sdf => some Reg.SDF.VIOLCNT
  | .cam => some Reg.CAM.VIOLCNT
  | .hlk => some Reg.HLK.VIOLCNT
  | .pcie => some Reg.PCIE.VIOLCNT
  | .eth => some Reg.ETH.VIOLCNT
  | _ => none

/-- A half of a 64-bit value. -/
def halfOf (v o base : Nat) : Nat := if o = base then v % 2 ^ 32 else v / 2 ^ 32 % 2 ^ 32

/-- BIC words computed when read (R326, R327). -/
def State.bicRead (s : State) (o req : Nat) : Option Nat :=
  let act := fun (c w : Nat) => (List.range 64).foldl (fun m i =>
    let x := s.src (4096 + 64 * w + i)
    if x.st = 2 ∧ x.claimer = c then m + 2 ^ i else m) 0
  match (List.range 4).find? (fun c => o == Reg.BIC.CLAIM c), (List.range 4).find? (fun c => o == Reg.BIC.LINE c) with
  | some c, _ => some (s.claim 0 c req false).readData
  | _, some c => some (b2n (s.coreLine c))
  | _, _ =>
    if Reg.BIC.PCLAIM 0 ≤ o ∧ o < Reg.BIC.PCLAIM 16 then some (s.claim 2 ((o - Reg.BIC.PCLAIM 0) / 4) req false).readData
    else if Reg.BIC.HACT0 0 ≤ o ∧ o < Reg.BIC.HACT0 14 then
      let w := (o - Reg.BIC.HACT0 0) / 8
      some (halfOf (act 4 w) o (Reg.BIC.HACT0 w))
    else if Reg.BIC.HACT1 0 ≤ o ∧ o < Reg.BIC.HACT1 14 then
      let w := (o - Reg.BIC.HACT1 0) / 8
      some (halfOf (act 5 w) o (Reg.BIC.HACT1 w))
    else none

/-- PTP words computed when read (R372, R374). -/
def State.ptpRead (s : State) (o req : Nat) : Option Nat :=
  let c := Tbl.getD s.ptp.caps req (0, 0, 0)
  let is := fun (b : Nat) => o == b || o == b + 4
  if is Reg.PTP.FREE then some (halfOf (4 * s.cycle) o Reg.PTP.FREE)
  else if is Reg.PTP.TIMENS then some (halfOf s.timeNs o Reg.PTP.TIMENS)
  else if o = Reg.PTP.TIMEFRAC then some c.2.1
  else if is Reg.PTP.CAPCYC then some (halfOf c.2.2 o Reg.PTP.CAPCYC)
  else none

/-- A word that its block computes when it is read. -/
def State.ruleRead (s : State) (p o req : Nat) : Option Nat :=
  let n := instOf p
  match blkOf p with
  | some .enc => s.encRead n o
  | some .chip => s.chipRead o
  | some .clkc => s.clkcRead o
  | some .rstc => s.rstcRead o
  | some .keep => s.keepRead o
  | some .dbgc => s.dbgcRead o
  | some .calc => s.calcRead o
  | some .lant => if o = Reg.LANT.VIOLCNT then some (min 65535 (s.page p).viol) else s.lantRead o
  | some .hqf => s.hqfRead o
  | some .dmc => s.dmcRead n o
  | some .tlk => s.tlkRead o
  | some .bic => s.bicRead o req
  | some .ptp => s.ptpRead o req
  | some .evf =>
    if o = Reg.EVF.CHSEL then some (s.chsel req)
    else if 0x200 ≤ o ∧ o < 0x238 then some (s.chanRead (s.chsel req) o req)
    else if o = Reg.EVF.SWFIRE ∨ o = Reg.EVF.SWFIRE + 4 then some 0
    else none
  | some .fire => s.fireRead o
  | some .pba => s.pbaRead n o
  | some .job => s.jobRead o
  | some .sram => if o < 0x110 then some (sramBytes s.variant ((o - 0x100) / 4) % 2 ^ 32) else none
  | some .stp =>
    if o = Reg.STP.SCRDATA then some (s.scrShown n)
    else if 0x200 ≤ o ∧ o = Reg.STP.slotBIND ((o - 0x200) / 0x80) ∧ s.fb p (Reg.STP.slotSSTAT ((o - 0x200) / 0x80)) 8 then
      -- R109: disabled for that run
      (if (s.page p).state = .run ∨ (s.page p).state = .drain then some (s.normal p o / 2 * 2) else none)
    else if 0x200 ≤ o ∧ o = Reg.STP.slotSSTAT ((o - 0x200) / 0x80) ∧ (s.page p).state ≠ .run ∧ (s.page p).state ≠ .drain then
      some (setBits (s.rg p o) 8 8 0)
    else none
  | some .cam =>
    if o = Reg.CAM.FTDATA then some (s.ftRead n).readData
    else if o = Reg.CAM.VIOLCNT then some (min 65535 (s.page p).viol) else none
  | some .cup =>
    if s.cmx = false ∧ Reg.CUP.WB01 ≤ o ∧ o ≤ Reg.CUP.TCDATA then some 0 -- R222
    else if o = Reg.CUP.TCDATA then some (s.tcRead n).readData
    else if o = Reg.CUP.ICDATA then some (s.icRead n).readData
    else none
  | some b => if violOff b = some o then some (min 65535 (s.page p).viol) else none
  | none => none

/-- A word as a read at its normal offset, or in the active view, returns it, without the read's side effect (R33). -/
def State.wordRead (s : State) (p o req : Nat) (active : Bool) : Nat :=
  if o < 0x100 then s.headRead p o
  else (s.ruleRead p o req).getD (if active then s.rg p o else s.normal p o)

/-- The side effect of a read at the normal offset (R33, R39, R233, R326, R364, R374, R377). -/
def State.readEffect (s : State) (p o req : Nat) (wide : Bool) : State :=
  let n := instOf p
  let hits := fun (a : Nat) => o == a || (wide && o + 4 == a)
  if (o = 0x028 ∧ wide) ∨ o = 0x02C then s.logPop p
  else match blkOf p with
  | some .bic =>
    match (List.range 4).find? (fun c => hits (Reg.BIC.CLAIM c)) with
    | some c => s.claim 0 c req true
    | none =>
      if Reg.BIC.PCLAIM 0 ≤ o ∧ o < Reg.BIC.PCLAIM 16 then
        let k := (o - Reg.BIC.PCLAIM 0) / 4
        let s := s.claim 2 k req true
        if wide then s.claim 2 (k + 1) req true else s
      else s
  | some .ptp => if o = Reg.PTP.TIMENS ∧ wide then s.timeCapture req else s
  | some .eth => if o = Reg.ETH.TXTSQ1 ∧ wide then s.tsPop n else s
  | some .sdf =>
    let t := if hits Reg.SDF.PKMAX then s.peakRead n true else s
    if hits Reg.SDF.PKMIN then t.peakRead n false else t
  | some .stp => if hits Reg.STP.SCRDATA then s.scrRead n else s
  | some .cam => if hits Reg.CAM.FTDATA then s.ftRead n else s
  | some .cup => if hits Reg.CUP.TCDATA then s.tcRead n else if hits Reg.CUP.ICDATA then s.icRead n else s
  | _ => s

/-- A word of a table window (R24). -/
def State.windowRead (s : State) (off req : Nat) : Nat :=
  if off < 0x240000 then s.queueRead ((off - 0x200000) / 64) (off % 64)
  else if off < 0x253800 then s.srcRead ((off - 0x240000) / 16) (off % 16) req
  else if off < 0x270000 then (s.mark ((off - 0x260000) / 32)).word (off % 32)
  else if off < 0x300000 then
    let i := (off - 0x280000) / 2
    s.curRead i + s.curRead (i + 1) * 2 ^ 16
  else
    s.recRead (s.fl pgNCT Reg.NCT.WSLICE 1 0 * 262144 + (off - 0x300000) / 4)

/-- A write to a table window, admitted (R24). -/
def State.windowWrite (s : State) (off v : Nat) (wide : Bool) (req : Nat) : State :=
  if 0x260000 ≤ off ∧ off < 0x270000 then s.markWrite ((off - 0x260000) / 32) (off % 32) v wide
  else if 0x280000 ≤ off ∧ off < 0x300000 then s.curveWrite (off - 0x280000) v wide
  else if 0x300000 ≤ off then s.nozzleWrite (off - 0x300000) v wide
  else
    let q := (off - 0x200000) / 64
    let i := (off - 0x240000) / 16
    if off < 0x240000 then
      (if wide then s.queueWide q (off % 64) v req else s.queueWrite q (off % 64) (v % 2 ^ 32) req)
    else if wide then s.srcWide i (off % 16) v req else s.srcWrite i (off % 16) (v % 2 ^ 32) req

/-! ## Accesses by any requester (R21, R22, R42) -/

/-- Width and alignment the register fabric accepts (R21). -/
def accessOk (off size : Nat) : Bool := (size == 4 && off % 4 == 0) || (size == 8 && off % 8 == 0)

/-- What of a table window offset the error log keeps: its low 12 bits; else the page offset. -/
def State.busError (s : State) (p off : Nat) : State := if s.present p then s.accessError p (off % 4096) else s

/-- An access is refused by R42. -/
def State.busRefused (s : State) (off req : Nat) (wr : Bool) : Bool :=
  match windowPage off with
  | some p => s.present p && !s.nctShut off && (if wr then s.ownerRefuses p req else s.readRefused p req)
  | none => false

/-- A write at a window offset. -/
def State.busWrite (s : State) (off size v req : Nat) : State :=
  match windowPage off with
  | none => s
  | some p =>
    if s.reaches req = false ∨ s.nctShut off then s
    else if accessOk off size = false then s.busError p off
    else
      s.gate p req (off % 4096) (fun t =>
        if 0x200000 ≤ off then t.windowWrite off v (size == 8) req
        else
          let o := off % 4096
          if 0x800 ≤ o then t.accessError p o
          else if size = 8 then t.pairWrite p o v req
          else t.wordWrite p o (v % 2 ^ 32) req)

/-- A read at a window offset: `readData` takes the value. -/
def State.busRead (s : State) (off size req : Nat) : State :=
  let zero : State := { s with readData := 0 }
  match windowPage off with
  | none => zero
  | some p =>
    if s.present p = false ∨ s.reaches req = false ∨ s.nctShut off then zero
    else if accessOk off size = false then zero.busError p off
    else if s.readRefused p req then zero
    else if 0x200000 ≤ off then
      { s with readData := s.windowRead off req + (if size = 8 then s.windowRead (off + 4) req * 2 ^ 32 else 0) }
    else
      let o := off % 4096
      let act := decide (0x800 ≤ o)
      let b := o % 0x800
      let v := s.wordRead p b req act + (if size = 8 then s.wordRead p (b + 4) req act * 2 ^ 32 else 0)
      let t := if act then s else s.readEffect p b req (size == 8)
      { t with readData := v }

/-! ## Commands -/

/-- The CTRL word a command of R30 writes: the page's own with bits set or cleared. -/
def State.ctrlWord (s : State) (p set_ clr : Nat) : Nat := ((s.headRead p 8) ||| set_) &&& (0xFFFFFFFF ^^^ clr)

/-- A write of CTRL by a requester. -/
def State.ctrlGate (s : State) (p req v : Nat) : State := s.gateH p req 8 v (·.ctrlWrite p v)

/-- CTRL_ENABLE, CTRL_DISABLE, CTRL_RUN, CTRL_STOP (R30). -/
def execCtrlEnable (page req : Nat) (s : State) : Host.Outcome State Fault Refusal :=
  .next (s.ctrlGate page req (s.ctrlWord page 1 0))
def execCtrlDisable (page req : Nat) (s : State) : Host.Outcome State Fault Refusal :=
  .next (s.ctrlGate page req (s.ctrlWord page 0 1))
def execCtrlRun (page req : Nat) (s : State) : Host.Outcome State Fault Refusal :=
  .next (s.ctrlGate page req (s.ctrlWord page 2 0))
def execCtrlStop (page req : Nat) (s : State) : Host.Outcome State Fault Refusal :=
  .next (s.ctrlGate page req (s.ctrlWord page 0 2))

/-- SOFT_RESET (R32). -/
def execSoftReset (page req : Nat) (s : State) : Host.Outcome State Fault Refusal :=
  .next (s.ctrlGate page req (s.ctrlWord page 4 0))

/-- FREEZE (R27): CTRL.FREEZE set or cleared. -/
def execFreeze (page : Nat) (on : Bool) (req : Nat) (s : State) : Host.Outcome State Fault Refusal :=
  .next (s.ctrlGate page req (if on then s.ctrlWord page 8 0 else s.ctrlWord page 0 8))

/-- DRAIN_COMPLETE (R30, R31). -/
def execDrainComplete (page : Nat) (s : State) : Host.Outcome State Fault Refusal :=
  let g := s.page page
  if g.state = .drain ∧ s.pageDrained page then
    let t := s.enterIdle page
    .next (if g.run then t.enterRun page else t)
  else .next s

/-- LOGDATA_POP (R39): a 64-bit read of LOGDATA. -/
def execLogdataPop (page req : Nat) (s : State) : Host.Outcome State Fault Refusal :=
  .next (s.readGate page req (fun t => { t.logPop page with readData := (t.page page).logHead }))

/-- LOG_CLR (R39): LOGCTL written with CLR, MODE as it stands. -/
def execLogClr (page req : Nat) (s : State) : Host.Outcome State Fault Refusal :=
  .next (s.gateH page req 0x24 (0x200 + 0x100 * b2n (s.page page).logMode) (·.logClear page))

/-- OWNER_LOCK (R43): OWNER written with LOCK, the other fields as they stand. -/
def execOwnerLock (page req : Nat) (s : State) : Host.Outcome State Fault Refusal :=
  let v := s.headRead page 0x20 ||| 2 ^ 31
  .next (s.gateH page req 0x20 v (·.ownerWrite page v))

/-- APPLYNOW (R34): APPLY written with APPLYNOW, the other fields as they stand. -/
def execApplynow (page req : Nat) (s : State) : Host.Outcome State Fault Refusal :=
  .next (s.gateH page req 0x30 ((s.headRead page 0x30 &&& 0xFFFF) ||| 2 ^ 16) (·.applyPage page true))

/-- VIOLATION_WINDOW_END (R45). -/
def execViolationWindowEnd (page : Nat) (s : State) : Host.Outcome State Fault Refusal :=
  let g := s.page page
  if g.violStart + s.violWindow page ≤ s.cycle then
    let t := s.setPage page { g with viol := 0, violStart := s.cycle }
    .next (if page = pgTLK then t.tlkWindow else t)
  else .next s

/-- DRAM_TRAINING (R486): a channel's training ends and its page enters IDLE. -/
def execDramTraining (ch width : Nat) (converged : Bool) (s : State) : Host.Outcome State Fault Refusal :=
  if s.cal.training.contains ch then
    let p := pgDMC ch
    let t := s.trained ch width converged
    .next (if (t.page p).en && (t.page p).state == .off then t.settlePage p else t)
  else .next s

end Sys2Proof.Machine
end

