-- ==== Sys2Proof/Machine/Mover.lean ====
section
/-!
DEFINITION. Accesses that one unit makes for another: the debug module's system bus and DMI (23 R469, R473), register
writes of any requester (02 R8), the ring's tunnel and mirror (19 R390, R396), device addresses of units (15 R301), Ethernet
TX entries (18 R370), the DMA engine (15 R314 to R320).
-/

namespace Sys2Proof.Machine

/-! ## System bus of the debug module (R473) -/

/-- The register window's device addresses (R301). -/
abbrev devWindow : Nat := 0x1000000000

/-- A device address range lies in the register window. -/
def inWindow (a n : Nat) : Bool := decide (devWindow ≤ a) && decide (a + n ≤ devWindow + 0x400000)

/-- SBCS.ERR takes a code (R473). -/
def State.sbErr (s : State) (c : Nat) : State := (s.setFl pgDBGC Reg.DBGC.SBCS 13 12 c).err pgDBGC 3 0x332 c

/-- SBADDR advances by the access size with AUTOINC. -/
def State.sbNext (s : State) (size : Nat) : State :=
  if s.fb pgDBGC Reg.DBGC.SBCS 2 then s.setRg64 pgDBGC Reg.DBGC.SBADDR (s.rg64 pgDBGC Reg.DBGC.SBADDR + size) else s

/-- One access at SBADDR as requester 7 (R473): a DRAM error response gives ERR 1, a refusal 2, misalignment 3. -/
def State.sbAccess (s : State) (wr : Bool) : State :=
  let size := 2 ^ s.fl pgDBGC Reg.DBGC.SBCS 1 0
  let a := s.rg64 pgDBGC Reg.DBGC.SBADDR
  let v := s.rg64 pgDBGC Reg.DBGC.SBDATA % 2 ^ (8 * size)
  if s.fl pgDBGC Reg.DBGC.SBCS 13 12 ≠ 0 then s
  else if a % size ≠ 0 then s.sbErr 3
  else if inWindow a size then
    let off := a - devWindow
    let t := if wr then s.busWrite off size v 7
      else { (s.busRead off size 7) with readData := s.readData }.setRg64 pgDBGC Reg.DBGC.SBDATA (s.busRead off size 7).readData
    (if s.busRefused off 7 wr then t.sbErr 2 else t).sbNext size
  else
    let code := match s.dramFault (s.who 7) wr a size with
      | some (0x2C3, _) => 2
      | some _ => 1
      | none => 0
    let t := if wr then (s.dramWrite (s.who 7) a (leBytes size v)).1
      else match s.dramRead (s.who 7) a size with
        | (u, some bs) => u.setRg64 pgDBGC Reg.DBGC.SBDATA (leAt bs 0 size)
        | (u, none) => u
    (if code = 0 then t else t.sbErr code).sbNext size

/-- Words of SBADDR and SBDATA written: an access follows a write of the low word (R473). -/
def State.sbWrite (s : State) (o v : Nat) (wide : Bool) : State :=
  let t := if wide then s.setRg64 pgDBGC o v else s.setRg pgDBGC o v
  if o = Reg.DBGC.SBADDR then (if t.fb pgDBGC Reg.DBGC.SBCS 3 then t.sbAccess false else t)
  else if o = Reg.DBGC.SBDATA then t.sbAccess true
  else t

/-- A read of SBDATA: the value held, then the read that RDONDATA asks for (R473). -/
def State.sbRead (s : State) (wide : Bool) : State :=
  let v := if wide then s.rg64 pgDBGC Reg.DBGC.SBDATA else s.rg pgDBGC Reg.DBGC.SBDATA
  { (if s.fb pgDBGC Reg.DBGC.SBCS 4 then s.sbAccess false else s) with readData := v }

/-- The window offset of a system-bus register of DBGC: its page offset. -/
def sbOffset (off : Nat) : Option Nat :=
  let o := off % 4096
  if pageAt off = some pgDBGC ∧ Reg.DBGC.SBADDR ≤ o ∧ o < Reg.DBGC.SBCS then some o else none

/-- A write at a window offset by any requester, system-bus registers included. -/
def State.regWrite (s : State) (off size v req : Nat) : State :=
  match sbOffset off, accessOk off size with
  | some o, true => s.gate pgDBGC req o (·.sbWrite o v (size == 8))
  | _, _ => s.busWrite off size v req

/-- A read at a window offset by any requester, system-bus registers included. -/
def State.regRead (s : State) (off size req : Nat) : State :=
  if sbOffset off = some Reg.DBGC.SBDATA ∧ accessOk off size then s.readGate pgDBGC req (·.sbRead (size == 8))
  else s.busRead off size req

/-- SBADDR_WRITE, SBDATA_WRITE, SBDATA_READ (R473): 64-bit accesses of the registers. -/
def execSbaddrWrite (value req : Nat) (s : State) : Host.Outcome State Fault Refusal :=
  .next (s.gateW pgDBGC req Reg.DBGC.SBADDR value (·.sbWrite Reg.DBGC.SBADDR value true))
def execSbdataWrite (value req : Nat) (s : State) : Host.Outcome State Fault Refusal :=
  .next (s.gateW pgDBGC req Reg.DBGC.SBDATA value (·.sbWrite Reg.DBGC.SBDATA value true))
def execSbdataRead (req : Nat) (s : State) : Host.Outcome State Fault Refusal :=
  .next (s.readGate pgDBGC req (·.sbRead true))

/-- The debug level lets a DMI access reach an offset: below level 2 only 0x100 to 0x13F (R463). -/
def State.dmiReaches (s : State) (addr : Nat) : Bool := decide (2 ≤ s.level) || (decide (0x100 ≤ addr) && decide (addr < 0x140))

/-- What a DMI scan shifts out: the read data and the status of the access before it, in DATA and OP; ADDR is unstated. -/
def State.dmiOut (s : State) : State :=
  { s.drawn with readData := s.dbg.dmiData % 2 ^ 32 + s.draw 12 * 2 ^ 32 + s.dbg.dmiStat * 2 ^ 44 }

/-- DMI (R469): OP 1 reads, 2 writes the DBGC page as requester 7; the next scan returns the data and the status. Without
clocks the TAP has IDCODE, BYPASS and WAKE only (R467). -/
def execDmi (op addr data : Nat) (s : State) : Host.Outcome State Fault Refusal :=
  if s.tapOn = false then .next s
  else if s.clocked = false then .next s.tapBypass
  else if op ≠ 1 ∧ op ≠ 2 then .next (s.tapIr 0x10).dmiOut
  else
    let s := (s.tapIr 0x10).dmiOut
    let a := addr % 4096
    let refused := if op = 2 then s.ownerRefuses pgDBGC 7 else s.readRefused pgDBGC 7
    if s.dmiReaches a = false ∨ s.windowOpen 7 = false then .next { s with dbg := { s.dbg with dmiStat := 2 } }
    else
      let off := pageBase pgDBGC + a
      let t := if op = 2 then s.regWrite off 4 (data % 2 ^ 32) 7 else s.regRead off 4 7
      let d := if op = 2 then s.dbg.dmiData else t.readData
      .next { t with readData := s.readData, dbg := { t.dbg with dmiData := d, dmiStat := if refused then 2 else 0 } }

/-! ## Register writes, the ring's tunnel and mirror -/

/-- REGISTER_WRITE (R8, R21, R22, R396): a write of 4 or 8 bytes, or of another width, at a window offset. -/
def execRegisterWrite (off size value req : Nat) (s : State) : Host.Outcome State Fault Refusal :=
  .next ((s.mirror off (size == 8) value req).regWrite (off % 2 ^ 22) size value req)

/-- TREQ (R390): the access as requester 8; NOTMGR to any but the current manager; the answer is a TRSP. -/
def execTreq (portB : Bool) (src dst b3 seq off : Nat) (wide wr : Bool) (data : Nat) (s : State) :
    Host.Outcome State Fault Refusal :=
  let w := off % 2 ^ 22
  let size := if wide then 8 else 4
  .next (s.tlkTake portB 3 src dst b3 seq [w + b2n wide * 2 ^ 22 + b2n wr * 2 ^ 23, data] (fun s =>
    if src ≠ s.mgr then s.tlkSend 4 src seq [3, 0]
    else if s.busRefused w 8 wr then
      (if wr then s.regWrite w size data 8 else s).tlkSend 4 src seq [1, 0]
    else if wr then (s.regWrite w size data 8).tlkSend 4 src seq [0, 0]
    else
      let t := s.regRead w size 8
      { t with readData := s.readData }.tlkSend 4 src seq [0, t.readData]))

/-- Pages whose mirrored writes a standby does not apply (R396), and the queue descriptor window. -/
def mirSkips (off : Nat) : Bool :=
  (decide (0x200000 ≤ off) && decide (off < 0x240000)) ||
    (match pageAt off with
     | some p => [pgTLK, pgRED, pgPCIE, pgHQF, pgDMA, pgKEEP, pgDBGC, pgPWRC, 3, 1].contains p
     | none => false)

/-- The writes of a MIR frame: (offset, wide, data). -/
def mirWrites : List Nat → List (Nat × Bool × Nat)
  | a :: d :: rest => (a % 2 ^ 22, bit a 22, d) :: mirWrites rest
  | _ => []

/-- MIR_FRAME (R396): a standby applies the writes as requester 0 in MSEQ order; a gap leads to DIVERGED. -/
def execMirFrame (portB : Bool) (src dst b3 : Nat) (words : List Nat) (s : State) : Host.Outcome State Fault Refusal :=
  let q := words.headD 0 % 2 ^ 32
  let nw := bits (words.headD 0) 35 32
  if s.portUp portB ∧ (nw = 0 ∨ 8 < nw ∨ words.length ≠ 1 + 2 * nw) then .next (s.tlkMalf portB)
  else .next (s.tlkTake portB 8 src dst b3 0 words (fun s =>
    if s.role ≠ 1 ∨ (s.redState ≠ 2 ∧ s.redState ≠ 3) ∨ src ≠ s.mgr then s
    else
      let gap := match s.tlk.mirNext with
        | some e => e != q
        | none => false
      let s := if gap then (s.err pgRED 1 0x2A3 0).diverge else s
      let s := { s with tlk := { s.tlk with mirNext := some ((q + nw) % 2 ^ 32) } }
      let s := (s.setRg pgRED Reg.RED.MIRSEQ (q + nw - 1)).inc pgRED Reg.RED.MIRCNT nw
      (mirWrites (words.drop 1)).foldl (fun (t : State) w =>
        if mirSkips w.1 then t else t.regWrite w.1 (if w.2.1 then 8 else 4) w.2.2 0) s))

/-! ## Device addresses of a unit (R301) -/

/-- Words of a window stretch read 32 bits each, in ascending or descending order (R318). -/
def State.windowBytes (s : State) (req off k : Nat) (down : Bool) : State × List Byte :=
  let ks := List.range k
  (if down then ks.reverse else ks).foldl (fun (a : State × List Byte) i =>
    let t := a.1.regRead (off + 4 * i) 4 req
    let w := leBytes 4 t.readData
    ({ t with readData := a.1.readData }, if down then w ++ a.2 else a.2 ++ w)) (s, [])

/-- Bytes written to a window stretch, 32 bits each, in ascending or descending order. -/
def State.windowPut (s : State) (req off : Nat) (bs : List Byte) (down : Bool) : State :=
  let ks := List.range (bs.length / 4)
  (if down then ks.reverse else ks).foldl (fun t k => t.regWrite (off + 4 * k) 4 (leAt bs (4 * k) 4) req) s

/-- A read of device addresses: DRAM, or the register window as requester `req`, whole 32-bit words from a multiple of 4; an
error response at any other address (R301). -/
def State.devRead (s : State) (w : Who) (req a n : Nat) : State × Option (List Byte) :=
  if inWindow a (max 1 n) ∧ a % 4 = 0 then
    let (t, bs) := s.windowBytes req (a - devWindow) ((n + 3) / 4) false
    (t, some (bs.take n))
  else s.dramRead w a n

/-- A write at device addresses, in the register window of whole 32-bit words (R301). -/
def State.devWrite (s : State) (w : Who) (req a : Nat) (bs : List Byte) : State × Bool :=
  if inWindow a (max 1 bs.length) ∧ a % 4 = 0 ∧ bs.length % 4 = 0 then (s.windowPut req (a - devWindow) bs false, true)
  else s.dramWrite w a bs

/-- The requester that caused the accesses of a queue's entry: that of its last producer doorbell (R301). -/
def State.caller (s : State) (p port : Nat) : Nat :=
  match s.portQueue p port with
  | some q => (s.queue q).by_
  | none => 0

/-! ## Ethernet TX entries (18 R370) -/

/-- A frame's data, from device addresses or host memory: refused (left), waiting (none) or there. -/
def State.txData (s : State) (n : Nat) (e : List Byte) : State × (Unit ⊕ Option (List Byte)) :=
  let f := leAt e 10 2
  if s.hostEnds.contains (256 + n) then ({ s with hostEnds := s.hostEnds.filter (· != 256 + n) }, .inl ())
  else if bit f 1 then
    match s.hostFetch 2 n (bits f 2 2) (leAt e 0 8) (leAt e 8 2) with
    | (t, .inl _) => (t, .inl ())
    | (t, .inr (some d)) => (t.hostForget 2 n, .inr (some d))
    | (t, .inr none) => (t, .inr none)
  else
    match s.devRead (unitWho (pgETH n)) (s.caller (pgETH n) 0) (leAt e 0 8) (leAt e 8 2) with
    | (t, some d) => (t, .inr (some d))
    | (t, none) => (t, .inl ())

/-- An entry that a port whose link is not UP consumes without sending it (R370): its reads end too. -/
def State.txDiscard (s : State) (n : Nat) : State :=
  let p := pgETH n
  let s := { s with hostEnds := s.hostEnds.filter (· != 256 + n) }.hostForget 2 n
  (s.sat p Reg.ETH.TXDROP 1).consume p 0

/-- TX_ENTRY (R370): the oldest entry of the TX queue; also a port in FAULT, whose link is not UP, consumes it. -/
def execTxEntry (port : Nat) (s : State) : Host.Outcome State Fault Refusal :=
  let p := pgETH port
  if unitCount s.variant .eth ≤ port ∨ s.works p = false ∨
      ((s.page p).state ≠ .run ∧ ((s.page p).state ≠ .fault ∨ s.fl p Reg.ETH.LSTAT 1 0 = 1)) then .next s
  else
    match s.peek p 0 with
    | (t, none) => .next t
    | (t, some e) =>
      if t.ethUp port = false then .next (t.txDiscard port)
      else if t.txBad port e then .next (t.txRefuse port)
      else
        match t.txData port e with
        | (u, .inl _) => .next (u.txRefuse port)
        | (u, .inr none) => .next u
        | (u, .inr (some d)) => .next (u.txSend port e d)

/-! ## DMA engine (R314 to R320) -/

/-- A descriptor (R316). -/
structure Desc where
  src : Nat
  dst : Nat
  len : Nat
  ctl : Nat
  next : Nat
deriving DecidableEq, Repr

/-- The descriptor in 32 bytes. -/
def descOf (b : List Byte) : Desc := ⟨leAt b 0 8, leAt b 8 8, leAt b 16 4, leAt b 20 4, leAt b 24 8⟩

/-- One side of a descriptor: in host memory, function, circular, WRAP, address. -/
structure Side where
  host : Bool
  fn : Nat
  circ : Bool
  wrap : Nat
  addr : Nat
deriving DecidableEq, Repr

def Desc.source (d : Desc) : Side := ⟨bit d.ctl 0, bits d.ctl 2 2, bit d.ctl 3, bits d.ctl 10 5, d.src⟩
def Desc.dest (d : Desc) : Side := ⟨bit d.ctl 1, bits d.ctl 2 2, bit d.ctl 4, bits d.ctl 16 11, d.dst⟩
def Desc.fin (d : Desc) : Bool := bit d.ctl 17

/-- The stretches of a side in the order of its bytes (R317). -/
def Side.runs (x : Side) (len : Nat) : List (Nat × Nat) :=
  if x.circ = false then (if len = 0 then [] else [(x.addr, len)])
  else
    let blk := 2 ^ x.wrap
    let base := x.addr / blk * blk
    let k := min len (blk - x.addr % blk)
    (if k = 0 then [] else [(x.addr, k)]) ++ (if len ≤ k then [] else [(base, len - k)])

/-- The range of a side for R318: a circular side's whole block. -/
def Side.range (x : Side) (len : Nat) : Nat × Nat :=
  if x.circ then (x.addr / 2 ^ x.wrap * 2 ^ x.wrap, 2 ^ x.wrap) else (x.addr, len)

/-- Source and destination overlap (R318). -/
def Desc.overlaps (d : Desc) : Bool :=
  let a := d.source.range d.len
  let b := d.dest.range d.len
  d.source.host == d.dest.host && decide (a.1 < b.1 + b.2) && decide (b.1 < a.1 + a.2) && decide (0 < a.2) && decide (0 < b.2)

/-- A stretch of device addresses lies outside R301, or breaks the register window's alignment (R319); the address counts
even where nothing is moved. -/
def State.runBad (s : State) (a n : Nat) : Bool :=
  if inWindow a (max 1 n) then a % 4 != 0 || n % 4 != 0 else decide (s.dramEnd < a + max 1 n)

/-- A side's address, LEN or WRAP is in error (R317, R319). -/
def State.sideBad (s : State) (x : Side) (len : Nat) : Bool :=
  (x.circ && (decide (x.wrap < 6) || decide (36 < x.wrap) || decide (2 ^ x.wrap < len))) ||
    (!x.host && (if len = 0 then [(x.addr, 0)] else x.runs len).any (fun r => s.runBad r.1 r.2))

/-- The code with which a descriptor fails its check (R319): 2 DESC, 3 OVERLAP. -/
def State.descBad (s : State) (d : Desc) : Option Nat :=
  if bits d.ctl 31 18 ≠ 0 ∨ s.sideBad d.source d.len ∨ s.sideBad d.dest d.len ∨ (d.fin = false ∧ d.next % 32 ≠ 0) then some 2
  else if (d.source.circ || d.dest.circ) && d.overlaps then some 3
  else none

/-- The first DRAM piece of a side that gets an error response in copy order: bytes before it in that order, code, address,
a write. -/
def State.sideFault (s : State) (x : Side) (len : Nat) (wr down : Bool) : Option (Nat × Nat × Nat × Bool) :=
  if x.host then none
  else
    let l := (x.runs len).foldl (fun (a : List (Nat × Nat × Nat) × Nat) r =>
      (a.1 ++ (if inWindow r.1 r.2 then [] else (pieces (r.2 / 256 + 2) r.1 r.2).map (fun q => (a.2 + (q.1 - r.1), q.1, q.2))), a.2 + r.2))
      ([], 0)
    (if down then l.1.reverse else l.1).findSome? (fun q =>
      (s.pieceFault (unitWho pgDMA) wr (q.2.1, q.2.2)).map (fun e =>
        (if down then len - (q.1 + q.2.2) else q.1, e.1, e.2, wr)))

/-- All bytes of a side: none while a host read is outstanding; an error code; the bytes. -/
def State.sideRead (s : State) (c : Nat) (x : Side) (len : Nat) (down : Bool) : State × (Nat ⊕ Option (List Byte)) :=
  (x.runs len).foldl (fun (a : State × (Nat ⊕ Option (List Byte))) r =>
    match a.2 with
    | .inr (some bs) =>
      if x.host then
        match a.1.hostFetch 1 c x.fn r.1 r.2 with
        | (t, .inl _) => (t, .inl 5)
        | (t, .inr none) => (t, .inr none)
        | (t, .inr (some d)) => (t, .inr (some (bs ++ d)))
      else if inWindow r.1 r.2 then
        let (t, d) := a.1.windowBytes (a.1.dma c).req (r.1 - devWindow) (r.2 / 4) down
        (t, .inr (some (bs ++ d)))
      else (a.1.countBytes false r.1 r.2, .inr (some (bs ++ a.1.dramBytes r.1 r.2)))
    | _ => a) (s, .inr (some []))

/-- Bytes `from` to `from + n` of a side are written. -/
def State.sideWrite (s : State) (c : Nat) (x : Side) (len : Nat) (bs : List Byte) (first n : Nat) (down : Bool) : State :=
  ((x.runs len).foldl (fun (a : State × Nat) r =>
    let lo := max first a.2
    let hi := min (first + n) (a.2 + r.2)
    let part := (bs.drop lo).take (hi - lo)
    let at_ := r.1 + (lo - a.2)
    let t := if hi ≤ lo then a.1
      else if x.host then a.1.setHostBytes x.fn at_ part
      else if inWindow r.1 r.2 then a.1.windowPut (a.1.dma c).req (at_ - devWindow) part down
      else (a.1.dramWrite (unitWho pgDMA) at_ part).1
    (t, a.2 + r.2)) (s, 0)).1

/-- The transfer of a checked descriptor (R317 to R319): waiting on host data, an error code, or done. An error leaves a
free number of the bytes before it, in copy order, written. -/
def State.descMove (s : State) (c : Nat) (d : Desc) : State × Option Nat :=
  let src := d.source
  let dst := d.dest
  let down := d.overlaps && decide (d.src < d.dst)
  if dst.host ∧ (s.hostRefusal dst.fn).isSome ∧ d.len ≠ 0 then (s, some 5)
  else
    match s.sideRead c src d.len down with
    | (t, .inl e) => (t, some e)
    | (t, .inr none) => (t, some 0)
    | (t, .inr (some bs)) =>
      let a := t.sideFault src d.len false down
      let b := t.sideFault dst d.len true down
      let worst := match a, b with
        | some x, some y => some (if x.1 ≤ y.1 then x else y)
        | some x, none => some x
        | none, y => y
      match worst with
      | some (k, code, addr, wr) =>
        let n := t.draw 64 % (k + 1)
        let t := t.drawn.sideWrite c dst d.len bs (if down then d.len - n else 0) n down
        (t.dramError (unitWho pgDMA) wr code addr, some 4)
      | none => ((t.sideWrite c dst d.len bs 0 d.len down).inc64 pgDMA Reg.DMA.BYTES d.len, none)

/-- The descriptor at CUR is fetched and checked (R316, R319): none while a host read is outstanding. -/
def State.descFetch (s : State) (c : Nat) : State × (Nat ⊕ Option Desc) :=
  let cur := s.rg64 pgDMA (Reg.DMA.chCUR c)
  let a := cur / 32 * 32
  let check := fun (t : State) (bs : List Byte) =>
    match t.descBad (descOf bs) with
    | some e => (t, Sum.inl e)
    | none => (t.setDma c { t.dma c with desc := some bs }, Sum.inr (some (descOf bs)))
  match (s.dma c).desc with
  | some bs => (s, .inr (some (descOf bs)))
  | none =>
    if bit cur 0 then
      match s.hostFetch 1 c (bits cur 1 1) a 32 with
      | (t, .inl _) => (t, .inl 5)
      | (t, .inr none) => (t, .inr none)
      | (t, .inr (some bs)) => check t bs
    else if inWindow a 32 then
      let (t, bs) := s.windowBytes (s.dma c).req (a - devWindow) 8 false
      check t bs
    else
      match s.dramRead (unitWho pgDMA) a 32 with
      | (t, none) => (t, .inl 4)
      | (t, some bs) => check t bs

/-- The PENDING channel the engine takes: highest PRIO, then lowest number (R314). -/
def State.dmaNext (s : State) : Option Nat :=
  ((List.range 16).filter (fun c => s.dmaState c == 1)).foldl (fun a c =>
    match a with
    | some b => if s.fl pgDMA (Reg.DMA.chCTL b) 5 4 < s.fl pgDMA (Reg.DMA.chCTL c) 5 4 then some c else some b
    | none => some c) none

/-- DMA_TAKE (R314, R319). -/
def execDmaTake (s : State) : Host.Outcome State Fault Refusal :=
  if s.running pgDMA = false ∨ s.dmaRunning.isSome then .next s
  else
    match s.dmaNext with
    | none => .next s
    | some c =>
      match ((s.setDmaState c 2).dmaShow).descFetch c with
      | (t, .inl e) => .next (t.dmaEnd c e 5)
      | (t, .inr _) => .next t

/-- A descriptor is complete (R315). -/
def State.descDone (s : State) (c : Nat) (d : Desc) : State :=
  let x := s.dma c
  let s := (s.setDma c { x with ndesc := (x.ndesc + 1) % 2 ^ 32, desc := none }).hostForget 1 c
  if d.fin then s.dmaEnd c 0 0
  else
    let s := s.setRg64 pgDMA (Reg.DMA.chCUR c) (d.next + s.rg64 pgDMA (Reg.DMA.chCUR c) % 4)
    if s.dmaState c = 3 then s.dmaEnd c 1 4 else s

/-- DESCRIPTOR_DONE (R315 to R319): the descriptor in progress is moved and completes, or ends the channel. -/
def execDescriptorDone (s : State) : Host.Outcome State Fault Refusal :=
  let g := s.page pgDMA
  match s.dmaRunning with
  | none => .next s
  | some c =>
    if (g.state ≠ .run ∧ g.state ≠ .drain) ∨ s.works pgDMA = false then .next s
    else
      match s.descFetch c with
      | (t, .inl e) => .next (t.dmaEnd c e 5)
      | (t, .inr none) => .next t
      | (t, .inr (some d)) =>
        match t.descMove c d with
        | (u, some 0) => .next u
        | (u, some e) => .next (u.dmaEnd c e 5)
        | (u, none) => .next (u.descDone c d)

end Sys2Proof.Machine
end

