-- ==== Sys2Proof/Machine/KeepCmd.lean ====
section
/-!
DEFINITION. Keep's command queue (22 R456 to R462): attestation, job keys, public keys, counters, signed commands.
-/

namespace Sys2Proof.Machine

/-- Keep's own reads and writes at a device address (R301, R456): DRAM, or the register window as the Keep processor. -/
def State.keepGet (s : State) (a n : Nat) : State × Option (List Byte) := s.devRead (unitWho pgKEEP) 6 a n
def State.keepPut (s : State) (a : Nat) (bs : List Byte) : State × Bool := s.devWrite (unitWho pgKEEP) 6 a bs

/-! ## Commands (R456 to R461) -/

/-- The ERR bit of a response code, when it has one (KEEP registers). -/
def keepErrBit (code : Nat) : Option Nat := if 2 ≤ code ∧ code ≤ 9 then some (code - 2) else none

/-- The command ends: response, counters, error (R457). -/
def State.keepEnd (s : State) (e : List Byte) (code outlen : Nat) : State :=
  let i := match s.portQueue pgKEEP 0 with
    | some q => (s.queue q).cidx
    | none => 0
  let r := (e.drop 8).take 8 ++ e.take 1 ++ leBytes 1 code ++ leBytes 2 0 ++ leBytes 4 (if code = 0 then outlen else 0) ++
    leBytes 48 0
  let s := (((s.consume pgKEEP 0).post pgKEEP 1 [r]).1).inc pgKEEP Reg.KEEP.CMDCNT 1
  if code = 0 then s
  else
    let s := s.sat pgKEEP Reg.KEEP.CMDERRCNT 1
    let s := match keepErrBit code with
      | some b => s.err pgKEEP b (0x300 + code) (i % 2 ^ 20)
      | none => s.logOnly pgKEEP (0x300 + code) (i % 2 ^ 20)
    s.happen pgKEEP 0 0

/-- The signed body of the attestation report (R459). -/
def State.attestBody (s : State) (nonce : List Byte) : List Byte :=
  let k := s.keep
  let i1 := k.img1.getD ⟨0, 0, 0, [], 0, 0, 0, []⟩
  let i2 := k.img2.getD ⟨0, 0, 0, [], 0, 0, 0, []⟩
  leBytes 4 0x5254414B ++ leBytes 2 1 ++ leBytes 2 256 ++ leBytes 8 serial ++ leBytes 1 k.lc ++ leBytes 1 s.level ++
    leBytes 1 (varNum s.variant) ++ leBytes 1 1 ++ leBytes 4 k.bootCnt ++ leBytes 8 s.timeNs ++ nonce ++
    fixLen 48 i1.hash ++ fixLen 48 i2.hash ++ leBytes 4 i1.svn ++ leBytes 4 i2.svn ++ leBytes 1 s.anchorMap ++
    leBytes 1 (i1.signer + i2.signer * 16) ++ leBytes 2 s.keyMap ++ leBytes 4 (s.fl pgKEEP Reg.KEEP.CORESEC 3 0) ++
    fixLen 48 (Config.sha384 ((List.range 64).flatMap (fun c => leBytes 4 (k.counter c)))) ++ leBytes 32 0

/-- ATTEST that may run (R459); none while it waits for stage 6 or a subtree. The HSS signature is Nspk = 1, the top leaf's
signature of the subtree, the subtree's public key, its leaf's signature of the body. -/
def State.attest (s : State) (e : List Byte) : Option State :=
  let left := s.rg pgKEEP Reg.KEEP.SUBLEFT
  if s.keep.ready = false ∧ s.keep.sub.isSome then none
  else if leAt e 0x18 4 < 3636 then some (s.keepEnd e 1 0)
  else if s.keep.lc = 0 then some (s.keepEnd e 5 0)
  else if left = 0 ∧ s.keep.sub = none then
    if 2 ^ 20 ≤ s.keep.nextLeaf then some (s.keepEnd e 9 0) else some s.subtree
  else if left = 0 ∨ s.keep.ready = false then none
  else
    let body := s.attestBody ((e.drop 0x20).take 32)
    let x := s.keep.keys
    let sub := s.keep.tree.getD ⟨[], [], [], []⟩
    let leaf := 1024 - left
    let hss := beBytes 4 1 ++ fixLen 1772 sub.sig ++ fixLen 56 sub.pub ++
      lmsSig 10 sub.seed sub.id leaf (Config.lmsPath 10 sub.seed sub.id leaf) body
    let rep := body ++ fixLen 96 (Config.ecdsaSign x.ec (s.draw 384) body) ++ hss
    match (s.drawn.setRg pgKEEP Reg.KEEP.SUBLEFT (left - 1)).keepPut (leAt e 0x10 8) rep with
    | (t, true) => some (t.keepEnd e 0 3636)
    | (t, false) => some (t.keepEnd e 10 0)

/-- A JOB slot that is LOADING or READY uses the key slot (R461). -/
def State.keyInUse (s : State) (k : Nat) : Bool :=
  (List.range 8).any (fun n => (s.jobState n == 1 || s.jobState n == 2) && s.fl pgJOB (Reg.JOB.slotCTRL n) 7 4 == k)

/-- The job key in a blob (R460): the wrapping key is HKDF of the ECDH product with Keep's own scalar. -/
def Keep.unwrap (k : Keep) (b : List Byte) : Option (List Byte) :=
  let z := Config.ecdh k.keys.dh ((b.drop 0x10).take 97)
  let kek := (Config.hkdf (leBytes 8 serial) z (leBytes 4 0x594B4A4B ++ (b.drop 8).take 8) 32).take 32
  Config.keyUnwrap kek ((b.drop 0x78).take 40)

/-- LOADKEY (R460, R461). -/
def State.loadKey (s : State) (e : List Byte) : State :=
  let slot := leAt e 0x1C 4
  if 15 < slot ∨ leAt e 0x18 4 < 160 then s.keepEnd e 1 0
  else if s.keep.lc = 0 then s.keepEnd e 5 0
  else if s.keyInUse slot then s.keepEnd e 8 0
  else
    match s.keepGet (leAt e 0x10 8) 160 with
    | (t, none) => t.keepEnd e 10 0
    | (t, some b) =>
      if leAt b 0 4 ≠ 0x594B4A4B ∨ Config.onCurve ((b.drop 0x10).take 97) = false then t.keepEnd e 11 0
      else
        match t.keep.unwrap b with
        | none => t.keepEnd e 2 0
        | some k => ({ t with keys := Tbl.put t.keys slot k }).keepEnd e 0 0

/-- CLEARKEY (R461). -/
def State.clearKey (s : State) (e : List Byte) : State :=
  let slot := leAt e 0x1C 4
  if 15 < slot then s.keepEnd e 1 0
  else if s.keyInUse slot then s.keepEnd e 8 0
  else ({ s with keys := Tbl.del s.keys slot }).keepEnd e 0 0

/-- GETPUB (R456): the three public keys. -/
def State.getPub (s : State) (e : List Byte) : State :=
  if leAt e 0x18 4 < 254 then s.keepEnd e 1 0
  else
    let x := s.keep.keys
    let out := fixLen 97 (Config.ecPub x.ec) ++ x.hssPub ++ fixLen 97 (Config.ecPub x.dh)
    match s.keepPut (leAt e 0x10 8) out with
    | (t, true) => t.keepEnd e 0 254
    | (t, false) => t.keepEnd e 10 0

/-- COMMIT (R449): the counters of the running images. -/
def State.commitCtrs (s : State) (e : List Byte) : State :=
  let up := fun (k : Keep) (i : Option KeepImg) => match i with
    | some x => k.raiseCtr x.ctr x.svn
    | none => k
  ({ s with keep := up (up s.keep s.keep.img1) s.keep.img2 }).keepEnd e 0 0

/-! ## Signed commands (R458, R462) -/

/-- The signer a signed command wants: the vendor while no owner anchor is enrolled, otherwise an owner (R458). -/
def Keep.ownerRule (k : Keep) (signer : Nat) : Bool := if k.owners.isEmpty then decide (signer ≤ 1) else decide (4 ≤ signer)

/-- The code with which an accepted object's command ends (R458, R462). -/
def Keep.signedCode (k : Keep) (op index signer : Nat) : Nat :=
  match op with
  | 1 => if k.lc ≠ 0 then 5 else if 1 < signer then 3 else 0
  | 2 => if k.lc = 0 ∨ k.lc = 3 then 5 else if k.ownerRule signer = false then 3 else if 3 < index then 1
         else if (Tbl.get? k.owners index).isSome then 8 else 0
  | 3 => if k.lc = 0 ∨ k.lc = 3 then 5 else if k.ownerRule signer = false then 3 else if 3 < index then 1 else 0
  | 4 => if k.lc ≠ 1 then 5 else if k.ownerRule signer = false then 3 else 0
  | 5 => if k.lc ≠ 1 ∧ k.lc ≠ 2 then 5 else if 1 < signer then 3 else 0
  | 6 => if 1 < index then 1 else if bit k.vrev (1 - index) then 5 else if signer ≠ 1 - index then 3 else 0
  | _ => 1

/-- PROVISION (R453, R454, R462): the secret is drawn into OTP, the keys derived, leaf 0 comes next. A subtree the former keys
signed is given up. -/
def State.provision (s : State) : State :=
  let k := { s.keep with secret := s.draw 256, boot := s.keep.boot.put { s.keep.bootRec with count := 0 } }
  let k := k.derived.setLeaf 0
  if k.sub.isSome then { s.drawn with keep := k }
  else { s.drawn with keep := { k with tree := none } }.setRg pgKEEP Reg.KEEP.SUBLEFT 0

/-- The effect of a signed command (R458, R462). -/
def State.signedEffect (s : State) (op index : Nat) (anchor : List Byte) : State :=
  let k := s.keep
  let go := fun (t : State) (l : Nat) => ({ t with keep := t.keep.program l }).happen pgKEEP 2 0
  match op with
  | 1 => go s.provision 1
  | 2 => { s with keep := { k with anchors := k.anchors.put (Tbl.put k.owners index anchor) } }
  | 3 => { s with keep := { k with anchors := k.anchors.put (Tbl.del k.owners index) } }
  | 4 => go s 2
  | 5 => go { s with keys := [], keep := { k with anchors := k.anchors.put [] } } 3
  | 6 => { s with keep := { k with vrev := k.vrev ||| 2 ^ index } }
  | _ => s

/-- SIGNED (R456, R458): a new nonce follows, accepted or not. -/
def State.signed (s : State) (e : List Byte) : State :=
  match s.keepGet (leAt e 0x10 8) (leAt e 0x18 4) with
  | (t, none) => (t.keepEnd e 10 0).newNonce pgKEEP (Reg.KEEP.NONCE 0)
  | (t, some o) =>
    let pl := (o.drop 128).take 96
    let op := leAt pl 0 2
    let index := leAt pl 2 2
    let fin := fun (u : State) (c : Nat) => (u.keepEnd e c 0).newNonce pgKEEP (Reg.KEEP.NONCE 0)
    match t.keep.check 3 false o with
    | 0 =>
      let t := { t with keep := t.keep.commitOf o }
      if (pl.drop 16).take 32 ≠ t.nonceBytes pgKEEP (Reg.KEEP.NONCE 0) then fin t 6
      else if leAt pl 4 12 ≠ 0 then fin t 11
      else
        match t.keep.signedCode op index (leAt o 9 1) with
        | 0 => fin (t.signedEffect op index ((pl.drop 48).take 48)) 0
        | c => fin t c
    | c => fin t c

/-- The payload OP of the SIGNED object a command names; 0 when there is none to read. -/
def State.signedOp (s : State) (e : List Byte) : Nat :=
  match (s.keepGet (leAt e 0x10 8) (leAt e 0x18 4)).2 with
  | some o => leAt o 128 2
  | none => 0

/-- Keep takes commands (R456). -/
def State.keepTakes (s : State) : Bool :=
  (s.stage == 5 || s.stage == 6) && s.portEsize pgKEEP 0 == some 64 && s.portEsize pgKEEP 1 == some 64 &&
    decide (0 < s.portRoom pgKEEP 1)

/-- The oldest command, executed when it is the one a row of the table names. -/
def State.keepRow (s : State) (mine : State → List Byte → Bool) (f : State → List Byte → Option State) : State :=
  if s.keepTakes = false then s
  else
    match s.peek pgKEEP 0 with
    | (t, none) => t
    | (t, some e) =>
      if mine t e = false then t
      else if leAt e 1 7 ≠ 0 then
        -- R458: a new nonce after each SIGNED command, accepted or not
        if leAt e 0 1 = 4 then (t.keepEnd e 1 0).newNonce pgKEEP (Reg.KEEP.NONCE 0) else t.keepEnd e 1 0
      else (f t e).getD t

/-- Commands of one OP; a SIGNED command of one payload OP, unknown ones with OP 1. -/
def isOp (n : Nat) (_ : State) (e : List Byte) : Bool := leAt e 0 1 == n
def isSigned (n : Nat) (s : State) (e : List Byte) : Bool :=
  leAt e 0 1 == 4 && (s.signedOp e == n || (n == 1 && (s.signedOp e == 0 || decide (6 < s.signedOp e))))

/-- ATTEST (R459). -/
def execAttest (s : State) : Host.Outcome State Fault Refusal := .next (s.keepRow (isOp 1) (fun t e => t.attest e))
/-- LOADKEY (R460). -/
def execLoadkey (s : State) : Host.Outcome State Fault Refusal := .next (s.keepRow (isOp 2) (fun t e => some (t.loadKey e)))
/-- CLEARKEY (R461). -/
def execClearkey (s : State) : Host.Outcome State Fault Refusal := .next (s.keepRow (isOp 3) (fun t e => some (t.clearKey e)))
/-- GETPUB (R456). -/
def execGetpub (s : State) : Host.Outcome State Fault Refusal := .next (s.keepRow (isOp 5) (fun t e => some (t.getPub e)))
/-- COMMIT (R449); a command of an unknown OP ends BADCMD here (R457). -/
def execCommit (s : State) : Host.Outcome State Fault Refusal :=
  .next (s.keepRow (fun _ e => leAt e 0 1 == 6 || leAt e 0 1 == 0 || decide (6 < leAt e 0 1))
    (fun t e => some (if leAt e 0 1 = 6 then t.commitCtrs e else t.keepEnd e 1 0)))
/-- PROVISION (R462). -/
def execProvision (s : State) : Host.Outcome State Fault Refusal := .next (s.keepRow (isSigned 1) (fun t e => some (t.signed e)))
/-- ENROLL (R458). -/
def execEnroll (s : State) : Host.Outcome State Fault Refusal := .next (s.keepRow (isSigned 2) (fun t e => some (t.signed e)))
/-- REVOKE (R458). -/
def execRevoke (s : State) : Host.Outcome State Fault Refusal := .next (s.keepRow (isSigned 3) (fun t e => some (t.signed e)))
/-- TOPROD (R462). -/
def execToprod (s : State) : Host.Outcome State Fault Refusal := .next (s.keepRow (isSigned 4) (fun t e => some (t.signed e)))
/-- TORMA (R462). -/
def execTorma (s : State) : Host.Outcome State Fault Refusal := .next (s.keepRow (isSigned 5) (fun t e => some (t.signed e)))
/-- ROOTREV (R458). -/
def execRootrev (s : State) : Host.Outcome State Fault Refusal := .next (s.keepRow (isSigned 6) (fun t e => some (t.signed e)))

end Sys2Proof.Machine
end

