-- ==== Sys2Proof/Machine/Dispatch.lean ====
section
/-!
DEFINITION. The dispatch: one arm per command, each a direct call of its meaning.
-/

namespace Sys2Proof.Machine

def exec (i : Instr) (s : State) : Host.Outcome State Fault Refusal :=
  match i with
  | .registerWrite off size value req => Sys2Proof.Machine.execRegisterWrite off size value req s
  | .ctrlEnable page req => Sys2Proof.Machine.execCtrlEnable page req s
  | .ctrlDisable page req => Sys2Proof.Machine.execCtrlDisable page req s
  | .ctrlRun page req => Sys2Proof.Machine.execCtrlRun page req s
  | .ctrlStop page req => Sys2Proof.Machine.execCtrlStop page req s
  | .drainComplete page => Sys2Proof.Machine.execDrainComplete page s
  | .softReset page req => Sys2Proof.Machine.execSoftReset page req s
  | .freeze page on req => Sys2Proof.Machine.execFreeze page on req s
  | .logdataPop page req => Sys2Proof.Machine.execLogdataPop page req s
  | .logClr page req => Sys2Proof.Machine.execLogClr page req s
  | .ownerLock page req => Sys2Proof.Machine.execOwnerLock page req s
  | .applynow page req => Sys2Proof.Machine.execApplynow page req s
  | .violationWindowEnd page => Sys2Proof.Machine.execViolationWindowEnd page s
  | .filteredLevelChange enc a b z held => Sys2Proof.Machine.execFilteredLevelChange enc a b z held s
  | .serialRequest enc dataLow => Sys2Proof.Machine.execSerialRequest enc dataLow s
  | .serialWord enc position crc nE nW parity delay => Sys2Proof.Machine.execSerialWord enc position crc nE nW parity delay s
  | .startBitTimeout enc => Sys2Proof.Machine.execStartBitTimeout enc s
  | .observerUpdate dom => Sys2Proof.Machine.execObserverUpdate dom s
  | .coastmaxExpiry dom => Sys2Proof.Machine.execCoastmaxExpiry dom s
  | .repair dom req => Sys2Proof.Machine.execRepair dom req s
  | .snap dom byTask req => Sys2Proof.Machine.execSnap dom byTask req s
  | .emuEnable ch req => Sys2Proof.Machine.execEmuEnable ch req s
  | .emuStep ch => Sys2Proof.Machine.execEmuStep ch s
  | .markWrite mark off value wide req => Sys2Proof.Machine.execMarkWrite mark off value wide req s
  | .markWriteEffect => Sys2Proof.Machine.execMarkWriteEffect s
  | .markEvaluation => Sys2Proof.Machine.execMarkEvaluation s
  | .deferredFire dom => Sys2Proof.Machine.execDeferredFire dom s
  | .disarm doms req => Sys2Proof.Machine.execDisarm doms req s
  | .load slot req => Sys2Proof.Machine.execLoad slot req s
  | .loaddone slot => Sys2Proof.Machine.execLoaddone slot s
  | .unload slot req => Sys2Proof.Machine.execUnload slot req s
  | .verify slot req => Sys2Proof.Machine.execVerify slot req s
  | .vdone slot => Sys2Proof.Machine.execVdone slot s
  | .tileCheck slot verdict => Sys2Proof.Machine.execTileCheck slot verdict s
  | .cursorEnable bar en req => Sys2Proof.Machine.execCursorEnable bar en req s
  | .laneStart stp => Sys2Proof.Machine.execLaneStart stp s
  | .lineScreened stp slot => Sys2Proof.Machine.execLineScreened stp slot s
  | .scrdataAccess stp write value req => Sys2Proof.Machine.execScrdataAccess stp write value req s
  | .handover bar => Sys2Proof.Machine.execHandover bar s
  | .swcmdForce req => Sys2Proof.Machine.execSwcmdForce req s
  | .copyForwardDone => Sys2Proof.Machine.execCopyForwardDone s
  | .heldQueueDrained => Sys2Proof.Machine.execHeldQueueDrained s
  | .nozzleWindowWrite off value wide req => Sys2Proof.Machine.execNozzleWindowWrite off value wide req s
  | .curveWindowWrite off value wide req => Sys2Proof.Machine.execCurveWindowWrite off value wide req s
  | .imageLoad req => Sys2Proof.Machine.execImageLoad req s
  | .imageCheckDone => Sys2Proof.Machine.execImageCheckDone s
  | .imgdone => Sys2Proof.Machine.execImgdone s
  | .line bar => Sys2Proof.Machine.execLine bar s
  | .fireInstant bar => Sys2Proof.Machine.execFireInstant bar s
  | .lineDeadline bar => Sys2Proof.Machine.execLineDeadline bar s
  | .entryWrite bar entry map value req => Sys2Proof.Machine.execEntryWrite bar entry map value req s
  | .lineSet link => Sys2Proof.Machine.execLineSet link s
  | .lockDone link => Sys2Proof.Machine.execLockDone link s
  | .statIdent link boardid pver chmask intake nnozmax minper => Sys2Proof.Machine.execStatIdent link boardid pver chmask intake nnozmax minper s
  | .syncSend link => Sys2Proof.Machine.execSyncSend link s
  | .syncAnswer link t1 t2 t3 seq => Sys2Proof.Machine.execSyncAnswer link t1 t2 t3 seq s
  | .trntmo link => Sys2Proof.Machine.execTrntmo link s
  | .statHb link hbcnt flags rxerr latefire temps alignres => Sys2Proof.Machine.execStatHb link hbcnt flags rxerr latefire temps alignres s
  | .hbTimeout link => Sys2Proof.Machine.execHbTimeout link s
  | .blockLockLoss link => Sys2Proof.Machine.execBlockLockLoss link s
  | .retrain link req => Sys2Proof.Machine.execRetrain link req s
  | .autort link => Sys2Proof.Machine.execAutort link s
  | .tuncmd link wr req => Sys2Proof.Machine.execTuncmd link wr req s
  | .ack link cmdSeq data seq => Sys2Proof.Machine.execAck link cmdSeq data seq s
  | .nak link reason cmdSeq => Sys2Proof.Machine.execNak link reason cmdSeq s
  | .tuntmo link => Sys2Proof.Machine.execTuntmo link s
  | .statNchk link ch payload => Sys2Proof.Machine.execStatNchk link ch payload s
  | .hlkFrameError link reason type seq => Sys2Proof.Machine.execHlkFrameError link reason type seq s
  | .camDown port lock => Sys2Proof.Machine.execCamDown port lock s
  | .camUp port lock => Sys2Proof.Machine.execCamUp port lock s
  | .trig port => Sys2Proof.Machine.execTrig port s
  | .triggerInstant port => Sys2Proof.Machine.execTriggerInstant port s
  | .triggerSend port => Sys2Proof.Machine.execTriggerSend port s
  | .camLine port sensor => Sys2Proof.Machine.execCamLine port sensor s
  | .triggerExpiry port => Sys2Proof.Machine.execTriggerExpiry port s
  | .blktmo port => Sys2Proof.Machine.execBlktmo port s
  | .ftdataAccess port write value req => Sys2Proof.Machine.execFtdataAccess port write value req s
  | .expcmd port gen req => Sys2Proof.Machine.execExpcmd port gen req s
  | .expdone port => Sys2Proof.Machine.execExpdone port s
  | .cccmd port wr req => Sys2Proof.Machine.execCccmd port wr req s
  | .ccAck port kind code data => Sys2Proof.Machine.execCcAck port kind code data s
  | .cctmo port => Sys2Proof.Machine.execCctmo port s
  | .eventPacket port payload => Sys2Proof.Machine.execEventPacket port payload s
  | .camHeartbeat port => Sys2Proof.Machine.execCamHeartbeat port s
  | .malformedPacket port kind lane => Sys2Proof.Machine.execMalformedPacket port kind lane s
  | .homeLine cup => Sys2Proof.Machine.execHomeLine cup s
  | .furtherLine cup slot => Sys2Proof.Machine.execFurtherLine cup slot s
  | .stagingRead cup slot => Sys2Proof.Machine.execStagingRead cup slot s
  | .fwaitExpiry cup => Sys2Proof.Machine.execFwaitExpiry cup s
  | .stage2Entry cup => Sys2Proof.Machine.execStage2Entry cup s
  | .blkdone cup => Sys2Proof.Machine.execBlkdone cup s
  | .tcdataAccess cup write value req => Sys2Proof.Machine.execTcdataAccess cup write value req s
  | .icdataAccess cup write value req => Sys2Proof.Machine.execIcdataAccess cup write value req s
  | .defLine unit => Sys2Proof.Machine.execDefLine unit s
  | .snippetDone unit => Sys2Proof.Machine.execSnippetDone unit s
  | .blkpost unit => Sys2Proof.Machine.execBlkpost unit s
  | .droppedPost unit => Sys2Proof.Machine.execDroppedPost unit s
  | .clpLine cup => Sys2Proof.Machine.execClpLine cup s
  | .win group => Sys2Proof.Machine.execWin group s
  | .bankChange group => Sys2Proof.Machine.execBankChange group s
  | .correctionRecord group => Sys2Proof.Machine.execCorrectionRecord group s
  | .clpSwapRequest => Sys2Proof.Machine.execClpSwapRequest s
  | .compress eng => Sys2Proof.Machine.execCompress eng s
  | .decompress eng => Sys2Proof.Machine.execDecompress eng s
  | .abort eng => Sys2Proof.Machine.execAbort eng s
  | .cmpJobEnd eng => Sys2Proof.Machine.execCmpJobEnd eng s
  | .queueEnable queue value req => Sys2Proof.Machine.execQueueEnable queue value req s
  | .queueDisable queue value req => Sys2Proof.Machine.execQueueDisable queue value req s
  | .queueBind queue value req => Sys2Proof.Machine.execQueueBind queue value req s
  | .producerDoorbell queue value req array => Sys2Proof.Machine.execProducerDoorbell queue value req array s
  | .consumerDoorbell queue value req array => Sys2Proof.Machine.execConsumerDoorbell queue value req array s
  | .itmoExpiry queue => Sys2Proof.Machine.execItmoExpiry queue s
  | .hostCompletion tag status ep data => Sys2Proof.Machine.execHostCompletion tag status ep data s
  | .completionTimeout tag => Sys2Proof.Machine.execCompletionTimeout tag s
  | .malformedTlp => Sys2Proof.Machine.execMalformedTlp s
  | .deviceMemoryAccess write addr len data ep => Sys2Proof.Machine.execDeviceMemoryAccess write addr len data ep s
  | .flr fn => Sys2Proof.Machine.execFlr fn s
  | .dmaStart ch req byTask => Sys2Proof.Machine.execDmaStart ch req byTask s
  | .dmaStop ch req => Sys2Proof.Machine.execDmaStop ch req s
  | .dmaResume ch req => Sys2Proof.Machine.execDmaResume ch req s
  | .dmaTake => Sys2Proof.Machine.execDmaTake s
  | .descriptorDone => Sys2Proof.Machine.execDescriptorDone s
  | .sourceInput source => Sys2Proof.Machine.execSourceInput source s
  | .claim core req => Sys2Proof.Machine.execClaim core req s
  | .complete core source req => Sys2Proof.Machine.execComplete core source req s
  | .pclaim pin req => Sys2Proof.Machine.execPclaim pin req s
  | .pcomplete source req => Sys2Proof.Machine.execPcomplete source req s
  | .hcmp fn source req => Sys2Proof.Machine.execHcmp fn source req s
  | .swset swi req => Sys2Proof.Machine.execSwset swi req s
  | .latchCatch latch rising => Sys2Proof.Machine.execLatchCatch latch rising s
  | .swfire ch arg req => Sys2Proof.Machine.execSwfire ch arg req s
  | .swfireArg value req => Sys2Proof.Machine.execSwfireArg value req s
  | .swfireCh ch req => Sys2Proof.Machine.execSwfireCh ch req s
  | .eventDelivery ch => Sys2Proof.Machine.execEventDelivery ch s
  | .channelWrite off value req => Sys2Proof.Machine.execChannelWrite off value req s
  | .channelWriteEffect => Sys2Proof.Machine.execChannelWriteEffect s
  | .gpioInputEdge pin level held => Sys2Proof.Machine.execGpioInputEdge pin level held s
  | .pulseEnd pin => Sys2Proof.Machine.execPulseEnd pin s
  | .gpioout value req => Sys2Proof.Machine.execGpioout value req s
  | .axisStart axis byTask req => Sys2Proof.Machine.execAxisStart axis byTask req s
  | .axisStop axis byTask req => Sys2Proof.Machine.execAxisStop axis byTask req s
  | .axisAbort axis req => Sys2Proof.Machine.execAxisAbort axis req s
  | .seghead axis value req => Sys2Proof.Machine.execSeghead axis value req s
  | .axisCycle axis => Sys2Proof.Machine.execAxisCycle axis s
  | .segmentEnd axis => Sys2Proof.Machine.execSegmentEnd axis s
  | .step axis => Sys2Proof.Machine.execStep axis s
  | .standstill axis => Sys2Proof.Machine.execStandstill axis s
  | .coilWakeEnd axis => Sys2Proof.Machine.execCoilWakeEnd axis s
  | .setpointFrame axis => Sys2Proof.Machine.execSetpointFrame axis s
  | .sdfOutput ch bits => Sys2Proof.Machine.execSdfOutput ch bits s
  | .stuck ch level clocks => Sys2Proof.Machine.execStuck ch level clocks s
  | .peakRead ch max req => Sys2Proof.Machine.execPeakRead ch max req s
  | .incWrite value req => Sys2Proof.Machine.execIncWrite value req s
  | .ofsadj value req => Sys2Proof.Machine.execOfsadj value req s
  | .tset frac req => Sys2Proof.Machine.execTset frac req s
  | .timeParametersApply => Sys2Proof.Machine.execTimeParametersApply s
  | .timensCapture req => Sys2Proof.Machine.execTimensCapture req s
  | .stamp => Sys2Proof.Machine.execStamp s
  | .txEntry port => Sys2Proof.Machine.execTxEntry port s
  | .txtsq1Pop port req => Sys2Proof.Machine.execTxtsq1Pop port req s
  | .rxFrame port data => Sys2Proof.Machine.execRxFrame port data s
  | .ethFrameError port kind len => Sys2Proof.Machine.execEthFrameError port kind len s
  | .ethLinkDown port => Sys2Proof.Machine.execEthLinkDown port s
  | .ethLinkUp port => Sys2Proof.Machine.execEthLinkUp port s
  | .tlkLaneLockLoss portB lane => Sys2Proof.Machine.execTlkLaneLockLoss portB lane s
  | .ping portB answer src hops t1 t2 t3 => Sys2Proof.Machine.execPing portB answer src hops t1 t2 t3 s
  | .ringSend => Sys2Proof.Machine.execRingSend s
  | .ringFrame portB src hops seq role rsize => Sys2Proof.Machine.execRingFrame portB src hops seq role rsize s
  | .tbSend => Sys2Proof.Machine.execTbSend s
  | .tbFrame portB shadow pfault src hops dly words => Sys2Proof.Machine.execTbFrame portB shadow pfault src hops dly words s
  | .tblost => Sys2Proof.Machine.execTblost s
  | .tbhalt => Sys2Proof.Machine.execTbhalt s
  | .rsend => Sys2Proof.Machine.execRsend s
  | .evtFrame portB shadow pfault src hops seq words => Sys2Proof.Machine.execEvtFrame portB shadow pfault src hops seq words s
  | .tlkTuncmd wr wide req => Sys2Proof.Machine.execTlkTuncmd wr wide req s
  | .treq portB src dst hops seq off wide wr data => Sys2Proof.Machine.execTreq portB src dst hops seq off wide wr data s
  | .trsp portB src dst hops seq code data => Sys2Proof.Machine.execTrsp portB src dst hops seq code data s
  | .tlkTuntmo => Sys2Proof.Machine.execTlkTuntmo s
  | .fwdFrame portB src dst hops words => Sys2Proof.Machine.execFwdFrame portB src dst hops words s
  | .fack portB src dst hops ackseq nak => Sys2Proof.Machine.execFack portB src dst hops ackseq nak s
  | .fackSend worker => Sys2Proof.Machine.execFackSend worker s
  | .fwtmo => Sys2Proof.Machine.execFwtmo s
  | .clpdFrame portB src dst hops cup words => Sys2Proof.Machine.execClpdFrame portB src dst hops cup words s
  | .mirFrame portB src dst hops words => Sys2Proof.Machine.execMirFrame portB src dst hops words s
  | .tbLoss => Sys2Proof.Machine.execTbLoss s
  | .takeover req => Sys2Proof.Machine.execTakeover req s
  | .declfail req => Sys2Proof.Machine.execDeclfail req s
  | .align req => Sys2Proof.Machine.execAlign req s
  | .eccWriteback part word => Sys2Proof.Machine.execEccWriteback part word s
  | .scrub flips => Sys2Proof.Machine.execScrub flips s
  | .inject value req => Sys2Proof.Machine.execInject value req s
  | .dramRequest who write addr len data ce ue => Sys2Proof.Machine.execDramRequest who write addr len data ce ue s
  | .dramCommand ch ready => Sys2Proof.Machine.execDramCommand ch ready s
  | .refresh ch bank intervals => Sys2Proof.Machine.execRefresh ch bank intervals s
  | .rowClose ch bank => Sys2Proof.Machine.execRowClose ch bank s
  | .dmcScrub ch ce ue => Sys2Proof.Machine.execDmcScrub ch ce ue s
  | .calGo dom inst force req => Sys2Proof.Machine.execCalGo dom inst force req s
  | .calDrift dom inst width => Sys2Proof.Machine.execCalDrift dom inst width s
  | .calEnd dom width converged => Sys2Proof.Machine.execCalEnd dom width converged s
  | .recalStart => Sys2Proof.Machine.execRecalStart s
  | .gapwaitExpiry => Sys2Proof.Machine.execGapwaitExpiry s
  | .dramRetrain => Sys2Proof.Machine.execDramRetrain s
  | .monitorRead kind idx value => Sys2Proof.Machine.execMonitorRead kind idx value s
  | .planInterval => Sys2Proof.Machine.execPlanInterval s
  | .plan req => Sys2Proof.Machine.execPlan req s
  | .planStep => Sys2Proof.Machine.execPlanStep s
  | .pmbusTransaction cmd outcome value => Sys2Proof.Machine.execPmbusTransaction cmd outcome value s
  | .busStuck => Sys2Proof.Machine.execBusStuck s
  | .objectVerify src data pmbus => Sys2Proof.Machine.execObjectVerify src data pmbus s
  | .dqsTimeout kind => Sys2Proof.Machine.execDqsTimeout kind s
  | .bldctlStart req => Sys2Proof.Machine.execBldctlStart req s
  | .blddata value req => Sys2Proof.Machine.execBlddata value req s
  | .bldlen value req => Sys2Proof.Machine.execBldlen value req s
  | .attready => Sys2Proof.Machine.execAttready s
  | .attest => Sys2Proof.Machine.execAttest s
  | .loadkey => Sys2Proof.Machine.execLoadkey s
  | .clearkey => Sys2Proof.Machine.execClearkey s
  | .getpub => Sys2Proof.Machine.execGetpub s
  | .commit => Sys2Proof.Machine.execCommit s
  | .provision => Sys2Proof.Machine.execProvision s
  | .enroll => Sys2Proof.Machine.execEnroll s
  | .revoke => Sys2Proof.Machine.execRevoke s
  | .toprod => Sys2Proof.Machine.execToprod s
  | .torma => Sys2Proof.Machine.execTorma s
  | .rootrev => Sys2Proof.Machine.execRootrev s
  | .relock value req => Sys2Proof.Machine.execRelock value req s
  | .tkctlStart req => Sys2Proof.Machine.execTkctlStart req s
  | .tkdata value req => Sys2Proof.Machine.execTkdata value req s
  | .tklen value req => Sys2Proof.Machine.execTklen value req s
  | .token => Sys2Proof.Machine.execToken s
  | .idcode => Sys2Proof.Machine.execIdcode s
  | .bypass => Sys2Proof.Machine.execBypass s
  | .extest shift => Sys2Proof.Machine.execExtest shift s
  | .samplePreload pins shift => Sys2Proof.Machine.execSamplePreload pins shift s
  | .highz => Sys2Proof.Machine.execHighz s
  | .clamp => Sys2Proof.Machine.execClamp s
  | .dmi op addr data => Sys2Proof.Machine.execDmi op addr data s
  | .wakeInstruction dr => Sys2Proof.Machine.execWakeInstruction dr s
  | .haltreq core req => Sys2Proof.Machine.execHaltreq core req s
  | .resumereq core req => Sys2Proof.Machine.execResumereq core req s
  | .regselGo core value req => Sys2Proof.Machine.execRegselGo core value req s
  | .breakpoint core addr => Sys2Proof.Machine.execBreakpoint core addr s
  | .watchpoint core addr len store => Sys2Proof.Machine.execWatchpoint core addr len store s
  | .halt => Sys2Proof.Machine.execHalt s
  | .resume => Sys2Proof.Machine.execResume s
  | .frzcmdFreeze req => Sys2Proof.Machine.execFrzcmdFreeze req s
  | .frzcmdRelease req => Sys2Proof.Machine.execFrzcmdRelease req s
  | .sbaddrWrite value req => Sys2Proof.Machine.execSbaddrWrite value req s
  | .sbdataWrite value req => Sys2Proof.Machine.execSbdataWrite value req s
  | .sbdataRead req => Sys2Proof.Machine.execSbdataRead req s
  | .reqIdle req => Sys2Proof.Machine.execReqIdle req s
  | .reqHold req => Sys2Proof.Machine.execReqHold req s
  | .reqSleep req => Sys2Proof.Machine.execReqSleep req s
  | .reqOff req => Sys2Proof.Machine.execReqOff req s
  | .reqRun req => Sys2Proof.Machine.execReqRun req s
  | .powerEntryDone => Sys2Proof.Machine.execPowerEntryDone s
  | .wake => Sys2Proof.Machine.execWake s
  | .hostWake => Sys2Proof.Machine.execHostWake s
  | .aonTimer ticks => Sys2Proof.Machine.execAonTimer ticks s
  | .wakeComplete ticks => Sys2Proof.Machine.execWakeComplete ticks s
  | .por bootsel => Sys2Proof.Machine.execPor bootsel s
  | .pinReset => Sys2Proof.Machine.execPinReset s
  | .swReset value req => Sys2Proof.Machine.execSwReset value req s
  | .coreReset value req => Sys2Proof.Machine.execCoreReset value req s
  | .clkLoss pll long => Sys2Proof.Machine.execClkLoss pll long s
  | .perst => Sys2Proof.Machine.execPerst s
  | .watchdogExpiry => Sys2Proof.Machine.execWatchdogExpiry s
  | .wdkick value req => Sys2Proof.Machine.execWdkick value req s
  | .outctlRel value req => Sys2Proof.Machine.execOutctlRel value req s
  | .winopen => Sys2Proof.Machine.execWinopen s
  | .dramTraining ch width converged => Sys2Proof.Machine.execDramTraining ch width converged s
  | .pcieLinkUp speed width => Sys2Proof.Machine.execPcieLinkUp speed width s
  | .pcieLinkDown => Sys2Proof.Machine.execPcieLinkDown s
  | .pcieConfigRequest fn kind vec value data => Sys2Proof.Machine.execPcieConfigRequest fn kind vec value data s
  | .asyncChannelEdge ch pin rising => Sys2Proof.Machine.execAsyncChannelEdge ch pin rising s
  | .tolturFrameError portB crc => Sys2Proof.Machine.execTolturFrameError portB crc s
  | .tolturLockDone portB => Sys2Proof.Machine.execTolturLockDone portB s
  | .hlkAlignRate link rate => Sys2Proof.Machine.execHlkAlignRate link rate s
  | .derateChange ch rate => Sys2Proof.Machine.execDerateChange ch rate s
  | .trigPulseEnd port => Sys2Proof.Machine.execTrigPulseEnd port s
  | .tapReset => Sys2Proof.Machine.execTapReset s

end Sys2Proof.Machine
end

