-- ==== Sys2Proof/Machine/Step.lean ====
section
/-!
DEFINITION. One step of the block: the command at the front of the queue, or one POSCLK cycle when none waits.
-/

namespace Sys2Proof.Machine

/-- A cycle passes with no command (log entry 2): N counts while CTLCLK and POSCLK run (R483, R474). -/
def State.tick (s : State) : State := if s.clocked then { s with cycle := s.cycle + 1 } else s

/-- One step: the front command's effect on the state with the queue's rest; an empty queue lets a cycle pass. -/
def step (s : State) : Host.Outcome State Fault Refusal :=
  match s.pending with
  | c :: rest => exec c { s with pending := rest }
  | [] => .next s.tick

/-- The state with the command a table word spells at the front of its queue; unchanged where the word spells none. -/
def State.withFetchWord (s : State) (nbits w : Nat) : State :=
  match decodeTableWord nbits w with
  | some c => { s with pending := c :: s.pending }
  | none => s

end Sys2Proof.Machine
end

