-- ==== Sys2Proof/Safety.lean ====
section
/-!
DEFINITION. What claims about runs use: the canonical form of the register table, the page headers and the memories.
-/

namespace Sys2Proof.Machine

/-- DRAM and the two host memories are in canonical form. -/
def State.memWf (s : State) : Prop :=
  Memory.wf (dramEmpty s.dramLost) s.dram = true ∧ Memory.wf (fun _ => emptyByte) s.host0 = true ∧
    Memory.wf (fun _ => emptyByte) s.host1 = true

/-- Every register word and every page header has one home: the keys rise strictly. -/
def State.tblWf (s : State) : Prop := Tbl.wf s.regs = true ∧ Tbl.wf s.pages = true

/-- The invariant of the machine's data. -/
def State.Inv (s : State) : Prop := s.memWf ∧ s.tblWf

/-! ## When an access reaches its page -/

/-- A write of `data` at window offset `a`, governed by page `p`, reaches the page as state `t`: the host's write has been
mirrored where a standby takes it (R396), and the page admits the requester (R22, R32, R42, R484). -/
def State.meets (s : State) (p req a : Nat) (wide : Bool) (data : Nat) (t : State) : Prop :=
  t = s.mirror a wide data req ∧ t.admits p req = true

/-- The same of a 32-bit write and of a 64-bit write at an offset of the page itself. -/
def State.meets32 (s : State) (p req off data : Nat) (t : State) : Prop := s.meets p req (pageBase p + off) false data t
def State.meets64 (s : State) (p req off data : Nat) (t : State) : Prop := s.meets p req (pageBase p + off) true data t

/-- A read of page `p` returns its data to the requester (R22, R42, R484). -/
def State.readable (s : State) (p req : Nat) : Prop :=
  s.present p = true ∧ s.reaches req = true ∧ s.readRefused p req = false

/-- No standby takes the requester's writes (R396). -/
def State.unmirrored (s : State) (req : Nat) : Prop := req ≠ 0 ∨ s.redState ≠ 1

end Sys2Proof.Machine
end

