-- ==== Sys2Proof/WellFormed.lean ====
section
/-!
DEFINITION. Well-formed commands: every operand names something the part can have (units of R3, requesters of R41) and every
value fits its field. `exec` is total on ill-formed commands too.
-/

namespace Sys2Proof

/-- The command is well formed. -/
def Instr.wf : Instr → Bool
  | .registerWrite off size value req =>
    decide (off < 2 ^ 22) && (size == 1 || size == 2 || size == 4 || size == 8) && decide (value < 2 ^ (8 *
      size)) && decide (req < 16)
  | .ctrlEnable page req => decide (page < 225) && decide (req < 16)
  | .ctrlDisable page req => decide (page < 225) && decide (req < 16)
  | .ctrlRun page req => decide (page < 225) && decide (req < 16)
  | .ctrlStop page req => decide (page < 225) && decide (req < 16)
  | .drainComplete page => decide (page < 225)
  | .softReset page req => decide (page < 225) && decide (req < 16)
  | .freeze page _ req => decide (page < 225) && decide (req < 16)
  | .logdataPop page req => decide (page < 225) && decide (req < 16)
  | .logClr page req => decide (page < 225) && decide (req < 16)
  | .ownerLock page req => decide (page < 225) && decide (req < 16)
  | .applynow page req => decide (page < 225) && decide (req < 16)
  | .violationWindowEnd page => decide (page < 225)
  | .filteredLevelChange enc _ _ _ _ => decide (enc < 16)
  | .serialRequest enc _ => decide (enc < 16)
  | .serialWord enc position crc _ _ _ _ => decide (enc < 16) && decide (position < 2 ^ 64) && decide (crc < 65536)
  | .startBitTimeout enc => decide (enc < 16)
  | .observerUpdate dom => decide (dom < 4)
  | .coastmaxExpiry dom => decide (dom < 4)
  | .repair dom req => decide (dom < 4) && decide (req < 16)
  | .snap dom _ req => decide (dom < 4) && decide (req < 16)
  | .emuEnable ch req => decide (ch < 8) && decide (req < 16)
  | .emuStep ch => decide (ch < 8)
  | .markWrite mark off value wide req =>
    decide (mark < 2048) && decide (off < 32) && decide (value < if wide then 2 ^ 64 else 2 ^ 32) && decide (req
      < 16)
  | .markWriteEffect => true
  | .markEvaluation => true
  | .deferredFire dom => decide (dom < 4)
  | .disarm doms req => decide (doms < 16) && decide (req < 16)
  | .load slot req => decide (slot < 8) && decide (req < 16)
  | .loaddone slot => decide (slot < 8)
  | .unload slot req => decide (slot < 8) && decide (req < 16)
  | .verify slot req => decide (slot < 8) && decide (req < 16)
  | .vdone slot => decide (slot < 8)
  | .tileCheck slot verdict => decide (slot < 8) && decide (verdict < 2 ^ 30)
  | .cursorEnable bar _ req => decide (bar < 16) && decide (req < 16)
  | .laneStart stp => decide (stp < 32)
  | .lineScreened stp slot => decide (stp < 32) && decide (slot < 4)
  | .scrdataAccess stp _ value req => decide (stp < 32) && decide (value < 2 ^ 32) && decide (req < 16)
  | .handover bar => decide (bar < 16)
  | .swcmdForce req => decide (req < 16)
  | .copyForwardDone => true
  | .heldQueueDrained => true
  | .nozzleWindowWrite off value wide req =>
    decide (off < 2 ^ 20) && decide (value < if wide then 2 ^ 64 else 2 ^ 32) && decide (req < 16)
  | .curveWindowWrite off value wide req =>
    decide (off < 2 ^ 19) && decide (value < if wide then 2 ^ 64 else 2 ^ 32) && decide (req < 16)
  | .imageLoad req => decide (req < 16)
  | .imageCheckDone => true
  | .imgdone => true
  | .line bar => decide (bar < 16)
  | .fireInstant bar => decide (bar < 16)
  | .lineDeadline bar => decide (bar < 16)
  | .entryWrite bar entry _ value req =>
    decide (bar < 16) && decide (entry < 64) && decide (value < 2 ^ 32) && decide (req < 16)
  | .lineSet link => decide (link < 64)
  | .lockDone link => decide (link < 64)
  | .statIdent link boardid pver chmask intake nnozmax minper =>
    decide (link < 64) && decide (boardid < 2 ^ 32) && decide (pver < 65536) && decide (chmask < 256) && decide
      (intake < 65536) && decide (nnozmax < 65536) && decide (minper < 2 ^ 32)
  | .syncSend link => decide (link < 64)
  | .syncAnswer link _ _ _ seq => decide (link < 64) && decide (seq < 256)
  | .trntmo link => decide (link < 64)
  | .statHb link hbcnt flags rxerr latefire temps alignres =>
    decide (link < 64) && decide (hbcnt < 2 ^ 32) && decide (flags < 65536) && decide (rxerr < 65536) && decide
      (latefire < 65536) && decide (alignres < 2 ^ 32) && decide (temps.length ≤ 8)
  | .hbTimeout link => decide (link < 64)
  | .blockLockLoss link => decide (link < 64)
  | .retrain link req => decide (link < 64) && decide (req < 16)
  | .autort link => decide (link < 64)
  | .tuncmd link _ req => decide (link < 64) && decide (req < 16)
  | .ack link cmdSeq data seq =>
    decide (link < 64) && decide (cmdSeq < 256) && decide (data < 2 ^ 32) && decide (seq < 256)
  | .nak link reason cmdSeq => decide (link < 64) && decide (reason < 16) && decide (cmdSeq < 256)
  | .tuntmo link => decide (link < 64)
  | .statNchk link ch _ => decide (link < 64) && decide (ch < 8)
  | .hlkFrameError link reason type seq =>
    decide (link < 64) && decide (reason < 16) && decide (type < 256) && decide (seq < 256)
  | .camDown port lock => decide (port < 12) && decide (lock < 16)
  | .camUp port lock => decide (port < 12) && decide (lock < 16)
  | .trig port => decide (port < 12)
  | .triggerInstant port => decide (port < 12)
  | .triggerSend port => decide (port < 12)
  | .camLine port _ => decide (port < 12)
  | .triggerExpiry port => decide (port < 12)
  | .blktmo port => decide (port < 12)
  | .ftdataAccess port _ value req => decide (port < 12) && decide (value < 2 ^ 32) && decide (req < 16)
  | .expcmd port gen req => decide (port < 12) && decide (gen < 65536) && decide (req < 16)
  | .expdone port => decide (port < 12)
  | .cccmd port _ req => decide (port < 12) && decide (req < 16)
  | .ccAck port kind code data =>
    decide (port < 12) && decide (kind < 3) && decide (code < 65536) && decide (data < 2 ^ 32)
  | .cctmo port => decide (port < 12)
  | .eventPacket port _ => decide (port < 12)
  | .camHeartbeat port => decide (port < 12)
  | .malformedPacket port kind lane => decide (port < 12) && decide (kind < 3) && decide (lane < 4)
  | .homeLine cup => decide (cup < 4)
  | .furtherLine cup slot => decide (cup < 4) && (slot == 1 || slot == 2)
  | .stagingRead cup slot => decide (cup < 4) && (slot == 1 || slot == 2)
  | .fwaitExpiry cup => decide (cup < 4)
  | .stage2Entry cup => decide (cup < 4)
  | .blkdone cup => decide (cup < 4)
  | .tcdataAccess cup _ value req => decide (cup < 4) && decide (value < 2 ^ 32) && decide (req < 16)
  | .icdataAccess cup _ value req => decide (cup < 4) && decide (value < 2 ^ 32) && decide (req < 16)
  | .defLine unit => decide (unit < 4)
  | .snippetDone unit => decide (unit < 4)
  | .blkpost unit => decide (unit < 4)
  | .droppedPost unit => decide (unit < 4)
  | .clpLine cup => decide (cup < 4)
  | .win group => decide (group < 4)
  | .bankChange group => decide (group < 4)
  | .correctionRecord group => decide (group < 4)
  | .clpSwapRequest => true
  | .compress eng => decide (eng < 8)
  | .decompress eng => decide (eng < 8)
  | .abort eng => decide (eng < 8)
  | .cmpJobEnd eng => decide (eng < 8)
  | .queueEnable queue value req => decide (queue < 4096) && decide (value < 2 ^ 32) && decide (req < 16)
  | .queueDisable queue value req => decide (queue < 4096) && decide (value < 2 ^ 32) && decide (req < 16)
  | .queueBind queue value req => decide (queue < 4096) && decide (value < 2 ^ 32) && decide (req < 16)
  | .producerDoorbell queue value req _ => decide (queue < 4096) && decide (value < 2 ^ 32) && decide (req < 16)
  | .consumerDoorbell queue value req _ => decide (queue < 4096) && decide (value < 2 ^ 32) && decide (req < 16)
  | .itmoExpiry queue => decide (queue < 4096)
  | .hostCompletion tag status _ _ => decide (tag < 256) && decide (status < 8)
  | .completionTimeout tag => decide (tag < 256)
  | .malformedTlp => true
  | .deviceMemoryAccess _ addr _ _ _ => decide (addr < 2 ^ 64)
  | .flr fn => decide (fn < 2)
  | .dmaStart ch req _ => decide (ch < 16) && decide (req < 16)
  | .dmaStop ch req => decide (ch < 16) && decide (req < 16)
  | .dmaResume ch req => decide (ch < 16) && decide (req < 16)
  | .dmaTake => true
  | .descriptorDone => true
  | .sourceInput source => decide (source < 4992)
  | .claim core req => decide (core < 4) && decide (req < 16)
  | .complete core source req => decide (core < 4) && decide (source < 4992) && decide (req < 16)
  | .pclaim pin req => decide (pin < 16) && decide (req < 16)
  | .pcomplete source req => decide (source < 4992) && decide (req < 16)
  | .hcmp fn source req => decide (fn < 2) && decide (source < 4992) && decide (req < 16)
  | .swset swi req => decide (swi < 256) && decide (req < 16)
  | .latchCatch latch _ => decide (latch < 32)
  | .swfire ch arg req => decide (ch < 256) && decide (arg < 2 ^ 32) && decide (req < 16)
  | .swfireArg value req => decide (value < 2 ^ 32) && decide (req < 16)
  | .swfireCh ch req => decide (ch < 256) && decide (req < 16)
  | .eventDelivery ch => decide (ch < 256)
  | .channelWrite off value req => decide (off < 4096) && decide (value < 2 ^ 32) && decide (req < 16)
  | .channelWriteEffect => true
  | .gpioInputEdge pin _ _ => decide (pin < 64)
  | .pulseEnd pin => decide (pin < 64)
  | .gpioout value req => decide (value < 2 ^ 64) && decide (req < 16)
  | .axisStart axis _ req => decide (axis < 16) && decide (req < 16)
  | .axisStop axis _ req => decide (axis < 16) && decide (req < 16)
  | .axisAbort axis req => decide (axis < 16) && decide (req < 16)
  | .seghead axis value req => decide (axis < 16) && decide (value < 2 ^ 32) && decide (req < 16)
  | .axisCycle axis => decide (axis < 16)
  | .segmentEnd axis => decide (axis < 16)
  | .step axis => decide (axis < 16)
  | .standstill axis => decide (axis < 16)
  | .coilWakeEnd axis => decide (axis < 16)
  | .setpointFrame axis => decide (axis < 16)
  | .sdfOutput ch _ => decide (ch < 16)
  | .stuck ch _ _ => decide (ch < 16)
  | .peakRead ch _ req => decide (ch < 16) && decide (req < 16)
  | .incWrite value req => decide (value < 2 ^ 64) && decide (req < 16)
  | .ofsadj value req => decide (value < 2 ^ 64) && decide (req < 16)
  | .tset frac req => decide (frac < 2 ^ 32) && decide (req < 16)
  | .timeParametersApply => true
  | .timensCapture req => decide (req < 16)
  | .stamp => true
  | .txEntry port => decide (port < 2)
  | .txtsq1Pop port req => decide (port < 2) && decide (req < 16)
  | .rxFrame port _ => decide (port < 2)
  | .ethFrameError port kind _ => decide (port < 2) && decide (kind < 3)
  | .ethLinkDown port => decide (port < 2)
  | .ethLinkUp port => decide (port < 2)
  | .tlkLaneLockLoss _ lane => decide (lane < 4)
  | .ping _ _ src hops _ _ _ => decide (src < 16) && decide (hops < 16)
  | .ringSend => true
  | .ringFrame _ src b3 seq role rsize =>
    decide (src < 16) && decide (b3 < 64) && decide (seq < 65536) && decide (role < 4) && decide (rsize < 16)
  | .tbSend => true
  | .tbFrame _ _ _ src hops dly _ => decide (src < 16) && decide (hops < 16) && decide (dly < 2 ^ 32)
  | .tblost => true
  | .tbhalt => true
  | .rsend => true
  | .evtFrame _ _ _ src hops seq _ => decide (src < 16) && decide (hops < 16) && decide (seq < 65536)
  | .tlkTuncmd _ _ req => decide (req < 16)
  | .treq _ src dst b3 seq off _ _ data =>
    decide (src < 16) && decide (dst < 16) && decide (b3 < 64) && decide (seq < 65536) && decide (off < 2 ^ 22) &&
      decide (data < 2 ^ 64)
  | .trsp _ src dst b3 seq code data =>
    decide (src < 16) && decide (dst < 16) && decide (b3 < 64) && decide (seq < 65536) && decide (code < 256) &&
      decide (data < 2 ^ 64)
  | .tlkTuntmo => true
  | .fwdFrame _ src dst b3 _ => decide (src < 16) && decide (dst < 16) && decide (b3 < 64)
  | .fack _ src dst b3 ackseq _ => decide (src < 16) && decide (dst < 16) && decide (b3 < 64) && decide (ackseq < 2 ^ 32)
  | .fackSend worker => decide (worker < 16)
  | .fwtmo => true
  | .clpdFrame _ src dst b3 cup _ => decide (src < 16) && decide (dst < 16) && decide (b3 < 64) && decide (cup < 4)
  | .mirFrame _ src dst b3 _ => decide (src < 16) && decide (dst < 16) && decide (b3 < 64)
  | .tbLoss => true
  | .takeover req => decide (req < 16)
  | .declfail req => decide (req < 16)
  | .align req => decide (req < 16)
  | .eccWriteback part word => decide (part < 4) && decide (word < 2 ^ 25)
  | .scrub flips => decide (flips < 3)
  | .inject value req => decide (value < 2 ^ 32) && decide (req < 16)
  | .dramRequest who _ addr _ _ _ _ => decide (who < 256) && decide (addr < 2 ^ 40)
  | .dramCommand ch _ => decide (ch < 8)
  | .refresh ch bank _ => decide (ch < 8) && decide (bank < 32)
  | .rowClose ch bank => decide (ch < 8) && decide (bank < 32)
  | .dmcScrub ch _ _ => decide (ch < 8)
  | .calGo dom inst _ req => decide (dom < 7) && decide (inst < 256) && decide (req < 16)
  | .calDrift dom inst width => decide (dom < 5) && decide (inst < 256) && decide (width < 256)
  | .calEnd dom width _ => decide (dom < 7) && decide (width < 256)
  | .recalStart => true
  | .gapwaitExpiry => true
  | .dramRetrain => true
  | .monitorRead kind idx value => decide (kind < 5) && decide (idx < 256) && decide (value < 2 ^ 32)
  | .planInterval => true
  | .plan req => decide (req < 16)
  | .planStep => true
  | .pmbusTransaction cmd outcome value => decide (cmd < 256) && decide (outcome < 3) && decide (value < 65536)
  | .busStuck => true
  | .objectVerify src _ _ => decide (src < 3)
  | .dqsTimeout kind => decide (kind < 2)
  | .bldctlStart req => decide (req < 16)
  | .blddata value req => decide (value < 2 ^ 32) && decide (req < 16)
  | .bldlen value req => decide (value < 2 ^ 32) && decide (req < 16)
  | .attready => true
  | .attest => true
  | .loadkey => true
  | .clearkey => true
  | .getpub => true
  | .commit => true
  | .provision => true
  | .enroll => true
  | .revoke => true
  | .toprod => true
  | .torma => true
  | .rootrev => true
  | .relock value req => decide (value < 2 ^ 32) && decide (req < 16)
  | .tkctlStart req => decide (req < 16)
  | .tkdata value req => decide (value < 2 ^ 32) && decide (req < 16)
  | .tklen value req => decide (value < 2 ^ 32) && decide (req < 16)
  | .token => true
  | .idcode => true
  | .bypass => true
  | .extest _ => true
  | .samplePreload _ _ => true
  | .highz => true
  | .clamp => true
  | .dmi op addr data => decide (op < 4) && decide (addr < 4096) && decide (data < 2 ^ 32)
  | .wakeInstruction _ => true
  | .haltreq core req => decide (core < 4) && decide (req < 16)
  | .resumereq core req => decide (core < 4) && decide (req < 16)
  | .regselGo core value req => decide (core < 4) && decide (value < 2 ^ 32) && decide (req < 16)
  | .breakpoint core addr => decide (core < 4) && decide (addr < 2 ^ 64)
  | .watchpoint core addr _ _ => decide (core < 4) && decide (addr < 2 ^ 64)
  | .halt => true
  | .resume => true
  | .frzcmdFreeze req => decide (req < 16)
  | .frzcmdRelease req => decide (req < 16)
  | .sbaddrWrite value req => decide (value < 2 ^ 32) && decide (req < 16)
  | .sbdataWrite value req => decide (value < 2 ^ 32) && decide (req < 16)
  | .sbdataRead req => decide (req < 16)
  | .reqIdle req => decide (req < 16)
  | .reqHold req => decide (req < 16)
  | .reqSleep req => decide (req < 16)
  | .reqOff req => decide (req < 16)
  | .reqRun req => decide (req < 16)
  | .powerEntryDone => true
  | .wake => true
  | .hostWake => true
  | .aonTimer _ => true
  | .wakeComplete _ => true
  | .por bootsel => decide (bootsel < 16)
  | .pinReset => true
  | .swReset value req => decide (value < 2 ^ 32) && decide (req < 16)
  | .coreReset value req => decide (value < 2 ^ 32) && decide (req < 16)
  | .clkLoss _ _ => true
  | .perst => true
  | .watchdogExpiry => true
  | .wdkick value req => decide (value < 2 ^ 32) && decide (req < 16)
  | .outctlRel value req => decide (value < 2 ^ 32) && decide (req < 16)
  | .winopen => true
  | .dramTraining ch width _ => decide (ch < 8) && decide (width < 256)
  | .pcieLinkUp speed width => decide (speed < 8) && decide (width < 33)
  | .pcieLinkDown => true
  | .pcieConfigRequest fn kind vec value data =>
    decide (fn < 2) && decide (kind < 16) && decide (vec < 2048) && decide (value < 2 ^ 64) && decide (data < 2 ^
      32)
  | .asyncChannelEdge ch pin _ => decide (248 ≤ ch) && decide (ch < 256) && decide (pin < 64)
  | .tolturFrameError _ _ => true
  | .tolturLockDone _ => true
  | .hlkAlignRate link rate => decide (link < 64) && decide (rate < 65536)
  | .derateChange ch rate => decide (ch < 8) && decide (rate < 4)
  | .trigPulseEnd port => decide (port < 12)
  | .tapReset => true

/-- The requester of R41 that makes the access, for a command that is one. -/
def Instr.req? : Instr → Option Nat
  | .registerWrite _ _ _ req => some req
  | .ctrlEnable _ req => some req
  | .ctrlDisable _ req => some req
  | .ctrlRun _ req => some req
  | .ctrlStop _ req => some req
  | .drainComplete _ => none
  | .softReset _ req => some req
  | .freeze _ _ req => some req
  | .logdataPop _ req => some req
  | .logClr _ req => some req
  | .ownerLock _ req => some req
  | .applynow _ req => some req
  | .violationWindowEnd _ => none
  | .filteredLevelChange _ _ _ _ _ => none
  | .serialRequest _ _ => none
  | .serialWord _ _ _ _ _ _ _ => none
  | .startBitTimeout _ => none
  | .observerUpdate _ => none
  | .coastmaxExpiry _ => none
  | .repair _ req => some req
  | .snap _ _ req => some req
  | .emuEnable _ req => some req
  | .emuStep _ => none
  | .markWrite _ _ _ _ req => some req
  | .markWriteEffect => none
  | .markEvaluation => none
  | .deferredFire _ => none
  | .disarm _ req => some req
  | .load _ req => some req
  | .loaddone _ => none
  | .unload _ req => some req
  | .verify _ req => some req
  | .vdone _ => none
  | .tileCheck _ _ => none
  | .cursorEnable _ _ req => some req
  | .laneStart _ => none
  | .lineScreened _ _ => none
  | .scrdataAccess _ _ _ req => some req
  | .handover _ => none
  | .swcmdForce req => some req
  | .copyForwardDone => none
  | .heldQueueDrained => none
  | .nozzleWindowWrite _ _ _ req => some req
  | .curveWindowWrite _ _ _ req => some req
  | .imageLoad req => some req
  | .imageCheckDone => none
  | .imgdone => none
  | .line _ => none
  | .fireInstant _ => none
  | .lineDeadline _ => none
  | .entryWrite _ _ _ _ req => some req
  | .lineSet _ => none
  | .lockDone _ => none
  | .statIdent _ _ _ _ _ _ _ => none
  | .syncSend _ => none
  | .syncAnswer _ _ _ _ _ => none
  | .trntmo _ => none
  | .statHb _ _ _ _ _ _ _ => none
  | .hbTimeout _ => none
  | .blockLockLoss _ => none
  | .retrain _ req => some req
  | .autort _ => none
  | .tuncmd _ _ req => some req
  | .ack _ _ _ _ => none
  | .nak _ _ _ => none
  | .tuntmo _ => none
  | .statNchk _ _ _ => none
  | .hlkFrameError _ _ _ _ => none
  | .camDown _ _ => none
  | .camUp _ _ => none
  | .trig _ => none
  | .triggerInstant _ => none
  | .triggerSend _ => none
  | .camLine _ _ => none
  | .triggerExpiry _ => none
  | .blktmo _ => none
  | .ftdataAccess _ _ _ req => some req
  | .expcmd _ _ req => some req
  | .expdone _ => none
  | .cccmd _ _ req => some req
  | .ccAck _ _ _ _ => none
  | .cctmo _ => none
  | .eventPacket _ _ => none
  | .camHeartbeat _ => none
  | .malformedPacket _ _ _ => none
  | .homeLine _ => none
  | .furtherLine _ _ => none
  | .stagingRead _ _ => none
  | .fwaitExpiry _ => none
  | .stage2Entry _ => none
  | .blkdone _ => none
  | .tcdataAccess _ _ _ req => some req
  | .icdataAccess _ _ _ req => some req
  | .defLine _ => none
  | .snippetDone _ => none
  | .blkpost _ => none
  | .droppedPost _ => none
  | .clpLine _ => none
  | .win _ => none
  | .bankChange _ => none
  | .correctionRecord _ => none
  | .clpSwapRequest => none
  | .compress _ => none
  | .decompress _ => none
  | .abort _ => none
  | .cmpJobEnd _ => none
  | .queueEnable _ _ req => some req
  | .queueDisable _ _ req => some req
  | .queueBind _ _ req => some req
  | .producerDoorbell _ _ req _ => some req
  | .consumerDoorbell _ _ req _ => some req
  | .itmoExpiry _ => none
  | .hostCompletion _ _ _ _ => none
  | .completionTimeout _ => none
  | .malformedTlp => none
  | .deviceMemoryAccess _ _ _ _ _ => none
  | .flr _ => none
  | .dmaStart _ req _ => some req
  | .dmaStop _ req => some req
  | .dmaResume _ req => some req
  | .dmaTake => none
  | .descriptorDone => none
  | .sourceInput _ => none
  | .claim _ req => some req
  | .complete _ _ req => some req
  | .pclaim _ req => some req
  | .pcomplete _ req => some req
  | .hcmp _ _ req => some req
  | .swset _ req => some req
  | .latchCatch _ _ => none
  | .swfire _ _ req => some req
  | .swfireArg _ req => some req
  | .swfireCh _ req => some req
  | .eventDelivery _ => none
  | .channelWrite _ _ req => some req
  | .channelWriteEffect => none
  | .gpioInputEdge _ _ _ => none
  | .pulseEnd _ => none
  | .gpioout _ req => some req
  | .axisStart _ _ req => some req
  | .axisStop _ _ req => some req
  | .axisAbort _ req => some req
  | .seghead _ _ req => some req
  | .axisCycle _ => none
  | .segmentEnd _ => none
  | .step _ => none
  | .standstill _ => none
  | .coilWakeEnd _ => none
  | .setpointFrame _ => none
  | .sdfOutput _ _ => none
  | .stuck _ _ _ => none
  | .peakRead _ _ req => some req
  | .incWrite _ req => some req
  | .ofsadj _ req => some req
  | .tset _ req => some req
  | .timeParametersApply => none
  | .timensCapture req => some req
  | .stamp => none
  | .txEntry _ => none
  | .txtsq1Pop _ req => some req
  | .rxFrame _ _ => none
  | .ethFrameError _ _ _ => none
  | .ethLinkDown _ => none
  | .ethLinkUp _ => none
  | .tlkLaneLockLoss _ _ => none
  | .ping _ _ _ _ _ _ _ => none
  | .ringSend => none
  | .ringFrame _ _ _ _ _ _ => none
  | .tbSend => none
  | .tbFrame _ _ _ _ _ _ _ => none
  | .tblost => none
  | .tbhalt => none
  | .rsend => none
  | .evtFrame _ _ _ _ _ _ _ => none
  | .tlkTuncmd _ _ req => some req
  | .treq _ _ _ _ _ _ _ _ _ => none
  | .trsp _ _ _ _ _ _ _ => none
  | .tlkTuntmo => none
  | .fwdFrame _ _ _ _ _ => none
  | .fack _ _ _ _ _ _ => none
  | .fackSend _ => none
  | .fwtmo => none
  | .clpdFrame _ _ _ _ _ _ => none
  | .mirFrame _ _ _ _ _ => none
  | .tbLoss => none
  | .takeover req => some req
  | .declfail req => some req
  | .align req => some req
  | .eccWriteback _ _ => none
  | .scrub _ => none
  | .inject _ req => some req
  | .dramRequest _ _ _ _ _ _ _ => none
  | .dramCommand _ _ => none
  | .refresh _ _ _ => none
  | .rowClose _ _ => none
  | .dmcScrub _ _ _ => none
  | .calGo _ _ _ req => some req
  | .calDrift _ _ _ => none
  | .calEnd _ _ _ => none
  | .recalStart => none
  | .gapwaitExpiry => none
  | .dramRetrain => none
  | .monitorRead _ _ _ => none
  | .planInterval => none
  | .plan req => some req
  | .planStep => none
  | .pmbusTransaction _ _ _ => none
  | .busStuck => none
  | .objectVerify _ _ _ => none
  | .dqsTimeout _ => none
  | .bldctlStart req => some req
  | .blddata _ req => some req
  | .bldlen _ req => some req
  | .attready => none
  | .attest => none
  | .loadkey => none
  | .clearkey => none
  | .getpub => none
  | .commit => none
  | .provision => none
  | .enroll => none
  | .revoke => none
  | .toprod => none
  | .torma => none
  | .rootrev => none
  | .relock _ req => some req
  | .tkctlStart req => some req
  | .tkdata _ req => some req
  | .tklen _ req => some req
  | .token => none
  | .idcode => none
  | .bypass => none
  | .extest _ => none
  | .samplePreload _ _ => none
  | .highz => none
  | .clamp => none
  | .dmi _ _ _ => none
  | .wakeInstruction _ => none
  | .haltreq _ req => some req
  | .resumereq _ req => some req
  | .regselGo _ _ req => some req
  | .breakpoint _ _ => none
  | .watchpoint _ _ _ _ => none
  | .halt => none
  | .resume => none
  | .frzcmdFreeze req => some req
  | .frzcmdRelease req => some req
  | .sbaddrWrite _ req => some req
  | .sbdataWrite _ req => some req
  | .sbdataRead req => some req
  | .reqIdle req => some req
  | .reqHold req => some req
  | .reqSleep req => some req
  | .reqOff req => some req
  | .reqRun req => some req
  | .powerEntryDone => none
  | .wake => none
  | .hostWake => none
  | .aonTimer _ => none
  | .wakeComplete _ => none
  | .por _ => none
  | .pinReset => none
  | .swReset _ req => some req
  | .coreReset _ req => some req
  | .clkLoss _ _ => none
  | .perst => none
  | .watchdogExpiry => none
  | .wdkick _ req => some req
  | .outctlRel _ req => some req
  | .winopen => none
  | .dramTraining _ _ _ => none
  | .pcieLinkUp _ _ => none
  | .pcieLinkDown => none
  | .pcieConfigRequest _ _ _ _ _ => none
  | .asyncChannelEdge _ _ _ => none
  | .tolturFrameError _ _ => none
  | .tolturLockDone _ => none
  | .hlkAlignRate _ _ => none
  | .derateChange _ _ => none
  | .trigPulseEnd _ => none
  | .tapReset => none

end Sys2Proof
end

