-- ==== Sys2Proof/Certificates/Slice0/Obligations.lean ====
section
/-!
DEFINITION. The statements about the block, for the provers. A write command is stated from the state `t` in which its page
takes it (`State.meets32` and its companions in Safety.lean): the host's write mirrored where a standby takes it, the
requester admitted. The statements named `…Complete` say for every command of a family where its own effect happens and
give the whole next state, so that what the command leaves unchanged is stated with it.
-/

section
open Sys2Proof Sys2Proof.Machine

/-! ## The machine as a whole -/

/-- One step takes the command at the front of the queue and runs it on the state with the queue's rest (the block's own
rule; log entry 1). -/
def Obligations.StepRunsTheFrontCommand : Prop :=
  ∀ (c : Instr) (rest : List Instr) (s : State), s.pending = c :: rest → step s = exec c { s with pending := rest }

/-- With nothing waiting a step lets one POSCLK cycle pass while the clocks run, and nothing else (the model's choice, log
entry 2; R474, R483 for the count N). -/
def Obligations.IdleStepCountsOneCycle : Prop :=
  ∀ s : State, s.pending = [] →
    (s.clocked = true → step s = .next { s with cycle := s.cycle + 1 }) ∧ (s.clocked = false → step s = .next s)

/-- The state after reset holds the invariant of the machine's data. -/
def Obligations.ResetHoldsInvariant : Prop := State.reset.Inv

/-- Whatever command runs, on whatever state, the canonical forms are kept: every register word and every page header has
one home, and DRAM and the host memories list no byte at its default. -/
def Obligations.EveryStepKeepsInvariant : Prop := ∀ s s' : State, s.Inv → step s = .next s' → s'.Inv

/-- Commands run first in, first out: a step removes the front command and adds none; and no command changes which part the
device is (R3). -/
def Obligations.StepTakesTheFrontCommandAndKeepsThePart : Prop :=
  ∀ s s' : State, step s = .next s' → s'.pending = s.pending.tail ∧ s'.variant = s.variant

/-- What the register tables give for reset, one register of each kind of block. -/
def Obligations.ResetRegistersHoldTheirTableValues : Prop :=
  (∀ p, (State.reset.page p).en = decide (p = pgKEEP) ∧ (State.reset.page p).run = decide (p = pgKEEP) ∧
    (State.reset.page p).log = [] ∧ (State.reset.page p).gen = 0) ∧
  State.reset.rg pgRSTC Reg.RSTC.CAUSE = 1 ∧ State.reset.rg pgRSTC Reg.RSTC.WDTO = 0xF424 ∧
  State.reset.rg pgPWRC Reg.PWRC.WAKEEN = 0xE ∧ State.reset.rg pgDBGC Reg.DBGC.SBCS = 2 ∧
  State.reset.rg pgCLKC Reg.CLKC.PXCLK = 0x03E80004 ∧ State.reset.rg64 pgPWRC Reg.PWRC.RESUMEVEC = 0 ∧
  State.reset.cycle = 0 ∧ State.reset.pending = [] ∧ State.reset.dram = [] ∧ State.reset.queues = [] ∧
  State.reset.windowOpen 0 = false ∧ State.reset.windowOpen 6 = true

/-- R28: only the KEEP and DBGC pages come out of reset with an OWNER other than 0x0000_000F, and the values are the ones
of their chapters: 0x8000_000F (R439) and 0x0000_0007. -/
def Obligations.OwnerResetValues : Prop :=
  State.reset.headRead pgKEEP 0x20 = 0x8000000F ∧ State.reset.headRead pgDBGC 0x20 = 0x00000007 ∧
  ∀ p < 225, p ≠ pgKEEP → p ≠ pgDBGC → State.reset.headRead p 0x20 = 0x0000000F

/-! ## Register fabric -/

/-- CTRL_ENABLE, CTRL_DISABLE, CTRL_RUN, CTRL_STOP, SOFT_RESET and FREEZE write the page's CTRL word with one bit set
or cleared (R27, R30, R32). Where the spec is open it rests on the readings of log entry 11. -/
def Obligations.PageControlWritesComplete : Prop :=
  (∀ (s t : State) (p req : Nat), s.meets32 p req 8 (s.ctrlWord p 1 0) t →
    exec (.ctrlEnable p req) s = .next (t.ctrlWrite p (s.headRead p 8 ||| 1))) ∧
  (∀ (s t : State) (p req : Nat), s.meets32 p req 8 (s.ctrlWord p 0 1) t →
    exec (.ctrlDisable p req) s = .next (t.ctrlWrite p (s.headRead p 8 &&& 0xFFFFFFFE))) ∧
  (∀ (s t : State) (p req : Nat), s.meets32 p req 8 (s.ctrlWord p 2 0) t →
    exec (.ctrlRun p req) s = .next (t.ctrlWrite p (s.headRead p 8 ||| 2))) ∧
  (∀ (s t : State) (p req : Nat), s.meets32 p req 8 (s.ctrlWord p 0 2) t →
    exec (.ctrlStop p req) s = .next (t.ctrlWrite p (s.headRead p 8 &&& 0xFFFFFFFD))) ∧
  (∀ (s t : State) (p req : Nat), s.meets32 p req 8 (s.ctrlWord p 4 0) t →
    exec (.softReset p req) s = .next ((t.setFreeze p ((s.page p).freeze && s.freezeHonoured p)).softReset p)) ∧
  (∀ (s t : State) (p req : Nat), s.meets32 p req 8 (s.ctrlWord p 8 0) t →
    exec (.freeze p true req) s = .next ((t.setFreeze p true).setRunEn p (s.page p).en (s.page p).run)) ∧
  (∀ (s t : State) (p req : Nat), s.meets32 p req 8 (s.ctrlWord p 0 8) t →
    exec (.freeze p false req) s = .next ((t.setFreeze p false).setRunEn p (s.page p).en (s.page p).run))

/-- Pages whose STATE changes with CTRL alone: no link, no training, no start check of their own. -/
def plainPages : List Nat := [pgCALC, pgEMU, pgNCT, pgFIRE, pgHQF, pgEVF, pgPTP, pgSRAM]

/-- The transitions of R30 that CTRL causes, on the pages without start-up work of their own: OFF to IDLE, IDLE to RUN, RUN
to DRAIN, any STATE to OFF; no other page's header changes. -/
def Obligations.ControlMovesTheStateOfPlainPages : Prop :=
  ∀ (s : State) (p req : Nat), p ∈ plainPages → s.admits p req = true → s.unmirrored req →
    ((s.page p).state = .off → (s.page p).run = false → ∃ u, exec (.ctrlEnable p req) s = .next u ∧
      (u.page p).state = .idle ∧ (u.page p).en = true ∧ ∀ q, q ≠ p → u.page q = s.page q) ∧
    ((s.page p).state = .idle → (s.page p).en = true → ∃ u, exec (.ctrlRun p req) s = .next u ∧
      (u.page p).state = .run ∧ (u.page p).run = true ∧ ∀ q, q ≠ p → u.page q = s.page q) ∧
    ((s.page p).state = .run → (s.page p).en = true → ∃ u, exec (.ctrlStop p req) s = .next u ∧
      (u.page p).state = .drain ∧ (u.page p).run = false ∧ ∀ q, q ≠ p → u.page q = s.page q) ∧
    (∃ u, exec (.ctrlDisable p req) s = .next u ∧
      (u.page p).state = .off ∧ (u.page p).en = false ∧ ∀ q, q ≠ p → u.page q = s.page q)

/-- DRAIN_COMPLETE, LOGDATA_POP, LOG_CLR, OWNER_LOCK, APPLYNOW and VIOLATION_WINDOW_END (R30, R34, R39, R43, R45).
Where the spec is open it rests on the readings of log entry 11. -/
def Obligations.PageHeaderCommandsComplete : Prop :=
  (∀ (s : State) (p : Nat), (s.page p).state = .drain → s.pageDrained p = true → (s.page p).run = false →
    exec (.drainComplete p) s = .next (s.enterIdle p)) ∧
  (∀ (s : State) (p : Nat), (s.page p).state = .drain → s.pageDrained p = true → (s.page p).run = true →
    exec (.drainComplete p) s = .next ((s.enterIdle p).enterRun p)) ∧
  (∀ (s : State) (p req : Nat) (e : LogEntry) (es : List LogEntry), s.readable p req → (s.page p).log = e :: es →
    exec (.logdataPop p req) s = .next { s.setPage p { s.page p with log := es } with
      readData := e.code * 2 ^ 52 + e.time * 2 ^ 20 + e.ctx }) ∧
  (∀ (s : State) (p req : Nat), s.readable p req → (s.page p).log = [] →
    exec (.logdataPop p req) s = .next { s.setPage p (s.page p) with readData := 0 }) ∧
  (∀ (s t : State) (p req : Nat), s.meets32 p req 0x24 (0x200 + 0x100 * b2n (s.page p).logMode) t →
    exec (.logClr p req) s = .next (t.setPage p { t.page p with log := [], lost := 0 })) ∧
  (∀ (s t : State) (p req : Nat), s.meets32 p req 0x20 (s.headRead p 0x20 ||| 2 ^ 31) t → (t.page p).lock = false →
    exec (.ownerLock p req) s = .next (t.setPage p { t.page p with
      own := (s.page p).own % 16
      sec := bit (s.headRead p 0x20) 8
      lock := true })) ∧
  (∀ (s t : State) (p req : Nat), s.meets32 p req 0x30 ((s.headRead p 0x30 &&& 0xFFFF) ||| 2 ^ 16) t →
    exec (.applynow p req) s = .next (t.applyPage p true)) ∧
  (∀ (s : State) (p : Nat), p ≠ pgTLK → (s.page p).violStart + s.violWindow p ≤ s.cycle →
    exec (.violationWindowEnd p) s = .next (s.setPage p { s.page p with viol := 0, violStart := s.cycle })) ∧
  (∀ s : State, (s.page pgTLK).violStart + s.violWindow pgTLK ≤ s.cycle →
    exec (.violationWindowEnd pgTLK) s =
      .next (s.setPage pgTLK { s.page pgTLK with viol := 0, violStart := s.cycle }).tlkWindow)

/-- REGISTER_WRITE of a word no block treats by a rule of its own: each field by its change class (R8). Where the spec
is open it rests on the readings of log entry 11. -/
def Obligations.RegisterWriteComplete : Prop :=
  ∀ (s t : State) (p off v req : Nat), off < 0x200000 → off % 4 = 0 → pageAt off = some p → 0x100 ≤ off % 4096 →
    off % 4096 < 0x800 → s.meets p req off false v t → t.ruleWrite p (off % 4096) (v % 2 ^ 32) req = none →
    sbOffset off = none →
    exec (.registerWrite off 4 v req) s = .next (t.writeWord p (off % 4096) (v % 2 ^ 32))

/-- The classes of R8 in one word write: an L word takes the written bits at once; a B word keeps its value in force and the
page shows PEND; an S word is refused with CFGRUN while CTRL.RUN = 1. -/
def Obligations.ChangeClassesGovernAWord : Prop :=
  ∀ (s : State) (p o v : Nat), s.Inv → v < 2 ^ 32 →
    (classMask p o (·.s) = 0 → classMask p o (·.b) = 0 → classMask p o (·.l) ≠ 0 →
      (s.writeWord p o v).rg p o = mix (s.rg p o) v (classMask p o (·.l)) % 2 ^ 32) ∧
    (classMask p o (·.s) = 0 → classMask p o (·.l) = 0 → (s.writeWord p o v).rg p o = s.rg p o) ∧
    (classMask p o (·.s) = 0 → classMask p o (·.l) = 0 → classMask p o (·.b) ≠ 0 →
      v &&& classMask p o (·.b) ≠ s.normal p o &&& classMask p o (·.b) → ((s.writeWord p o v).page p).pend = true) ∧
    (classMask p o (·.b) = 0 → classMask p o (·.l) = 0 → classMask p o (·.s) ≠ 0 →
      v &&& classMask p o (·.s) ≠ s.normal p o &&& classMask p o (·.s) → (s.page p).run = true →
      s.writeWord p o v = s.err p 31 0x001 o)

/-- R31: an S write that arrives in DRAIN (CTRL.RUN = 0) is stored: the value in force stays until the page enters IDLE,
where it takes effect. -/
def Obligations.DrainStoresSWritesUntilIdle : Prop :=
  ∀ (s : State) (p o v : Nat), s.Inv → v < 2 ^ 32 → o < 4096 → (s.page p).state = .drain → (s.page p).run = false →
    s.stored.filter (fun e => e.1 / 4096 == p) = [] →
    classMask p o (·.b) = 0 → classMask p o (·.l) = 0 → classMask p o (·.s) ≠ 0 →
    v &&& classMask p o (·.s) ≠ s.normal p o &&& classMask p o (·.s) →
    (s.writeWord p o v).rg p o = s.rg p o ∧
    ((s.writeWord p o v).commitStored p).rg p o = mix (s.rg p o) v (classMask p o (·.s)) % 2 ^ 32

/-- R22: an offset of the page range that no present page occupies ignores writes and reads 0; the access raises no error
and counts nowhere. -/
def Obligations.AbsentPagesReadZeroAndIgnoreWrites : Prop :=
  ∀ (s : State) (off size v req : Nat), off < 0x200000 → (∀ p, pageAt off = some p → s.present p = false) →
    s.regWrite off size v req = s ∧ s.regRead off size req = { s with readData := 0 }

/-- An access of unsupported width or alignment to a present page (part of R21): a write changes nothing but the page's error
state, a read returns 0, and both log ACCESS with the offset. -/
def Obligations.UnsupportedAccessesAreLogged : Prop :=
  ∀ (s : State) (p off size v req : Nat), pageAt off = some p → off < 0x200000 → accessOk off size = false →
    s.present p = true → s.reaches req = true →
    s.regWrite off size v req =
      s.setPage p (((s.page p).setErr 30).countErr.push ⟨0x002, s.cycle % 2 ^ 32, off % 4096⟩) ∧
    s.regRead off size req = { s with readData := 0 }.setPage p
      (((s.page p).setErr 30).countErr.push ⟨0x002, s.cycle % 2 ^ 32, off % 4096⟩)

/-- R42: with SEC = 1 a non-secure requester reads 0 everywhere in the page and nothing changes; a write by a requester that
OWN or SEC excludes changes only the page's error state: ERR.OWNER, one more error event and the entry OWNER. -/
def Obligations.OwnerAndSecGuardThePage : Prop :=
  (∀ (s : State) (p off size req : Nat), pageAt off = some p → off < 0x200000 → accessOk off size = true →
    s.present p = true → s.reaches req = true → (s.page p).sec = true → s.secure req = false →
    s.regRead off size req = { s with readData := 0 }) ∧
  (∀ (s : State) (p off size v req : Nat), pageAt off = some p → off < 0x200000 → accessOk off size = true →
    s.present p = true → s.reaches req = true →
    ((s.page p).sec = true ∧ s.secure req = false ∨ (s.page p).own ≠ 0xF ∧ (s.page p).own ≠ req ∧ req ≠ 6) →
    s.regWrite off size v req =
      s.setPage p (((s.page p).setErr 29).countErr.push ⟨0x003, s.cycle % 2 ^ 32, req % 2 ^ 20⟩)) ∧
  (∀ (s : State) (p req : Nat), (s.page p).sec = false → s.readRefused p req = false ∧
    ((s.page p).own = 0xF ∨ (s.page p).own = req ∨ req = 6 → s.ownerRefuses p req = false))

/-- R25: bit b of CHIP.PRESENTk (64 bits at 0x140 + 8 k, read only) is 1 exactly when the page with PRESENT index 64 × k + b
is present on the part; indices 225 to 255 read 0. -/
def Obligations.PresentRegistersNameThePages : Prop :=
  ∀ s : State, (∀ k < 4, ∀ b < 64, ∃ lo hi, s.chipRead (0x140 + 8 * k) = some lo ∧ s.chipRead (0x144 + 8 * k) = some hi ∧
      bit (lo + 2 ^ 32 * hi) b = unitPresent s.variant (64 * k + b)) ∧
    (∀ i, 225 ≤ i → i < 256 → unitPresent s.variant i = false) ∧
    ∀ k < 8, ∀ v req, s.wordWrite 0 (0x140 + 4 * k) v req = s

/-- R29, R38, R39: an error event sets its bit, ERRANY only when the bit was 0, counts, and logs code, time and context; a
full log with MODE = 0 keeps its 16 entries and counts the loss. -/
def Obligations.ErrorEventsAreLogged : Prop :=
  ∀ (s : State) (p b code ctx : Nat), b < 32 →
    let g := s.page p
    let g' := (s.err p b code ctx).page p
    bit g'.err b = true ∧ g'.errcnt = satAdd 32 g.errcnt 1 ∧
    (bit g.err b = false → bit g'.ist 31 = true) ∧ (bit g.err b = true → g'.ist = g.ist) ∧
    (g.log.length < 16 → g'.log = g.log ++ [⟨code, s.cycle % 2 ^ 32, ctx % 2 ^ 20⟩] ∧ g'.lost = g.lost) ∧
    (16 ≤ g.log.length → g.logMode = false → g'.log = g.log ∧ g'.lost = satAdd 16 g.lost 1) ∧
    (16 ≤ g.log.length → g.logMode = true →
      g'.log = g.log.drop 1 ++ [⟨code, s.cycle % 2 ^ 32, ctx % 2 ^ 20⟩] ∧ g'.lost = satAdd 16 g.lost 1) ∧
    ∀ q, q ≠ p → (s.err p b code ctx).page q = s.page q

/-! ## Web position and marks -/

/-- FILTERED_LEVEL_CHANGE, SERIAL_REQUEST, SERIAL_WORD and START_BIT_TIMEOUT (R47, R48, R54 to R56). Where the spec is
open it rests on the readings of log entry 19. -/
def Obligations.EncoderCommandsComplete : Prop :=
  (∀ (s : State) (n held : Nat) (a b z : Bool), n < 16 → s.running (pgENC n) = true → (s.page (pgENC n)).en = true →
    (s.encOf n).sampling = true → s.fl (pgENC n) Reg.ENC.CFG 7 4 < held → s.encMode n = 0 →
    exec (.filteredLevelChange n a b z held) s = .next
      ((s.setFl (pgENC n) Reg.ENC.INSTAT 2 0 (b2n a + 2 * b2n b + 4 * b2n z)).encDecode n
        (s.fb (pgENC n) Reg.ENC.INSTAT 0) (s.fb (pgENC n) Reg.ENC.INSTAT 1) (s.fb (pgENC n) Reg.ENC.INSTAT 2) a b z)) ∧
  (∀ (s t : State) (n : Nat), s.unitRuns .enc n = true → s.encMode n ≠ 0 →
    (s.encOf n).lastReq + s.fl (pgENC n) Reg.ENC.SERPER 19 0 ≤ s.cycle →
    t = s.setEnc n { s.encOf n with lastReq := s.cycle } → ∀ low,
    (t.encBusy n = false → ¬ (t.encMode n = 1 ∧ low = true) → exec (.serialRequest n low) s = .next
      (((t.setEnc n { t.encOf n with
        reqLatch := t.cycle
        endAt := none }).setFl (pgENC n) Reg.ENC.INSTAT 3 3 1).emit
          (.frame (pgENC n) (t.encMode n) (if t.encMode n = 2 then [0] else []) []))) ∧
    (t.encBusy n = true → exec (.serialRequest n low) s = .next (t.sat (pgENC n) Reg.ENC.SKIPCNT 1)) ∧
    (t.encBusy n = false → t.encMode n = 1 → low = true → exec (.serialRequest n low) s = .next
      ((t.setFl (pgENC n) Reg.ENC.INSTAT 3 3 0).encWordError n 4 0x106 0 t.cycle))) ∧
  (∀ (s t : State) (n pos crc delay w : Nat) (nE nW par : Bool), s.unitRuns .enc n = true → s.encAwaits n = true →
    w = pos % 2 ^ s.encBits n → t = (s.encEnds n).setRg64 (pgENC n) Reg.ENC.LASTWORD w → t.encMode n ≠ 2 →
    (t.fl (pgENC n) Reg.ENC.CFG 13 12 = 1 → oddOnes (s.encBits n) w = par) →
    (t.fl (pgENC n) Reg.ENC.CFG 13 12 = 2 → oddOnes (s.encBits n) w ≠ par) →
    exec (.serialWord n pos crc nE nW par delay) s = .next
      (t.encAccept n (if t.fb (pgENC n) Reg.ENC.CFG 11 then grayGo (s.encBits n) w 0 else w) false)) ∧
  (∀ (s t u : State) (n pos crc delay w : Nat) (nE nW par : Bool), s.unitRuns .enc n = true → s.encAwaits n = true →
    w = pos % 2 ^ s.encBits n → u = (s.encEnds n).setRg64 (pgENC n) Reg.ENC.LASTWORD w → u.encMode n = 2 →
    t = u.setRg (pgENC n) Reg.ENC.DELAY delay →
    (t.fl (pgENC n) Reg.ENC.SERCFG 11 8 ≠ 0 → crc = t.encCrc n w nE nW) →
    (t.fb (pgENC n) Reg.ENC.SERCFG 24 = true → nE = true) →
    exec (.serialWord n pos crc nE nW par delay) s = .next
      (t.encAccept n w (t.fb (pgENC n) Reg.ENC.SERCFG 25 && !nW))) ∧
  (∀ (s : State) (n : Nat), s.unitRuns .enc n = true → s.encMode n = 2 → s.encAwaits n = true →
    (s.encOf n).reqLatch + s.fl (pgENC n) Reg.ENC.SWTMO 15 0 ≤ s.cycle →
    exec (.startBitTimeout n) s = .next (((s.encEnds n).encWordError n 3 0x105 0 (s.encOf n).reqLatch).pin (pgENC n) 0 1))

/-- R66: an emulated encoder whose target runs away from its emitted count by more than LAGMAX sets the count to the target
without edges, counts the overrun, sets ERR.OVERRUN (bit 0) and logs 0x140 with the channel number. -/
def Obligations.EmulatorOverrunSetsTheCount : Prop :=
  ∀ (s : State) (ch : Nat), s.Inv → ch < 8 → s.running pgEMU = true → s.fb pgEMU (Reg.EMU.chCFG ch) 0 = true →
    s.fl pgEMU (Reg.EMU.chLAGMAX ch) 7 0 < (s.emuTarget ch - sgn 32 (s.rg pgEMU (Reg.EMU.chOUTCNT ch))).natAbs →
    ∃ u, exec (.emuStep ch) s = .next u ∧
      u.rg pgEMU (Reg.EMU.chOUTCNT ch) = enc2 32 (s.emuTarget ch) % 2 ^ 32 ∧
      u.rg pgEMU (Reg.EMU.chOVRCNT ch) = satAdd 32 (s.rg pgEMU (Reg.EMU.chOVRCNT ch)) 1 ∧
      bit (u.page pgEMU).err 0 = true ∧
      u.page pgEMU = ((s.page pgEMU).setErr 0).countErr.push ⟨0x140, s.cycle % 2 ^ 32, ch⟩ ∧ u.emu = s.emu

/-- OBSERVER_UPDATE in its three modes, COASTMAX_EXPIRY, REPAIR, SNAP, EMU_ENABLE and EMU_STEP (R60, R62, R63, R65,
R66, R68). Where the spec is open it rests on the readings of log entries 20 and 21. -/
def Obligations.ObserverAndEmulatorCommandsComplete : Prop :=
  (∀ (s : State) (d : Nat) (pr ps : Int), s.unitRuns .obs d = true → s.obsMode d = 3 →
    pr = fix96 ((s.obsOf d).p + (s.obsOf d).v) →
    ps = (if (s.obsOf d).v < 0 ∧ s.fb (pgOBS d) Reg.OBS.OSTAT 2 = false then (s.obsOf d).ps
      else fix96 ((s.obsOf d).ps + (s.obsOf d).v)) →
    exec (.observerUpdate d) s = .next
      (((s.setObs d { s.obsOf d with
          p := pr
          ps := ps }).setRgI (pgOBS d) Reg.OBS.WPOS_R (shr pr 32)).setRgI (pgOBS d) Reg.OBS.WPOS_S (shr ps 32))) ∧
  (∀ (s t u : State) (d : Nat), s.unitRuns .obs d = true → s.obsMode d = 0 →
    t = (s.trackSources d).noteSources d → t.obsMode d = 0 → u = t.trackLoop d (t.trackMeas d) →
    exec (.observerUpdate d) s = .next ((u.showSpeed d).backlash d
      (shr (fix96 ((u.obsOf d).p + (u.obsOf d).v * u.fl (pgOBS d) Reg.OBS.LEAD 7 0)) 32))) ∧
  (∀ (s t u : State) (d : Nat), s.unitRuns .obs d = true → s.obsMode d = 1 → s.usableSrc d false = false →
    s.usableSrc d true = false → t = s.noteSources d → t.obsMode d = 1 → (t.obsOf d).v ≠ 0 →
    u = t.setObs d { t.obsOf d with
      p := fix96 ((t.obsOf d).p + (t.obsOf d).v)
      coast := (t.obsOf d).coast + 1 } →
    exec (.observerUpdate d) s = .next ((u.showSpeed d).backlash d
      (shr (fix96 ((u.obsOf d).p + (u.obsOf d).v * u.fl (pgOBS d) Reg.OBS.LEAD 7 0)) 32))) ∧
  (∀ (s : State) (d : Nat), s.unitRuns .obs d = true → s.obsMode d = 1 → (s.obsOf d).v ≠ 0 →
    s.rg (pgOBS d) Reg.OBS.COASTMAX ≤ (s.obsOf d).coast → exec (.coastmaxExpiry d) s = .next (s.obsHalt d)) ∧
  (∀ (s t : State) (d req : Nat), d < 4 → s.meets32 (pgOBS d) req Reg.OBS.CMD 2 t →
    exec (.repair d req) s = .next (t.repairPair d)) ∧
  (∀ (s t : State) (d req : Nat), d < 4 → s.meets32 (pgOBS d) req Reg.OBS.CMD 1 t →
    exec (.snap d false req) s = .next (t.snapObs d)) ∧
  (∀ (s t : State) (d req : Nat) (g : Trig), d < 4 → s.takeTrig (pgOBS d) 0 = some (g, t) →
    exec (.snap d true req) s = .next (t.snapObs d)) ∧
  (∀ (s t : State) (ch req : Nat), ch < 8 →
    s.meets32 pgEMU req (Reg.EMU.chCFG ch) (s.rg pgEMU (Reg.EMU.chCFG ch) ||| 1) t →
    exec (.emuEnable ch req) s = .next (t.emuEnable ch)) ∧
  (∀ (s : State) (ch : Nat) (c : Int), ch < 8 → s.running pgEMU = true → s.fb pgEMU (Reg.EMU.chCFG ch) 0 = true →
    c = sgn 32 (s.rg pgEMU (Reg.EMU.chOUTCNT ch)) →
    (s.emuTarget ch - c).natAbs ≤ s.fl pgEMU (Reg.EMU.chLAGMAX ch) 7 0 → c < s.emuTarget ch →
    (s.emuOf ch).lastEdge + s.fl pgEMU (Reg.EMU.chMINEDGE ch) 15 0 ≤ s.cycle →
    exec (.emuStep ch) s = .next
      (((s.setRg pgEMU (Reg.EMU.chOUTCNT ch) (enc2 32 (c + 1))).setEmu ch
        { s.emuOf ch with
          lastEdge := s.cycle
          phase := ((s.emuOf ch).phase + 1) % 4 }).emuPins ch (((s.emuOf ch).phase + 1) % 4) (c + 1))) ∧
  (∀ (s : State) (ch : Nat) (c : Int), ch < 8 → s.running pgEMU = true → s.fb pgEMU (Reg.EMU.chCFG ch) 0 = true →
    c = sgn 32 (s.rg pgEMU (Reg.EMU.chOUTCNT ch)) →
    (s.emuTarget ch - c).natAbs ≤ s.fl pgEMU (Reg.EMU.chLAGMAX ch) 7 0 → s.emuTarget ch < c →
    (s.emuOf ch).lastEdge + s.fl pgEMU (Reg.EMU.chMINEDGE ch) 15 0 ≤ s.cycle →
    exec (.emuStep ch) s = .next
      (((s.setRg pgEMU (Reg.EMU.chOUTCNT ch) (enc2 32 (c - 1))).setEmu ch
        { s.emuOf ch with
          lastEdge := s.cycle
          phase := ((s.emuOf ch).phase + 3) % 4 }).emuPins ch (((s.emuOf ch).phase + 3) % 4) (c - 1)))

/-- MARK_WRITE, MARK_WRITE_EFFECT, MARK_EVALUATION, DEFERRED_FIRE and DISARM (R70 to R77). Where the spec is open it
rests on the readings of log entry 22. -/
def Obligations.MarkCommandsComplete : Prop :=
  (∀ (s t : State) (m off v req : Nat) (wide : Bool), m < 2048 → off < 32 →
    s.meets pgPSC req (0x260000 + m * 32 + off) wide v t →
    exec (.markWrite m off v wide req) s = .next (t.markWrite m off v wide)) ∧
  (∀ (s t : State), t = (s.markWrites.filter (fun w => decide (w.at_ + 2 ≤ s.cycle))).foldl State.markEffect s →
    exec .markWriteEffect s = .next
      ({ t with markWrites := s.markWrites.filter (fun w => !decide (w.at_ + 2 ≤ s.cycle)) }).pscShow) ∧
  (∀ s t u : State, s.running pgPSC = true →
    t = [0, 1, 2, 3].foldl (fun x d => if Tbl.getD x.markEpochs d 0 ≠ 0 then
      { x.rearmDomain d with markEpochs := Tbl.put x.markEpochs d 0 } else x) s →
    u = (t.marks.filter (fun e => !(e.2.mstate == 1 && !e.2.arming &&
      (e.2.deferred || decide (e.2.tInt ≤ t.wposS e.2.dom))))).foldl (fun x e => x.markEval e.1) t →
    exec .markEvaluation s = .next (u.fireMarks ([0, 1, 2, 3].map (fun d => (d, t.reachedMarks d)))).pscShow) ∧
  (∀ (s : State) (d : Nat), s.running pgPSC = true → Tbl.getD s.markEpochs d 0 = 0 →
    exec (.deferredFire d) s = .next (s.fireMarks [(d, s.marks.filter (fun e =>
      e.2.dom == d && e.2.mstate == 1 && e.2.deferred))]).pscShow) ∧
  (∀ (s t : State) (doms req : Nat), s.meets32 pgPSC req Reg.PSC.DISARM doms t →
    exec (.disarm doms req) s = .next (t.disarmDomains doms))

/-! ## Jobs, screening, nozzle compensation -/

/-- LOAD, LOADDONE, UNLOAD, VERIFY, VDONE, TILE_CHECK and CURSOR_ENABLE (R87 to R98). Where the spec is open it rests
on the readings of log entry 25. -/
def Obligations.JobCommandsComplete : Prop :=
  (∀ (s t : State) (k req : Nat), k < 8 →
    s.meets32 pgJOB req (Reg.JOB.slotCTRL k) (s.rg pgJOB (Reg.JOB.slotCTRL k) &&& 0xFF0 ||| 1) t →
    exec (.load k req) s = .next (t.jobLoad k)) ∧
  (∀ (s t u : State) (k : Nat) (h tab : List Byte) (x : JobHead) (n rt : Nat) (reps : List Rep), k < 8 →
    s.awake pgJOB = true → s.jobState k = 1 →
    s.dramRead (unitWho pgJOB) (s.rg64 pgJOB (Reg.JOB.slotBASE k)) 128 = (t, some h) → parseHead h = some (x, n, rt) →
    t.dramRead (unitWho pgJOB) (s.rg64 pgJOB (Reg.JOB.slotBASE k) + rt) (n * 32) = (u, some tab) →
    parseReps x.width n tab = some reps → x.enc = false →
    exec (.loaddone k) s = .next (u.jobReady k { x with reps := reps })) ∧
  (∀ (s t : State) (k : Nat) (h : List Byte), k < 8 → s.awake pgJOB = true → s.jobState k = 1 →
    s.dramRead (unitWho pgJOB) (s.rg64 pgJOB (Reg.JOB.slotBASE k)) 128 = (t, some h) → parseHead h = none →
    exec (.loaddone k) s = .next (t.jobFail k 4 0x164)) ∧
  (∀ (s t : State) (k req : Nat), k < 8 →
    s.meets32 pgJOB req (Reg.JOB.slotCTRL k) (s.rg pgJOB (Reg.JOB.slotCTRL k) &&& 0xFF0 ||| 2) t →
    exec (.unload k req) s = .next (t.jobUnload k)) ∧
  (∀ (s t : State) (k req : Nat), k < 8 →
    s.meets32 pgJOB req (Reg.JOB.slotCTRL k) (s.rg pgJOB (Reg.JOB.slotCTRL k) &&& 0xFF0 ||| 4) t →
    exec (.verify k req) s = .next (t.jobVerify k)) ∧
  (∀ (s t : State) (k : Nat) (h : JobHead), s.awake pgJOB = true → k ∈ s.verifying → s.jobHead k = some h →
    t = h.allTiles.foldl (fun x i => x.checkTile [] k h i) s →
    exec (.vdone k) s = .next ((({ t with verifying := t.verifying.filter (· != k) }).setFl pgJOB
      (Reg.JOB.slotSTAT k) 2 2 1).setIst pgJOB 4)) ∧
  (∀ (s : State) (k v : Nat) (h : JobHead) (i : TileId), k < 8 → s.awake pgJOB = true → s.jobHead k = some h →
    h.tileOf v = some i → s.askers k i ≠ [] ∨ k ∈ s.verifying →
    exec (.tileCheck k v) s = .next (s.checkTile (s.askers k i) k h i)) ∧
  (∀ (s t : State) (b req : Nat) (en : Bool), b < s.nBarCur →
    s.meets32 pgJOB req (Reg.JOB.bcurCFG b) (setBits (s.normal pgJOB (Reg.JOB.bcurCFG b)) 0 0 (b2n en)) t →
    exec (.cursorEnable b en req) s = .next (t.cursorEnable b en))

/-- LANE_START, LINE_SCREENED and SCRDATA_ACCESS (R104, R105, R123). Where the spec is open it rests on the readings
of log entry 26. -/
def Obligations.ScreeningCommandsComplete : Prop :=
  (∀ (s : State) (p : Nat) (c : Nat × Nat) (cs : List (Nat × Nat)), s.unitRuns .stp p = true → (s.laneList p).length < 4 →
    s.eligible p = c :: cs → ∃ (b : Nat × Nat) (x : Stripe), b ∈ c :: cs ∧ (∀ d ∈ c :: cs, b.1 ≤ d.1) ∧
      x = s.stripe (4 * p + b.2) ∧
      exec (.laneStart p) s = .next
        ((({ s.jobTake (s.slotBar (4 * p + b.2)) x.next with
          lanes := Tbl.put s.lanes p (s.laneList p ++ [(b.2, x.next)]) }).setStripe (4 * p + b.2) { x with
          next := skipAbandoned x.abandoned (x.abandoned.length + 1) (x.next + 1)
          eligAt := s.cycle }).showStripe (4 * p + b.2))) ∧
  (∀ (s : State) (p k : Nat) (l : Int) (ls : List Int), k < 4 → p < unitCount s.variant .stp →
    s.works (pgSTP p) = true → (s.page (pgSTP p)).state = .run ∨ (s.page (pgSTP p)).state = .drain →
    ((s.laneList p).filter (fun e => e.1 == k)).map (·.2) = l :: ls →
    exec (.lineScreened p k) s = .next (s.finishLine (4 * p + k) (ls.foldl min l))) ∧
  (∀ (s t : State) (p v req : Nat), p < 32 → s.meets32 (pgSTP p) req Reg.STP.SCRDATA v t →
    exec (.scrdataAccess p true v req) s = .next (t.scrWrite p v)) ∧
  (∀ (s : State) (p v req : Nat), p < 32 → s.readable (pgSTP p) req →
    exec (.scrdataAccess p false v req) s = .next (s.scrRead p))

/-- HANDOVER, SWCMD_FORCE, COPY_FORWARD_DONE, HELD_QUEUE_DRAINED, NOZZLE_WINDOW_WRITE, CURVE_WINDOW_WRITE, IMAGE_LOAD,
IMAGE_CHECK_DONE and IMGDONE (R135 to R150). Where the spec is open it rests on the readings of log entry 27. -/
def Obligations.NozzleCommandsComplete : Prop :=
  (∀ (s : State) (b : Nat), s.enabled pgNCT = true → s.mayHandOver b = true →
    exec (.handover b) s = .next (s.handOver b)) ∧
  (∀ (s t : State) (req : Nat), 0 < unitCount s.variant .nct → s.meets32 pgNCT req Reg.NCT.SWCMD 1 t →
    exec (.swcmdForce req) s = .next t.swForce) ∧
  (∀ s t u : State, s.swapState = 2 → s.awake pgNCT = true →
    t = ((List.range 16).filter (bit s.nct.mask)).foldl State.copyBar s →
    u = (if t.nct.curves then t.copyCurves else t) →
    (u.nct.held = [] → exec .copyForwardDone s = .next u.swapIdle) ∧
    (u.nct.held ≠ [] → exec .copyForwardDone s = .next (u.setFl pgNCT Reg.NCT.SWSTAT 1 0 3))) ∧
  (∀ s t : State, s.swapState = 3 → s.awake pgNCT = true →
    t = s.nct.held.foldl State.applyHeld { s with nct := { s.nct with held := [] } } →
    exec .heldQueueDrained s = .next (t.inc pgNCT Reg.NCT.HELDCNT (s.nct.held.length - 64)).showHeld.swapIdle) ∧
  (∀ (s t : State) (off v req : Nat) (wide : Bool), s.meets pgNCT req (0x300000 + off) wide v t →
    t.nctShut (0x300000 + off) = false → exec (.nozzleWindowWrite off v wide req) s = .next (t.nozzleWrite off v wide)) ∧
  (∀ (s t : State) (off v req : Nat) (wide : Bool), s.meets pgNCT req (0x280000 + off) wide v t →
    t.nctShut (0x280000 + off) = false → exec (.curveWindowWrite off v wide req) s = .next (t.curveWrite off v wide)) ∧
  (∀ (s t : State) (req : Nat), 0 < unitCount s.variant .nct → s.meets32 pgNCT req Reg.NCT.IMGCMD 1 t →
    exec (.imageLoad req) s = .next t.imgLoad) ∧
  (∀ (s t u : State) (h pl : List Byte), s.fl pgNCT Reg.NCT.IMGSTAT 1 0 = 1 → s.awake pgNCT = true →
    s.dramRead (unitWho pgNCT) (s.rg64 pgNCT Reg.NCT.IMGBASE) 64 = (t, some h) →
    (imgCode t.nrec h [] = 0 ∨ imgCode t.nrec h [] = 5) →
    t.dramRead (unitWho pgNCT) (s.rg64 pgNCT Reg.NCT.IMGBASE + 64) (leAt h 20 4) = (u, some pl) →
    imgCode u.nrec h pl = 0 →
    exec .imageCheckDone s = .next ({ u with nct := { u.nct with
      imgCurves := leAt h 8 2 == 1
      imgFirst := leAt h 12 4
      imgCount := leAt h 16 4
      imgPos := 0 } }.setRg pgNCT Reg.NCT.IMGSTAT 2)) ∧
  (∀ (s t : State) (h : List Byte) (c : Nat), s.fl pgNCT Reg.NCT.IMGSTAT 1 0 = 1 → s.awake pgNCT = true →
    s.dramRead (unitWho pgNCT) (s.rg64 pgNCT Reg.NCT.IMGBASE) 64 = (t, some h) →
    imgCode t.nrec h [] = c → c ≠ 0 → c ≠ 5 → exec .imageCheckDone s = .next (t.imgError c)) ∧
  (∀ s t : State, s.fl pgNCT Reg.NCT.IMGSTAT 1 0 = 2 → s.swapState = 0 → s.awake pgNCT = true →
    t = s.imgWrite s.nct.imgCount → t.fl pgNCT Reg.NCT.IMGSTAT 1 0 ≠ 3 →
    exec .imgdone s = .next ((t.setRg pgNCT Reg.NCT.IMGSTAT 0).happen pgNCT 1 0))

/-! ## Print bars and head links -/

/-- LINE, FIRE_INSTANT, LINE_DEADLINE and ENTRY_WRITE (R152 to R169). Where the spec is open it rests on the readings
of log entry 28. -/
def Obligations.BarCommandsComplete : Prop :=
  (∀ (s t : State) (b : Nat) (g : Trig), s.takeTrig (pgPBA b) 0 = some (g, t) → t.unitRuns .pba b = true →
    exec (.line b) s = .next (t.lineStart b g)) ∧
  (∀ (s : State) (b : Nat) (l : Started), (s.bar b).started.find? (fun e => e.stage == 0) = some l → s.barLive b = true →
    l.n + 4 ≤ s.cycle → exec (.fireInstant b) s = .next (s.fireDecide b l)) ∧
  (∀ (s : State) (b : Nat) (l : Started), (s.bar b).started.find? (fun e =>
    e.stage == 1 && decide (shr e.d 16 ≤ (s.cycle : Int))) = some l → s.barLive b = true →
    exec (.lineDeadline b) s = .next (s.deadline b l)) ∧
  (∀ (s t : State) (b e v req : Nat), e < 64 → b < unitCount s.variant .pba →
    s.meets32 (pgPBA b) req (Reg.PBA.entryMAP e) v t →
    exec (.entryWrite b e true v req) s = .next (t.entryWrite b (Reg.PBA.entryMAP e) v)) ∧
  (∀ (s t : State) (b e v req : Nat), e < 64 → b < unitCount s.variant .pba →
    s.meets32 (pgPBA b) req (Reg.PBA.entryCNT e) v t →
    exec (.entryWrite b e false v req) s = .next (t.entryWrite b (Reg.PBA.entryCNT e) v))

/-- The head link's state machine: LOCK_DONE, STAT_IDENT, SYNC_SEND, SYNC_ANSWER, TRNTMO, HB_TIMEOUT, BLOCK_LOCK_LOSS,
RETRAIN, AUTORT and HLK_ALIGN_RATE (R180 to R187). Where the spec is open it rests on the readings of log entry 29. -/
def Obligations.LinkTrainingCommandsComplete : Prop :=
  (∀ (s : State) (n : Nat), s.linkIn n [1] = true → s.lstep n = 0 →
    exec (.lockDone n) s = .next (((s.setLstep n 1).setFl (pgHLK n) Reg.HLK.LSTAT 3 3 1).hlkCtl n frCMD 1 [0])) ∧
  (∀ (s h t : State) (n board pver mask intake noz minper : Nat), h = s.hlkHeard n → h.hears n [1] = true → h.lstep n = 1 →
    t = ((h.setRg (pgHLK n) Reg.HLK.BOARDID board).setRg (pgHLK n) Reg.HLK.BIDENT
      (pver % 256 + mask % 256 * 256 + intake % 65536 * 65536)).setRg (pgHLK n) Reg.HLK.BLIMIT
      (noz % 8192 + minper % 65536 * 65536) → t.identCheck n pver mask noz = 0 →
    exec (.statIdent n board pver mask intake noz minper) s = .next (t.setLstep n 2)) ∧
  (∀ (s h : State) (n st : Nat), h = s.hlkPump n → h.syncDue n = true → st = h.stamp16 % 2 ^ 64 →
    exec (.syncSend n) s = .next (((h.drawn.setLink n { h.link n with
      syncAt := h.cycle
      t1 := some st }).hlkSend n frSYNC 0 0 (h.fl (pgHLK n) Reg.HLK.ASYM 15 0) [st, (h.link n).t4]).hlkPump n)) ∧
  (∀ (s h t : State) (n t1 t2 t3 t4 seq : Nat) (rtt : Int), h = s.hlkHeard n → h.hears n [1, 2] = true →
    (h.link n).t1 = some t1 → t4 = h.stamp16 % 2 ^ 64 → rtt = sgn 64 (enc2 64 (((t4 : Int) - t1) - ((t3 : Int) - t2))) →
    t = (h.drawn.setRg (pgHLK n) Reg.HLK.RTT (enc2 32 rtt)).setLink n { h.link n with t4 := t4 } →
    t.lstate n = 1 → t.lstep n = 2 →
    ((t.link n).answers + 1 < 8 → exec (.syncAnswer n t1 t2 t3 seq) s = .next (t.setLink n { t.link n with
      answers := (t.link n).answers + 1
      rttSum := (t.link n).rttSum + rtt })) ∧
    (8 ≤ (t.link n).answers + 1 → exec (.syncAnswer n t1 t2 t3 seq) s = .next ((t.setLink n { t.link n with
      answers := (t.link n).answers + 1
      rttSum := (t.link n).rttSum + rtt }).hlkUp n))) ∧
  (∀ (s h t : State) (n t1 t2 t3 t4 seq : Nat) (rtt : Int), h = s.hlkHeard n → h.hears n [1, 2] = true →
    (h.link n).t1 = some t1 → t4 = h.stamp16 % 2 ^ 64 → rtt = sgn 64 (enc2 64 (((t4 : Int) - t1) - ((t3 : Int) - t2))) →
    t = (h.drawn.setRg (pgHLK n) Reg.HLK.RTT (enc2 32 rtt)).setLink n { h.link n with t4 := t4 } →
    t.lstate n = 2 → t.recalOn n = false → exec (.syncAnswer n t1 t2 t3 seq) s = .next t) ∧
  (∀ (s : State) (n : Nat), s.linkIn n [1] = true → (s.link n).trainAt + s.rg (pgHLK n) Reg.HLK.TRNTMO ≤ s.cycle →
    exec (.trntmo n) s = .next (s.hlkDown n 3)) ∧
  (∀ (s : State) (n : Nat), s.linkIn n [2] = true → s.recalOn n = false → (s.link n).hbAt + 16000 ≤ s.cycle →
    exec (.hbTimeout n) s = .next (s.hlkDown n 1)) ∧
  (∀ (s t : State) (n : Nat), s.linkIn n [1, 2, 3, 4] = true → t = s.setFl (pgHLK n) Reg.HLK.LSTAT 3 3 0 →
    (t.lstate n = 2 → exec (.blockLockLoss n) s = .next (t.hlkDown n 2)) ∧
    (t.lstate n ≠ 2 → exec (.blockLockLoss n) s = .next t)) ∧
  (∀ (s t : State) (n req : Nat), n < unitCount s.variant .hlk → s.meets32 (pgHLK n) req Reg.HLK.LCMD 1 t →
    exec (.retrain n req) s = .next (t.hlkRetrain n)) ∧
  (∀ (s : State) (n : Nat), s.linkIn n [3] = true → s.fb (pgHLK n) Reg.HLK.CFG 4 = true →
    (s.link n).downAt + 250000 ≤ s.cycle → exec (.autort n) s = .next (s.hlkTrain n)) ∧
  (∀ (s h : State) (n rate : Nat), h = s.hlkHeard n → h.linkIn n [1] = true → h.lstep n = 0 →
    rate ≠ h.fl (pgHLK n) Reg.HLK.CFG 1 0 → exec (.hlkAlignRate n rate) s = .next (h.hlkDown n 4))

/-- What a link carries: LINE_SET, STAT_HB, TUNCMD, ACK, NAK, TUNTMO, STAT_NCHK and HLK_FRAME_ERROR, on every operand,
from the state `h` in which frames that waited have left (R173, R176 to R194). A frame that matches no operation is
answered with a NAK. Where the spec is open it rests on the readings of log entry 29. -/
def Obligations.LinkTrafficCommandsComplete : Prop :=
  (∀ (s : State) (n : Nat) (c : Int × Nat × Started) (cs : List (Int × Nat × Started)), n < unitCount s.variant .hlk →
    s.dueSets n = c :: cs → ∃ b, b ∈ c :: cs ∧ (∀ d ∈ c :: cs, b.1 ≤ d.1) ∧
      exec (.lineSet n) s = .next (s.lineSet n b.2.1 b.2.2)) ∧
  (∀ (s h t u : State) (n hb fl rx late align : Nat) (temps : List Nat), h = s.hlkHeard n → h.hears n [2] = true →
    t = ((((h.setLink n { h.link n with
        hbAt := h.cycle
        fault := bit fl 0 }).setRg (pgHLK n) Reg.HLK.HBSTAT (hb % 65536 + fl % 65536 * 65536)).setRg (pgHLK n)
        Reg.HLK.BRXERR (rx % 65536 + late % 65536 * 65536)).setRg (pgHLK n) Reg.HLK.ALIGNRES align).hbTemps n temps →
    u = (if bit fl 0 && !(h.link n).fault then (t.err (pgHLK n) 7 0x1A7 (fl % 65536)).happen (pgHLK n) 5 n else t) →
    exec (.statHb n hb fl rx late temps align) s =
      .next (if u.rg (pgHLK n) Reg.HLK.ALIGNMAX < (sgn 32 align).natAbs then u.err (pgHLK n) 5 0x1A5 0 else u)) ∧
  (∀ (s t : State) (n req : Nat) (wr : Bool), n < unitCount s.variant .hlk →
    s.meets32 (pgHLK n) req Reg.HLK.TUNCMD (1 + 2 * b2n wr) t →
    exec (.tuncmd n wr req) s = .next (t.hlkTun n wr)) ∧
  (∀ (s h : State) (n q data seq at_ : Nat), h = s.hlkHeard n → h.hears n [2] = true →
    (h.link n).tun = some (some q, false, at_) →
    exec (.ack n q data seq) s = .next ((h.setRg (pgHLK n) Reg.HLK.TUNDATA data).tunEnd n 0 0)) ∧
  (∀ (s h : State) (n q data seq at_ : Nat), h = s.hlkHeard n → h.hears n [2] = true →
    (h.link n).tun = some (some q, true, at_) → exec (.ack n q data seq) s = .next (h.tunEnd n 0 0)) ∧
  (∀ (s h : State) (n q data seq : Nat), h = s.hlkHeard n → h.hears n [2] = true →
    (∀ x, (h.link n).tun = some x → x.1 ≠ some q) → exec (.ack n q data seq) s = .next (h.hlkNak n 6 seq)) ∧
  (∀ (s h t : State) (n reason q : Nat), h = s.hlkHeard n → h.hears n [2] = true →
    t = (h.sat (pgHLK n) Reg.HLK.NAKRXCNT 1).err (pgHLK n) 4 0x1A3 (reason % 256 + q % 256 * 256) →
    (∀ x, (t.link n).tun = some x → x.1 ≠ some q) → exec (.nak n reason q) s = .next (t.hlkViolate n 0x1A3)) ∧
  (∀ (s h t : State) (n reason q at_ : Nat) (wr : Bool), h = s.hlkHeard n → h.hears n [2] = true →
    t = (h.sat (pgHLK n) Reg.HLK.NAKRXCNT 1).err (pgHLK n) 4 0x1A3 (reason % 256 + q % 256 * 256) →
    (t.link n).tun = some (some q, wr, at_) →
    exec (.nak n reason q) s = .next ((t.tunEnd n 1 reason).hlkViolate n 0x1A3)) ∧
  (∀ (s h : State) (n q at_ : Nat) (wr : Bool), h = s.hlkPump n → (h.link n).tun = some (some q, wr, at_) →
    h.linkIn n [2] = true → at_ + h.rg (pgHLK n) Reg.HLK.TUNTMO ≤ h.cycle →
    exec (.tuntmo n) s = .next (((h.tunEnd n 2 0).err (pgHLK n) 3 0x1A4 0).hlkViolate n 0x1A4)) ∧
  (∀ (s h t : State) (n ch : Nat) (bs : List Byte), h = s.hlkHeard n → h.hears n [2] = true →
    s.rg64 (pgHLK n) Reg.HLK.NCHKBASE ≠ 0 →
    h.dramWrite (unitWho (pgHLK n)) (s.rg64 (pgHLK n) Reg.HLK.NCHKBASE + ch % 8 * 512) (bs.take 512) = (t, true) →
    exec (.statNchk n ch bs) s = .next (t.happen (pgHLK n) 3 (n * 65536 + ch % 8))) ∧
  (∀ (s h : State) (n type seq : Nat), h = s.hlkHeard n → h.hears n [2] = true →
    exec (.hlkFrameError n 1 type seq) s = .next (((h.sat (pgHLK n) Reg.HLK.CRCCNT 1).err (pgHLK n) 0 0x1A0
      (type % 256 * 256 + seq % 256)).hlkViolate n 0x1A0)) ∧
  (∀ (s h : State) (n reason type seq : Nat), h = s.hlkHeard n → h.hears n [2] = true → reason ≠ 1 →
    exec (.hlkFrameError n reason type seq) s = .next (h.hlkMalformed n type reason seq))

/-! ## Cameras, inspection, defects, colour loop, compression -/

/-- A camera link's state and triggers: CAM_UP, CAM_DOWN, TRIG, TRIGGER_INSTANT, TRIGGER_SEND, TRIG_PULSE_END,
CAM_LINE, TRIGGER_EXPIRY and BLKTMO (R197 to R209). Where the spec is open it rests on the readings of log entry 30.
-/
def Obligations.CameraTriggerCommandsComplete : Prop :=
  (∀ (s t : State) (n lock : Nat), s.camOn n = true → lock &&& s.camLanes n = s.camLanes n → s.camUp n = false →
    s.fl (pgCAM n) Reg.CAM.LSTAT 1 0 < 2 → t = s.setCam n { s.cam n with hbAt := s.cycle } → t.camUp n = false →
    exec (.camUp n lock) s = .next (((((t.setFl (pgCAM n) Reg.CAM.LSTAT 1 0 1).setFl (pgCAM n) Reg.CAM.LSTAT 7 4
      lock).setCam n { t.cam n with lastPkt := t.cycle })).noteUp 1 n)) ∧
  (∀ (s t : State) (n lock : Nat), s.camOn n = true → s.camUp n = true → lock &&& s.camLanes n ≠ s.camLanes n →
    t = (s.setFl (pgCAM n) Reg.CAM.LSTAT 1 0 0).setFl (pgCAM n) Reg.CAM.LSTAT 7 4 lock →
    exec (.camDown n lock) s = .next (((((t.sat (pgCAM n) Reg.CAM.DOWNCNT 1).err (pgCAM n) 11 0x1BA 0).happen (pgCAM n) 1
      0).camLinkDown n).camViolate n 0x1BA)) ∧
  (∀ (s t u : State) (n : Nat) (g : Trig), s.takeTrig (pgCAM n) 0 = some (g, t) → t.unitRuns .cam n = true →
    u = t.setCam n { t.cam n with
      grid := (g.mark.map (fun m => ((t.mark m).target - ((t.mark m).index * (t.mark m).e : Nat), (t.mark m).e))).or
        (t.cam n).grid
      trigs := (t.cam n).trigs ++
        [⟨g.index, g.cycle, g.speeds.getD (t.fl (pgCAM n) Reg.CAM.CFG 17 16) 0, g.ovs, g.ch, t.cycle, none⟩] } →
    exec (.trig n) s = .next (if n % 3 = 0 ∧ n / 3 < t.nRefCur then u.refStart (n / 3) g.index else u)) ∧
  (∀ (s : State) (n : Nat) (g : CamTrig), (s.cam n).trigs.find? (fun e => e.t == none) = some g → s.camLive n = true →
    g.n + 4 ≤ s.cycle → exec (.triggerInstant n) s = .next (s.drawn.setCam n { s.cam n with
      trigs := (s.cam n).trigs.map (fun e => if e = g then
        { e with t := some (trigTime g (s.camSet n g.k (·.tdel) (s.fl (pgCAM n) Reg.CAM.TDEL 15 0))
          (Config.tieUp s.fresh)) } else e) })) ∧
  (∀ (s : State) (n : Nat) (e : CamTrig) (es : List CamTrig) (z : Int), (s.cam n).trigs = e :: es → e.t = some z →
    s.camLive n = true → shr z 16 ≤ (s.cycle : Int) →
    exec (.triggerSend n) s = .next ((s.setCam n { s.cam n with trigs := es }).camDue n e z)) ∧
  (∀ (s : State) (n : Nat) (r : Int), (s.cam n).pulse = some r → r ≤ (s.cycle : Int) * 16 →
    exec (.trigPulseEnd n) s = .next ((s.setCam n { s.cam n with pulse := none }).pin (pgCAM n) 0 0)) ∧
  (∀ (s t : State) (n : Nat) (px : List (List Nat)) (e : CamTrig) (es : List CamTrig), s.camOn n = true → s.camUp n = true →
    t = s.camHeard n → (t.cam n).pend = e :: es → exec (.camLine n px) s = .next (t.camLine n e es px)) ∧
  (∀ (s t : State) (n : Nat) (px : List (List Nat)), s.camOn n = true → s.camUp n = true → t = s.camHeard n →
    (t.cam n).pend = [] → exec (.camLine n px) s = .next ((((t.setCam n { t.cam n with crcBad := false }).sat (pgCAM n)
      Reg.CAM.UNTRIG 1).err (pgCAM n) 3 0x1B3 0).camViolate n 0x1B3)) ∧
  (∀ (s : State) (n : Nat) (e : CamTrig) (es : List CamTrig), (s.cam n).pend = e :: es → s.camLive n = true →
    shr (e.t.getD 0) 16 + (s.rg (pgCAM n) Reg.CAM.LTMO : Int) < (s.cycle : Int) →
    exec (.triggerExpiry n) s = .next ((((s.setCam n (Cam.miss { s.cam n with pend := es } (s.camBlen n) e.k)).sat
      (pgCAM n) Reg.CAM.MISSCNT 1).err (pgCAM n) 5 0x1B5 0).camSettle n)) ∧
  (∀ (s : State) (n : Nat) (k : CamBlk), s.camStale n = some k → s.camLive n = true → s.camPads n = none →
    exec (.blktmo n) s = .next ((s.camClose n k.b true).camSettle n))

/-- Control traffic of a camera: FTDATA_ACCESS, EXPCMD, EXPDONE, CCCMD, CC_ACK, CCTMO, EVENT_PACKET, CAM_HEARTBEAT and
MALFORMED_PACKET (R210 to R221). Where the spec is open it rests on the readings of log entry 30. -/
def Obligations.CameraControlCommandsComplete : Prop :=
  (∀ (s t : State) (n v req : Nat), n < unitCount s.variant .cam → s.meets32 (pgCAM n) req Reg.CAM.FTDATA v t →
    exec (.ftdataAccess n true v req) s = .next (t.ftWrite n v)) ∧
  (∀ (s : State) (n v req : Nat), n < unitCount s.variant .cam → s.readable (pgCAM n) req →
    exec (.ftdataAccess n false v req) s = .next (s.ftRead n)) ∧
  (∀ (s t : State) (n g req : Nat), n < unitCount s.variant .cam →
    s.meets32 (pgCAM n) req Reg.CAM.EXPCMD (1 + 65536 * g) t → exec (.expcmd n g req) s = .next (t.expGo n g)) ∧
  (∀ (s : State) (n at_ : Nat) (w : Nat) (c : CamExp), (s.cam n).sent = some (true, at_, w) → (s.cam n).exp = some c →
    s.camOn n = true → s.expLast n c = true → exec (.expdone n) s = .next (((s.setCam n { s.cam n with
      sent := none
      lastPkt := s.cycle }).expDone n c).camNextCc n)) ∧
  (∀ (s t : State) (n req : Nat) (wr : Bool), n < unitCount s.variant .cam →
    s.meets32 (pgCAM n) req Reg.CAM.CCCMD (1 + 2 * b2n wr) t → exec (.cccmd n wr req) s = .next (t.ccGo n wr)) ∧
  (∀ (s : State) (n code data at_ w : Nat) (e : Bool), s.camOn n = true → s.camUp n = true →
    (s.cam n).sent = some (e, at_, w) →
    exec (.ccAck n 0 code data) s = .next (((s.camHeard n).ccOk n e data).camNextCc n) ∧
    exec (.ccAck n 1 code data) s = .next (((s.camHeard n).camOpEnd n e 1 code).camNextCc n) ∧
    exec (.ccAck n 2 code data) s = .next ((s.camHeard n).ccWait n e w)) ∧
  (∀ (s : State) (n at_ w : Nat) (e : Bool), (s.cam n).sent = some (e, at_, w) → s.camOn n = true →
    at_ + s.rg (pgCAM n) Reg.CAM.CCTMO ≤ s.cycle →
    exec (.cctmo n) s = .next (((s.camOpEnd n e 2 0).camViolate n (if e then 0x1B8 else 0x1B9)).camNextCc n)) ∧
  (∀ (s t u : State) (n : Nat) (bs : List Byte), s.camOn n = true → s.camUp n = true → t = s.camHeard n →
    t.post (pgCAM n) 1 [leBytes 8 t.timeNs ++ leBytes 2 bs.length ++ leBytes 1 n ++
      leBytes 1 (b2n (decide (48 < bs.length))) ++ leBytes 4 0 ++ bs.take 48 ++
      List.replicate (48 - (bs.take 48).length) 0] = (u, true) →
    exec (.eventPacket n bs) s = .next u) ∧
  (∀ (s t : State) (n : Nat), s.camOn n = true → s.camUp n = true →
    (s.cam n).hbAt + s.rg (pgCAM n) Reg.CAM.HBPER ≤ s.cycle → t = s.setCam n { s.cam n with hbAt := s.cycle } →
    (t.standby = false → exec (.camHeartbeat n) s = .next (t.emit (.frame (pgCAM n) 4 [] []))) ∧
    (t.standby = true → exec (.camHeartbeat n) s = .next t)) ∧
  (∀ (s : State) (n lane : Nat), s.camOn n = true →
    exec (.malformedPacket n 0 lane) s = .next ((((s.setCam n { s.cam n with crcBad := true }).sat (pgCAM n) Reg.CAM.CRCCNT
      1).err (pgCAM n) 0 0x1B0 0).camViolate n 0x1B0) ∧
    exec (.malformedPacket n 1 lane) s =
      .next (((s.sat (pgCAM n) Reg.CAM.CODECNT 1).err (pgCAM n) 1 0x1B1 (lane % 4)).camViolate n 0x1B1) ∧
    exec (.malformedPacket n 2 lane) s =
      .next (((s.sat (pgCAM n) Reg.CAM.MALFCNT 1).err (pgCAM n) 2 0x1B2 0).camViolate n 0x1B2))

/-- A Cupola: HOME_LINE, FURTHER_LINE, STAGING_READ, FWAIT_EXPIRY, STAGE2_ENTRY, BLKDONE, TCDATA_ACCESS and
ICDATA_ACCESS (R225 to R245). Where the spec is open it rests on the readings of log entry 31. -/
def Obligations.CupolaCommandsComplete : Prop :=
  (∀ (s t : State) (n : Nat) (l : CamLine) (es : List CamEnd) (rest : List CamOut),
    nextLine (s.cam (3 * n)).out = some (l, es, rest) → s.cupTakes n = true →
    t = s.setCam (3 * n) { s.cam (3 * n) with out := rest } →
    ((t.page (pgCAM (3 * n))).state = .run → exec (.homeLine n) s =
      .next ((t.setCup n { t.cup n with closes := (t.cup n).closes ++ es }).homeLine n l)) ∧
    ((t.page (pgCAM (3 * n))).state ≠ .run → exec (.homeLine n) s = .next t)) ∧
  (∀ (s t : State) (n k c : Nat) (l : CamLine) (es : List CamEnd) (rest : List CamOut), k = 1 ∨ k = 2 →
    s.slotPort n k = some c → nextLine (s.cam c).out = some (l, es, rest) → s.cupTakes n = true →
    t = s.setCam c { s.cam c with out := rest } → t.tooLate n k l = false →
    exec (.furtherLine n k) s = .next (t.ringPut n k l)) ∧
  (∀ (s d t u : State) (n k c kk : Nat) (l : CamLine) (rest : List (Nat × CamLine)) (bs : List Byte), k = 1 ∨ k = 2 →
    s.cupTakes n = true → d = s.dropPassed n k → d.slotPort n k = some c →
    (d.cup n).stg k = (kk, l) :: rest → Tbl.get? ((d.cup n).ring k) (kk % 16) = none →
    t = d.setCup n ((d.cup n).setStg k rest) →
    t.dramRead (unitWho (pgCUP n)) (t.stgBase n k + kk % t.ringLen n k * t.lineBytes c) (t.lineBytes c) = (u, some bs) →
    exec (.stagingRead n k) s =
      .next (u.ringStore n k (kk % 16) { l with planes := unpackLine (u.camNs c) (u.camWidth c) bs })) ∧
  (∀ (s : State) (n : Nat) (l : CamLine) (x : Bool) (hs : List (CamLine × Bool)), s.cupGoes n = true →
    (s.cup n).hold = (l, x) :: hs →
    (l.at_ + s.rg (pgCUP n) Reg.CUP.FWAIT ≤ s.cycle → exec (.fwaitExpiry n) s = .next (s.cupEnter n)) ∧
    (s.furthersHere n l.k = true → exec (.stage2Entry n) s = .next (s.cupEnter n))) ∧
  (∀ (s t : State) (n : Nat) (es : List CamEnd) (rest : List CamOut), s.cupGoes n = true →
    (s.page (pgCAM (3 * n))).state = .run → frontCloses (s.cam (3 * n)).out = (es, rest) →
    t = s.setCam (3 * n) { s.cam (3 * n) with out := rest } → (t.page (pgCAM (3 * n))).state = .run →
    exec (.blkdone n) s = .next ((t.setCup n { t.cup n with closes := (t.cup n).closes ++ es }).cupDone n)) ∧
  (∀ (s : State) (n : Nat), s.cupGoes n = true → (s.page (pgCAM (3 * n))).state = .fault → (s.cup n).blk.isSome = true →
    exec (.blkdone n) s = .next (s.cupHomeLeft (3 * n))) ∧
  (∀ (s t : State) (n v req : Nat), n < unitCount s.variant .cup → s.meets32 (pgCUP n) req Reg.CUP.TCDATA v t →
    exec (.tcdataAccess n true v req) s = .next (t.tcWrite n v)) ∧
  (∀ (s : State) (n v req : Nat), n < unitCount s.variant .cup → s.readable (pgCUP n) req →
    exec (.tcdataAccess n false v req) s = .next (s.tcRead n)) ∧
  (∀ (s t : State) (n v req : Nat), n < unitCount s.variant .cup → s.meets32 (pgCUP n) req Reg.CUP.ICDATA v t →
    exec (.icdataAccess n true v req) s = .next (t.icWrite n v)) ∧
  (∀ (s : State) (n v req : Nat), n < unitCount s.variant .cup → s.readable (pgCUP n) req →
    exec (.icdataAccess n false v req) s = .next (s.icRead n))

/-- DEF_LINE, SNIPPET_DONE, BLKPOST and DROPPED_POST (R247 to R264); CLP_LINE, WIN, BANK_CHANGE, CORRECTION_RECORD and
CLP_SWAP_REQUEST (R268 to R280); COMPRESS, DECOMPRESS, ABORT and CMP_JOB_END (R284, R294 to R296). Where the spec is
open it rests on the readings of log entries 32 to 34. -/
def Obligations.InspectionOutputCommandsComplete : Prop :=
  (∀ (s t : State) (n : Nat) (now later : List CupOut), s.defLive n = true →
    takeLine (s.cup n).toDef false = (now, later) → t = s.setCup n { s.cup n with toDef := later } →
    exec (.defLine n) s = .next (now.foldl (fun x o => x.defTake n o) t)) ∧
  (∀ (s t : State) (n b lines : Nat) (recs recs' : List (List Byte)) (x : Snip) (xs : List Snip) (head : Option Nat)
    (grid : Int) (rest : List DefItem), (s.defOf n).items = .block b lines recs (x :: xs) head grid :: rest →
    s.defLive n = true → (s.cmp (s.fl (pgDEF n) Reg.DEF.CTL 10 8)).job = none →
    s.cmpAccepts (s.fl (pgDEF n) Reg.DEF.CTL 10 8) = false ∨ s.works (pgCMP (s.fl (pgDEF n) Reg.DEF.CTL 10 8)) = true →
    s.snippet n b lines recs x = (t, recs') →
    exec (.snippetDone n) s = .next (t.setDef n { t.defOf n with
      items := .block b lines recs' xs (some (head.getD (s.rg (pgDEF n) Reg.DEF.SNPHEAD))) grid :: rest })) ∧
  (∀ (s t u v : State) (n b lines : Nat) (recs : List (List Byte)) (head : Option Nat) (grid : Int) (rest : List DefItem),
    (s.defOf n).items = .block b lines recs [] head grid :: rest → s.defLive n = true → recs ≠ [] →
    s.publishRoom (pgDEF n) n recs.length = true →
    s.sramItems 2 (pgDEF n) (fun (i : Nat) => i) (List.range recs.length) = (t, []) →
    t.publish (pgDEF n) n recs = (u, true) →
    v = (((u.setDef n { u.defOf n with items := rest }).inc (pgDEF n) Reg.DEF.BLKCNT 1).inc (pgDEF n) Reg.DEF.RECCNT
      recs.length).setRg64 (pgDEF n) Reg.DEF.LASTBLK (b % 2 ^ 48) →
    exec (.blkpost n) s = .next ((v.happen (pgDEF n) 0 (n * 65536 + b % 65536)).defShow n)) ∧
  (∀ (s t v : State) (n b lines : Nat) (head : Option Nat) (grid : Int) (rest : List DefItem),
    (s.defOf n).items = .block b lines [] [] head grid :: rest → s.defLive n = true →
    s.sramItems 2 (pgDEF n) (fun (i : Nat) => i) [] = (t, []) →
    v = (((t.setDef n { t.defOf n with items := rest }).inc (pgDEF n) Reg.DEF.BLKCNT 1).inc (pgDEF n) Reg.DEF.RECCNT
      0).setRg64 (pgDEF n) Reg.DEF.LASTBLK (b % 2 ^ 48) →
    exec (.blkpost n) s = .next ((v.happen (pgDEF n) 0 (n * 65536 + b % 65536)).defShow n)) ∧
  (∀ (s t : State) (n b c d z : Nat) (g : Int) (rest : List DefItem),
    (s.defOf n).items = .dropped b c d g z :: rest → s.defLive n = true →
    s.publish (pgDEF n) n [recBytes 0 (n + 4 * 2) 0 0 0 b 0 g 0 0 0 0 c d 0 0xFFFFFFFF z] = (t, true) →
    exec (.droppedPost n) s = .next (((t.setDef n { t.defOf n with items := rest }).inc (pgDEF n) Reg.DEF.RECCNT
      1).defShow n)) ∧
  (∀ (s : State) (n : Nat) (l : ClpLine) (rest : List ClpLine), (s.cup n).toClp = l :: rest → s.clpLive = true →
    exec (.clpLine n) s = .next ((s.setCup n { s.cup n with toClp := rest }).clpTake n l)) ∧
  (∀ (s t : State) (g : Nat) (x : Trig), g < 4 → s.takeTrig pgCLP g = some (x, t) → t.present pgCLP = true →
    t.running pgCLP = true → exec (.win g) s = .next (t.clpWin g x)) ∧
  (∀ (s t : State) (g : Nat) (c : ClpClose), (s.clpGrp g).closing = some c → s.clpLive = true → c.changed = false →
    s.clpPassed c = true →
    t = (s.grpBinds g).foldl (fun x b => x.setClpBar b { x.clpBar b with sel := !(x.clpBar b).sel }) s →
    exec (.bankChange g) s = .next (t.setClpGrp g { s.clpGrp g with closing := some { c with changed := true } })) ∧
  (∀ (s : State) (g : Nat) (c : ClpClose), (s.clpGrp g).closing = some c → s.clpLive = true → c.changed = true →
    exec (.correctionRecord g) s = .next (s.clpClose g c)) ∧
  (∀ (s t : State) (m st : Nat), s.nctEventDue = false → s.clp.req = some (m, st) → s.clpLive = true →
    st = 0 ∨ (st = 1 ∧ s.swapState = 0 ∧ (s.page pgCLP).state = .run) →
    (s.swapRequest m false 2 = (t, true) →
      exec .clpSwapRequest s = .next { t with clp := { t.clp with req := t.clp.req.map (fun _ => (m, 2)) } }) ∧
    (s.swapRequest m false 2 = (t, false) → s.swapState = 0 → exec .clpSwapRequest s = .next t.clpNoReq) ∧
    (s.swapRequest m false 2 = (t, false) → s.swapState ≠ 0 → (t.page pgNCT).en = true → (t.page pgCLP).state = .run →
      exec .clpSwapRequest s = .next { t with clp := { t.clp with req := some (m, 1) } })) ∧
  (∀ (s t u : State) (n : Nat) (c : List Byte), s.cmpReady n = true → s.peek (pgCMP n) 0 = (t, some c) →
    u = t.consume (pgCMP n) 0 → badCmd c (u.cmp n).stream.isSome = false →
    (leAt c 0 1 ≠ 2 → leAt c 0 1 ≠ 3 → exec (.compress n) s = .next (u.cmpCompress n c)) ∧
    (leAt c 0 1 = 2 → exec (.decompress n) s = .next (u.cmpInflate n c)) ∧
    (leAt c 0 1 = 3 → exec (.abort n) s =
      .next (u.cmpEnd n none ⟨3, leAt c 8 8, 0, 0, 0, 0, crcSoFar (u.cmp n).stream⟩))) ∧
  (∀ (s t u v : State) (n : Nat) (c : List Byte), s.cmpReady n = true → s.peek (pgCMP n) 0 = (t, some c) →
    u = t.consume (pgCMP n) 0 → badCmd c (u.cmp n).stream.isSome = true →
    v = u.cmpEnd n (u.cmp n).stream ⟨leAt c 0 1, leAt c 8 8, 1, 0, 0, 0, crcSoFar (u.cmp n).stream⟩ →
    (leAt c 0 1 ≠ 2 → leAt c 0 1 ≠ 3 → exec (.compress n) s = .next v) ∧
    (leAt c 0 1 = 2 → exec (.decompress n) s = .next v) ∧ (leAt c 0 1 = 3 → exec (.abort n) s = .next v)) ∧
  (∀ (s t : State) (n : Nat) (j : CmpJob), (s.cmp n).job = some j → s.works (pgCMP n) = true →
    (s.page (pgCMP n)).state = .run ∨ (s.page (pgCMP n)).state = .drain →
    t = ((((s.setCmp n { s.cmp n with job := none }).cmpCount n 0 j.code j.inUsed j.outBytes).setRg64 (pgCMP n)
      Reg.CMP.LASTTAG j.tag).setIst (pgCMP n) 0).cmpShow n →
    exec (.cmpJobEnd n) s = .next (t.post (pgCMP n) 1 [leBytes 8 j.tag ++ leBytes 1 j.code ++ leBytes 1 j.op ++
      leBytes 2 j.bufs ++ leBytes 4 j.inUsed ++ leBytes 4 j.outBytes ++ leBytes 4 j.crc ++ leBytes 8 0]).1)

/-! ## Queues, DMA, interrupts and events -/

/-- QUEUE_ENABLE, QUEUE_DISABLE, QUEUE_BIND, the doorbells through the descriptor window and through BAR2, and
ITMO_EXPIRY (R304 to R311). Where the spec is open it rests on the readings of log entry 35. -/
def Obligations.QueueCommandsComplete : Prop :=
  (∀ (s t : State) (q v req : Nat), q < 4096 → s.meets pgHQF req (0x200000 + 64 * q + 8) false (setBits v 0 0 1) t →
    exec (.queueEnable q v req) s = .next (t.queueCfg q (setBits v 0 0 1))) ∧
  (∀ (s t : State) (q v req : Nat), q < 4096 → s.meets pgHQF req (0x200000 + 64 * q + 8) false (setBits v 0 0 0) t →
    exec (.queueDisable q v req) s = .next (t.queueCfg q (setBits v 0 0 0))) ∧
  (∀ (s t : State) (q v req : Nat), q < 4096 → s.meets pgHQF req (0x200000 + 64 * q + 0xC) false v t →
    exec (.queueBind q v req) s = .next (t.queueBind q v)) ∧
  (∀ (s t : State) (q v req : Nat), q < 4096 → s.meets pgHQF req (0x200000 + 64 * q + 0x10) false v t →
    exec (.producerDoorbell q v req false) s = .next (t.bellP q v req)) ∧
  (∀ (s t : State) (q v req : Nat), q < 4096 → s.meets pgHQF req (0x200000 + 64 * q + 0x14) false v t →
    exec (.consumerDoorbell q v req false) s = .next (t.bellC q v req)) ∧
  (∀ (s : State) (q v : Nat), q < 4096 → s.reaches (queueFn q) = true →
    exec (.producerDoorbell q v (queueFn q) true) s = .next (s.bellP q v (queueFn q)) ∧
    exec (.consumerDoorbell q v (queueFn q) true) s = .next (s.bellC q v (queueFn q))) ∧
  (∀ (s : State) (q : Nat), q < 4096 → s.itmoDue q = true → exec (.itmoExpiry q) s = .next (s.srcSample q))

/-- R303: a queue holds PIDX − CIDX entries modulo 2^32 and has N minus that many of room while it serves its unit; the entry
at index i lies at BASE + (i mod N) × ESZ. -/
def Obligations.QueueHoldsIndexDifference : Prop :=
  ∀ x : Queue, x.pidx < 2 ^ 32 → x.cidx < 2 ^ 32 →
    (x.count : Int) = ((x.pidx : Int) - x.cidx) % 2 ^ 32 ∧ (x.active = true → x.room = 2 ^ x.log2n - x.count) ∧
    ∀ i, x.slotAddr i = x.base + i % 2 ^ x.log2n * x.esize

/-- The PCIe side: HOST_COMPLETION, COMPLETION_TIMEOUT, MALFORMED_TLP, DEVICE_MEMORY_ACCESS, FLR, PCIE_LINK_UP,
PCIE_LINK_DOWN and PCIE_CONFIG_REQUEST (R299 to R302, R313). Where the spec is open it rests on the readings of log
entry 35. -/
def Obligations.PcieCommandsComplete : Prop :=
  (∀ (s : State) (tag : Nat) (bs d : List Byte) (r : HostRead),
    s.hostReads.find? (fun r => r.tag == tag && r.data.isNone) = some r → d = (bs ++ List.replicate r.len 0).take r.len →
    (r.kind ≠ 3 → exec (.hostCompletion tag 0 false bs) s =
      .next ((({ s with hostReads := s.hostReads.map (fun (x : HostRead) => if x.tag == r.tag && x.data.isNone then
        { x with data := some d } else x) } : State).setHostBytes r.fn r.addr d).transferEnded r)) ∧
    (r.kind = 3 → exec (.hostCompletion tag 0 false bs) s =
      .next ((({ s with hostReads := s.hostReads.filter (fun (x : HostRead) => !(x.tag == r.tag && x.data.isNone)) } :
        State).setHostBytes r.fn r.addr d).transferEnded r))) ∧
  (∀ (s : State) (tag st : Nat) (ep : Bool) (bs : List Byte) (r : HostRead),
    s.hostReads.find? (fun r => r.tag == tag && r.data.isNone) = some r →
    (st ≠ 0 → exec (.hostCompletion tag st ep bs) s = .next ((s.hostReadError r 3).pcieBad 1 Reg.PCIE.CPLERRCNT 0x211)) ∧
    exec (.hostCompletion tag 0 true bs) s = .next ((s.hostReadError r 4).pcieBad 2 Reg.PCIE.POISONCNT 0x212) ∧
    (s.ctoDue r = true → exec (.completionTimeout tag) s = .next ((s.hostReadError r 2).pcieBad 0 Reg.PCIE.CTOCNT 0x210))) ∧
  (∀ s : State, exec .malformedTlp s = .next (s.pcieBad 4 Reg.PCIE.MALFCNT 0x214)) ∧
  (∀ (s t : State) (wr ep : Bool) (a n : Nat) (bs : List Byte), s.windowOpen 1 = true → t = s.wakeBy 2 [1, 2, 3] →
    (t.clocked || t.pwr.wake.isSome) = true → exec (.deviceMemoryAccess wr a n bs ep) s = .next (t.hostDram wr a n bs ep)) ∧
  (∀ (s t : State) (fn : Nat), fn < 2 →
    t = (List.range 16).foldl (fun x c => if (x.dma c).req = fn then x.dmaAbort c 6 else x) s →
    exec (.flr fn) s = .next ((((({ t.flrQueues fn with pcie := t.pcie.flr fn } : State).sat pgPCIE Reg.PCIE.FLRCNT 1).err
      pgPCIE 5 0x215 fn)).happen pgPCIE 2 0)) ∧
  (∀ (s t : State) (speed w : Nat), s.fb pgPCIE Reg.PCIE.LSTAT 0 = false → 1 ≤ speed → speed ≤ 5 →
    w ∈ [1, 2, 4, 8] → t = s.setFl pgPCIE Reg.PCIE.LSTAT 13 0 (1 + speed * 2 + w * 16 + s.pcie.bar * 256) →
    exec (.pcieLinkUp speed w) s = .next ((List.range w).foldl (fun x n => x.noteUp 4 n) (t.happen pgPCIE 0 0))) ∧
  (∀ s : State, s.fb pgPCIE Reg.PCIE.LSTAT 0 = true →
    exec .pcieLinkDown s = .next ((s.setFl pgPCIE Reg.PCIE.LSTAT 7 0 0).happen pgPCIE 1 0)) ∧
  (∀ (s : State) (fn kind vec v d w : Nat), fn < 2 → w = s.configRead fn kind vec v →
    (s.reaches fn = true → exec (.pcieConfigRequest fn kind vec v d) s =
      .next ({ s.config fn kind vec v d with readData := w }.emit (.pcie 2 0 w))) ∧
    (s.reaches fn = false → exec (.pcieConfigRequest fn kind vec v d) s = .next (s.emit (.pcie 2 2 0))))

/-- DMA_START by register and by task, DMA_STOP, DMA_RESUME, DMA_TAKE and DESCRIPTOR_DONE (R314 to R320). Where the
spec is open it rests on the readings of log entry 18. -/
def Obligations.DmaCommandsComplete : Prop :=
  (∀ (s t : State) (c req : Nat), s.meets32 pgDMA req (Reg.DMA.chCTL c) 1 t →
    exec (.dmaStart c req false) s = .next (t.dmaStart c req none)) ∧
  (∀ (s t : State) (c req : Nat) (g : Trig), s.takeTrig pgDMA c = some (g, t) →
    exec (.dmaStart c req true) s = .next (t.dmaStart c 9 (some (g.origin, g.depth)))) ∧
  (∀ (s t : State) (c req : Nat), s.meets32 pgDMA req (Reg.DMA.chCTL c) 2 t →
    exec (.dmaStop c req) s = .next (t.dmaStop c)) ∧
  (∀ (s t : State) (c req : Nat), s.meets32 pgDMA req (Reg.DMA.chCTL c) 4 t →
    exec (.dmaResume c req) s = .next (t.dmaResume c req)) ∧
  (∀ (s t : State) (c : Nat) (d : Option Desc), s.running pgDMA = true → s.dmaRunning = none → s.dmaNext = some c →
    (s.setDmaState c 2).dmaShow.descFetch c = (t, .inr d) → exec .dmaTake s = .next t) ∧
  (∀ (s t u : State) (c : Nat) (d : Desc), s.dmaRunning = some c →
    (s.page pgDMA).state = .run ∨ (s.page pgDMA).state = .drain → s.works pgDMA = true →
    s.descFetch c = (t, .inr (some d)) → t.descMove c d = (u, none) → exec .descriptorDone s = .next (u.descDone c d))

/-- The interrupt controller: SOURCE_INPUT, CLAIM, COMPLETE, PCLAIM, PCOMPLETE, HCMP, SWSET and LATCH_CATCH (R324 to
R330). Where the spec is open it rests on the readings of log entry 36. -/
def Obligations.InterruptCommandsComplete : Prop :=
  (∀ (s : State) (i : Nat), (srcIsLevel i = true → exec (.sourceInput i) s = .next (s.srcSample i)) ∧
    (srcIsLevel i = false → exec (.sourceInput i) s = .next (s.srcEdge i))) ∧
  (∀ (s : State) (c req : Nat), c < 4 → s.readable pgBIC req → exec (.claim c req) s = .next (s.claim 0 c req true)) ∧
  (∀ (s t : State) (c i req : Nat), c < 4 → s.meets32 pgBIC req (Reg.BIC.COMPLETE c) i t →
    exec (.complete c i req) s = .next (t.complete (i % 8192) c c)) ∧
  (∀ (s : State) (k req : Nat), k < 16 → s.readable pgBIC req → exec (.pclaim k req) s = .next (s.claim 2 k req true)) ∧
  (∀ (s t : State) (i req : Nat), s.meets32 pgBIC req Reg.BIC.PCOMPLETE i t →
    exec (.pcomplete i req) s = .next (t.complete (i % 8192) 16 31)) ∧
  (∀ (s t : State) (i req : Nat), s.meets32 pgBIC req Reg.BIC.HCMP0 i t →
    exec (.hcmp 0 i req) s = .next (t.complete (i % 8192) 4 4)) ∧
  (∀ (s t : State) (i req : Nat), s.meets32 pgBIC req Reg.BIC.HCMP1 i t →
    exec (.hcmp 1 i req) s = .next (t.complete (i % 8192) 5 5)) ∧
  (∀ (s t : State) (i req : Nat), s.meets32 pgBIC req Reg.BIC.SWSET i t →
    exec (.swset i req) s = .next (t.srcEdge (4608 + i % 256))) ∧
  (∀ (s : State) (l : Nat) (up : Bool), l < 32 → bit (s.rg pgBIC (Reg.BIC.ALAT l)) 0 = true →
    bit (s.rg pgBIC (Reg.BIC.ALAT l)) 1 = false → exec (.latchCatch l up) s = .next (s.latchHand l)) ∧
  (∀ (s : State) (l : Nat), l < 32 → bit (s.rg pgBIC (Reg.BIC.ALAT l)) 0 = true →
    bit (s.rg pgBIC (Reg.BIC.ALAT l)) 1 = true → s.gpioIsOut (bits (s.rg pgBIC (Reg.BIC.ALAT l)) 13 8) = false →
    bit (s.rg pgBIC (Reg.BIC.ALAT l)) 16 = true → bit (s.rg pgBIC (Reg.BIC.ALAT l)) 20 = false →
    exec (.latchCatch l true) s =
      .next ((s.setRg pgBIC (Reg.BIC.ALAT l) (setBits (s.rg pgBIC (Reg.BIC.ALAT l)) 24 24 1)).latchHand l)) ∧
  (∀ (s : State) (l : Nat), l < 32 → bit (s.rg pgBIC (Reg.BIC.ALAT l)) 0 = true →
    bit (s.rg pgBIC (Reg.BIC.ALAT l)) 1 = true → s.gpioIsOut (bits (s.rg pgBIC (Reg.BIC.ALAT l)) 13 8) = false →
    bit (s.rg pgBIC (Reg.BIC.ALAT l)) 17 = true → bit (s.rg pgBIC (Reg.BIC.ALAT l)) 20 = true →
    exec (.latchCatch l false) s =
      .next (((s.setRg pgBIC (Reg.BIC.ALAT l) (setBits (s.rg pgBIC (Reg.BIC.ALAT l)) 24 24 1)).wakeBy 1
        [1, 2, 3, 4]).latchHand l))

/-- The event fabric: SWFIRE in both forms, EVENT_DELIVERY, CHANNEL_WRITE, CHANNEL_WRITE_EFFECT, GPIO_INPUT_EDGE,
PULSE_END, GPIOOUT and ASYNC_CHANNEL_EDGE (R331 to R345, R509). Where the spec is open it rests on the readings of log
entry 37. -/
def Obligations.EventCommandsComplete : Prop :=
  (∀ (s t : State) (c a req : Nat), s.meets64 pgEVF req Reg.EVF.SWFIRE (c % 256 + a % 2 ^ 32 * 2 ^ 32) t →
    (t.chanRefuses (c % 256) req = false → exec (.swfire c a req) s =
      .next ({ t with swArgs := Tbl.put t.swArgs req (a % 2 ^ 32) }.enterNew (c % 256) 2 0 0 (a % 2 ^ 32))) ∧
    (t.chanRefuses (c % 256) req = true → exec (.swfire c a req) s = .next (t.ownerError pgEVF req))) ∧
  (∀ (s t : State) (v req : Nat), s.meets32 pgEVF req (Reg.EVF.SWFIRE + 4) v t →
    exec (.swfireArg v req) s = .next { t with swArgs := Tbl.put t.swArgs req (v % 2 ^ 32) }) ∧
  (∀ (s t : State) (c req : Nat), s.meets32 pgEVF req Reg.EVF.SWFIRE c t →
    exec (.swfireCh c req) s = .next (t.swfire (c % 256) (Tbl.getD t.swArgs req 0) req)) ∧
  (∀ (s t : State) (c : Nat) (e : Ev), s.evs.find? (fun e => e.ch == c && decide (e.entered + 2 ≤ s.cycle)) = some e →
    s.clocked = true →
    t = (e.tasks.zipIdx).foldl (fun x y => x.deliverTask e y.2 y.1) { s with evs := s.evs.erase e } →
    (c < 248 → exec (.eventDelivery c) s = .next ((t.applyBy c).srcEdge (4352 + c))) ∧
    (248 ≤ c → exec (.eventDelivery c) s = .next (((t.applyBy c).srcEdge (4352 + c)).latchesHand false (c - 248)))) ∧
  (∀ (s t : State) (off v req : Nat), 0x200 ≤ off → off < 0x238 → off % 4 = 0 → s.meets32 pgEVF req off v t →
    exec (.channelWrite off v req) s = .next (t.chanWrite (t.chsel req) off (v % 2 ^ 32) req)) ∧
  (∀ s : State, exec .channelWriteEffect s = .next ((s.chanWrites.filter (fun w => decide (w.at_ ≤ s.cycle))).foldl
    (fun x w => x.setChan w.ch ((x.chan w.ch).write w.ch w.off w.val))
    { s with chanWrites := s.chanWrites.filter (fun w => !decide (w.at_ ≤ s.cycle)) })) ∧
  (∀ (s h t : State) (g held : Nat) (lv : Bool), g < 64 → s.gpioIsOut g = false →
    h = (s.latchSee true g lv (!lv)).latchesHand true g → h.enabled pgEVF = true → h.clocked = true →
    bits (h.gpioCfg g) 7 4 < held → bit (h.rg64 pgEVF Reg.EVF.GPIOIN) g ≠ lv →
    t = h.setRg64 pgEVF Reg.EVF.GPIOIN (setBits (h.rg64 pgEVF Reg.EVF.GPIOIN) g g (b2n lv)) →
    (h.cycle < h.gpioSince g + held → exec (.gpioInputEdge g lv held) s = .next t) ∧
    (h.gpioSince g + held ≤ h.cycle → inEdge (h.gpioCfg g) lv = false → exec (.gpioInputEdge g lv held) s = .next t) ∧
    (h.gpioSince g + held ≤ h.cycle → inEdge (h.gpioCfg g) lv = true → exec (.gpioInputEdge g lv held) s = .next
      (((t.producers pgEVF (64 + g) g).filter (fun ch => decide (ch < 248))).foldl (fun x ch => x.enterNew ch 1 0 0 g) t))) ∧
  (∀ (s : State) (g r : Nat), Tbl.get? s.pulses g = some r → r ≤ s.cycle →
    exec (.pulseEnd g) s = .next { s.gpioSet g false with pulses := Tbl.del s.pulses g }) ∧
  (∀ (s t : State) (v req : Nat), s.meets64 pgEVF req Reg.EVF.GPIOOUT v t →
    exec (.gpioout v req) s = .next ((t.gpioOutWrite false v).gpioOutWrite true (v / 2 ^ 32))) ∧
  (∀ (s : State) (ch g : Nat) (up : Bool), 248 ≤ ch → ch < 256 → g < 64 → (s.chan ch).en = true →
    (s.chan ch).prod = pgEVF + (64 + g) * 256 → bit (s.gpioCfg g) 0 = false → inEdge (s.gpioCfg g) up = true →
    g &&& (s.chan ch).filtm = (s.chan ch).filtv &&& (s.chan ch).filtm →
    (s.clocked = true → exec (.asyncChannelEdge ch g up) s = .next (s.enterNew ch 1 0 0 0)) ∧
    (s.clocked = false → exec (.asyncChannelEdge ch g up) s = .next (s.asyncActs ch (s.chan ch))))

/-- R329: a completion of a source that is not ACTIVE, or through a register that does not match its CLAIMER, or above 4,991,
is spurious: no source changes, SPURCMP counts it, ERR.SPUR (bit 0) is set and 0x240 is logged with the source number. -/
def Obligations.SpuriousCompletionsAreIgnored : Prop :=
  ∀ (s : State) (i lo hi : Nat), s.Inv → s.bicOn = true →
    ((s.src i).st ≠ 2 ∨ (s.src i).claimer < lo ∨ hi < (s.src i).claimer ∨ 4991 < i) →
    (s.complete i lo hi).srcs = s.srcs ∧
    (s.complete i lo hi).rg pgBIC Reg.BIC.SPURCMP = satAdd 32 (s.rg pgBIC Reg.BIC.SPURCMP) 1 ∧
    bit ((s.complete i lo hi).page pgBIC).err 0 = true ∧
    ((s.complete i lo hi).page pgBIC).log =
      (((s.page pgBIC).setErr 0).countErr.push ⟨0x240, s.cycle % 2 ^ 32, i % 2 ^ 20⟩).log

/-! ## Axes, sigma-delta inputs, network time -/

/-- An axis: AXIS_START and AXIS_STOP by register and by task, AXIS_ABORT, SEGHEAD, AXIS_CYCLE, SEGMENT_END, STEP,
STANDSTILL, COIL_WAKE_END and SETPOINT_FRAME (R347 to R355). Where the spec is open it rests on the readings of log
entry 24. -/
def Obligations.AxisCommandsComplete : Prop :=
  (∀ (s t : State) (n req : Nat), s.meets32 (pgAXS n) req Reg.AXS.CMD 1 t → t.axRuns n = true →
    exec (.axisStart n false req) s = .next (t.axStart n none)) ∧
  (∀ (s t : State) (n req : Nat) (g : Trig), s.takeTrig (pgAXS n) 0 = some (g, t) → t.axRuns n = true →
    exec (.axisStart n true req) s =
      .next ((t.setRg64 (pgAXS n) Reg.AXS.LASTIDX g.index).axStart n (some (g.origin, g.depth)))) ∧
  (∀ (s t : State) (n req : Nat), s.meets32 (pgAXS n) req Reg.AXS.CMD 2 t → t.axLive n = true →
    exec (.axisStop n false req) s = .next (t.axStop n)) ∧
  (∀ (s t : State) (n req : Nat) (g : Trig), s.takeTrig (pgAXS n) 1 = some (g, t) → t.axLive n = true →
    exec (.axisStop n true req) s = .next (t.axStop n)) ∧
  (∀ (s t : State) (n req : Nat), s.meets32 (pgAXS n) req Reg.AXS.CMD 4 t → t.axLive n = true →
    exec (.axisAbort n req) s = .next (t.axAbort n)) ∧
  (∀ (s t : State) (n v req : Nat), s.meets32 (pgAXS n) req Reg.AXS.SEGHEAD v t →
    exec (.seghead n v req) s = .next (t.segHeadWrite n v)) ∧
  (∀ (s h w t : State) (n : Nat) (xg : Int), s.axLive n = true → h = s.axWaited n → (h.ax n).seg = none →
    (w, xg) = (if h.axGeared n then (h.drawn, (h.ax n).xg0 + nearest ((h.wposS (h.gdom n) -
      h.rgI (pgAXS n) Reg.AXS.GORG) * h.axGratio n) 256 (Config.tieUp h.fresh))
      else (h, h.rgI (pgAXS n) Reg.AXS.XGEAR)) →
    t = w.setRgI (pgAXS n) Reg.AXS.XGEAR xg → t.fb (pgAXS n) Reg.AXS.CFG 0 = false →
    exec (.axisCycle n) s =
      .next (((t.setRgI (pgAXS n) Reg.AXS.XCMD ((h.ax n).xprof + xg)).setAx n (h.ax n)).lagCheck n)) ∧
  (∀ (s t u : State) (n : Nat) (g : Seg), s.axLive n = true → (s.ax n).seg = some g → g.dur ≤ (s.ax n).u →
    t = s.setAx n { s.ax n with
      seg := none
      xprof := g.pos
      vlast := g.vel
      stopReq := false } → u = t.happenFrom (pgAXS n) 0 (n * 65536 + g.num % 65536) (s.ax n).chain →
    (g.fin = true → (s.ax n).stopReq = false →
      exec (.segmentEnd n) s = .next ((u.setPstate n 0).happenFrom (pgAXS n) 1 0 (s.ax n).chain)) ∧
    ((s.ax n).stopReq = true → exec (.segmentEnd n) s =
      .next (((u.setPstate n 0).setGeared n false).happenFrom (pgAXS n) 1 0 (s.ax n).chain)) ∧
    (g.fin = false → (s.ax n).stopReq = false → u.axRuns n = true →
      u.segPresent n (u.rg (pgAXS n) Reg.AXS.SEGTAIL) = true → exec (.segmentEnd n) s = .next (u.segStart n g.vel)) ∧
    (g.fin = false → (s.ax n).stopReq = false → u.axRuns n = false →
      u.segPresent n (u.rg (pgAXS n) Reg.AXS.SEGTAIL) = true → exec (.segmentEnd n) s = .next u) ∧
    (g.fin = false → (s.ax n).stopReq = false →
      u.segPresent n (u.rg (pgAXS n) Reg.AXS.SEGTAIL) = false → exec (.segmentEnd n) s = .next (u.segLate n))) ∧
  (∀ (s t : State) (n : Nat), s.axLive n = true → s.fb (pgAXS n) Reg.AXS.CFG 0 = false → 0 < s.axLag n →
    s.axCoil n = 0 → (s.ax n).wake = none → (s.lagCheck n).axLive n = true → (s.ax n).dirUp = true →
    (s.ax n).dirAt = none → (s.ax n).lastStep = none →
    t = (s.setRg (pgAXS n) Reg.AXS.EPOS (enc2 32 (sgn 32 (s.rg (pgAXS n) Reg.AXS.EPOS) + 1))).inc (pgAXS n)
      Reg.AXS.STEPCNT 1 →
    exec (.step n) s = .next (((t.setAx n { s.ax n with
      lastStep := some t.cycle
      moved := t.cycle }).pin (pgAXS n) 0 (bits ((t.setAx n { s.ax n with
        lastStep := some t.cycle
        moved := t.cycle }).axStept n) 7 0)).showLag n)) ∧
  (∀ s (n : Nat), s.axLive n = true → s.axCoil n = 0 → (s.ax n).wake = none →
    (s.fb (pgAXS n) Reg.AXS.CFG 0 = true ∨ s.axLag n = 0) →
    (s.ax n).moved + s.rg (pgAXS n) Reg.AXS.STANDTMO ≤ s.cycle →
    exec (.standstill n) s = .next (s.setCoil n (s.restCoil n))) ∧
  (∀ (s : State) (n c : Nat), (s.ax n).wake = some c → s.axLive n = true →
    c + s.rg (pgAXS n) Reg.AXS.WAKE ≤ s.cycle →
    exec (.coilWakeEnd n) s = .next ((s.setAx n { s.ax n with wake := none }).lagCheck n)) ∧
  (∀ (s t : State) (n : Nat), s.axLive n = true → s.fb (pgAXS n) Reg.AXS.CFG 0 = true →
    (s.ax n).lastFrame + s.axSpper n ≤ s.cycle →
    t = s.setAx n { s.ax n with
      seq := ((s.ax n).seq + 1) % 256
      lastFrame := s.cycle } → t.standby = false →
    exec (.setpointFrame n) s = .next (t.emit (.frame (pgAXS n) 0 [] [setpointWord (s.ax n).seq
      (s.rgI (pgAXS n) Reg.AXS.XCMD) (b2n (s.axCoil n == 0) + 2 * b2n ((s.page (pgAXS n)).state == .fault) +
        4 * b2n (s.axPstate n == 1) + 8 * b2n (s.axGeared n))])))

/-- SDF_OUTPUT, STUCK and PEAK_READ (R358 to R366): an output forms from 2R modulator bits and is shown, counted,
queued. Where the spec is open it rests on the readings of log entry 23. -/
def Obligations.SigmaDeltaCommandsComplete : Prop :=
  (∀ (s t u y w z : State) (n fl : Nat) (bs : List Bool) (x0 x1 x2 : Sdf) (v : Int) (f1 f2 f3 prev : Bool),
    s.unitRuns .sdf n = true ∨ s.sdDrains n = true → s.sdClocked n = true → bs.length = 2 * 2 ^ sincLog (s.sdPreset n) →
    x0 = { s.sd n with stuck := s.sdStuck n bs } →
    x0.sinc (s.sdPreset n) (bs.take (2 ^ sincLog (s.sdPreset n))) = (x1, f1) →
    x1.sinc (s.sdPreset n) (bs.drop (2 ^ sincLog (s.sdPreset n))) = (x2, f2) →
    x2.fir (s.sdPreset n) (Config.tieUp s.fresh) = (v, f3) →
    fl = b2n (decide (x2.since < unsettled (s.sdPreset n))) + 2 * b2n (f1 || f2 || f3) + 4 * b2n x2.stuck →
    t = (((s.drawn.setSd n { x2 with
      since := x2.since + 1
      seq := (x2.seq + 1) % 65536 }).setRg (pgSDF n) Reg.SDF.LAST (enc2 32 v)).setRg64 (pgSDF n) Reg.SDF.LTIME
      s.cycle).inc (pgSDF n) Reg.SDF.OUTCNT 1 →
    u = (if f1 || f2 || f3 then t.sat (pgSDF n) Reg.SDF.SATCNT 1 else t).sdTake n v (decide (fl = 0)) →
    y = (if x2.since = unsettled (s.sdPreset n) then u.happen (pgSDF n) 4 n else u) →
    w = (if x2.since < unsettled (s.sdPreset n) then y else (y.sdDetect n (s.sdSet n) v).sdLimit n (s.sdSet n) v) →
    w.sdQueue n (s.sdSet n) (sdfEntry v fl n x2.seq w.cycle) = (z, prev) →
    exec (.sdfOutput n bs) s = .next
      (let q := ((z.setRg (pgSDF n) Reg.SDF.LSTAT (fl + 8 * b2n prev + x2.seq * 65536)).atBoundary (pgSDF n)
        (·.sdApply n)).sdBegin n (s.sdSet n)
       if s.sdDrains n then q.sdHalt n true else q)) ∧
  (∀ (s t : State) (n clocks : Nat) (lv : Bool), s.unitRuns .sdf n = true → s.sdClocked n = true →
    s.rg (pgSDF n) Reg.SDF.STUCKN ≤ clocks → (s.sd n).stuck = false →
    t = ((s.setSd n { s.sd n with
      stuck := true
      stuckLevel := lv
      stuckAt := s.cycle }).sat (pgSDF n) Reg.SDF.STUCKCNT 1).err (pgSDF n) 1 0x261 0 →
    exec (.stuck n lv clocks) s = .next ((t.happen (pgSDF n) 3 n).violate (pgSDF n) 0x261)) ∧
  (∀ (s : State) (n req : Nat) (mx : Bool), n < 16 → s.reaches req = true → s.readRefused (pgSDF n) req = false →
    exec (.peakRead n mx req) s = .next (s.peakRead n mx))

/-- R374: a 64-bit read of TIMENS captures T, F and N of one cycle for the requester that reads, and only for that one: it
gets the integer nanoseconds of T, and TIMEFRAC and CAPCYC then return the fraction and N of its capture. STAMP captures the
same values into the STAMP registers. -/
def Obligations.TimeCaptureIsPerRequester : Prop :=
  (∀ (s : State) (req : Nat), s.readable pgPTP req → ∃ u, exec (.timensCapture req) s = .next u ∧
    u.readData = s.timeNs % 2 ^ 64 ∧ u.ptpRead Reg.PTP.TIMEFRAC req = some (s.timeFrac % 2 ^ 32) ∧
    u.ptpRead Reg.PTP.CAPCYC req = some (s.cycle % 2 ^ 32) ∧
    u.ptpRead (Reg.PTP.CAPCYC + 4) req = some (s.cycle / 2 ^ 32 % 2 ^ 32) ∧
    ∀ r, r ≠ req → Tbl.wf s.ptp.caps = true → u.ptpRead Reg.PTP.TIMEFRAC r = s.ptpRead Reg.PTP.TIMEFRAC r) ∧
  (∀ (s t : State) (g : Trig), s.Inv → s.takeTrig pgPTP 0 = some (g, t) → s.enabled pgPTP = true →
    ∃ u : State, exec .stamp s = .next (u.happenFrom pgPTP 0 0 (some (g.origin, g.depth))) ∧
      u.rg64 pgPTP Reg.PTP.STAMPNS = s.timeNs % 2 ^ 64 ∧ u.rg pgPTP Reg.PTP.STAMPFRAC = s.timeFrac % 2 ^ 32 ∧
      u.rg64 pgPTP Reg.PTP.STAMPCYC = s.cycle % 2 ^ 64)

/-- INC_WRITE, OFSADJ, TSET, TIME_PARAMETERS_APPLY, TIMENS_CAPTURE and STAMP (R372 to R374); TX_ENTRY, TXTSQ1_POP,
RX_FRAME, ETH_FRAME_ERROR, ETH_LINK_DOWN and ETH_LINK_UP (R369 to R378). Where the spec is open it rests on the
readings of log entry 38. -/
def Obligations.NetworkCommandsComplete : Prop :=
  (∀ (s t : State) (v req : Nat), s.meets64 pgPTP req Reg.PTP.INC v t →
    exec (.incWrite v req) s = .next (t.incWrite v)) ∧
  (∀ (s t : State) (v req : Nat), s.meets64 pgPTP req Reg.PTP.OFSADJ v t →
    exec (.ofsadj v req) s = .next (t.ofsWrite v)) ∧
  (∀ (s t : State) (v req : Nat), s.meets32 pgPTP req Reg.PTP.TSETFRAC v t →
    exec (.tset v req) s = .next (t.tsetWrite v)) ∧
  (∀ (s : State) (w : PtpWrite), s.ptp.pend.find? (fun w => decide (w.at_ ≤ s.cycle)) = some w →
    exec .timeParametersApply s = .next { s with ptp := s.ptp.applyAt w.at_ }) ∧
  (∀ (s : State) (req : Nat), s.readable pgPTP req → exec (.timensCapture req) s = .next (s.timeCapture req)) ∧
  (∀ (s t : State) (g : Trig), s.takeTrig pgPTP 0 = some (g, t) → t.enabled pgPTP = true →
    exec .stamp s = .next (((((t.setRg64 pgPTP Reg.PTP.STAMPNS t.timeNs).setRg pgPTP Reg.PTP.STAMPFRAC
      (t.timeFrac % 2 ^ 32)).setRg64 pgPTP Reg.PTP.STAMPCYC
      ((t.setRg64 pgPTP Reg.PTP.STAMPNS t.timeNs).setRg pgPTP Reg.PTP.STAMPFRAC (t.timeFrac % 2 ^ 32)).cycle).inc pgPTP
      Reg.PTP.STAMPCNT 1).happenFrom pgPTP 0 0 (some (g.origin, g.depth)))) ∧
  (∀ (s t u : State) (n : Nat) (e d : List Byte), n < unitCount s.variant .eth → s.running (pgETH n) = true →
    s.peek (pgETH n) 0 = (t, some e) → t.ethUp n = true → t.txBad n e = false → t.txData n e = (u, .inr (some d)) →
    exec (.txEntry n) s = .next (u.txSend n e d)) ∧
  (∀ (s t : State) (n : Nat) (e : List Byte), n < unitCount s.variant .eth → s.running (pgETH n) = true →
    s.peek (pgETH n) 0 = (t, some e) → t.ethUp n = true → t.txBad n e = true →
    exec (.txEntry n) s = .next (t.txRefuse n)) ∧
  (∀ (s : State) (n req : Nat), n < unitCount s.variant .eth → s.readable (pgETH n) req →
    exec (.txtsq1Pop n req) s = .next (s.tsPop n)) ∧
  (∀ (s t : State) (n : Nat) (bs : List Byte), s.ethUp n = true → 64 ≤ bs.length + 4 →
    bs.length + 4 ≤ s.fl (pgETH n) Reg.ETH.MAXLEN 11 0 → s.rxAccepts n bs = true → leAt bs 12 2 ≠ 0x0888 →
    s.rxStore n bs = (t, true) → exec (.rxFrame n bs) s = .next (t.inc (pgETH n) Reg.ETH.RXFRM 1)) ∧
  (∀ (s : State) (n : Nat) (bs : List Byte), s.ethUp n = true → bs.length + 4 < 64 →
    exec (.rxFrame n bs) s = .next (s.ethBad n 1 (bs.length + 4))) ∧
  (∀ (s : State) (n k len : Nat), s.ethUp n = true → k < 3 → exec (.ethFrameError n k len) s = .next (s.ethBad n k len)) ∧
  (∀ (s t : State) (n : Nat), n < unitCount s.variant .eth → s.fl (pgETH n) Reg.ETH.LSTAT 1 0 = 1 →
    t = ((((s.setRg (pgETH n) Reg.ETH.LSTAT 0).sat (pgETH n) Reg.ETH.DOWNCNT 1).err (pgETH n) 3 0x273 0).happen (pgETH n) 1
      n).violate (pgETH n) 0x273 →
    ((t.page (pgETH n)).state ≠ .fault → exec (.ethLinkDown n) s = .next t) ∧
    ((t.page (pgETH n)).state = .fault → exec (.ethLinkDown n) s = .next (t.setFl (pgETH n) Reg.ETH.LSTAT 1 0 2))) ∧
  (∀ (s : State) (n : Nat), n < unitCount s.variant .eth → s.fl (pgETH n) Reg.ETH.LSTAT 1 0 = 0 →
    s.enabled (pgETH n) = true → s.fb (pgETH n) Reg.ETH.CFG 0 = false →
    exec (.ethLinkUp n) s = .next (((s.setRg (pgETH n) Reg.ETH.LSTAT 5).happen (pgETH n) 0 n).noteUp 3 n))

/-! ## The worker link and redundancy -/

/-- Toltur ports and timebase: TLK_LANE_LOCK_LOSS, TOLTUR_LOCK_DONE, PING, RING_SEND, RING_FRAME, TB_SEND, TB_FRAME,
TBLOST, TBHALT and TOLTUR_FRAME_ERROR (R381 to R388). Where the spec is open it rests on the readings of log entry 39.
-/
def Obligations.RingCommandsComplete : Prop :=
  (∀ (s t : State) (b : Bool) (l : Nat), l < 4 → bit (s.portLock b) l = true → s.portState b = 1 ∨ s.portState b = 2 →
    t = (((s.laneLost b l).err pgTLK 2 0x292 (b2n b)).sat pgTLK Reg.TLK.DOWNCNT 1).tlkViolate b 0x292 →
    (t.portState b = 3 → exec (.tlkLaneLockLoss b l) s = .next (t.setPortState b 1)) ∧
    (t.portState b ≠ 3 → exec (.tlkLaneLockLoss b l) s = .next t)) ∧
  (∀ (s : State) (b : Bool), s.portState b = 1 → s.portLock b ≠ 0xF → s.clocked = true →
    exec (.tolturLockDone b) s = .next ((s.setPortLock b 0xF).pingSend b)) ∧
  (∀ (s t : State) (b : Bool) (src t1 t2 t3 : Nat), s.portState b = 1 ∨ s.portState b = 2 → s.portLock b = 0xF →
    s.clocked = true →
    t = (if b then s.setFl pgTLK Reg.TLK.PSTAT 15 12 src else s.setFl pgTLK Reg.TLK.PSTAT 11 8 src) →
    exec (.ping b false src 0 t1 t2 t3) s = .next (t.drawn.drawn.pingPut b [t1, t.tlkStamp, t.drawn.tlkStamp])) ∧
  (∀ s : State, s.tlkRuns = true → s.tlk.ringSent + 1024 ≤ s.cycle →
    exec .ringSend s = .next ({ s with tlk := { s.tlk with
      ringSent := s.cycle
      ringSeq := (s.tlk.ringSeq + 1) % 65536 } }.tlkCast 9 s.tlk.ringSeq [s.role + 16 * s.rsize])) ∧
  (∀ (s t : State) (b : Bool) (src b3 seq role rsize : Nat), s.portUp b = true → src ≠ s.devid →
    t = s.setTport b { s.tport b with hops := Tbl.put (s.tport b).hops (src % 16) (b3Hops b3 + 1) } →
    t.tlkCopy 9 src seq = false → exec (.ringFrame b src b3 seq role rsize) s =
      .next ((t.tlkNote b 9 src seq).tlkRepeat b 9 src (b3Shadow b3) (b3Hops b3) (b3Pfault b3) seq
        [role % 4 + rsize % 16 * 16])) ∧
  (∀ s : State, s.tlkRuns = true → s.role = 0 → s.redState = 1 → s.tlk.tbSent + 32 ≤ s.cycle →
    exec .tbSend s = .next ({ s with tlk := { s.tlk with tbSent := s.cycle } }.tlkCast 1 0 s.tbWords)) ∧
  (∀ (s t : State) (b pf : Bool) (src hops dly : Nat) (ws : List Nat), s.portUp b = true → ws.length = 17 →
    s.tlkCopy 1 0 (ws.headD 0 % 2 ^ 64) = false →
    t = (s.drawn.tlkNote b 1 0 (ws.headD 0 % 2 ^ 64)).tlkRepeat b 1 src 0 hops (b2n pf)
      ((dly + s.ldly b + s.draw 8 % 129) % 65536) ws →
    t.mepoch < ws.headD 0 % 65536 → exec (.tbFrame b false pf src hops dly ws) s =
      .next (t.tbAccept src (dly + s.ldly b) (ws.headD 0 % 65536) (bits (ws.headD 0) 63 16) pf ws)) ∧
  (∀ s : State, s.tbFollows = true → s.fb pgTLK Reg.TLK.TBSTAT 5 = false →
    s.tlk.tbAt + s.fl pgTLK Reg.TLK.TBMAX 7 0 * 32 ≤ s.cycle → exec .tblost s =
      .next ((((s.setFl pgTLK Reg.TLK.TBSTAT 5 5 1).sat pgTLK Reg.TLK.TBLOSTCNT 1).err pgTLK 7 0x297 0).happen pgTLK 2 0)) ∧
  (∀ s : State, s.tbFollows = true → s.tlk.tbAt + s.rg pgTLK Reg.TLK.TBHALT ≤ s.cycle → exec .tbhalt s =
    .next ((List.range 4).foldl (fun t d => if t.unitRuns .obs d && t.obsMode d == 3 then t.obsHalt d else t) s)) ∧
  (∀ (s : State) (b : Bool), s.portUp b = true →
    exec (.tolturFrameError b true) s =
      .next (((s.err pgTLK 0 0x290 (b2n b)).sat pgTLK Reg.TLK.CRCCNT 1).tlkViolate b 0x290) ∧
    exec (.tolturFrameError b false) s = .next (s.tlkMalf b))

/-- RSEND, EVT_FRAME, TLK_TUNCMD, TREQ, TRSP and TLK_TUNTMO (R389, R390); FWD_FRAME, FACK, FACK_SEND, FWTMO,
CLPD_FRAME, MIR_FRAME, TB_LOSS, TAKEOVER, DECLFAIL and ALIGN (R391 to R400). Where the spec is open it rests on the
readings of log entry 39. -/
def Obligations.RingTrafficCommandsComplete : Prop :=
  (∀ (s t u : State) (g : Trig) (l : List Trig),
    s.trigs.find? (fun t => t.page == pgTLK && decide (64 ≤ t.task)) = some g →
    l = (s.trigs.filter (fun x => x.page == pgTLK && decide (64 ≤ x.task) && x.cycle == g.cycle)).take 8 →
    t = { s with trigs := s.trigs.filter (fun x => !l.contains x) } → t.tlkRuns = true → t.redState ≠ 4 →
    u = t.inc pgTLK Reg.TLK.REVCNT l.length →
    exec .rsend s = .next ({ u with tlk := { u.tlk with evtSeq := (u.tlk.evtSeq + 1) % 65536 } }.tlkCast 2 s.tlk.evtSeq
      (l.map (fun (x : Trig) => (x.task - 64) % 64 + x.depth % 16 * 2 ^ 8 + x.arg % 2 ^ 32 * 2 ^ 32)))) ∧
  (∀ (s t : State) (b pf : Bool) (src hops seq : Nat) (ws : List Nat), s.portUp b = true → 0 < ws.length → ws.length ≤ 8 →
    s.tlkCopy 2 src seq = false → t = (s.tlkNote b 2 src seq).tlkRepeat b 2 src 0 hops (b2n pf) seq ws →
    exec (.evtFrame b false pf src hops seq ws) s = .next (ws.foldl (fun (x : State) w =>
      (x.producers pgTLK (64 + w % 64) (bits w 63 32)).foldl (fun y ch => y.enterRemote ch (bits w 63 32) (bits w 11 8))
        x) t)) ∧
  (∀ (s t : State) (wr wide : Bool) (req : Nat), s.meets32 pgTLK req Reg.TLK.TUNCMD (1 + 2 * b2n wr + 4 * b2n wide) t →
    exec (.tlkTuncmd wr wide req) s = .next (t.ringTun wr wide)) ∧
  (∀ (s : State) (b wide : Bool) (src b3 seq off d : Nat), s.portUp b = true → s.devid < 15 → src = s.mgr →
    s.busRefused (off % 2 ^ 22) 8 true = false →
    exec (.treq b src s.devid b3 seq off wide true d) s =
      .next ((s.regWrite (off % 2 ^ 22) (if wide then 8 else 4) d 8).tlkSend 4 src seq [0, 0])) ∧
  (∀ (s : State) (b wide : Bool) (src b3 seq off d : Nat), s.portUp b = true → s.devid < 15 → src = s.mgr →
    s.busRefused (off % 2 ^ 22) 8 false = false →
    exec (.treq b src s.devid b3 seq off wide false d) s =
      .next ({ s.regRead (off % 2 ^ 22) (if wide then 8 else 4) 8 with readData := s.readData }.tlkSend 4 src seq
        [0, (s.regRead (off % 2 ^ 22) (if wide then 8 else 4) 8).readData])) ∧
  (∀ (s : State) (b : Bool) (b3 code d : Nat) (x : TlkTun), s.portUp b = true → s.devid < 15 → s.tlk.tun = some x →
    x.wr = false → exec (.trsp b x.dev s.devid b3 x.seq code d) s =
      .next ((s.setRg64 pgTLK Reg.TLK.TUNDATA d).ringTunEnd (code % 8))) ∧
  (∀ (s : State) (x : TlkTun), s.tlk.tun = some x → x.at_ + s.rg pgTLK Reg.TLK.TUNTMO ≤ s.cycle →
    exec .tlkTuntmo s = .next (((s.ringTunEnd 2).err pgTLK 6 0x296 x.dev).tlkViolate x.portB 0x296)) ∧
  (∀ (s t : State) (b : Bool) (src b3 w : Nat) (ws : List Nat), s.portUp b = true → s.devid < 15 → s.mgr = s.devid →
    ws.length = 8 * bits w 41 36 → bits w 41 36 ≤ 32 → bit w 35 = false → t = s.setFwdRx src (s.fwdRx src) →
    (s.fwdRx src).expect = w % 2 ^ 32 →
    exec (.fwdFrame b src s.devid b3 (w :: ws)) s = .next (t.fwdAccept src w ws (s.fwdRx src))) ∧
  (∀ (s t : State) (b : Bool) (b3 a : Nat), s.portUp b = true → s.devid < 15 →
    t = { s with tlk := { s.tlk with
      ackSeq := a % 2 ^ 32
      ackAt := s.cycle
      sent := fwdDrop (a % 2 ^ 32) [] s.tlk.sent } } →
    exec (.fack b s.mgr s.devid b3 a false) s = .next t.showFwd ∧
    exec (.fack b s.mgr s.devid b3 a true) s = .next (t.fwdResend t.fwdOpen).showFwd) ∧
  (∀ (s : State) (d : Nat) (x : FwdRx), Tbl.get? s.tlk.rx d = some x → s.tlkRuns = true → s.mgr = s.devid →
    x.at_ + 1024 ≤ s.cycle → exec (.fackSend d) s = .next (s.fackSend d false)) ∧
  (∀ s : State, s.tlkRuns = true → s.fwdOpen ≠ [] → s.tlk.ackAt + s.rg pgTLK Reg.TLK.FWTMO ≤ s.cycle →
    exec .fwtmo s = .next (s.fwdResend s.fwdOpen)) ∧
  (∀ (s : State) (b : Bool) (src b3 c : Nat) (ws : List Nat), s.portUp b = true → s.devid < 15 →
    6 ≤ ws.length → ws.length = 6 + ws.getD 5 0 →
    exec (.clpdFrame b src s.devid b3 c ws) s = .next ((List.range 4).foldl (fun (t : State) n =>
      if bit (t.impW n) 0 && bits (t.impW n) 7 4 == src && bits (t.impW n) 9 8 == c then t.clpImport n (clpdLine ws)
      else t) s)) ∧
  (∀ (s t : State) (b : Bool) (b3 q a d : Nat), s.portUp b = true → s.devid < 15 → s.role = 1 → s.redState = 2 →
    s.tlk.mirNext = none → q < 2 ^ 32 → mirSkips (a % 2 ^ 22) = false → bit a 22 = false →
    t = ((({ s with tlk := { s.tlk with mirNext := some ((q + 1) % 2 ^ 32) } } : State).setRg pgRED Reg.RED.MIRSEQ q).inc
      pgRED Reg.RED.MIRCNT 1) →
    exec (.mirFrame b s.mgr s.devid b3 [q + 2 ^ 32, a, d]) s = .next (t.regWrite (a % 2 ^ 22) 4 d 0)) ∧
  (∀ s : State, s.running pgRED = true → s.redState = 2 → s.fb pgRED Reg.RED.CFG 4 = true → s.tlk.tbAt + 104 ≤ s.cycle →
    exec .tbLoss s = .next (s.takeOver 1)) ∧
  (∀ (s t : State) (req : Nat),
    (s.meets32 pgRED req Reg.RED.CMD 1 t → exec (.takeover req) s = .next t.redTakeover) ∧
    (s.meets32 pgRED req Reg.RED.CMD 2 t → exec (.declfail req) s = .next t.redDeclfail) ∧
    (s.meets32 pgRED req Reg.RED.CMD 4 t → exec (.align req) s = .next t.redRealign))

/-! ## Memory, calibration, Lantern -/

/-- ECC_WRITEBACK, SCRUB, INJECT, DRAM_REQUEST, DRAM_COMMAND, REFRESH, ROW_CLOSE, DMC_SCRUB, DRAM_TRAINING and
DERATE_CHANGE (R404 to R418, R486). Where the spec is open it rests on the readings of log entries 15, 16 and 40. -/
def Obligations.MemoryCommandsComplete : Prop :=
  (∀ (s : State) (k w : Nat), s.sram.wb.contains (sramKey k w) = true → exec (.eccWriteback k w) s = .next { s with
    sram := { s.sram with
      flips := Tbl.del s.sram.flips (sramKey k w)
      wb := s.sram.wb.filter (· != sramKey k w) } }) ∧
  (∀ (s t : State) (f k w : Nat), s.fb pgSRAM Reg.SRAM.ECCCTL 1 = true →
    s.scrubDue = true → k = s.fl pgSRAM Reg.SRAM.SCRUBPOS 29 28 →
    w = s.fl pgSRAM Reg.SRAM.SCRUBPOS 24 0 → t = ((s.sramUpset k w f).sramRead k w).1 →
    exec (.scrub f) s = .next ({ t with sram := { t.sram with scrubAt := s.cycle } }.setRg pgSRAM Reg.SRAM.SCRUBPOS
      (if w + 1 < sramWords s.variant k then w + 1 + k * 2 ^ 28 else (k + 1) % 4 * 2 ^ 28))) ∧
  (∀ (s t : State) (v req : Nat), s.meets32 pgSRAM req Reg.SRAM.INJECT v t →
    exec (.inject v req) s = .next (t.injectWrite v)) ∧
  (∀ (s t u : State) (who a n : Nat) (bs : List Byte) (ce ue : List Nat), bs.length = n → t = s.dramUpset ce ue →
    t.dramFault (t.dramWho who) true a n = none → u = t.dramPass (t.dramWho who) true a n →
    exec (.dramRequest who true a n bs ce ue) s = .next { u with
      dram := Memory.setBytes (dramEmpty t.dramLost) t.dram a bs
      dramBad := t.dramBad.filter (fun b => !(decide (a ≤ b) && decide (b + 8 ≤ a + n))) }) ∧
  (∀ (s t : State) (who a n : Nat) (bs : List Byte) (ce ue : List Nat), t = s.dramUpset ce ue →
    t.dramFault (t.dramWho who) false a n = none → exec (.dramRequest who false a n bs ce ue) s =
      .next { t.dramPass (t.dramWho who) false a n with readData := leVal (t.dramBytes a n) }) ∧
  (∀ (s t : State) (c ready b i : Nat) (r : DramReq), c < s.nch → t = s.dmcCycle c → t.dmcLive c = true →
    ((List.range 16).map (fun i => ((t.dmc c).last + 1 + i) % 16)).findSome? (fun b =>
      if bit ready b = false ∨ 8 ≤ ((t.dmc c).bank b).owed then none
      else (((t.dmc c).bank b).next (t.fl (pgDMC c) Reg.DMC.HITMAX 3 0)).map (fun r => (b, r))) = some (b, (i, r)) →
    exec (.dramCommand c ready) s =
      .next (t.setDmc c ((t.dmc c).issue b i r (decide (t.fl (pgDMC c) Reg.DMC.IDLETMO 15 0 = 0))))) ∧
  (∀ (s t : State) (c b n : Nat), s.dmcLive c = true → b < 16 → (((s.dmc c).bank b).q = [] ∧
      -8 < ((s.dmc c).bank b).owed + n ∨ 8 ≤ ((s.dmc c).bank b).owed + n) →
    t = (s.setDmc c ((s.dmc c).setBank b { (s.dmc c).bank b with
        owed := ((s.dmc c).bank b).owed + n - 1
        row := none })).inc (pgDMC c) Reg.DMC.REFCNT 1 →
    exec (.refresh c b n) s = .next (if 8 ≤ ((s.dmc c).bank b).owed + n then t.sat (pgDMC c) Reg.DMC.FORCEREF 1 else t)) ∧
  (∀ (s : State) (c b row : Nat), c < s.nch → ((s.dmc c).bank b).row = some row → ((s.dmc c).bank b).q = [] →
    s.fl (pgDMC c) Reg.DMC.IDLETMO 15 0 ≤ ((s.dmc c).bank b).idle →
    exec (.rowClose c b) s = .next (s.setDmc c ((s.dmc c).setBank b { (s.dmc c).bank b with row := none }))) ∧
  (∀ (s t : State) (c u : Nat) (ce ue : List Nat), s.dmcLive c = true → s.fb (pgDMC c) Reg.DMC.CFG 4 = true →
    s.fb (pgDMC c) Reg.DMC.SCRUB 0 = true →
    (s.dmc c).scrubAt + s.fl (pgDMC c) Reg.DMC.SCRUB 31 8 ≤ (s.dmc c).clk → u = s.rg (pgDMC c) Reg.DMC.SCRUBPOS →
    t = ((s.dramUpset ce ue).setDmc c { s.dmc c with scrubAt := (s.dmc c).clk }).dramMeets (unitWho (pgDMC c)) false
      (s.deviceAddr c (u * 256)) 256 →
    t.dramBad.find? (fun b => decide (s.deviceAddr c (u * 256) ≤ b) && decide (b < s.deviceAddr c (u * 256) + 256)) = none →
    exec (.dmcScrub c ce ue) s =
      .next (t.setRg (pgDMC c) Reg.DMC.SCRUBPOS (if (u + 1) * 256 < t.usable c then u + 1 else 0))) ∧
  (∀ (s t : State) (c w : Nat) (ok : Bool), s.cal.training.contains c = true → t = s.trained c w ok →
    ((t.page (pgDMC c)).en = true → (t.page (pgDMC c)).state = .off →
      exec (.dramTraining c w ok) s = .next (t.settlePage (pgDMC c))) ∧
    ((t.page (pgDMC c)).en = false → exec (.dramTraining c w ok) s = .next t)) ∧
  (∀ (s t : State) (c rate : Nat), c < s.nch → rate < 3 → s.fl (pgDMC c) Reg.DMC.DSTAT 5 4 ≠ rate →
    t = s.setFl (pgDMC c) Reg.DMC.DSTAT 5 4 rate →
    (t.fb pgCALC Reg.CALC.CFG 13 = true → exec (.derateChange c rate) s = .next (t.calRequest 5 c false false)) ∧
    (t.fb pgCALC Reg.CALC.CFG 13 = false → exec (.derateChange c rate) s = .next t))

/-- DRAM as the requests see it: a write of whole bytes that no rule refuses stores exactly those bytes, little-endian in
ascending address, and every other byte of DRAM reads as before; a read changes no byte (R410, R415). -/
def Obligations.DramWritesStoreExactlyTheirBytes : Prop :=
  (∀ (s u : State) (w : Who) (a : Nat) (bs : List Byte), s.Inv → s.dramWrite w a bs = (u, true) →
    (∀ i < bs.length, some (Memory.byte (dramEmpty u.dramLost) u.dram (a + i)) = bs[i]?) ∧
    ∀ b, b < a ∨ a + bs.length ≤ b →
      Memory.byte (dramEmpty u.dramLost) u.dram b = Memory.byte (dramEmpty s.dramLost) s.dram b) ∧
  (∀ (s u : State) (w : Who) (a n : Nat) (d : Option (List Byte)), s.dramRead w a n = (u, d) →
    u.dram = s.dram ∧ u.dramLost = s.dramLost)

/-- CAL_GO, CAL_DRIFT, CAL_END, RECAL_START, GAPWAIT_EXPIRY and DRAM_RETRAIN (R423 to R431); MONITOR_READ,
PLAN_INTERVAL, PLAN, PLAN_STEP, PMBUS_TRANSACTION and BUS_STUCK (R432 to R437). Where the spec is open it rests on the
readings of log entries 41 and 42. -/
def Obligations.CalibrationAndLanternCommandsComplete : Prop :=
  (∀ (s t : State) (d i req : Nat) (f : Bool), s.meets32 pgCALC req Reg.CALC.CMD (1 + 2 * b2n f + 16 * d + 256 * i) t →
    exec (.calGo d i f req) s = .next (t.calGo d i f)) ∧
  (∀ (s : State) (d i w : Nat), d < 5 → i < s.calInsts d → s.calServes d i = true →
    s.fb pgCALC Reg.CALC.CFG (8 + d) = true → w < s.fl pgCALC Reg.CALC.EYEMIN 7 0 + 16 →
    exec (.calDrift d i w) s = .next (s.calRequest d i false false)) ∧
  (∀ (s : State) (d w : Nat) (ok : Bool) (j : CalJob), s.cal.running.find? (·.dom == d) = some j → j.lost = false →
    s.calServes d j.inst = true → s.calDue j = true →
    exec (.calEnd d w ok) s = .next (((s.calResult j w ok).calRelease j).calPump d)) ∧
  (∀ (s t : State) (j : CalJob), s.cal.nextJob 0 = some j → s.cal.running.any (·.dom == 0) = false →
    s.lstate j.inst = 2 → (s.link j.inst).laneEnd ≤ s.cycle * 100 → s.webGap j.inst = true →
    t = (s.calBegin j).setLink j.inst { (s.calBegin j).link j.inst with
      answers := 0
      rttSum := 0 } →
    exec .recalStart s = .next { t with cal := { t.cal with recal := some (j.inst, t.cycle) } }) ∧
  (∀ (s : State) (j : CalJob), s.cal.nextJob 0 = some j → s.rg pgCALC Reg.CALC.GAPWAIT ≠ 0 →
    j.at_ + s.rg pgCALC Reg.CALC.GAPWAIT ≤ s.cycle → exec .gapwaitExpiry s = .next { s with cal := { s.cal with
      waiting := s.cal.waiting.map (fun e => if e = j then { e with force := true } else e) } }) ∧
  (∀ (s t : State) (j : CalJob), s.cal.nextJob 5 = some j → s.cal.running.any (·.dom == 5) = false →
    s.cal.retrainAt = none → s.calServes 5 j.inst = true →
    t = (s.calBegin j).setFl (pgDMC j.inst) Reg.DMC.DSTAT 2 2 1 →
    exec .dramRetrain s = .next { t with cal := { t.cal with retrainAt := some t.cycle } }) ∧
  (∀ (s : State) (k i v : Nat) (z : Int), k = 1 ∨ k = 2 → s.running pgLANT = true → i < monCount k →
    s.lant.slack0 = none → z = (if k = 1 then sgn 32 v else ((v % 2 ^ 32 : Nat) : Int)) →
    exec (.monitorRead k i v) s = .next { s with lant := { s.lant with mon := Tbl.put s.lant.mon (k * 256 + i) z } }) ∧
  (∀ s : State, s.fb pgLANT Reg.LANT.CFG 0 = true →
    s.lant.planAt + s.rg pgLANT Reg.LANT.PERIOD * 250000000 ≤ s.runCycles →
    exec .planInterval s = .next (s.planStart 1)) ∧
  (∀ (s t : State) (req : Nat), s.meets32 pgLANT req Reg.LANT.CMD 1 t → exec (.plan req) s = .next (t.planStart 3)) ∧
  (∀ (s : State) (x : Plan), s.lant.plan = some x → s.lantLive = true → x.phase ≠ 0 → x.wait = none →
    (x.noAvs = false → exec .planStep s = .next ((s.setVout x.vout).planMove { x with wait := none })) ∧
    (x.noAvs = true → exec .planStep s = .next (s.planMove { x with wait := none }))) ∧
  (∀ (s : State) (cmd v : Nat), s.lantLive = true →
    exec (.pmbusTransaction 2 0 v) s = .next (s.voutRead v) ∧
    (bits v 7 5 = 0 → exec (.pmbusTransaction 3 0 v) s =
      .next ({ s with lant := { s.lant with badMode := false } } : State).planMode) ∧
    exec (.pmbusTransaction cmd 1 v) s = .next (s.pmbNack cmd) ∧
    exec (.pmbusTransaction cmd 2 v) s = .next (s.pmbPec cmd)) ∧
  (∀ s : State, s.lantLive = true →
    exec .busStuck s = .next ((s.pmb 5 0).pmbViolate Reg.LANT.NACKCNT 0x2D7 0))

/-! ## Keep -/

/-- Boot and the loading of objects: OBJECT_VERIFY, DQS_TIMEOUT, BLDCTL_START, BLDDATA, BLDLEN and ATTREADY (R441 to
R456). Where the spec is open it rests on the readings of log entry 43. -/
def Obligations.BootCommandsComplete : Prop :=
  (∀ (s t : State) (src : Nat) (bs : List Byte) (pm : Bool), t = s.keepStart → t.stage = 2 ∨ t.stage = 4 → src < 2 →
    t.xspiOk = true → t.bootSrc = src → t.bootFail = false →
    (t.sfdpRead.keep.check (if t.stage = 2 then 1 else 2) false bs = 0 →
      exec (.objectVerify src bs pm) s = .next (t.sfdpRead.bootAccept bs pm)) ∧
    (∀ c, t.sfdpRead.keep.check (if t.stage = 2 then 1 else 2) false bs = c → c ≠ 0 →
      exec (.objectVerify src bs pm) s = .next (t.sfdpRead.bootReject src c))) ∧
  (∀ (s t : State) (n : Nat) (bs : List Byte) (pm : Bool), t = s.keepStart → t.stage = 2 ∨ t.stage = 4 →
    t.keep.bldLen = some n →
    (t.keep.check (if t.stage = 2 then 1 else 2) true (t.keep.bld.take n) = 0 →
      exec (.objectVerify 2 bs pm) s = .next (t.bootAccept (t.keep.bld.take n) pm)) ∧
    (∀ c, t.keep.check (if t.stage = 2 then 1 else 2) true (t.keep.bld.take n) = c → c ≠ 0 →
      exec (.objectVerify 2 bs pm) s = .next (t.bootReject 2 c))) ∧
  (∀ (s t : State), t = s.keepStart → t.xspiOk = true → t.stage = 2 ∨ t.stage = 4 → t.bootSrc < 2 → t.bootFail = false →
    exec (.dqsTimeout 1) s =
      .next (({ t with keep := { t.keep with x8d := some false } }.sat pgKEEP Reg.KEEP.XERRCNT 1).err pgKEEP 9 0x312 0)) ∧
  (∀ (s t : State) (req : Nat), s.meets32 pgKEEP req Reg.KEEP.BLDCTL 1 t →
    exec (.bldctlStart req) s = .next t.keepLate.bldStart) ∧
  (∀ (s t : State) (v req : Nat), s.meets64 pgKEEP req Reg.KEEP.BLDDATA v t →
    exec (.blddata v req) s = .next (t.bldWord v)) ∧
  (∀ (s t : State) (v req : Nat), s.meets32 pgKEEP req Reg.KEEP.BLDLEN v t →
    exec (.bldlen v req) s = .next (t.bldEnd v)) ∧
  (∀ (s t : State) (n : Nat), s.keep.sub = some n → n + 355246040 ≤ s.cycle →
    t = ({ s with keep := { s.keep.subtreeDone with ready := true } } : State).setRg pgKEEP Reg.KEEP.SUBLEFT 1024 →
    (s.keep.ready = false → t.stage = 5 →
      exec .attready s = .next (((t.setStage 6).setRg64 pgRSTC Reg.RSTC.TATT t.cycle).happen pgKEEP 1 0)) ∧
    (s.keep.ready = false → t.stage ≠ 5 →
      exec .attready s = .next ((t.setRg64 pgRSTC Reg.RSTC.TATT t.cycle).happen pgKEEP 1 0)) ∧
    (s.keep.ready = true → exec .attready s = .next t))

/-- The commands of Keep's queue: ATTEST, LOADKEY, CLEARKEY, GETPUB, COMMIT, PROVISION, ENROLL, REVOKE, TOPROD, TORMA
and ROOTREV (R454 to R461). `t` is the state in which the entry `e` at the front has been read. Where the spec is open
it rests on the readings of log entry 43. -/
def Obligations.KeepQueueCommandsComplete : Prop :=
  ∀ (s t : State) (e : List Byte), s.keepTakes = true → s.peek pgKEEP 0 = (t, some e) → leAt e 1 7 = 0 →
    (leAt e 0 1 = 1 → exec .attest s = .next ((t.attest e).getD t)) ∧
    (leAt e 0 1 = 2 → exec .loadkey s = .next (t.loadKey e)) ∧
    (leAt e 0 1 = 3 → exec .clearkey s = .next (t.clearKey e)) ∧
    (leAt e 0 1 = 5 → exec .getpub s = .next (t.getPub e)) ∧
    (leAt e 0 1 = 6 → exec .commit s = .next (t.commitCtrs e)) ∧
    (leAt e 0 1 = 4 → t.signedOp e = 1 → exec .provision s = .next (t.signed e)) ∧
    (leAt e 0 1 = 4 → t.signedOp e = 2 → exec .enroll s = .next (t.signed e)) ∧
    (leAt e 0 1 = 4 → t.signedOp e = 3 → exec .revoke s = .next (t.signed e)) ∧
    (leAt e 0 1 = 4 → t.signedOp e = 4 → exec .toprod s = .next (t.signed e)) ∧
    (leAt e 0 1 = 4 → t.signedOp e = 5 → exec .torma s = .next (t.signed e)) ∧
    (leAt e 0 1 = 4 → t.signedOp e = 6 → exec .rootrev s = .next (t.signed e))

/-! ## Debug port and module -/

/-- The TAP: IDCODE, BYPASS, EXTEST, SAMPLE_PRELOAD, HIGHZ, CLAMP, TAP_RESET, WAKE_INSTRUCTION and DMI (R463, R468, R469).
TAP_RESET's selection of IDCODE is the model's choice (log entry 17). -/
def Obligations.TapCommandsComplete : Prop :=
  (∀ s : State, s.pwr.state ≠ 4 → exec .idcode s = .next { s.tapIr 1 with readData := idcode s.variant } ∧
    exec .bypass s = .next { s.tapIr 0x1F with readData := 0 } ∧ exec .tapReset s = .next (s.tapIr 1) ∧
    exec (.wakeInstruction true) s = .next ((s.tapIr 0x13).wakeBy 3 [1, 2, 3]) ∧
    exec (.wakeInstruction false) s = .next (s.tapIr 0x13)) ∧
  (∀ (s : State) (pins shift : List Bool), s.clocked = true → 1 ≤ s.level →
    exec (.extest shift) s =
      .next ({ s.tapIr 0 with dbg := { (s.tapIr 0).dbg with bsr := shift } }.tapPins 1 shift) ∧
    exec (.samplePreload pins shift) s =
      .next ({ s.tapIr 2 with dbg := { (s.tapIr 2).dbg with bsr := shift } }.tapPins 2 pins) ∧
    exec .highz s = .next ((s.tapIr 3).tapPins 3 []) ∧ exec .clamp s = .next ((s.tapIr 4).tapPins 4 s.dbg.bsr)) ∧
  (∀ (s t u : State) (a d : Nat), s.clocked = true → t = (s.tapIr 0x10).dmiOut → t.dmiReaches (a % 4096) = true →
    t.windowOpen 7 = true → t.readRefused pgDBGC 7 = false → u = t.regRead (pageBase pgDBGC + a % 4096) 4 7 →
    exec (.dmi 1 a d) s = .next { u with readData := t.readData, dbg := { u.dbg with
      dmiData := u.readData
      dmiStat := 0 } }) ∧
  (∀ (s t u : State) (a d : Nat), s.clocked = true → t = (s.tapIr 0x10).dmiOut → t.dmiReaches (a % 4096) = true →
    t.windowOpen 7 = true → t.ownerRefuses pgDBGC 7 = false →
    u = t.regWrite (pageBase pgDBGC + a % 4096) 4 (d % 2 ^ 32) 7 →
    exec (.dmi 2 a d) s = .next { u with readData := t.readData, dbg := { u.dbg with
      dmiData := t.dbg.dmiData
      dmiStat := 0 } }) ∧
  (∀ (s : State) (a d : Nat), s.clocked = true → exec (.dmi 0 a d) s = .next (s.tapIr 0x10).dmiOut ∧
    (s.tapIr 0x10).dmiOut.readData % 2 ^ 32 = s.dbg.dmiData % 2 ^ 32)

/-- R463, R468: below level 1, and in the low-power states, a boundary-scan instruction acts as BYPASS, and IDCODE still reads:
version 1, the part's number, the manufacturer 0x2B7 and bit 0 = 1. -/
def Obligations.TapGrantsByLevel : Prop :=
  (∀ (s : State) (pins shift : List Bool), s.pwr.state ≠ 4 → s.level = 0 ∨ s.clocked = false →
    exec (.extest shift) s = exec .bypass s ∧ exec (.samplePreload pins shift) s = exec .bypass s ∧
    exec .highz s = exec .bypass s ∧ exec .clamp s = exec .bypass s) ∧
  (∀ s : State, s.pwr.state ≠ 4 → ∃ u, exec .idcode s = .next u ∧ bits u.readData 31 28 = 1 ∧
    bits u.readData 11 1 = 0x2B7 ∧ bit u.readData 0 = true ∧
    (s.variant = .kry4812 → bits u.readData 27 12 = 0x4812) ∧ (s.variant = .kry4812I → bits u.readData 27 12 = 0x4813) ∧
    (s.variant = .kry4812P → bits u.readData 27 12 = 0x4814) ∧ (s.variant = .kry2406 → bits u.readData 27 12 = 0x2406))

/-- Only an accepted token raises the debug level; RELOCK never does (R464). -/
def Obligations.RelockNeverRaisesTheLevel : Prop :=
  ∀ (s u : State) (v req : Nat), s.Inv → s.unmirrored req → s.level ≤ 3 → exec (.relock v req) s = .next u →
    u.level ≤ s.level ∧ (s.admits pgDBGC req = true → u.level = min (v % 8) s.level)

/-- RELOCK, TKCTL_START, TKDATA, TKLEN and TOKEN (R464 to R466); HALTREQ, RESUMEREQ, REGSEL_GO, BREAKPOINT,
WATCHPOINT, HALT, RESUME, FRZCMD_FREEZE, FRZCMD_RELEASE, SBADDR_WRITE, SBDATA_WRITE and SBDATA_READ (R470 to R473).
Where the spec is open it rests on the readings of log entry 44. -/
def Obligations.DebugModuleCommandsComplete : Prop :=
  (∀ (s t : State) (v req : Nat), s.meets32 pgDBGC req Reg.DBGC.RELOCK v t →
    exec (.relock v req) s = .next (t.setLevel (min (bits v 2 0) t.level))) ∧
  (∀ (s t : State) (req : Nat), s.meets32 pgDBGC req Reg.DBGC.TKCTL 1 t → t.tkBusy = false →
    exec (.tkctlStart req) s = .next { t with keep := { t.keep with
      tkOpen := true
      tk := []
      tkBad := false
      tkLen := none } }) ∧
  (∀ (s t : State) (v req : Nat), s.meets64 pgDBGC req Reg.DBGC.TKDATA v t → t.tkBusy = false → t.keep.tkOpen = true →
    t.keep.tk.length + 8 ≤ 16512 →
    exec (.tkdata v req) s = .next { t with keep := { t.keep with tk := t.keep.tk ++ leBytes 8 v } }) ∧
  (∀ (s t : State) (v req : Nat), s.meets32 pgDBGC req Reg.DBGC.TKLEN v t →
    exec (.tklen v req) s = .next (t.tkEnd v)) ∧
  (∀ (s t u : State) (n : Nat), s.keep.tkLen = some n →
    t = { s with keep := { s.keep with
      tkLen := none
      tk := []
      tkBad := false } } →
    u = (t.setRg pgDBGC Reg.DBGC.TKSTAT (s.tokenCode n * 16 +
      (if s.tokenCode n = 0 then leAt s.keep.tk 8 1 * 2 ^ 12 else 0))).newNonce pgDBGC (Reg.DBGC.TKNONCE 0) →
    (s.tokenCode n = 0 → exec .token s = .next ((u.setLevel (leAt s.keep.tk 8 1)).happen pgDBGC 1 0)) ∧
    (s.tokenCode n ≠ 0 → exec .token s = .next ((u.err pgDBGC 0 0x330 (s.tokenCode n)).happen pgDBGC 1 0))) ∧
  (∀ (s t : State) (c req : Nat), c < 4 → s.meets32 pgDBGC req (Reg.DBGC.coreCCTL c) 1 t → t.coreReached c = true →
    exec (.haltreq c req) s = .next (t.haltCore c 1)) ∧
  (∀ (s t : State) (c req : Nat), c < 4 → s.meets32 pgDBGC req (Reg.DBGC.coreCCTL c) 2 t →
    exec (.resumereq c req) s = .next (t.resumeCore c)) ∧
  (∀ (s t : State) (c v req : Nat), c < 4 → s.meets32 pgDBGC req (Reg.DBGC.coreREGSEL c) (v ||| 2 ^ 17) t →
    exec (.regselGo c v req) s = .next (t.regselGo c (v ||| 2 ^ 17))) ∧
  (∀ (s : State) (c a i : Nat), s.coreWatched c = true → i < 8 →
    (∀ j < i, bit (s.rg64 pgDBGC (Reg.DBGC.coreBP c j)) 0 = false) → bit (s.rg64 pgDBGC (Reg.DBGC.coreBP c i)) 0 = true →
    s.rg64 pgDBGC (Reg.DBGC.coreBP c i) / 2 = a % 2 ^ 64 / 2 →
    exec (.breakpoint c a) s = .next (s.coreMatch c (s.fl pgDBGC (Reg.DBGC.coreCCFG c) 1 0) 3 i)) ∧
  (∀ (s : State) (c a n : Nat) (st : Bool), s.coreWatched c = true →
    bit (s.rg pgDBGC (Reg.DBGC.coreWP c 0 + 8)) 0 = true →
    bit (s.rg pgDBGC (Reg.DBGC.coreWP c 0 + 8)) (if st then 2 else 1) = true →
    bits (s.rg pgDBGC (Reg.DBGC.coreWP c 0 + 8)) 9 4 = 0 → 0 < n → s.rg64 pgDBGC (Reg.DBGC.coreWP c 0) = a →
    exec (.watchpoint c a n st) s = .next (s.coreMatch c (s.fl pgDBGC (Reg.DBGC.coreCCFG c) 3 2) 4 8)) ∧
  (∀ (s t : State) (g : Trig), (s.takeTrig pgDBGC 0 = some (g, t) → exec .halt s = .next ((List.range 4).foldl (fun u c =>
      if u.fb pgDBGC Reg.DBGC.XTRIG c && u.coreReached c then u.haltCore c 2 (some (g.origin, g.depth)) else u) t)) ∧
    (s.takeTrig pgDBGC 1 = some (g, t) → exec .resume s = .next ((List.range 4).foldl (fun u c =>
      if u.fb pgDBGC Reg.DBGC.XTRIG (4 + c) && u.coreReached c then u.resumeCore c else u) t))) ∧
  (∀ (s t : State) (req : Nat),
    (s.meets32 pgDBGC req Reg.DBGC.FRZCMD 1 t → exec (.frzcmdFreeze req) s = .next t.freezeSet) ∧
    (s.meets32 pgDBGC req Reg.DBGC.FRZCMD 2 t → exec (.frzcmdRelease req) s = .next t.freezeRelease)) ∧
  (∀ (s t : State) (v req : Nat),
    (s.meets64 pgDBGC req Reg.DBGC.SBADDR v t →
      exec (.sbaddrWrite v req) s = .next (t.sbWrite Reg.DBGC.SBADDR v true)) ∧
    (s.meets64 pgDBGC req Reg.DBGC.SBDATA v t →
      exec (.sbdataWrite v req) s = .next ((t.setRg64 pgDBGC Reg.DBGC.SBDATA v).sbAccess true)) ∧
    (s.readable pgDBGC req → exec (.sbdataRead req) s = .next (s.sbRead true)))

/-! ## Power, resets, start-up -/

/-- Power requests and wakes: REQ_IDLE, REQ_HOLD, REQ_SLEEP, REQ_OFF, REQ_RUN, POWER_ENTRY_DONE, WAKE, HOST_WAKE,
AON_TIMER and WAKE_COMPLETE (R475 to R479). Where the spec is open it rests on the readings of log entry 45. -/
def Obligations.PowerCommandsComplete : Prop :=
  (∀ (s t : State) (req k : Nat), t.pwr.wake = none → t.pwr.entering = false → t.pwr.state = 0 → 1 ≤ k → k ≤ 3 →
    s.meets32 pgPWRC req Reg.PWRC.REQ k t → t.reqBad k = none →
    exec (if k = 1 then .reqIdle req else if k = 2 then .reqHold req else .reqSleep req) s =
      .next (State.showPwr { t with pwr := { t.pwr with
        entering := true
        target := k } })) ∧
  (∀ (s t : State) (req : Nat), t.pwr.wake = none → t.pwr.entering = false → t.pwr.state = 0 →
    s.meets32 pgPWRC req Reg.PWRC.REQ 4 t → t.reqBad 4 = none →
    exec (.reqOff req) s = .next (State.showPwr { t with
      keep := { t.keep with errSum := t.keep.errSum.put t.errSummary }
      pwr := { t.pwr with
        entering := true
        target := 4 } })) ∧
  (∀ (s t : State) (req : Nat), t.pwr.wake = none → t.pwr.state = 1 → t.pwr.met = 1 →
    s.meets32 pgPWRC req Reg.PWRC.REQ 0 t → exec (.reqRun req) s = .next (t.wakeBy 5 [1])) ∧
  (∀ s : State, s.pwr.entering = true → s.pwr.target = 1 → exec .powerEntryDone s = .next (State.showPwr { s with
    pwr := { s.pwr with
      state := 1
      entering := false } })) ∧
  (∀ (s t : State) (g : Trig), s.takeTrig pgPWRC 0 = some (g, t) → t.fb pgPWRC Reg.PWRC.WAKEEN 0 = true →
    t.pwr.wake = none → t.pwr.met = 1 → exec .wake s = .next (t.wakeBy 0 [1]) ∧ (t.wakeBy 0 [1]).pwr.wake = some 0) ∧
  (∀ s : State, s.fb pgPWRC Reg.PWRC.WAKEEN 2 = true → s.pwr.wake = none → s.pwr.met ∈ [1, 2, 3] →
    exec .hostWake s = .next (s.wakeBy 2 [1, 2, 3]) ∧ (s.wakeBy 2 [1, 2, 3]).pwr.wake = some 2) ∧
  (∀ (s : State) (n : Nat), s.rg pgPWRC Reg.PWRC.WAKETMR ≠ 0 → s.rg pgPWRC Reg.PWRC.WAKETMR ≤ n →
    s.fb pgPWRC Reg.PWRC.WAKEEN 4 = true → s.pwr.wake = none → s.pwr.met ∈ [1, 2, 3, 4] →
    exec (.aonTimer n) s = .next (s.wakeBy 4 [1, 2, 3, 4]) ∧ (s.wakeBy 4 [1, 2, 3, 4]).pwr.wake = some 4) ∧
  (∀ (s t : State) (n c : Nat), s.pwr.wake = some c → s.pwr.state ≤ 2 → s.pwr.early = false →
    t = (State.showPwr (({ s with pwr := { s.pwr with
      state := 0
      entering := false
      wake := none
      early := false } } : State).selfRefresh false)).setRg pgPWRC Reg.PWRC.LPTIME n →
    exec (.wakeComplete n) s = .next ((if s.pwr.state = 2 then t.reclocked else t).happen pgPWRC 0 c))

/-- R475, R476: a refused request leaves the power state: it sets ERR.REFUSE, logs 0x320 with the code, and counts; a request
for the state in force changes nothing. -/
def Obligations.PowerRefusalsLeaveTheState : Prop :=
  (∀ (s : State) (k c : Nat), 1 ≤ k → k ≤ 4 → s.pwr.wake = none → s.pwr.entering = false → s.pwr.state ≤ 1 →
    k ≠ s.pwr.state → s.reqBad k = some c → s.Inv →
    (s.powerReq k).pwr = s.pwr ∧
    (s.powerReq k).rg pgPWRC Reg.PWRC.REFUSECNT = satAdd 32 (s.rg pgPWRC Reg.PWRC.REFUSECNT) 1 ∧
    bit ((s.powerReq k).page pgPWRC).err 0 = true ∧ bit ((s.powerReq k).page pgPWRC).ist 1 = true ∧
    ((s.powerReq k).page pgPWRC).log = (((s.page pgPWRC).setErr 0).countErr.push ⟨0x320, s.cycle % 2 ^ 32, c % 2 ^ 20⟩).log) ∧
  (∀ s : State, (s.pwr.state = 0 → s.pwr.entering = false → s.powerReq 0 = s) ∧
    (s.pwr.state = 1 → s.pwr.entering = false → s.powerReq 1 = s) ∧ ∀ k, 5 ≤ k → s.powerReq k = s)

/-- Resets and start-up: POR, PIN_RESET, SW_RESET, CORE_RESET, CLK_LOSS, PERST, WATCHDOG_EXPIRY, WDKICK, OUTCTL_REL
and WINOPEN (R480 to R490). Where the spec is open it rests on the readings of log entry 46. -/
def Obligations.ResetCommandsComplete : Prop :=
  (∀ (s : State) (b : Nat), exec (.por b) s = .next ((s.powerOn b).resetCause 0)) ∧
  (∀ s : State, s.inLow 4 = false → s.rst < 4 → exec .pinReset s =
    .next (((s.warm false false).resetCause 1).sat pgRSTC Reg.RSTC.RSTCNT 1)) ∧
  (∀ s : State, s.inLow 4 = false → 4 ≤ s.rst → exec .pinReset s = .next (s.resetCause 1)) ∧
  (∀ (s t : State) (v req : Nat), s.meets32 pgRSTC req Reg.RSTC.CMD v t → bits v 31 16 = 0x5253 → bit v 0 = true →
    bit v 1 = false → t.rst < 3 →
    exec (.swReset v req) s = .next (((t.warm true false).resetCause 2).sat pgRSTC Reg.RSTC.RSTCNT 1)) ∧
  (∀ (s t : State) (v req : Nat), s.meets32 pgRSTC req Reg.RSTC.CMD v t → bits v 31 16 = 0x5253 → bit v 0 = false →
    bit v 1 = true → exec (.coreReset v req) s = .next t.coreReset) ∧
  (∀ s : State, s.inLow 4 = false → exec (.clkLoss false false) s = .next ((s.err pgCLKC 0 0x340 0).sat pgCLKC Reg.CLKC.LOSSCNT 1) ∧
    exec (.clkLoss true false) s = .next ((s.err pgCLKC 1 0x341 0).sat pgCLKC Reg.CLKC.LOSSCNT 1) ∧
    (s.rst < 4 → ∀ pll, exec (.clkLoss pll true) s =
      .next (((s.warm false true).resetCause 4).sat pgRSTC Reg.RSTC.RSTCNT 1))) ∧
  (∀ s : State, s.inLow 4 = false → (s.fb pgRSTC Reg.RSTC.CFG 0 = true → s.rst < 3 → exec .perst s =
      .next (((s.warm true false).resetCause 6).sat pgRSTC Reg.RSTC.RSTCNT 1)) ∧
    (s.fb pgRSTC Reg.RSTC.CFG 0 = false → s.rst < 3 → exec .perst s = .next ((List.range 16).foldl (fun t c =>
      if (t.dma c).req < 2 then t.dmaAbort c 6 else t) s).pcieReset)) ∧
  (∀ s t : State, s.fb pgRSTC Reg.RSTC.CFG 1 = true → s.wdog.held = none → s.clocked = true →
    s.wdog.at_ + 4096 * s.fl pgRSTC Reg.RSTC.WDTO 23 0 ≤ s.cycle →
    t = { s with wdog := { s.wdog with
      at_ := s.cycle
      warned := !s.wdog.warned } } →
    (s.wdog.warned = false → exec .watchdogExpiry s = .next ((t.logOnly pgRSTC 0x351 0).happen pgRSTC 0 0)) ∧
    (s.wdog.warned = true → t.rst < 3 → exec .watchdogExpiry s =
      .next (((t.warm true false).resetCause 3).sat pgRSTC Reg.RSTC.RSTCNT 1))) ∧
  (∀ (s t : State) (req : Nat), s.meets32 pgRSTC req Reg.RSTC.WDKICK 0x4B49 t → t.wdog.held = none →
    exec (.wdkick 0x4B49 req) s = .next { t with wdog := { t.wdog with
      at_ := t.cycle
      warned := false } }) ∧
  (∀ (s t : State) (v req : Nat), s.meets32 pgRSTC req Reg.RSTC.WDKICK v t → v ≠ 0x4B49 →
    exec (.wdkick v req) s = .next (t.logOnly pgRSTC 0x350 0)) ∧
  (∀ (s t : State) (v req : Nat), s.meets32 pgRSTC req Reg.RSTC.OUTCTL v t →
    exec (.outctlRel v req) s = .next (t.outctl v)) ∧
  (∀ s t : State, s.windowOpen 0 = false → t = { (if s.rst = 3 ∨ s.rst = 4 then s.bootRom else s.keepStart) with rst := 0 } →
    exec .winopen s =
    .next (((t.setFl pgRSTC Reg.RSTC.BOOT 16 16 1).setRg64 pgRSTC Reg.RSTC.TWIN t.cycle).setRg pgCLKC Reg.CLKC.PLLSTAT
      0x33F))

/-- R480: a write of RSTC.CMD with a KEY other than 0x5253 resets nothing: it sets ERR.KEY (bit 0), logs 0x350 and leaves
everything but the RSTC page's header as it was. -/
def Obligations.ResetCommandNeedsItsKey : Prop :=
  ∀ (s : State) (v req : Nat), s.admits pgRSTC req = true → s.unmirrored req → bits v 31 16 ≠ 0x5253 →
    exec (.swReset v req) s =
      .next (s.setPage pgRSTC (((s.page pgRSTC).setErr 0).countErr.push ⟨0x350, s.cycle % 2 ^ 32, 0⟩)) ∧
    exec (.coreReset v req) s = exec (.swReset v req) s

/-- R481: what a warm reset keeps: DRAM content when orderly, SRAM state (in SLEEP as a wake leaves it, R478, R482), Keep's
OTP and MRAM data as Keep restarts from it, the host's memory, N; and what a power-on reset starts anew: N is 0 and DRAM content is undefined. -/
def Obligations.ResetsKeepWhatTheyKeep : Prop :=
  (∀ s : State, (s.warm true false).dram = s.dram ∧ (s.warm true false).dramLost = s.dramLost ∧
    (s.warm true false).cycle = s.cycle ∧ (s.warm true false).host0 = s.host0 ∧
    (s.warm true false).host1 = s.host1 ∧ (s.warm true false).keep = s.keep.restart) ∧
  (∀ s : State, s.inLow 3 = false → (s.warm true false).sram = s.sram) ∧
  (∀ s : State, s.inLow 3 = true → (s.warm true false).sram = (s.sramZero (fun p => p != 3)).sram) ∧
  (∀ (s : State) (b : Nat), (s.powerOn b).cycle = 0 ∧ (s.powerOn b).dram = [] ∧
    (s.powerOn b).dramLost = s.dramLost + 1 ∧ (s.powerOn b).keep = s.keep.restart ∧ (s.powerOn b).sram = State.reset.sram)

/-! ## What the control commands leave alone -/

/-- Commands that act on a page's header, on marks, on the time or on the debug level alone store nothing in memory: DRAM, its
bad words and the host memories are as before. -/
def Obligations.HeaderCommandsStoreNothing : Prop :=
  ∀ (s u : State) (c : Instr), (∃ p req, c = .logdataPop p req ∨ c = .logClr p req ∨ c = .ownerLock p req) ∨
      (∃ v req, c = .disarm v req ∨ c = .wdkick v req ∨ c = .outctlRel v req ∨ c = .tkdata v req ∨ c = .tset v req) ∨
      (∃ p, c = .violationWindowEnd p ∧ p ≠ pgTLK) ∨ c = .idcode ∨ c = .bypass ∨ c = .timeParametersApply →
    (∀ req, s.unmirrored req) → exec c s = .next u →
    u.dram = s.dram ∧ u.dramBad = s.dramBad ∧ u.host0 = s.host0 ∧ u.host1 = s.host1 ∧ u.sram = s.sram

end
end

