-- ==== Sys2Proof/Laws/Keeps.lean ====
section
/-!
SUPPORT. The relation every operation of the model keeps: same part, same queue, canonical data stays canonical. One lemma
per named operation follows in the files beside this one; the provers cite them instead of unfolding an operation.
-/

namespace Sys2Proof.Machine

/-- State `b` has the part and the queue of `a`, and is in canonical form when `a` is. -/
structure Keeps (a b : State) : Prop where
  variant : b.variant = a.variant
  pending : b.pending = a.pending
  inv : a.Inv → b.Inv

/-- The same of a state that may be absent, of one beside a value, and of the outcome of a command. -/
def KeepsO (a : State) (o : Option State) : Prop := ∀ t, o = some t → Keeps a t
def KeepsP {α : Type} (a : State) (o : Option (α × State)) : Prop := ∀ x t, o = some (x, t) → Keeps a t
def KeepsX (a : State) (o : Host.Outcome State Fault Refusal) : Prop := ∀ t, o = .next t → Keeps a t

theorem Keeps.refl (a : State) : Keeps a a := ⟨rfl, rfl, id⟩

theorem Keeps.trans {a b c : State} (h : Keeps a b) (k : Keeps b c) : Keeps a c :=
  ⟨k.variant.trans h.variant, k.pending.trans h.pending, fun x => k.inv (h.inv x)⟩

theorem Keeps.ite {a x y : State} {c : Prop} [Decidable c] (h : Keeps a x) (k : Keeps a y) : Keeps a (if c then x else
    y) := by
  split <;> assumption

theorem Keeps.ite1 {α : Type} {a : State} {x y : State × α} {c : Prop} [Decidable c] (h : Keeps a x.1) (k : Keeps a y.1) :
    Keeps a (if c then x else y).1 := by
  split <;> assumption

theorem Keeps.foldl {α : Type} {a s : State} {f : State → α → State} {l : List α} (h : Keeps a s)
    (hf : ∀ t x, Keeps a t → Keeps a (f t x)) : Keeps a (l.foldl f s) := by
  induction l generalizing s with
  | nil => exact h
  | cons x xs ih => exact ih (hf s x h)

theorem Keeps.foldl1 {α β : Type} {a : State} {p : State × β} {f : State × β → α → State × β} {l : List α} (h : Keeps
    a p.1)
    (hf : ∀ q x, Keeps a q.1 → Keeps a (f q x).1) : Keeps a (l.foldl f p).1 := by
  induction l generalizing p with
  | nil => exact h
  | cons x xs ih => exact ih (hf p x h)

theorem Keeps.fst {β : Type} {a u : State} {x : β} {e : State × β} (h : e = (u, x)) (k : Keeps a e.1) : Keeps a u := by
  rw [h] at k; exact k

theorem Keeps.snd {α : Type} {a u : State} {x : α} {o : Option (α × State)} (h : o = some (x, u)) (k : KeepsP a o) :
    Keeps a u := k x u h

theorem Keeps.opt {a u : State} {o : Option State} (h : o = some u) (k : KeepsO a o) : Keeps a u := k u h

theorem Keeps.out {a u : State} {o : Host.Outcome State Fault Refusal} (h : o = .next u) (k : KeepsX a o) : Keeps a u
    := k u h

theorem KeepsO.none {a : State} : KeepsO a none := by intro t h; cases h
theorem KeepsO.some {a t : State} (h : Keeps a t) : KeepsO a (some t) := by intro u e; cases e; exact h
theorem KeepsO.ite {a : State} {x y : Option State} {c : Prop} [Decidable c] (h : KeepsO a x) (k : KeepsO a y) :
    KeepsO a (if c then x else y) := by
  split <;> assumption
theorem KeepsP.none {α : Type} {a : State} : KeepsP a (none : Option (α × State)) := by intro x t h; cases h
theorem KeepsP.some {α : Type} {a t : State} {x : α} (h : Keeps a t) : KeepsP a (some (x, t)) := by
  intro y u e; cases e; exact h
theorem KeepsX.next {a t : State} (h : Keeps a t) : KeepsX a (.next t) := by intro u e; cases e; exact h
theorem KeepsX.ite {a : State} {x y : Host.Outcome State Fault Refusal} {c : Prop} [Decidable c] (h : KeepsX a x)
    (k : KeepsX a y) : KeepsX a (if c then x else y) := by
  split <;> assumption

/-! ## Canonical tables -/

theorem Tbl.wfFrom_mono {α : Type} {t : Tbl α} : ∀ {m n : Nat}, m ≤ n → Tbl.wfFrom n t = true → Tbl.wfFrom m t = true
    := by
  cases t with
  | nil => intros; rfl
  | cons e r => intro m n h k; simp [Tbl.wfFrom] at k ⊢; exact ⟨by omega, k.2⟩

theorem Tbl.wfFrom_put {α : Type} {t : Tbl α} {k : Nat} {v : α} : ∀ {n : Nat}, n ≤ k → Tbl.wfFrom n t = true →
    Tbl.wfFrom n (Tbl.put t k v) = true := by
  induction t with
  | nil => intro n h _; simp [Tbl.put, Tbl.wfFrom, h]
  | cons e r ih =>
    intro n h w
    obtain ⟨k', v'⟩ := e
    simp [Tbl.wfFrom] at w
    simp only [Tbl.put]
    split
    · rename_i q; subst q; simp [Tbl.wfFrom, w]
    · split
      · simp [Tbl.wfFrom, w]; omega
      · simp only [Tbl.wfFrom, Bool.and_eq_true, decide_eq_true_eq]
        exact ⟨w.1, ih (by omega) w.2⟩

theorem Tbl.wf_put {α : Type} {t : Tbl α} {k : Nat} {v : α} (h : Tbl.wf t = true) : Tbl.wf (Tbl.put t k v) = true :=
  Tbl.wfFrom_put (Nat.zero_le k) h

theorem Tbl.wfFrom_filter {α : Type} {t : Tbl α} {p : Nat × α → Bool} : ∀ {n : Nat}, Tbl.wfFrom n t = true →
    Tbl.wfFrom n (t.filter p) = true := by
  induction t with
  | nil => intros; rfl
  | cons e r ih =>
    intro n w
    obtain ⟨k, v⟩ := e
    simp only [Tbl.wfFrom, Bool.and_eq_true, decide_eq_true_eq] at w
    simp only [List.filter]
    split
    · simp only [Tbl.wfFrom, Bool.and_eq_true, decide_eq_true_eq]; exact ⟨w.1, ih w.2⟩
    · exact Tbl.wfFrom_mono (by omega) (ih w.2)

theorem Tbl.wf_filter {α : Type} {t : Tbl α} {p : Nat × α → Bool} (h : Tbl.wf t = true) : Tbl.wf (t.filter p) = true :=
  Tbl.wfFrom_filter h

theorem Tbl.wfFrom_del {α : Type} {t : Tbl α} {k : Nat} : ∀ {n : Nat}, Tbl.wfFrom n t = true →
    Tbl.wfFrom n (Tbl.del t k) = true := by
  induction t with
  | nil => intros; rfl
  | cons e r ih =>
    intro n w
    obtain ⟨k', v'⟩ := e
    have w' := w
    simp only [Tbl.wfFrom, Bool.and_eq_true, decide_eq_true_eq] at w
    simp only [Tbl.del]
    split
    · exact Tbl.wfFrom_mono (by omega) w.2
    · split
      · exact w'
      · simp only [Tbl.wfFrom, Bool.and_eq_true, decide_eq_true_eq]; exact ⟨w.1, ih w.2⟩

theorem Tbl.wf_del {α : Type} {t : Tbl α} {k : Nat} (h : Tbl.wf t = true) : Tbl.wf (Tbl.del t k) = true :=
    Tbl.wfFrom_del h

theorem Tbl.wf_putD {α : Type} [DecidableEq α] {t : Tbl α} {k : Nat} {v d : α} (h : Tbl.wf t = true) :
    Tbl.wf (Tbl.putD t k v d) = true := by
  unfold Tbl.putD; split
  · exact Tbl.wf_del h
  · exact Tbl.wf_put h

theorem Tbl.wfFrom_mapVal {α β : Type} {t : Tbl α} {f : Nat × α → β} : ∀ {n : Nat}, Tbl.wfFrom n t = true →
    Tbl.wfFrom n (t.map (fun e => (e.1, f e))) = true := by
  induction t with
  | nil => intros; rfl
  | cons e r ih =>
    intro n w
    simp only [Tbl.wfFrom, Bool.and_eq_true, decide_eq_true_eq, List.map] at w ⊢
    exact ⟨w.1, ih w.2⟩

/-! ## Canonical memory -/

theorem Tbl.mem_put {α : Type} {t : Tbl α} {k : Nat} {v : α} {e : Nat × α} (h : e ∈ Tbl.put t k v) : e = (k, v) ∨ e ∈
    t := by
  induction t with
  | nil => simp [Tbl.put] at h; exact .inl h
  | cons x r ih =>
    simp only [Tbl.put] at h
    split at h
    · rcases List.mem_cons.mp h with h | h
      · exact .inl h
      · exact .inr (List.mem_cons_of_mem _ h)
    · split at h
      · rcases List.mem_cons.mp h with h | h
        · exact .inl h
        · exact .inr h
      · rcases List.mem_cons.mp h with h | h
        · exact .inr (h ▸ List.mem_cons_self)
        · rcases ih h with h | h
          · exact .inl h
          · exact .inr (List.mem_cons_of_mem _ h)

theorem Tbl.mem_del {α : Type} {t : Tbl α} {k : Nat} {e : Nat × α} (h : e ∈ Tbl.del t k) : e ∈ t := by
  induction t with
  | nil => exact h
  | cons x r ih =>
    simp only [Tbl.del] at h
    split at h
    · exact List.mem_cons_of_mem _ h
    · split at h
      · exact h
      · rcases List.mem_cons.mp h with h | h
        · exact h ▸ List.mem_cons_self
        · exact List.mem_cons_of_mem _ (ih h)

/-- Every memory operation keeps the canonical form. -/
theorem Memory.wf_setByte {d : Nat → Byte} {m : List Host.Cell} {a : Nat} {b : Byte} (h : Memory.wf d m = true) :
    Memory.wf d (Memory.setByte d m a b) = true := by
  simp only [Memory.wf, Bool.and_eq_true, List.all_eq_true] at h ⊢
  refine ⟨Tbl.wf_putD h.1, ?_⟩
  intro e he
  simp only [Memory.setByte, Tbl.putD] at he
  split at he
  · exact h.2 e (Tbl.mem_del he)
  · rename_i hb
    rcases Tbl.mem_put he with he | he
    · subst he; simpa using hb
    · exact h.2 e he

theorem Memory.wf_setBytes {d : Nat → Byte} {bs : List Byte} : ∀ {m : List Host.Cell} {a : Nat}, Memory.wf d m = true →
    Memory.wf d (Memory.setBytes d m a bs) = true := by
  induction bs with
  | nil => intro m a h; exact h
  | cons b r ih => intro m a h; exact ih (Memory.wf_setByte h)

/-! ## The primitive operations -/

/-- An update that touches neither the part, the queue, the register words, the headers nor a memory. -/
theorem Keeps.upd {a x : State} (h : Keeps a x) {v_cycle} {v_fresh} {v_shadow} {v_stored} {v_readData} {v_out} {v_evs}
    {v_trigs} {v_chans} {v_queues} {v_pcie} {v_hostReads} {v_dramBad} {v_dramSoft} {v_enc} {v_obs} {v_emu} {v_axs}
    {v_sdf} {v_ptp} {v_released} {v_marks} {v_markWrites} {v_markEpochs} {v_markFires} {v_keys} {v_jobs} {v_verifying}
    {v_passVerdicts} {v_barCurs} {v_refCurs} {v_nct} {v_stripes} {v_lanes} {v_screens} {v_bars} {v_links} {v_cams}
    {v_camCorr} {v_cups} {v_tones} {v_inks} {v_cmps} {v_defs} {v_clp} {v_tlk} {v_chanWrites} {v_chSels} {v_swArgs}
    {v_hits} {v_gpioFrom} {v_pulses} {v_srcs} {v_hostEnds} {v_pwr} {v_eths} {v_ofsLow} {v_cal} {v_lant} {v_sram}
    {v_dmcs} {v_keep} {v_dbg} {v_wdog} {v_rst} {v_epoch} {v_dmas} :
        Keeps a (State.mk x.pending v_cycle x.variant v_fresh x.pages x.regs v_shadow v_stored v_readData v_out v_evs
    v_trigs v_chans v_queues x.dram x.host0 x.host1 v_pcie v_hostReads v_dramBad v_dramSoft v_enc v_obs v_emu v_axs
    v_sdf v_ptp v_released v_marks v_markWrites v_markEpochs v_markFires v_keys v_jobs v_verifying v_passVerdicts
    v_barCurs v_refCurs v_nct v_stripes v_lanes v_screens v_bars v_links v_cams v_camCorr v_cups v_tones v_inks v_cmps
    v_defs v_clp v_tlk v_chanWrites v_chSels v_swArgs v_hits v_gpioFrom v_pulses v_srcs v_hostEnds v_pwr v_eths
    v_ofsLow v_cal v_lant v_sram v_dmcs v_keep v_dbg v_wdog v_rst v_epoch x.dramLost v_dmas) :=
  ⟨h.variant, h.pending, h.inv⟩

theorem State.setRg_keeps {a s : State} {p o v : Nat} (h : Keeps a s) : Keeps a (s.setRg p o v) :=
  ⟨h.variant, h.pending, fun i => ⟨(h.inv i).1, Tbl.wf_putD (h.inv i).2.1, (h.inv i).2.2⟩⟩

theorem State.setPage_keeps {a s : State} {p : Nat} {g : Page} (h : Keeps a s) : Keeps a (s.setPage p g) :=
  ⟨h.variant, h.pending, fun i => ⟨(h.inv i).1, (h.inv i).2.1, Tbl.wf_put (h.inv i).2.2⟩⟩

theorem State.clearRegs_keeps {a s : State} {p : Nat} {k : Nat → Bool} (h : Keeps a s) : Keeps a (s.clearRegs p k) :=
  ⟨h.variant, h.pending, fun i => ⟨(h.inv i).1, Tbl.wf_filter (h.inv i).2.1, (h.inv i).2.2⟩⟩


end Sys2Proof.Machine
end

