-- ==== Sys2Proof/Laws/State.lean ====
section
/-!
SUPPORT. What each update of the state leaves alone, field by field, and what it writes: one simp lemma per update (a
conjunction is one rewrite rule for each of its parts), true by definition, so that no later proof unfolds a record update.
-/

set_option Elab.async false

namespace Sys2Proof.Machine

@[simp] theorem State.setPage_frame (s : State) (p : Nat) (g : Page) :
    (s.setPage p g).pending = s.pending ∧ (s.setPage p g).cycle = s.cycle ∧ (s.setPage p g).variant = s.variant ∧
    (s.setPage p g).fresh = s.fresh ∧ (s.setPage p g).regs = s.regs ∧ (s.setPage p g).shadow = s.shadow ∧
    (s.setPage p g).stored = s.stored ∧ (s.setPage p g).readData = s.readData ∧ (s.setPage p g).out = s.out ∧
    (s.setPage p g).evs = s.evs ∧ (s.setPage p g).trigs = s.trigs ∧ (s.setPage p g).chans = s.chans ∧
    (s.setPage p g).queues = s.queues ∧ (s.setPage p g).dram = s.dram ∧ (s.setPage p g).host0 = s.host0 ∧
    (s.setPage p g).host1 = s.host1 ∧ (s.setPage p g).pcie = s.pcie ∧ (s.setPage p g).hostReads = s.hostReads ∧
    (s.setPage p g).dramBad = s.dramBad ∧ (s.setPage p g).dramSoft = s.dramSoft ∧ (s.setPage p g).enc = s.enc ∧
    (s.setPage p g).obs = s.obs ∧ (s.setPage p g).emu = s.emu ∧ (s.setPage p g).axs = s.axs ∧
    (s.setPage p g).sdf = s.sdf ∧ (s.setPage p g).ptp = s.ptp ∧ (s.setPage p g).released = s.released ∧
    (s.setPage p g).marks = s.marks ∧ (s.setPage p g).markWrites = s.markWrites ∧
    (s.setPage p g).markEpochs = s.markEpochs ∧ (s.setPage p g).markFires = s.markFires ∧
    (s.setPage p g).keys = s.keys ∧ (s.setPage p g).jobs = s.jobs ∧ (s.setPage p g).verifying = s.verifying ∧
    (s.setPage p g).passVerdicts = s.passVerdicts ∧ (s.setPage p g).barCurs = s.barCurs ∧
    (s.setPage p g).refCurs = s.refCurs ∧ (s.setPage p g).nct = s.nct ∧ (s.setPage p g).stripes = s.stripes ∧
    (s.setPage p g).lanes = s.lanes ∧ (s.setPage p g).screens = s.screens ∧ (s.setPage p g).bars = s.bars ∧
    (s.setPage p g).links = s.links ∧ (s.setPage p g).cams = s.cams ∧ (s.setPage p g).camCorr = s.camCorr ∧
    (s.setPage p g).cups = s.cups ∧ (s.setPage p g).tones = s.tones ∧ (s.setPage p g).inks = s.inks ∧
    (s.setPage p g).cmps = s.cmps ∧ (s.setPage p g).defs = s.defs ∧ (s.setPage p g).clp = s.clp ∧
    (s.setPage p g).tlk = s.tlk ∧ (s.setPage p g).chanWrites = s.chanWrites ∧ (s.setPage p g).chSels = s.chSels ∧
    (s.setPage p g).swArgs = s.swArgs ∧ (s.setPage p g).hits = s.hits ∧ (s.setPage p g).gpioFrom = s.gpioFrom ∧
    (s.setPage p g).pulses = s.pulses ∧ (s.setPage p g).srcs = s.srcs ∧ (s.setPage p g).hostEnds = s.hostEnds ∧
    (s.setPage p g).pwr = s.pwr ∧ (s.setPage p g).eths = s.eths ∧ (s.setPage p g).ofsLow = s.ofsLow ∧
    (s.setPage p g).cal = s.cal ∧ (s.setPage p g).lant = s.lant ∧ (s.setPage p g).sram = s.sram ∧
    (s.setPage p g).dmcs = s.dmcs ∧ (s.setPage p g).keep = s.keep ∧ (s.setPage p g).dbg = s.dbg ∧
    (s.setPage p g).wdog = s.wdog ∧ (s.setPage p g).rst = s.rst ∧ (s.setPage p g).epoch = s.epoch ∧
    (s.setPage p g).dramLost = s.dramLost ∧ (s.setPage p g).dmas = s.dmas :=
  ⟨rfl, rfl, rfl, rfl, rfl, rfl, rfl, rfl, rfl, rfl, rfl, rfl, rfl, rfl, rfl, rfl, rfl, rfl, rfl, rfl, rfl, rfl, rfl,
  rfl, rfl, rfl, rfl, rfl, rfl, rfl, rfl, rfl, rfl, rfl, rfl, rfl, rfl, rfl, rfl, rfl, rfl, rfl, rfl, rfl, rfl, rfl,
  rfl, rfl, rfl, rfl, rfl, rfl, rfl, rfl, rfl, rfl, rfl, rfl, rfl, rfl, rfl, rfl, rfl, rfl, rfl, rfl, rfl, rfl, rfl,
  rfl, rfl, rfl, rfl, rfl⟩

@[simp] theorem State.setRg_frame (s : State) (p o v : Nat) :
    (s.setRg p o v).pending = s.pending ∧ (s.setRg p o v).cycle = s.cycle ∧ (s.setRg p o v).variant = s.variant ∧
    (s.setRg p o v).fresh = s.fresh ∧ (s.setRg p o v).pages = s.pages ∧ (s.setRg p o v).shadow = s.shadow ∧
    (s.setRg p o v).stored = s.stored ∧ (s.setRg p o v).readData = s.readData ∧ (s.setRg p o v).out = s.out ∧
    (s.setRg p o v).evs = s.evs ∧ (s.setRg p o v).trigs = s.trigs ∧ (s.setRg p o v).chans = s.chans ∧
    (s.setRg p o v).queues = s.queues ∧ (s.setRg p o v).dram = s.dram ∧ (s.setRg p o v).host0 = s.host0 ∧
    (s.setRg p o v).host1 = s.host1 ∧ (s.setRg p o v).pcie = s.pcie ∧ (s.setRg p o v).hostReads = s.hostReads ∧
    (s.setRg p o v).dramBad = s.dramBad ∧ (s.setRg p o v).dramSoft = s.dramSoft ∧ (s.setRg p o v).enc = s.enc ∧
    (s.setRg p o v).obs = s.obs ∧ (s.setRg p o v).emu = s.emu ∧ (s.setRg p o v).axs = s.axs ∧
    (s.setRg p o v).sdf = s.sdf ∧ (s.setRg p o v).ptp = s.ptp ∧ (s.setRg p o v).released = s.released ∧
    (s.setRg p o v).marks = s.marks ∧ (s.setRg p o v).markWrites = s.markWrites ∧
    (s.setRg p o v).markEpochs = s.markEpochs ∧ (s.setRg p o v).markFires = s.markFires ∧
    (s.setRg p o v).keys = s.keys ∧ (s.setRg p o v).jobs = s.jobs ∧ (s.setRg p o v).verifying = s.verifying ∧
    (s.setRg p o v).passVerdicts = s.passVerdicts ∧ (s.setRg p o v).barCurs = s.barCurs ∧
    (s.setRg p o v).refCurs = s.refCurs ∧ (s.setRg p o v).nct = s.nct ∧ (s.setRg p o v).stripes = s.stripes ∧
    (s.setRg p o v).lanes = s.lanes ∧ (s.setRg p o v).screens = s.screens ∧ (s.setRg p o v).bars = s.bars ∧
    (s.setRg p o v).links = s.links ∧ (s.setRg p o v).cams = s.cams ∧ (s.setRg p o v).camCorr = s.camCorr ∧
    (s.setRg p o v).cups = s.cups ∧ (s.setRg p o v).tones = s.tones ∧ (s.setRg p o v).inks = s.inks ∧
    (s.setRg p o v).cmps = s.cmps ∧ (s.setRg p o v).defs = s.defs ∧ (s.setRg p o v).clp = s.clp ∧
    (s.setRg p o v).tlk = s.tlk ∧ (s.setRg p o v).chanWrites = s.chanWrites ∧ (s.setRg p o v).chSels = s.chSels ∧
    (s.setRg p o v).swArgs = s.swArgs ∧ (s.setRg p o v).hits = s.hits ∧ (s.setRg p o v).gpioFrom = s.gpioFrom ∧
    (s.setRg p o v).pulses = s.pulses ∧ (s.setRg p o v).srcs = s.srcs ∧ (s.setRg p o v).hostEnds = s.hostEnds ∧
    (s.setRg p o v).pwr = s.pwr ∧ (s.setRg p o v).eths = s.eths ∧ (s.setRg p o v).ofsLow = s.ofsLow ∧
    (s.setRg p o v).cal = s.cal ∧ (s.setRg p o v).lant = s.lant ∧ (s.setRg p o v).sram = s.sram ∧
    (s.setRg p o v).dmcs = s.dmcs ∧ (s.setRg p o v).keep = s.keep ∧ (s.setRg p o v).dbg = s.dbg ∧
    (s.setRg p o v).wdog = s.wdog ∧ (s.setRg p o v).rst = s.rst ∧ (s.setRg p o v).epoch = s.epoch ∧
    (s.setRg p o v).dramLost = s.dramLost ∧ (s.setRg p o v).dmas = s.dmas :=
  ⟨rfl, rfl, rfl, rfl, rfl, rfl, rfl, rfl, rfl, rfl, rfl, rfl, rfl, rfl, rfl, rfl, rfl, rfl, rfl, rfl, rfl, rfl, rfl,
  rfl, rfl, rfl, rfl, rfl, rfl, rfl, rfl, rfl, rfl, rfl, rfl, rfl, rfl, rfl, rfl, rfl, rfl, rfl, rfl, rfl, rfl, rfl,
  rfl, rfl, rfl, rfl, rfl, rfl, rfl, rfl, rfl, rfl, rfl, rfl, rfl, rfl, rfl, rfl, rfl, rfl, rfl, rfl, rfl, rfl, rfl,
  rfl, rfl, rfl, rfl, rfl⟩

@[simp] theorem State.setRg64_frame (s : State) (p o v : Nat) :
    (s.setRg64 p o v).pending = s.pending ∧ (s.setRg64 p o v).cycle = s.cycle ∧
    (s.setRg64 p o v).variant = s.variant ∧ (s.setRg64 p o v).fresh = s.fresh ∧ (s.setRg64 p o v).pages = s.pages ∧
    (s.setRg64 p o v).shadow = s.shadow ∧ (s.setRg64 p o v).stored = s.stored ∧
    (s.setRg64 p o v).readData = s.readData ∧ (s.setRg64 p o v).out = s.out ∧ (s.setRg64 p o v).evs = s.evs ∧
    (s.setRg64 p o v).trigs = s.trigs ∧ (s.setRg64 p o v).chans = s.chans ∧ (s.setRg64 p o v).queues = s.queues ∧
    (s.setRg64 p o v).dram = s.dram ∧ (s.setRg64 p o v).host0 = s.host0 ∧ (s.setRg64 p o v).host1 = s.host1 ∧
    (s.setRg64 p o v).pcie = s.pcie ∧ (s.setRg64 p o v).hostReads = s.hostReads ∧
    (s.setRg64 p o v).dramBad = s.dramBad ∧ (s.setRg64 p o v).dramSoft = s.dramSoft ∧ (s.setRg64 p o v).enc = s.enc ∧
    (s.setRg64 p o v).obs = s.obs ∧ (s.setRg64 p o v).emu = s.emu ∧ (s.setRg64 p o v).axs = s.axs ∧
    (s.setRg64 p o v).sdf = s.sdf ∧ (s.setRg64 p o v).ptp = s.ptp ∧ (s.setRg64 p o v).released = s.released ∧
    (s.setRg64 p o v).marks = s.marks ∧ (s.setRg64 p o v).markWrites = s.markWrites ∧
    (s.setRg64 p o v).markEpochs = s.markEpochs ∧ (s.setRg64 p o v).markFires = s.markFires ∧
    (s.setRg64 p o v).keys = s.keys ∧ (s.setRg64 p o v).jobs = s.jobs ∧ (s.setRg64 p o v).verifying = s.verifying ∧
    (s.setRg64 p o v).passVerdicts = s.passVerdicts ∧ (s.setRg64 p o v).barCurs = s.barCurs ∧
    (s.setRg64 p o v).refCurs = s.refCurs ∧ (s.setRg64 p o v).nct = s.nct ∧ (s.setRg64 p o v).stripes = s.stripes ∧
    (s.setRg64 p o v).lanes = s.lanes ∧ (s.setRg64 p o v).screens = s.screens ∧ (s.setRg64 p o v).bars = s.bars ∧
    (s.setRg64 p o v).links = s.links ∧ (s.setRg64 p o v).cams = s.cams ∧ (s.setRg64 p o v).camCorr = s.camCorr ∧
    (s.setRg64 p o v).cups = s.cups ∧ (s.setRg64 p o v).tones = s.tones ∧ (s.setRg64 p o v).inks = s.inks ∧
    (s.setRg64 p o v).cmps = s.cmps ∧ (s.setRg64 p o v).defs = s.defs ∧ (s.setRg64 p o v).clp = s.clp ∧
    (s.setRg64 p o v).tlk = s.tlk ∧ (s.setRg64 p o v).chanWrites = s.chanWrites ∧
    (s.setRg64 p o v).chSels = s.chSels ∧ (s.setRg64 p o v).swArgs = s.swArgs ∧ (s.setRg64 p o v).hits = s.hits ∧
    (s.setRg64 p o v).gpioFrom = s.gpioFrom ∧ (s.setRg64 p o v).pulses = s.pulses ∧ (s.setRg64 p o v).srcs = s.srcs ∧
    (s.setRg64 p o v).hostEnds = s.hostEnds ∧ (s.setRg64 p o v).pwr = s.pwr ∧ (s.setRg64 p o v).eths = s.eths ∧
    (s.setRg64 p o v).ofsLow = s.ofsLow ∧ (s.setRg64 p o v).cal = s.cal ∧ (s.setRg64 p o v).lant = s.lant ∧
    (s.setRg64 p o v).sram = s.sram ∧ (s.setRg64 p o v).dmcs = s.dmcs ∧ (s.setRg64 p o v).keep = s.keep ∧
    (s.setRg64 p o v).dbg = s.dbg ∧ (s.setRg64 p o v).wdog = s.wdog ∧ (s.setRg64 p o v).rst = s.rst ∧
    (s.setRg64 p o v).epoch = s.epoch ∧ (s.setRg64 p o v).dramLost = s.dramLost ∧ (s.setRg64 p o v).dmas = s.dmas :=
  ⟨rfl, rfl, rfl, rfl, rfl, rfl, rfl, rfl, rfl, rfl, rfl, rfl, rfl, rfl, rfl, rfl, rfl, rfl, rfl, rfl, rfl, rfl, rfl,
  rfl, rfl, rfl, rfl, rfl, rfl, rfl, rfl, rfl, rfl, rfl, rfl, rfl, rfl, rfl, rfl, rfl, rfl, rfl, rfl, rfl, rfl, rfl,
  rfl, rfl, rfl, rfl, rfl, rfl, rfl, rfl, rfl, rfl, rfl, rfl, rfl, rfl, rfl, rfl, rfl, rfl, rfl, rfl, rfl, rfl, rfl,
  rfl, rfl, rfl, rfl, rfl⟩

@[simp] theorem State.setRgI_frame (s : State) (p o : Nat) (v : Int) :
    (s.setRgI p o v).pending = s.pending ∧ (s.setRgI p o v).cycle = s.cycle ∧ (s.setRgI p o v).variant = s.variant ∧
    (s.setRgI p o v).fresh = s.fresh ∧ (s.setRgI p o v).pages = s.pages ∧ (s.setRgI p o v).shadow = s.shadow ∧
    (s.setRgI p o v).stored = s.stored ∧ (s.setRgI p o v).readData = s.readData ∧ (s.setRgI p o v).out = s.out ∧
    (s.setRgI p o v).evs = s.evs ∧ (s.setRgI p o v).trigs = s.trigs ∧ (s.setRgI p o v).chans = s.chans ∧
    (s.setRgI p o v).queues = s.queues ∧ (s.setRgI p o v).dram = s.dram ∧ (s.setRgI p o v).host0 = s.host0 ∧
    (s.setRgI p o v).host1 = s.host1 ∧ (s.setRgI p o v).pcie = s.pcie ∧ (s.setRgI p o v).hostReads = s.hostReads ∧
    (s.setRgI p o v).dramBad = s.dramBad ∧ (s.setRgI p o v).dramSoft = s.dramSoft ∧ (s.setRgI p o v).enc = s.enc ∧
    (s.setRgI p o v).obs = s.obs ∧ (s.setRgI p o v).emu = s.emu ∧ (s.setRgI p o v).axs = s.axs ∧
    (s.setRgI p o v).sdf = s.sdf ∧ (s.setRgI p o v).ptp = s.ptp ∧ (s.setRgI p o v).released = s.released ∧
    (s.setRgI p o v).marks = s.marks ∧ (s.setRgI p o v).markWrites = s.markWrites ∧
    (s.setRgI p o v).markEpochs = s.markEpochs ∧ (s.setRgI p o v).markFires = s.markFires ∧
    (s.setRgI p o v).keys = s.keys ∧ (s.setRgI p o v).jobs = s.jobs ∧ (s.setRgI p o v).verifying = s.verifying ∧
    (s.setRgI p o v).passVerdicts = s.passVerdicts ∧ (s.setRgI p o v).barCurs = s.barCurs ∧
    (s.setRgI p o v).refCurs = s.refCurs ∧ (s.setRgI p o v).nct = s.nct ∧ (s.setRgI p o v).stripes = s.stripes ∧
    (s.setRgI p o v).lanes = s.lanes ∧ (s.setRgI p o v).screens = s.screens ∧ (s.setRgI p o v).bars = s.bars ∧
    (s.setRgI p o v).links = s.links ∧ (s.setRgI p o v).cams = s.cams ∧ (s.setRgI p o v).camCorr = s.camCorr ∧
    (s.setRgI p o v).cups = s.cups ∧ (s.setRgI p o v).tones = s.tones ∧ (s.setRgI p o v).inks = s.inks ∧
    (s.setRgI p o v).cmps = s.cmps ∧ (s.setRgI p o v).defs = s.defs ∧ (s.setRgI p o v).clp = s.clp ∧
    (s.setRgI p o v).tlk = s.tlk ∧ (s.setRgI p o v).chanWrites = s.chanWrites ∧ (s.setRgI p o v).chSels = s.chSels ∧
    (s.setRgI p o v).swArgs = s.swArgs ∧ (s.setRgI p o v).hits = s.hits ∧ (s.setRgI p o v).gpioFrom = s.gpioFrom ∧
    (s.setRgI p o v).pulses = s.pulses ∧ (s.setRgI p o v).srcs = s.srcs ∧ (s.setRgI p o v).hostEnds = s.hostEnds ∧
    (s.setRgI p o v).pwr = s.pwr ∧ (s.setRgI p o v).eths = s.eths ∧ (s.setRgI p o v).ofsLow = s.ofsLow ∧
    (s.setRgI p o v).cal = s.cal ∧ (s.setRgI p o v).lant = s.lant ∧ (s.setRgI p o v).sram = s.sram ∧
    (s.setRgI p o v).dmcs = s.dmcs ∧ (s.setRgI p o v).keep = s.keep ∧ (s.setRgI p o v).dbg = s.dbg ∧
    (s.setRgI p o v).wdog = s.wdog ∧ (s.setRgI p o v).rst = s.rst ∧ (s.setRgI p o v).epoch = s.epoch ∧
    (s.setRgI p o v).dramLost = s.dramLost ∧ (s.setRgI p o v).dmas = s.dmas :=
  ⟨rfl, rfl, rfl, rfl, rfl, rfl, rfl, rfl, rfl, rfl, rfl, rfl, rfl, rfl, rfl, rfl, rfl, rfl, rfl, rfl, rfl, rfl, rfl,
  rfl, rfl, rfl, rfl, rfl, rfl, rfl, rfl, rfl, rfl, rfl, rfl, rfl, rfl, rfl, rfl, rfl, rfl, rfl, rfl, rfl, rfl, rfl,
  rfl, rfl, rfl, rfl, rfl, rfl, rfl, rfl, rfl, rfl, rfl, rfl, rfl, rfl, rfl, rfl, rfl, rfl, rfl, rfl, rfl, rfl, rfl,
  rfl, rfl, rfl, rfl, rfl⟩

@[simp] theorem State.setFl_frame (s : State) (p o hi lo v : Nat) :
    (s.setFl p o hi lo v).pending = s.pending ∧ (s.setFl p o hi lo v).cycle = s.cycle ∧
    (s.setFl p o hi lo v).variant = s.variant ∧ (s.setFl p o hi lo v).fresh = s.fresh ∧
    (s.setFl p o hi lo v).pages = s.pages ∧ (s.setFl p o hi lo v).shadow = s.shadow ∧
    (s.setFl p o hi lo v).stored = s.stored ∧ (s.setFl p o hi lo v).readData = s.readData ∧
    (s.setFl p o hi lo v).out = s.out ∧ (s.setFl p o hi lo v).evs = s.evs ∧ (s.setFl p o hi lo v).trigs = s.trigs ∧
    (s.setFl p o hi lo v).chans = s.chans ∧ (s.setFl p o hi lo v).queues = s.queues ∧
    (s.setFl p o hi lo v).dram = s.dram ∧ (s.setFl p o hi lo v).host0 = s.host0 ∧
    (s.setFl p o hi lo v).host1 = s.host1 ∧ (s.setFl p o hi lo v).pcie = s.pcie ∧
    (s.setFl p o hi lo v).hostReads = s.hostReads ∧ (s.setFl p o hi lo v).dramBad = s.dramBad ∧
    (s.setFl p o hi lo v).dramSoft = s.dramSoft ∧ (s.setFl p o hi lo v).enc = s.enc ∧
    (s.setFl p o hi lo v).obs = s.obs ∧ (s.setFl p o hi lo v).emu = s.emu ∧ (s.setFl p o hi lo v).axs = s.axs ∧
    (s.setFl p o hi lo v).sdf = s.sdf ∧ (s.setFl p o hi lo v).ptp = s.ptp ∧
    (s.setFl p o hi lo v).released = s.released ∧ (s.setFl p o hi lo v).marks = s.marks ∧
    (s.setFl p o hi lo v).markWrites = s.markWrites ∧ (s.setFl p o hi lo v).markEpochs = s.markEpochs ∧
    (s.setFl p o hi lo v).markFires = s.markFires ∧ (s.setFl p o hi lo v).keys = s.keys ∧
    (s.setFl p o hi lo v).jobs = s.jobs ∧ (s.setFl p o hi lo v).verifying = s.verifying ∧
    (s.setFl p o hi lo v).passVerdicts = s.passVerdicts ∧ (s.setFl p o hi lo v).barCurs = s.barCurs ∧
    (s.setFl p o hi lo v).refCurs = s.refCurs ∧ (s.setFl p o hi lo v).nct = s.nct ∧
    (s.setFl p o hi lo v).stripes = s.stripes ∧ (s.setFl p o hi lo v).lanes = s.lanes ∧
    (s.setFl p o hi lo v).screens = s.screens ∧ (s.setFl p o hi lo v).bars = s.bars ∧
    (s.setFl p o hi lo v).links = s.links ∧ (s.setFl p o hi lo v).cams = s.cams ∧
    (s.setFl p o hi lo v).camCorr = s.camCorr ∧ (s.setFl p o hi lo v).cups = s.cups ∧
    (s.setFl p o hi lo v).tones = s.tones ∧ (s.setFl p o hi lo v).inks = s.inks ∧
    (s.setFl p o hi lo v).cmps = s.cmps ∧ (s.setFl p o hi lo v).defs = s.defs ∧ (s.setFl p o hi lo v).clp = s.clp ∧
    (s.setFl p o hi lo v).tlk = s.tlk ∧ (s.setFl p o hi lo v).chanWrites = s.chanWrites ∧
    (s.setFl p o hi lo v).chSels = s.chSels ∧ (s.setFl p o hi lo v).swArgs = s.swArgs ∧
    (s.setFl p o hi lo v).hits = s.hits ∧ (s.setFl p o hi lo v).gpioFrom = s.gpioFrom ∧
    (s.setFl p o hi lo v).pulses = s.pulses ∧ (s.setFl p o hi lo v).srcs = s.srcs ∧
    (s.setFl p o hi lo v).hostEnds = s.hostEnds ∧ (s.setFl p o hi lo v).pwr = s.pwr ∧
    (s.setFl p o hi lo v).eths = s.eths ∧ (s.setFl p o hi lo v).ofsLow = s.ofsLow ∧
    (s.setFl p o hi lo v).cal = s.cal ∧ (s.setFl p o hi lo v).lant = s.lant ∧ (s.setFl p o hi lo v).sram = s.sram ∧
    (s.setFl p o hi lo v).dmcs = s.dmcs ∧ (s.setFl p o hi lo v).keep = s.keep ∧ (s.setFl p o hi lo v).dbg = s.dbg ∧
    (s.setFl p o hi lo v).wdog = s.wdog ∧ (s.setFl p o hi lo v).rst = s.rst ∧ (s.setFl p o hi lo v).epoch = s.epoch ∧
    (s.setFl p o hi lo v).dramLost = s.dramLost ∧ (s.setFl p o hi lo v).dmas = s.dmas :=
  ⟨rfl, rfl, rfl, rfl, rfl, rfl, rfl, rfl, rfl, rfl, rfl, rfl, rfl, rfl, rfl, rfl, rfl, rfl, rfl, rfl, rfl, rfl, rfl,
  rfl, rfl, rfl, rfl, rfl, rfl, rfl, rfl, rfl, rfl, rfl, rfl, rfl, rfl, rfl, rfl, rfl, rfl, rfl, rfl, rfl, rfl, rfl,
  rfl, rfl, rfl, rfl, rfl, rfl, rfl, rfl, rfl, rfl, rfl, rfl, rfl, rfl, rfl, rfl, rfl, rfl, rfl, rfl, rfl, rfl, rfl,
  rfl, rfl, rfl, rfl, rfl⟩

@[simp] theorem State.sat_frame (s : State) (p o n : Nat) :
    (s.sat p o n).pending = s.pending ∧ (s.sat p o n).cycle = s.cycle ∧ (s.sat p o n).variant = s.variant ∧
    (s.sat p o n).fresh = s.fresh ∧ (s.sat p o n).pages = s.pages ∧ (s.sat p o n).shadow = s.shadow ∧
    (s.sat p o n).stored = s.stored ∧ (s.sat p o n).readData = s.readData ∧ (s.sat p o n).out = s.out ∧
    (s.sat p o n).evs = s.evs ∧ (s.sat p o n).trigs = s.trigs ∧ (s.sat p o n).chans = s.chans ∧
    (s.sat p o n).queues = s.queues ∧ (s.sat p o n).dram = s.dram ∧ (s.sat p o n).host0 = s.host0 ∧
    (s.sat p o n).host1 = s.host1 ∧ (s.sat p o n).pcie = s.pcie ∧ (s.sat p o n).hostReads = s.hostReads ∧
    (s.sat p o n).dramBad = s.dramBad ∧ (s.sat p o n).dramSoft = s.dramSoft ∧ (s.sat p o n).enc = s.enc ∧
    (s.sat p o n).obs = s.obs ∧ (s.sat p o n).emu = s.emu ∧ (s.sat p o n).axs = s.axs ∧ (s.sat p o n).sdf = s.sdf ∧
    (s.sat p o n).ptp = s.ptp ∧ (s.sat p o n).released = s.released ∧ (s.sat p o n).marks = s.marks ∧
    (s.sat p o n).markWrites = s.markWrites ∧ (s.sat p o n).markEpochs = s.markEpochs ∧
    (s.sat p o n).markFires = s.markFires ∧ (s.sat p o n).keys = s.keys ∧ (s.sat p o n).jobs = s.jobs ∧
    (s.sat p o n).verifying = s.verifying ∧ (s.sat p o n).passVerdicts = s.passVerdicts ∧
    (s.sat p o n).barCurs = s.barCurs ∧ (s.sat p o n).refCurs = s.refCurs ∧ (s.sat p o n).nct = s.nct ∧
    (s.sat p o n).stripes = s.stripes ∧ (s.sat p o n).lanes = s.lanes ∧ (s.sat p o n).screens = s.screens ∧
    (s.sat p o n).bars = s.bars ∧ (s.sat p o n).links = s.links ∧ (s.sat p o n).cams = s.cams ∧
    (s.sat p o n).camCorr = s.camCorr ∧ (s.sat p o n).cups = s.cups ∧ (s.sat p o n).tones = s.tones ∧
    (s.sat p o n).inks = s.inks ∧ (s.sat p o n).cmps = s.cmps ∧ (s.sat p o n).defs = s.defs ∧
    (s.sat p o n).clp = s.clp ∧ (s.sat p o n).tlk = s.tlk ∧ (s.sat p o n).chanWrites = s.chanWrites ∧
    (s.sat p o n).chSels = s.chSels ∧ (s.sat p o n).swArgs = s.swArgs ∧ (s.sat p o n).hits = s.hits ∧
    (s.sat p o n).gpioFrom = s.gpioFrom ∧ (s.sat p o n).pulses = s.pulses ∧ (s.sat p o n).srcs = s.srcs ∧
    (s.sat p o n).hostEnds = s.hostEnds ∧ (s.sat p o n).pwr = s.pwr ∧ (s.sat p o n).eths = s.eths ∧
    (s.sat p o n).ofsLow = s.ofsLow ∧ (s.sat p o n).cal = s.cal ∧ (s.sat p o n).lant = s.lant ∧
    (s.sat p o n).sram = s.sram ∧ (s.sat p o n).dmcs = s.dmcs ∧ (s.sat p o n).keep = s.keep ∧
    (s.sat p o n).dbg = s.dbg ∧ (s.sat p o n).wdog = s.wdog ∧ (s.sat p o n).rst = s.rst ∧
    (s.sat p o n).epoch = s.epoch ∧ (s.sat p o n).dramLost = s.dramLost ∧ (s.sat p o n).dmas = s.dmas :=
  ⟨rfl, rfl, rfl, rfl, rfl, rfl, rfl, rfl, rfl, rfl, rfl, rfl, rfl, rfl, rfl, rfl, rfl, rfl, rfl, rfl, rfl, rfl, rfl,
  rfl, rfl, rfl, rfl, rfl, rfl, rfl, rfl, rfl, rfl, rfl, rfl, rfl, rfl, rfl, rfl, rfl, rfl, rfl, rfl, rfl, rfl, rfl,
  rfl, rfl, rfl, rfl, rfl, rfl, rfl, rfl, rfl, rfl, rfl, rfl, rfl, rfl, rfl, rfl, rfl, rfl, rfl, rfl, rfl, rfl, rfl,
  rfl, rfl, rfl, rfl, rfl⟩

@[simp] theorem State.inc_frame (s : State) (p o n : Nat) :
    (s.inc p o n).pending = s.pending ∧ (s.inc p o n).cycle = s.cycle ∧ (s.inc p o n).variant = s.variant ∧
    (s.inc p o n).fresh = s.fresh ∧ (s.inc p o n).pages = s.pages ∧ (s.inc p o n).shadow = s.shadow ∧
    (s.inc p o n).stored = s.stored ∧ (s.inc p o n).readData = s.readData ∧ (s.inc p o n).out = s.out ∧
    (s.inc p o n).evs = s.evs ∧ (s.inc p o n).trigs = s.trigs ∧ (s.inc p o n).chans = s.chans ∧
    (s.inc p o n).queues = s.queues ∧ (s.inc p o n).dram = s.dram ∧ (s.inc p o n).host0 = s.host0 ∧
    (s.inc p o n).host1 = s.host1 ∧ (s.inc p o n).pcie = s.pcie ∧ (s.inc p o n).hostReads = s.hostReads ∧
    (s.inc p o n).dramBad = s.dramBad ∧ (s.inc p o n).dramSoft = s.dramSoft ∧ (s.inc p o n).enc = s.enc ∧
    (s.inc p o n).obs = s.obs ∧ (s.inc p o n).emu = s.emu ∧ (s.inc p o n).axs = s.axs ∧ (s.inc p o n).sdf = s.sdf ∧
    (s.inc p o n).ptp = s.ptp ∧ (s.inc p o n).released = s.released ∧ (s.inc p o n).marks = s.marks ∧
    (s.inc p o n).markWrites = s.markWrites ∧ (s.inc p o n).markEpochs = s.markEpochs ∧
    (s.inc p o n).markFires = s.markFires ∧ (s.inc p o n).keys = s.keys ∧ (s.inc p o n).jobs = s.jobs ∧
    (s.inc p o n).verifying = s.verifying ∧ (s.inc p o n).passVerdicts = s.passVerdicts ∧
    (s.inc p o n).barCurs = s.barCurs ∧ (s.inc p o n).refCurs = s.refCurs ∧ (s.inc p o n).nct = s.nct ∧
    (s.inc p o n).stripes = s.stripes ∧ (s.inc p o n).lanes = s.lanes ∧ (s.inc p o n).screens = s.screens ∧
    (s.inc p o n).bars = s.bars ∧ (s.inc p o n).links = s.links ∧ (s.inc p o n).cams = s.cams ∧
    (s.inc p o n).camCorr = s.camCorr ∧ (s.inc p o n).cups = s.cups ∧ (s.inc p o n).tones = s.tones ∧
    (s.inc p o n).inks = s.inks ∧ (s.inc p o n).cmps = s.cmps ∧ (s.inc p o n).defs = s.defs ∧
    (s.inc p o n).clp = s.clp ∧ (s.inc p o n).tlk = s.tlk ∧ (s.inc p o n).chanWrites = s.chanWrites ∧
    (s.inc p o n).chSels = s.chSels ∧ (s.inc p o n).swArgs = s.swArgs ∧ (s.inc p o n).hits = s.hits ∧
    (s.inc p o n).gpioFrom = s.gpioFrom ∧ (s.inc p o n).pulses = s.pulses ∧ (s.inc p o n).srcs = s.srcs ∧
    (s.inc p o n).hostEnds = s.hostEnds ∧ (s.inc p o n).pwr = s.pwr ∧ (s.inc p o n).eths = s.eths ∧
    (s.inc p o n).ofsLow = s.ofsLow ∧ (s.inc p o n).cal = s.cal ∧ (s.inc p o n).lant = s.lant ∧
    (s.inc p o n).sram = s.sram ∧ (s.inc p o n).dmcs = s.dmcs ∧ (s.inc p o n).keep = s.keep ∧
    (s.inc p o n).dbg = s.dbg ∧ (s.inc p o n).wdog = s.wdog ∧ (s.inc p o n).rst = s.rst ∧
    (s.inc p o n).epoch = s.epoch ∧ (s.inc p o n).dramLost = s.dramLost ∧ (s.inc p o n).dmas = s.dmas :=
  ⟨rfl, rfl, rfl, rfl, rfl, rfl, rfl, rfl, rfl, rfl, rfl, rfl, rfl, rfl, rfl, rfl, rfl, rfl, rfl, rfl, rfl, rfl, rfl,
  rfl, rfl, rfl, rfl, rfl, rfl, rfl, rfl, rfl, rfl, rfl, rfl, rfl, rfl, rfl, rfl, rfl, rfl, rfl, rfl, rfl, rfl, rfl,
  rfl, rfl, rfl, rfl, rfl, rfl, rfl, rfl, rfl, rfl, rfl, rfl, rfl, rfl, rfl, rfl, rfl, rfl, rfl, rfl, rfl, rfl, rfl,
  rfl, rfl, rfl, rfl, rfl⟩

@[simp] theorem State.inc64_frame (s : State) (p o n : Nat) :
    (s.inc64 p o n).pending = s.pending ∧ (s.inc64 p o n).cycle = s.cycle ∧ (s.inc64 p o n).variant = s.variant ∧
    (s.inc64 p o n).fresh = s.fresh ∧ (s.inc64 p o n).pages = s.pages ∧ (s.inc64 p o n).shadow = s.shadow ∧
    (s.inc64 p o n).stored = s.stored ∧ (s.inc64 p o n).readData = s.readData ∧ (s.inc64 p o n).out = s.out ∧
    (s.inc64 p o n).evs = s.evs ∧ (s.inc64 p o n).trigs = s.trigs ∧ (s.inc64 p o n).chans = s.chans ∧
    (s.inc64 p o n).queues = s.queues ∧ (s.inc64 p o n).dram = s.dram ∧ (s.inc64 p o n).host0 = s.host0 ∧
    (s.inc64 p o n).host1 = s.host1 ∧ (s.inc64 p o n).pcie = s.pcie ∧ (s.inc64 p o n).hostReads = s.hostReads ∧
    (s.inc64 p o n).dramBad = s.dramBad ∧ (s.inc64 p o n).dramSoft = s.dramSoft ∧ (s.inc64 p o n).enc = s.enc ∧
    (s.inc64 p o n).obs = s.obs ∧ (s.inc64 p o n).emu = s.emu ∧ (s.inc64 p o n).axs = s.axs ∧
    (s.inc64 p o n).sdf = s.sdf ∧ (s.inc64 p o n).ptp = s.ptp ∧ (s.inc64 p o n).released = s.released ∧
    (s.inc64 p o n).marks = s.marks ∧ (s.inc64 p o n).markWrites = s.markWrites ∧
    (s.inc64 p o n).markEpochs = s.markEpochs ∧ (s.inc64 p o n).markFires = s.markFires ∧
    (s.inc64 p o n).keys = s.keys ∧ (s.inc64 p o n).jobs = s.jobs ∧ (s.inc64 p o n).verifying = s.verifying ∧
    (s.inc64 p o n).passVerdicts = s.passVerdicts ∧ (s.inc64 p o n).barCurs = s.barCurs ∧
    (s.inc64 p o n).refCurs = s.refCurs ∧ (s.inc64 p o n).nct = s.nct ∧ (s.inc64 p o n).stripes = s.stripes ∧
    (s.inc64 p o n).lanes = s.lanes ∧ (s.inc64 p o n).screens = s.screens ∧ (s.inc64 p o n).bars = s.bars ∧
    (s.inc64 p o n).links = s.links ∧ (s.inc64 p o n).cams = s.cams ∧ (s.inc64 p o n).camCorr = s.camCorr ∧
    (s.inc64 p o n).cups = s.cups ∧ (s.inc64 p o n).tones = s.tones ∧ (s.inc64 p o n).inks = s.inks ∧
    (s.inc64 p o n).cmps = s.cmps ∧ (s.inc64 p o n).defs = s.defs ∧ (s.inc64 p o n).clp = s.clp ∧
    (s.inc64 p o n).tlk = s.tlk ∧ (s.inc64 p o n).chanWrites = s.chanWrites ∧ (s.inc64 p o n).chSels = s.chSels ∧
    (s.inc64 p o n).swArgs = s.swArgs ∧ (s.inc64 p o n).hits = s.hits ∧ (s.inc64 p o n).gpioFrom = s.gpioFrom ∧
    (s.inc64 p o n).pulses = s.pulses ∧ (s.inc64 p o n).srcs = s.srcs ∧ (s.inc64 p o n).hostEnds = s.hostEnds ∧
    (s.inc64 p o n).pwr = s.pwr ∧ (s.inc64 p o n).eths = s.eths ∧ (s.inc64 p o n).ofsLow = s.ofsLow ∧
    (s.inc64 p o n).cal = s.cal ∧ (s.inc64 p o n).lant = s.lant ∧ (s.inc64 p o n).sram = s.sram ∧
    (s.inc64 p o n).dmcs = s.dmcs ∧ (s.inc64 p o n).keep = s.keep ∧ (s.inc64 p o n).dbg = s.dbg ∧
    (s.inc64 p o n).wdog = s.wdog ∧ (s.inc64 p o n).rst = s.rst ∧ (s.inc64 p o n).epoch = s.epoch ∧
    (s.inc64 p o n).dramLost = s.dramLost ∧ (s.inc64 p o n).dmas = s.dmas :=
  ⟨rfl, rfl, rfl, rfl, rfl, rfl, rfl, rfl, rfl, rfl, rfl, rfl, rfl, rfl, rfl, rfl, rfl, rfl, rfl, rfl, rfl, rfl, rfl,
  rfl, rfl, rfl, rfl, rfl, rfl, rfl, rfl, rfl, rfl, rfl, rfl, rfl, rfl, rfl, rfl, rfl, rfl, rfl, rfl, rfl, rfl, rfl,
  rfl, rfl, rfl, rfl, rfl, rfl, rfl, rfl, rfl, rfl, rfl, rfl, rfl, rfl, rfl, rfl, rfl, rfl, rfl, rfl, rfl, rfl, rfl,
  rfl, rfl, rfl, rfl, rfl⟩

@[simp] theorem State.emit_frame (s : State) (o : Out) :
    (s.emit o).pending = s.pending ∧ (s.emit o).cycle = s.cycle ∧ (s.emit o).variant = s.variant ∧
    (s.emit o).fresh = s.fresh ∧ (s.emit o).pages = s.pages ∧ (s.emit o).regs = s.regs ∧
    (s.emit o).shadow = s.shadow ∧ (s.emit o).stored = s.stored ∧ (s.emit o).readData = s.readData ∧
    (s.emit o).evs = s.evs ∧ (s.emit o).trigs = s.trigs ∧ (s.emit o).chans = s.chans ∧ (s.emit o).queues = s.queues ∧
    (s.emit o).dram = s.dram ∧ (s.emit o).host0 = s.host0 ∧ (s.emit o).host1 = s.host1 ∧ (s.emit o).pcie = s.pcie ∧
    (s.emit o).hostReads = s.hostReads ∧ (s.emit o).dramBad = s.dramBad ∧ (s.emit o).dramSoft = s.dramSoft ∧
    (s.emit o).enc = s.enc ∧ (s.emit o).obs = s.obs ∧ (s.emit o).emu = s.emu ∧ (s.emit o).axs = s.axs ∧
    (s.emit o).sdf = s.sdf ∧ (s.emit o).ptp = s.ptp ∧ (s.emit o).released = s.released ∧ (s.emit o).marks = s.marks ∧
    (s.emit o).markWrites = s.markWrites ∧ (s.emit o).markEpochs = s.markEpochs ∧
    (s.emit o).markFires = s.markFires ∧ (s.emit o).keys = s.keys ∧ (s.emit o).jobs = s.jobs ∧
    (s.emit o).verifying = s.verifying ∧ (s.emit o).passVerdicts = s.passVerdicts ∧ (s.emit o).barCurs = s.barCurs ∧
    (s.emit o).refCurs = s.refCurs ∧ (s.emit o).nct = s.nct ∧ (s.emit o).stripes = s.stripes ∧
    (s.emit o).lanes = s.lanes ∧ (s.emit o).screens = s.screens ∧ (s.emit o).bars = s.bars ∧
    (s.emit o).links = s.links ∧ (s.emit o).cams = s.cams ∧ (s.emit o).camCorr = s.camCorr ∧
    (s.emit o).cups = s.cups ∧ (s.emit o).tones = s.tones ∧ (s.emit o).inks = s.inks ∧ (s.emit o).cmps = s.cmps ∧
    (s.emit o).defs = s.defs ∧ (s.emit o).clp = s.clp ∧ (s.emit o).tlk = s.tlk ∧
    (s.emit o).chanWrites = s.chanWrites ∧ (s.emit o).chSels = s.chSels ∧ (s.emit o).swArgs = s.swArgs ∧
    (s.emit o).hits = s.hits ∧ (s.emit o).gpioFrom = s.gpioFrom ∧ (s.emit o).pulses = s.pulses ∧
    (s.emit o).srcs = s.srcs ∧ (s.emit o).hostEnds = s.hostEnds ∧ (s.emit o).pwr = s.pwr ∧ (s.emit o).eths = s.eths ∧
    (s.emit o).ofsLow = s.ofsLow ∧ (s.emit o).cal = s.cal ∧ (s.emit o).lant = s.lant ∧ (s.emit o).sram = s.sram ∧
    (s.emit o).dmcs = s.dmcs ∧ (s.emit o).keep = s.keep ∧ (s.emit o).dbg = s.dbg ∧ (s.emit o).wdog = s.wdog ∧
    (s.emit o).rst = s.rst ∧ (s.emit o).epoch = s.epoch ∧ (s.emit o).dramLost = s.dramLost ∧ (s.emit o).dmas = s.dmas :=
  ⟨rfl, rfl, rfl, rfl, rfl, rfl, rfl, rfl, rfl, rfl, rfl, rfl, rfl, rfl, rfl, rfl, rfl, rfl, rfl, rfl, rfl, rfl, rfl,
  rfl, rfl, rfl, rfl, rfl, rfl, rfl, rfl, rfl, rfl, rfl, rfl, rfl, rfl, rfl, rfl, rfl, rfl, rfl, rfl, rfl, rfl, rfl,
  rfl, rfl, rfl, rfl, rfl, rfl, rfl, rfl, rfl, rfl, rfl, rfl, rfl, rfl, rfl, rfl, rfl, rfl, rfl, rfl, rfl, rfl, rfl,
  rfl, rfl, rfl, rfl, rfl⟩

@[simp] theorem State.drawn_frame (s : State) :
    (s.drawn).pending = s.pending ∧ (s.drawn).cycle = s.cycle ∧ (s.drawn).variant = s.variant ∧
    (s.drawn).pages = s.pages ∧ (s.drawn).regs = s.regs ∧ (s.drawn).shadow = s.shadow ∧ (s.drawn).stored = s.stored ∧
    (s.drawn).readData = s.readData ∧ (s.drawn).out = s.out ∧ (s.drawn).evs = s.evs ∧ (s.drawn).trigs = s.trigs ∧
    (s.drawn).chans = s.chans ∧ (s.drawn).queues = s.queues ∧ (s.drawn).dram = s.dram ∧ (s.drawn).host0 = s.host0 ∧
    (s.drawn).host1 = s.host1 ∧ (s.drawn).pcie = s.pcie ∧ (s.drawn).hostReads = s.hostReads ∧
    (s.drawn).dramBad = s.dramBad ∧ (s.drawn).dramSoft = s.dramSoft ∧ (s.drawn).enc = s.enc ∧ (s.drawn).obs = s.obs ∧
    (s.drawn).emu = s.emu ∧ (s.drawn).axs = s.axs ∧ (s.drawn).sdf = s.sdf ∧ (s.drawn).ptp = s.ptp ∧
    (s.drawn).released = s.released ∧ (s.drawn).marks = s.marks ∧ (s.drawn).markWrites = s.markWrites ∧
    (s.drawn).markEpochs = s.markEpochs ∧ (s.drawn).markFires = s.markFires ∧ (s.drawn).keys = s.keys ∧
    (s.drawn).jobs = s.jobs ∧ (s.drawn).verifying = s.verifying ∧ (s.drawn).passVerdicts = s.passVerdicts ∧
    (s.drawn).barCurs = s.barCurs ∧ (s.drawn).refCurs = s.refCurs ∧ (s.drawn).nct = s.nct ∧
    (s.drawn).stripes = s.stripes ∧ (s.drawn).lanes = s.lanes ∧ (s.drawn).screens = s.screens ∧
    (s.drawn).bars = s.bars ∧ (s.drawn).links = s.links ∧ (s.drawn).cams = s.cams ∧ (s.drawn).camCorr = s.camCorr ∧
    (s.drawn).cups = s.cups ∧ (s.drawn).tones = s.tones ∧ (s.drawn).inks = s.inks ∧ (s.drawn).cmps = s.cmps ∧
    (s.drawn).defs = s.defs ∧ (s.drawn).clp = s.clp ∧ (s.drawn).tlk = s.tlk ∧ (s.drawn).chanWrites = s.chanWrites ∧
    (s.drawn).chSels = s.chSels ∧ (s.drawn).swArgs = s.swArgs ∧ (s.drawn).hits = s.hits ∧
    (s.drawn).gpioFrom = s.gpioFrom ∧ (s.drawn).pulses = s.pulses ∧ (s.drawn).srcs = s.srcs ∧
    (s.drawn).hostEnds = s.hostEnds ∧ (s.drawn).pwr = s.pwr ∧ (s.drawn).eths = s.eths ∧ (s.drawn).ofsLow = s.ofsLow ∧
    (s.drawn).cal = s.cal ∧ (s.drawn).lant = s.lant ∧ (s.drawn).sram = s.sram ∧ (s.drawn).dmcs = s.dmcs ∧
    (s.drawn).keep = s.keep ∧ (s.drawn).dbg = s.dbg ∧ (s.drawn).wdog = s.wdog ∧ (s.drawn).rst = s.rst ∧
    (s.drawn).epoch = s.epoch ∧ (s.drawn).dramLost = s.dramLost ∧ (s.drawn).dmas = s.dmas :=
  ⟨rfl, rfl, rfl, rfl, rfl, rfl, rfl, rfl, rfl, rfl, rfl, rfl, rfl, rfl, rfl, rfl, rfl, rfl, rfl, rfl, rfl, rfl, rfl,
  rfl, rfl, rfl, rfl, rfl, rfl, rfl, rfl, rfl, rfl, rfl, rfl, rfl, rfl, rfl, rfl, rfl, rfl, rfl, rfl, rfl, rfl, rfl,
  rfl, rfl, rfl, rfl, rfl, rfl, rfl, rfl, rfl, rfl, rfl, rfl, rfl, rfl, rfl, rfl, rfl, rfl, rfl, rfl, rfl, rfl, rfl,
  rfl, rfl, rfl, rfl, rfl⟩

@[simp] theorem State.setIst_frame (s : State) (p b : Nat) :
    (s.setIst p b).pending = s.pending ∧ (s.setIst p b).cycle = s.cycle ∧ (s.setIst p b).variant = s.variant ∧
    (s.setIst p b).fresh = s.fresh ∧ (s.setIst p b).regs = s.regs ∧ (s.setIst p b).shadow = s.shadow ∧
    (s.setIst p b).stored = s.stored ∧ (s.setIst p b).readData = s.readData ∧ (s.setIst p b).out = s.out ∧
    (s.setIst p b).evs = s.evs ∧ (s.setIst p b).trigs = s.trigs ∧ (s.setIst p b).chans = s.chans ∧
    (s.setIst p b).queues = s.queues ∧ (s.setIst p b).dram = s.dram ∧ (s.setIst p b).host0 = s.host0 ∧
    (s.setIst p b).host1 = s.host1 ∧ (s.setIst p b).pcie = s.pcie ∧ (s.setIst p b).hostReads = s.hostReads ∧
    (s.setIst p b).dramBad = s.dramBad ∧ (s.setIst p b).dramSoft = s.dramSoft ∧ (s.setIst p b).enc = s.enc ∧
    (s.setIst p b).obs = s.obs ∧ (s.setIst p b).emu = s.emu ∧ (s.setIst p b).axs = s.axs ∧
    (s.setIst p b).sdf = s.sdf ∧ (s.setIst p b).ptp = s.ptp ∧ (s.setIst p b).released = s.released ∧
    (s.setIst p b).marks = s.marks ∧ (s.setIst p b).markWrites = s.markWrites ∧
    (s.setIst p b).markEpochs = s.markEpochs ∧ (s.setIst p b).markFires = s.markFires ∧
    (s.setIst p b).keys = s.keys ∧ (s.setIst p b).jobs = s.jobs ∧ (s.setIst p b).verifying = s.verifying ∧
    (s.setIst p b).passVerdicts = s.passVerdicts ∧ (s.setIst p b).barCurs = s.barCurs ∧
    (s.setIst p b).refCurs = s.refCurs ∧ (s.setIst p b).nct = s.nct ∧ (s.setIst p b).stripes = s.stripes ∧
    (s.setIst p b).lanes = s.lanes ∧ (s.setIst p b).screens = s.screens ∧ (s.setIst p b).bars = s.bars ∧
    (s.setIst p b).links = s.links ∧ (s.setIst p b).cams = s.cams ∧ (s.setIst p b).camCorr = s.camCorr ∧
    (s.setIst p b).cups = s.cups ∧ (s.setIst p b).tones = s.tones ∧ (s.setIst p b).inks = s.inks ∧
    (s.setIst p b).cmps = s.cmps ∧ (s.setIst p b).defs = s.defs ∧ (s.setIst p b).clp = s.clp ∧
    (s.setIst p b).tlk = s.tlk ∧ (s.setIst p b).chanWrites = s.chanWrites ∧ (s.setIst p b).chSels = s.chSels ∧
    (s.setIst p b).swArgs = s.swArgs ∧ (s.setIst p b).hits = s.hits ∧ (s.setIst p b).gpioFrom = s.gpioFrom ∧
    (s.setIst p b).pulses = s.pulses ∧ (s.setIst p b).srcs = s.srcs ∧ (s.setIst p b).hostEnds = s.hostEnds ∧
    (s.setIst p b).pwr = s.pwr ∧ (s.setIst p b).eths = s.eths ∧ (s.setIst p b).ofsLow = s.ofsLow ∧
    (s.setIst p b).cal = s.cal ∧ (s.setIst p b).lant = s.lant ∧ (s.setIst p b).sram = s.sram ∧
    (s.setIst p b).dmcs = s.dmcs ∧ (s.setIst p b).keep = s.keep ∧ (s.setIst p b).dbg = s.dbg ∧
    (s.setIst p b).wdog = s.wdog ∧ (s.setIst p b).rst = s.rst ∧ (s.setIst p b).epoch = s.epoch ∧
    (s.setIst p b).dramLost = s.dramLost ∧ (s.setIst p b).dmas = s.dmas :=
  ⟨rfl, rfl, rfl, rfl, rfl, rfl, rfl, rfl, rfl, rfl, rfl, rfl, rfl, rfl, rfl, rfl, rfl, rfl, rfl, rfl, rfl, rfl, rfl,
  rfl, rfl, rfl, rfl, rfl, rfl, rfl, rfl, rfl, rfl, rfl, rfl, rfl, rfl, rfl, rfl, rfl, rfl, rfl, rfl, rfl, rfl, rfl,
  rfl, rfl, rfl, rfl, rfl, rfl, rfl, rfl, rfl, rfl, rfl, rfl, rfl, rfl, rfl, rfl, rfl, rfl, rfl, rfl, rfl, rfl, rfl,
  rfl, rfl, rfl, rfl, rfl⟩

@[simp] theorem State.err_frame (s : State) (p b code ctx : Nat) :
    (s.err p b code ctx).pending = s.pending ∧ (s.err p b code ctx).cycle = s.cycle ∧
    (s.err p b code ctx).variant = s.variant ∧ (s.err p b code ctx).fresh = s.fresh ∧
    (s.err p b code ctx).regs = s.regs ∧ (s.err p b code ctx).shadow = s.shadow ∧
    (s.err p b code ctx).stored = s.stored ∧ (s.err p b code ctx).readData = s.readData ∧
    (s.err p b code ctx).out = s.out ∧ (s.err p b code ctx).evs = s.evs ∧ (s.err p b code ctx).trigs = s.trigs ∧
    (s.err p b code ctx).chans = s.chans ∧ (s.err p b code ctx).queues = s.queues ∧
    (s.err p b code ctx).dram = s.dram ∧ (s.err p b code ctx).host0 = s.host0 ∧
    (s.err p b code ctx).host1 = s.host1 ∧ (s.err p b code ctx).pcie = s.pcie ∧
    (s.err p b code ctx).hostReads = s.hostReads ∧ (s.err p b code ctx).dramBad = s.dramBad ∧
    (s.err p b code ctx).dramSoft = s.dramSoft ∧ (s.err p b code ctx).enc = s.enc ∧
    (s.err p b code ctx).obs = s.obs ∧ (s.err p b code ctx).emu = s.emu ∧ (s.err p b code ctx).axs = s.axs ∧
    (s.err p b code ctx).sdf = s.sdf ∧ (s.err p b code ctx).ptp = s.ptp ∧
    (s.err p b code ctx).released = s.released ∧ (s.err p b code ctx).marks = s.marks ∧
    (s.err p b code ctx).markWrites = s.markWrites ∧ (s.err p b code ctx).markEpochs = s.markEpochs ∧
    (s.err p b code ctx).markFires = s.markFires ∧ (s.err p b code ctx).keys = s.keys ∧
    (s.err p b code ctx).jobs = s.jobs ∧ (s.err p b code ctx).verifying = s.verifying ∧
    (s.err p b code ctx).passVerdicts = s.passVerdicts ∧ (s.err p b code ctx).barCurs = s.barCurs ∧
    (s.err p b code ctx).refCurs = s.refCurs ∧ (s.err p b code ctx).nct = s.nct ∧
    (s.err p b code ctx).stripes = s.stripes ∧ (s.err p b code ctx).lanes = s.lanes ∧
    (s.err p b code ctx).screens = s.screens ∧ (s.err p b code ctx).bars = s.bars ∧
    (s.err p b code ctx).links = s.links ∧ (s.err p b code ctx).cams = s.cams ∧
    (s.err p b code ctx).camCorr = s.camCorr ∧ (s.err p b code ctx).cups = s.cups ∧
    (s.err p b code ctx).tones = s.tones ∧ (s.err p b code ctx).inks = s.inks ∧ (s.err p b code ctx).cmps = s.cmps ∧
    (s.err p b code ctx).defs = s.defs ∧ (s.err p b code ctx).clp = s.clp ∧ (s.err p b code ctx).tlk = s.tlk ∧
    (s.err p b code ctx).chanWrites = s.chanWrites ∧ (s.err p b code ctx).chSels = s.chSels ∧
    (s.err p b code ctx).swArgs = s.swArgs ∧ (s.err p b code ctx).hits = s.hits ∧
    (s.err p b code ctx).gpioFrom = s.gpioFrom ∧ (s.err p b code ctx).pulses = s.pulses ∧
    (s.err p b code ctx).srcs = s.srcs ∧ (s.err p b code ctx).hostEnds = s.hostEnds ∧
    (s.err p b code ctx).pwr = s.pwr ∧ (s.err p b code ctx).eths = s.eths ∧ (s.err p b code ctx).ofsLow = s.ofsLow ∧
    (s.err p b code ctx).cal = s.cal ∧ (s.err p b code ctx).lant = s.lant ∧ (s.err p b code ctx).sram = s.sram ∧
    (s.err p b code ctx).dmcs = s.dmcs ∧ (s.err p b code ctx).keep = s.keep ∧ (s.err p b code ctx).dbg = s.dbg ∧
    (s.err p b code ctx).wdog = s.wdog ∧ (s.err p b code ctx).rst = s.rst ∧ (s.err p b code ctx).epoch = s.epoch ∧
    (s.err p b code ctx).dramLost = s.dramLost ∧ (s.err p b code ctx).dmas = s.dmas :=
  ⟨rfl, rfl, rfl, rfl, rfl, rfl, rfl, rfl, rfl, rfl, rfl, rfl, rfl, rfl, rfl, rfl, rfl, rfl, rfl, rfl, rfl, rfl, rfl,
  rfl, rfl, rfl, rfl, rfl, rfl, rfl, rfl, rfl, rfl, rfl, rfl, rfl, rfl, rfl, rfl, rfl, rfl, rfl, rfl, rfl, rfl, rfl,
  rfl, rfl, rfl, rfl, rfl, rfl, rfl, rfl, rfl, rfl, rfl, rfl, rfl, rfl, rfl, rfl, rfl, rfl, rfl, rfl, rfl, rfl, rfl,
  rfl, rfl, rfl, rfl, rfl⟩

@[simp] theorem State.logOnly_frame (s : State) (p code ctx : Nat) :
    (s.logOnly p code ctx).pending = s.pending ∧ (s.logOnly p code ctx).cycle = s.cycle ∧
    (s.logOnly p code ctx).variant = s.variant ∧ (s.logOnly p code ctx).fresh = s.fresh ∧
    (s.logOnly p code ctx).regs = s.regs ∧ (s.logOnly p code ctx).shadow = s.shadow ∧
    (s.logOnly p code ctx).stored = s.stored ∧ (s.logOnly p code ctx).readData = s.readData ∧
    (s.logOnly p code ctx).out = s.out ∧ (s.logOnly p code ctx).evs = s.evs ∧
    (s.logOnly p code ctx).trigs = s.trigs ∧ (s.logOnly p code ctx).chans = s.chans ∧
    (s.logOnly p code ctx).queues = s.queues ∧ (s.logOnly p code ctx).dram = s.dram ∧
    (s.logOnly p code ctx).host0 = s.host0 ∧ (s.logOnly p code ctx).host1 = s.host1 ∧
    (s.logOnly p code ctx).pcie = s.pcie ∧ (s.logOnly p code ctx).hostReads = s.hostReads ∧
    (s.logOnly p code ctx).dramBad = s.dramBad ∧ (s.logOnly p code ctx).dramSoft = s.dramSoft ∧
    (s.logOnly p code ctx).enc = s.enc ∧ (s.logOnly p code ctx).obs = s.obs ∧ (s.logOnly p code ctx).emu = s.emu ∧
    (s.logOnly p code ctx).axs = s.axs ∧ (s.logOnly p code ctx).sdf = s.sdf ∧ (s.logOnly p code ctx).ptp = s.ptp ∧
    (s.logOnly p code ctx).released = s.released ∧ (s.logOnly p code ctx).marks = s.marks ∧
    (s.logOnly p code ctx).markWrites = s.markWrites ∧ (s.logOnly p code ctx).markEpochs = s.markEpochs ∧
    (s.logOnly p code ctx).markFires = s.markFires ∧ (s.logOnly p code ctx).keys = s.keys ∧
    (s.logOnly p code ctx).jobs = s.jobs ∧ (s.logOnly p code ctx).verifying = s.verifying ∧
    (s.logOnly p code ctx).passVerdicts = s.passVerdicts ∧ (s.logOnly p code ctx).barCurs = s.barCurs ∧
    (s.logOnly p code ctx).refCurs = s.refCurs ∧ (s.logOnly p code ctx).nct = s.nct ∧
    (s.logOnly p code ctx).stripes = s.stripes ∧ (s.logOnly p code ctx).lanes = s.lanes ∧
    (s.logOnly p code ctx).screens = s.screens ∧ (s.logOnly p code ctx).bars = s.bars ∧
    (s.logOnly p code ctx).links = s.links ∧ (s.logOnly p code ctx).cams = s.cams ∧
    (s.logOnly p code ctx).camCorr = s.camCorr ∧ (s.logOnly p code ctx).cups = s.cups ∧
    (s.logOnly p code ctx).tones = s.tones ∧ (s.logOnly p code ctx).inks = s.inks ∧
    (s.logOnly p code ctx).cmps = s.cmps ∧ (s.logOnly p code ctx).defs = s.defs ∧
    (s.logOnly p code ctx).clp = s.clp ∧ (s.logOnly p code ctx).tlk = s.tlk ∧
    (s.logOnly p code ctx).chanWrites = s.chanWrites ∧ (s.logOnly p code ctx).chSels = s.chSels ∧
    (s.logOnly p code ctx).swArgs = s.swArgs ∧ (s.logOnly p code ctx).hits = s.hits ∧
    (s.logOnly p code ctx).gpioFrom = s.gpioFrom ∧ (s.logOnly p code ctx).pulses = s.pulses ∧
    (s.logOnly p code ctx).srcs = s.srcs ∧ (s.logOnly p code ctx).hostEnds = s.hostEnds ∧
    (s.logOnly p code ctx).pwr = s.pwr ∧ (s.logOnly p code ctx).eths = s.eths ∧
    (s.logOnly p code ctx).ofsLow = s.ofsLow ∧ (s.logOnly p code ctx).cal = s.cal ∧
    (s.logOnly p code ctx).lant = s.lant ∧ (s.logOnly p code ctx).sram = s.sram ∧
    (s.logOnly p code ctx).dmcs = s.dmcs ∧ (s.logOnly p code ctx).keep = s.keep ∧
    (s.logOnly p code ctx).dbg = s.dbg ∧ (s.logOnly p code ctx).wdog = s.wdog ∧ (s.logOnly p code ctx).rst = s.rst ∧
    (s.logOnly p code ctx).epoch = s.epoch ∧ (s.logOnly p code ctx).dramLost = s.dramLost ∧
    (s.logOnly p code ctx).dmas = s.dmas :=
  ⟨rfl, rfl, rfl, rfl, rfl, rfl, rfl, rfl, rfl, rfl, rfl, rfl, rfl, rfl, rfl, rfl, rfl, rfl, rfl, rfl, rfl, rfl, rfl,
  rfl, rfl, rfl, rfl, rfl, rfl, rfl, rfl, rfl, rfl, rfl, rfl, rfl, rfl, rfl, rfl, rfl, rfl, rfl, rfl, rfl, rfl, rfl,
  rfl, rfl, rfl, rfl, rfl, rfl, rfl, rfl, rfl, rfl, rfl, rfl, rfl, rfl, rfl, rfl, rfl, rfl, rfl, rfl, rfl, rfl, rfl,
  rfl, rfl, rfl, rfl, rfl⟩

@[simp] theorem State.errSilent_frame (s : State) (p b : Nat) :
    (s.errSilent p b).pending = s.pending ∧ (s.errSilent p b).cycle = s.cycle ∧
    (s.errSilent p b).variant = s.variant ∧ (s.errSilent p b).fresh = s.fresh ∧ (s.errSilent p b).regs = s.regs ∧
    (s.errSilent p b).shadow = s.shadow ∧ (s.errSilent p b).stored = s.stored ∧
    (s.errSilent p b).readData = s.readData ∧ (s.errSilent p b).out = s.out ∧ (s.errSilent p b).evs = s.evs ∧
    (s.errSilent p b).trigs = s.trigs ∧ (s.errSilent p b).chans = s.chans ∧ (s.errSilent p b).queues = s.queues ∧
    (s.errSilent p b).dram = s.dram ∧ (s.errSilent p b).host0 = s.host0 ∧ (s.errSilent p b).host1 = s.host1 ∧
    (s.errSilent p b).pcie = s.pcie ∧ (s.errSilent p b).hostReads = s.hostReads ∧
    (s.errSilent p b).dramBad = s.dramBad ∧ (s.errSilent p b).dramSoft = s.dramSoft ∧ (s.errSilent p b).enc = s.enc ∧
    (s.errSilent p b).obs = s.obs ∧ (s.errSilent p b).emu = s.emu ∧ (s.errSilent p b).axs = s.axs ∧
    (s.errSilent p b).sdf = s.sdf ∧ (s.errSilent p b).ptp = s.ptp ∧ (s.errSilent p b).released = s.released ∧
    (s.errSilent p b).marks = s.marks ∧ (s.errSilent p b).markWrites = s.markWrites ∧
    (s.errSilent p b).markEpochs = s.markEpochs ∧ (s.errSilent p b).markFires = s.markFires ∧
    (s.errSilent p b).keys = s.keys ∧ (s.errSilent p b).jobs = s.jobs ∧ (s.errSilent p b).verifying = s.verifying ∧
    (s.errSilent p b).passVerdicts = s.passVerdicts ∧ (s.errSilent p b).barCurs = s.barCurs ∧
    (s.errSilent p b).refCurs = s.refCurs ∧ (s.errSilent p b).nct = s.nct ∧ (s.errSilent p b).stripes = s.stripes ∧
    (s.errSilent p b).lanes = s.lanes ∧ (s.errSilent p b).screens = s.screens ∧ (s.errSilent p b).bars = s.bars ∧
    (s.errSilent p b).links = s.links ∧ (s.errSilent p b).cams = s.cams ∧ (s.errSilent p b).camCorr = s.camCorr ∧
    (s.errSilent p b).cups = s.cups ∧ (s.errSilent p b).tones = s.tones ∧ (s.errSilent p b).inks = s.inks ∧
    (s.errSilent p b).cmps = s.cmps ∧ (s.errSilent p b).defs = s.defs ∧ (s.errSilent p b).clp = s.clp ∧
    (s.errSilent p b).tlk = s.tlk ∧ (s.errSilent p b).chanWrites = s.chanWrites ∧
    (s.errSilent p b).chSels = s.chSels ∧ (s.errSilent p b).swArgs = s.swArgs ∧ (s.errSilent p b).hits = s.hits ∧
    (s.errSilent p b).gpioFrom = s.gpioFrom ∧ (s.errSilent p b).pulses = s.pulses ∧ (s.errSilent p b).srcs = s.srcs ∧
    (s.errSilent p b).hostEnds = s.hostEnds ∧ (s.errSilent p b).pwr = s.pwr ∧ (s.errSilent p b).eths = s.eths ∧
    (s.errSilent p b).ofsLow = s.ofsLow ∧ (s.errSilent p b).cal = s.cal ∧ (s.errSilent p b).lant = s.lant ∧
    (s.errSilent p b).sram = s.sram ∧ (s.errSilent p b).dmcs = s.dmcs ∧ (s.errSilent p b).keep = s.keep ∧
    (s.errSilent p b).dbg = s.dbg ∧ (s.errSilent p b).wdog = s.wdog ∧ (s.errSilent p b).rst = s.rst ∧
    (s.errSilent p b).epoch = s.epoch ∧ (s.errSilent p b).dramLost = s.dramLost ∧ (s.errSilent p b).dmas = s.dmas :=
  ⟨rfl, rfl, rfl, rfl, rfl, rfl, rfl, rfl, rfl, rfl, rfl, rfl, rfl, rfl, rfl, rfl, rfl, rfl, rfl, rfl, rfl, rfl, rfl,
  rfl, rfl, rfl, rfl, rfl, rfl, rfl, rfl, rfl, rfl, rfl, rfl, rfl, rfl, rfl, rfl, rfl, rfl, rfl, rfl, rfl, rfl, rfl,
  rfl, rfl, rfl, rfl, rfl, rfl, rfl, rfl, rfl, rfl, rfl, rfl, rfl, rfl, rfl, rfl, rfl, rfl, rfl, rfl, rfl, rfl, rfl,
  rfl, rfl, rfl, rfl, rfl⟩

@[simp] theorem State.setChan_frame (s : State) (ch : Nat) (c : Chan) :
    (s.setChan ch c).pending = s.pending ∧ (s.setChan ch c).cycle = s.cycle ∧ (s.setChan ch c).variant = s.variant ∧
    (s.setChan ch c).fresh = s.fresh ∧ (s.setChan ch c).pages = s.pages ∧ (s.setChan ch c).regs = s.regs ∧
    (s.setChan ch c).shadow = s.shadow ∧ (s.setChan ch c).stored = s.stored ∧
    (s.setChan ch c).readData = s.readData ∧ (s.setChan ch c).out = s.out ∧ (s.setChan ch c).evs = s.evs ∧
    (s.setChan ch c).trigs = s.trigs ∧ (s.setChan ch c).queues = s.queues ∧ (s.setChan ch c).dram = s.dram ∧
    (s.setChan ch c).host0 = s.host0 ∧ (s.setChan ch c).host1 = s.host1 ∧ (s.setChan ch c).pcie = s.pcie ∧
    (s.setChan ch c).hostReads = s.hostReads ∧ (s.setChan ch c).dramBad = s.dramBad ∧
    (s.setChan ch c).dramSoft = s.dramSoft ∧ (s.setChan ch c).enc = s.enc ∧ (s.setChan ch c).obs = s.obs ∧
    (s.setChan ch c).emu = s.emu ∧ (s.setChan ch c).axs = s.axs ∧ (s.setChan ch c).sdf = s.sdf ∧
    (s.setChan ch c).ptp = s.ptp ∧ (s.setChan ch c).released = s.released ∧ (s.setChan ch c).marks = s.marks ∧
    (s.setChan ch c).markWrites = s.markWrites ∧ (s.setChan ch c).markEpochs = s.markEpochs ∧
    (s.setChan ch c).markFires = s.markFires ∧ (s.setChan ch c).keys = s.keys ∧ (s.setChan ch c).jobs = s.jobs ∧
    (s.setChan ch c).verifying = s.verifying ∧ (s.setChan ch c).passVerdicts = s.passVerdicts ∧
    (s.setChan ch c).barCurs = s.barCurs ∧ (s.setChan ch c).refCurs = s.refCurs ∧ (s.setChan ch c).nct = s.nct ∧
    (s.setChan ch c).stripes = s.stripes ∧ (s.setChan ch c).lanes = s.lanes ∧ (s.setChan ch c).screens = s.screens ∧
    (s.setChan ch c).bars = s.bars ∧ (s.setChan ch c).links = s.links ∧ (s.setChan ch c).cams = s.cams ∧
    (s.setChan ch c).camCorr = s.camCorr ∧ (s.setChan ch c).cups = s.cups ∧ (s.setChan ch c).tones = s.tones ∧
    (s.setChan ch c).inks = s.inks ∧ (s.setChan ch c).cmps = s.cmps ∧ (s.setChan ch c).defs = s.defs ∧
    (s.setChan ch c).clp = s.clp ∧ (s.setChan ch c).tlk = s.tlk ∧ (s.setChan ch c).chanWrites = s.chanWrites ∧
    (s.setChan ch c).chSels = s.chSels ∧ (s.setChan ch c).swArgs = s.swArgs ∧ (s.setChan ch c).hits = s.hits ∧
    (s.setChan ch c).gpioFrom = s.gpioFrom ∧ (s.setChan ch c).pulses = s.pulses ∧ (s.setChan ch c).srcs = s.srcs ∧
    (s.setChan ch c).hostEnds = s.hostEnds ∧ (s.setChan ch c).pwr = s.pwr ∧ (s.setChan ch c).eths = s.eths ∧
    (s.setChan ch c).ofsLow = s.ofsLow ∧ (s.setChan ch c).cal = s.cal ∧ (s.setChan ch c).lant = s.lant ∧
    (s.setChan ch c).sram = s.sram ∧ (s.setChan ch c).dmcs = s.dmcs ∧ (s.setChan ch c).keep = s.keep ∧
    (s.setChan ch c).dbg = s.dbg ∧ (s.setChan ch c).wdog = s.wdog ∧ (s.setChan ch c).rst = s.rst ∧
    (s.setChan ch c).epoch = s.epoch ∧ (s.setChan ch c).dramLost = s.dramLost ∧ (s.setChan ch c).dmas = s.dmas :=
  ⟨rfl, rfl, rfl, rfl, rfl, rfl, rfl, rfl, rfl, rfl, rfl, rfl, rfl, rfl, rfl, rfl, rfl, rfl, rfl, rfl, rfl, rfl, rfl,
  rfl, rfl, rfl, rfl, rfl, rfl, rfl, rfl, rfl, rfl, rfl, rfl, rfl, rfl, rfl, rfl, rfl, rfl, rfl, rfl, rfl, rfl, rfl,
  rfl, rfl, rfl, rfl, rfl, rfl, rfl, rfl, rfl, rfl, rfl, rfl, rfl, rfl, rfl, rfl, rfl, rfl, rfl, rfl, rfl, rfl, rfl,
  rfl, rfl, rfl, rfl, rfl⟩

@[simp] theorem State.setEnc_frame (s : State) (n : Nat) (x : Enc) :
    (s.setEnc n x).pending = s.pending ∧ (s.setEnc n x).cycle = s.cycle ∧ (s.setEnc n x).variant = s.variant ∧
    (s.setEnc n x).fresh = s.fresh ∧ (s.setEnc n x).pages = s.pages ∧ (s.setEnc n x).regs = s.regs ∧
    (s.setEnc n x).shadow = s.shadow ∧ (s.setEnc n x).stored = s.stored ∧ (s.setEnc n x).readData = s.readData ∧
    (s.setEnc n x).out = s.out ∧ (s.setEnc n x).evs = s.evs ∧ (s.setEnc n x).trigs = s.trigs ∧
    (s.setEnc n x).chans = s.chans ∧ (s.setEnc n x).queues = s.queues ∧ (s.setEnc n x).dram = s.dram ∧
    (s.setEnc n x).host0 = s.host0 ∧ (s.setEnc n x).host1 = s.host1 ∧ (s.setEnc n x).pcie = s.pcie ∧
    (s.setEnc n x).hostReads = s.hostReads ∧ (s.setEnc n x).dramBad = s.dramBad ∧
    (s.setEnc n x).dramSoft = s.dramSoft ∧ (s.setEnc n x).obs = s.obs ∧ (s.setEnc n x).emu = s.emu ∧
    (s.setEnc n x).axs = s.axs ∧ (s.setEnc n x).sdf = s.sdf ∧ (s.setEnc n x).ptp = s.ptp ∧
    (s.setEnc n x).released = s.released ∧ (s.setEnc n x).marks = s.marks ∧
    (s.setEnc n x).markWrites = s.markWrites ∧ (s.setEnc n x).markEpochs = s.markEpochs ∧
    (s.setEnc n x).markFires = s.markFires ∧ (s.setEnc n x).keys = s.keys ∧ (s.setEnc n x).jobs = s.jobs ∧
    (s.setEnc n x).verifying = s.verifying ∧ (s.setEnc n x).passVerdicts = s.passVerdicts ∧
    (s.setEnc n x).barCurs = s.barCurs ∧ (s.setEnc n x).refCurs = s.refCurs ∧ (s.setEnc n x).nct = s.nct ∧
    (s.setEnc n x).stripes = s.stripes ∧ (s.setEnc n x).lanes = s.lanes ∧ (s.setEnc n x).screens = s.screens ∧
    (s.setEnc n x).bars = s.bars ∧ (s.setEnc n x).links = s.links ∧ (s.setEnc n x).cams = s.cams ∧
    (s.setEnc n x).camCorr = s.camCorr ∧ (s.setEnc n x).cups = s.cups ∧ (s.setEnc n x).tones = s.tones ∧
    (s.setEnc n x).inks = s.inks ∧ (s.setEnc n x).cmps = s.cmps ∧ (s.setEnc n x).defs = s.defs ∧
    (s.setEnc n x).clp = s.clp ∧ (s.setEnc n x).tlk = s.tlk ∧ (s.setEnc n x).chanWrites = s.chanWrites ∧
    (s.setEnc n x).chSels = s.chSels ∧ (s.setEnc n x).swArgs = s.swArgs ∧ (s.setEnc n x).hits = s.hits ∧
    (s.setEnc n x).gpioFrom = s.gpioFrom ∧ (s.setEnc n x).pulses = s.pulses ∧ (s.setEnc n x).srcs = s.srcs ∧
    (s.setEnc n x).hostEnds = s.hostEnds ∧ (s.setEnc n x).pwr = s.pwr ∧ (s.setEnc n x).eths = s.eths ∧
    (s.setEnc n x).ofsLow = s.ofsLow ∧ (s.setEnc n x).cal = s.cal ∧ (s.setEnc n x).lant = s.lant ∧
    (s.setEnc n x).sram = s.sram ∧ (s.setEnc n x).dmcs = s.dmcs ∧ (s.setEnc n x).keep = s.keep ∧
    (s.setEnc n x).dbg = s.dbg ∧ (s.setEnc n x).wdog = s.wdog ∧ (s.setEnc n x).rst = s.rst ∧
    (s.setEnc n x).epoch = s.epoch ∧ (s.setEnc n x).dramLost = s.dramLost ∧ (s.setEnc n x).dmas = s.dmas :=
  ⟨rfl, rfl, rfl, rfl, rfl, rfl, rfl, rfl, rfl, rfl, rfl, rfl, rfl, rfl, rfl, rfl, rfl, rfl, rfl, rfl, rfl, rfl, rfl,
  rfl, rfl, rfl, rfl, rfl, rfl, rfl, rfl, rfl, rfl, rfl, rfl, rfl, rfl, rfl, rfl, rfl, rfl, rfl, rfl, rfl, rfl, rfl,
  rfl, rfl, rfl, rfl, rfl, rfl, rfl, rfl, rfl, rfl, rfl, rfl, rfl, rfl, rfl, rfl, rfl, rfl, rfl, rfl, rfl, rfl, rfl,
  rfl, rfl, rfl, rfl, rfl⟩

@[simp] theorem State.setObs_frame (s : State) (n : Nat) (x : Obs) :
    (s.setObs n x).pending = s.pending ∧ (s.setObs n x).cycle = s.cycle ∧ (s.setObs n x).variant = s.variant ∧
    (s.setObs n x).fresh = s.fresh ∧ (s.setObs n x).pages = s.pages ∧ (s.setObs n x).regs = s.regs ∧
    (s.setObs n x).shadow = s.shadow ∧ (s.setObs n x).stored = s.stored ∧ (s.setObs n x).readData = s.readData ∧
    (s.setObs n x).out = s.out ∧ (s.setObs n x).evs = s.evs ∧ (s.setObs n x).trigs = s.trigs ∧
    (s.setObs n x).chans = s.chans ∧ (s.setObs n x).queues = s.queues ∧ (s.setObs n x).dram = s.dram ∧
    (s.setObs n x).host0 = s.host0 ∧ (s.setObs n x).host1 = s.host1 ∧ (s.setObs n x).pcie = s.pcie ∧
    (s.setObs n x).hostReads = s.hostReads ∧ (s.setObs n x).dramBad = s.dramBad ∧
    (s.setObs n x).dramSoft = s.dramSoft ∧ (s.setObs n x).enc = s.enc ∧ (s.setObs n x).emu = s.emu ∧
    (s.setObs n x).axs = s.axs ∧ (s.setObs n x).sdf = s.sdf ∧ (s.setObs n x).ptp = s.ptp ∧
    (s.setObs n x).released = s.released ∧ (s.setObs n x).marks = s.marks ∧
    (s.setObs n x).markWrites = s.markWrites ∧ (s.setObs n x).markEpochs = s.markEpochs ∧
    (s.setObs n x).markFires = s.markFires ∧ (s.setObs n x).keys = s.keys ∧ (s.setObs n x).jobs = s.jobs ∧
    (s.setObs n x).verifying = s.verifying ∧ (s.setObs n x).passVerdicts = s.passVerdicts ∧
    (s.setObs n x).barCurs = s.barCurs ∧ (s.setObs n x).refCurs = s.refCurs ∧ (s.setObs n x).nct = s.nct ∧
    (s.setObs n x).stripes = s.stripes ∧ (s.setObs n x).lanes = s.lanes ∧ (s.setObs n x).screens = s.screens ∧
    (s.setObs n x).bars = s.bars ∧ (s.setObs n x).links = s.links ∧ (s.setObs n x).cams = s.cams ∧
    (s.setObs n x).camCorr = s.camCorr ∧ (s.setObs n x).cups = s.cups ∧ (s.setObs n x).tones = s.tones ∧
    (s.setObs n x).inks = s.inks ∧ (s.setObs n x).cmps = s.cmps ∧ (s.setObs n x).defs = s.defs ∧
    (s.setObs n x).clp = s.clp ∧ (s.setObs n x).tlk = s.tlk ∧ (s.setObs n x).chanWrites = s.chanWrites ∧
    (s.setObs n x).chSels = s.chSels ∧ (s.setObs n x).swArgs = s.swArgs ∧ (s.setObs n x).hits = s.hits ∧
    (s.setObs n x).gpioFrom = s.gpioFrom ∧ (s.setObs n x).pulses = s.pulses ∧ (s.setObs n x).srcs = s.srcs ∧
    (s.setObs n x).hostEnds = s.hostEnds ∧ (s.setObs n x).pwr = s.pwr ∧ (s.setObs n x).eths = s.eths ∧
    (s.setObs n x).ofsLow = s.ofsLow ∧ (s.setObs n x).cal = s.cal ∧ (s.setObs n x).lant = s.lant ∧
    (s.setObs n x).sram = s.sram ∧ (s.setObs n x).dmcs = s.dmcs ∧ (s.setObs n x).keep = s.keep ∧
    (s.setObs n x).dbg = s.dbg ∧ (s.setObs n x).wdog = s.wdog ∧ (s.setObs n x).rst = s.rst ∧
    (s.setObs n x).epoch = s.epoch ∧ (s.setObs n x).dramLost = s.dramLost ∧ (s.setObs n x).dmas = s.dmas :=
  ⟨rfl, rfl, rfl, rfl, rfl, rfl, rfl, rfl, rfl, rfl, rfl, rfl, rfl, rfl, rfl, rfl, rfl, rfl, rfl, rfl, rfl, rfl, rfl,
  rfl, rfl, rfl, rfl, rfl, rfl, rfl, rfl, rfl, rfl, rfl, rfl, rfl, rfl, rfl, rfl, rfl, rfl, rfl, rfl, rfl, rfl, rfl,
  rfl, rfl, rfl, rfl, rfl, rfl, rfl, rfl, rfl, rfl, rfl, rfl, rfl, rfl, rfl, rfl, rfl, rfl, rfl, rfl, rfl, rfl, rfl,
  rfl, rfl, rfl, rfl, rfl⟩

@[simp] theorem State.setEmu_frame (s : State) (n : Nat) (x : EmuCh) :
    (s.setEmu n x).pending = s.pending ∧ (s.setEmu n x).cycle = s.cycle ∧ (s.setEmu n x).variant = s.variant ∧
    (s.setEmu n x).fresh = s.fresh ∧ (s.setEmu n x).pages = s.pages ∧ (s.setEmu n x).regs = s.regs ∧
    (s.setEmu n x).shadow = s.shadow ∧ (s.setEmu n x).stored = s.stored ∧ (s.setEmu n x).readData = s.readData ∧
    (s.setEmu n x).out = s.out ∧ (s.setEmu n x).evs = s.evs ∧ (s.setEmu n x).trigs = s.trigs ∧
    (s.setEmu n x).chans = s.chans ∧ (s.setEmu n x).queues = s.queues ∧ (s.setEmu n x).dram = s.dram ∧
    (s.setEmu n x).host0 = s.host0 ∧ (s.setEmu n x).host1 = s.host1 ∧ (s.setEmu n x).pcie = s.pcie ∧
    (s.setEmu n x).hostReads = s.hostReads ∧ (s.setEmu n x).dramBad = s.dramBad ∧
    (s.setEmu n x).dramSoft = s.dramSoft ∧ (s.setEmu n x).enc = s.enc ∧ (s.setEmu n x).obs = s.obs ∧
    (s.setEmu n x).axs = s.axs ∧ (s.setEmu n x).sdf = s.sdf ∧ (s.setEmu n x).ptp = s.ptp ∧
    (s.setEmu n x).released = s.released ∧ (s.setEmu n x).marks = s.marks ∧
    (s.setEmu n x).markWrites = s.markWrites ∧ (s.setEmu n x).markEpochs = s.markEpochs ∧
    (s.setEmu n x).markFires = s.markFires ∧ (s.setEmu n x).keys = s.keys ∧ (s.setEmu n x).jobs = s.jobs ∧
    (s.setEmu n x).verifying = s.verifying ∧ (s.setEmu n x).passVerdicts = s.passVerdicts ∧
    (s.setEmu n x).barCurs = s.barCurs ∧ (s.setEmu n x).refCurs = s.refCurs ∧ (s.setEmu n x).nct = s.nct ∧
    (s.setEmu n x).stripes = s.stripes ∧ (s.setEmu n x).lanes = s.lanes ∧ (s.setEmu n x).screens = s.screens ∧
    (s.setEmu n x).bars = s.bars ∧ (s.setEmu n x).links = s.links ∧ (s.setEmu n x).cams = s.cams ∧
    (s.setEmu n x).camCorr = s.camCorr ∧ (s.setEmu n x).cups = s.cups ∧ (s.setEmu n x).tones = s.tones ∧
    (s.setEmu n x).inks = s.inks ∧ (s.setEmu n x).cmps = s.cmps ∧ (s.setEmu n x).defs = s.defs ∧
    (s.setEmu n x).clp = s.clp ∧ (s.setEmu n x).tlk = s.tlk ∧ (s.setEmu n x).chanWrites = s.chanWrites ∧
    (s.setEmu n x).chSels = s.chSels ∧ (s.setEmu n x).swArgs = s.swArgs ∧ (s.setEmu n x).hits = s.hits ∧
    (s.setEmu n x).gpioFrom = s.gpioFrom ∧ (s.setEmu n x).pulses = s.pulses ∧ (s.setEmu n x).srcs = s.srcs ∧
    (s.setEmu n x).hostEnds = s.hostEnds ∧ (s.setEmu n x).pwr = s.pwr ∧ (s.setEmu n x).eths = s.eths ∧
    (s.setEmu n x).ofsLow = s.ofsLow ∧ (s.setEmu n x).cal = s.cal ∧ (s.setEmu n x).lant = s.lant ∧
    (s.setEmu n x).sram = s.sram ∧ (s.setEmu n x).dmcs = s.dmcs ∧ (s.setEmu n x).keep = s.keep ∧
    (s.setEmu n x).dbg = s.dbg ∧ (s.setEmu n x).wdog = s.wdog ∧ (s.setEmu n x).rst = s.rst ∧
    (s.setEmu n x).epoch = s.epoch ∧ (s.setEmu n x).dramLost = s.dramLost ∧ (s.setEmu n x).dmas = s.dmas :=
  ⟨rfl, rfl, rfl, rfl, rfl, rfl, rfl, rfl, rfl, rfl, rfl, rfl, rfl, rfl, rfl, rfl, rfl, rfl, rfl, rfl, rfl, rfl, rfl,
  rfl, rfl, rfl, rfl, rfl, rfl, rfl, rfl, rfl, rfl, rfl, rfl, rfl, rfl, rfl, rfl, rfl, rfl, rfl, rfl, rfl, rfl, rfl,
  rfl, rfl, rfl, rfl, rfl, rfl, rfl, rfl, rfl, rfl, rfl, rfl, rfl, rfl, rfl, rfl, rfl, rfl, rfl, rfl, rfl, rfl, rfl,
  rfl, rfl, rfl, rfl, rfl⟩

@[simp] theorem State.setMark_frame (s : State) (n : Nat) (x : Mark) :
    (s.setMark n x).pending = s.pending ∧ (s.setMark n x).cycle = s.cycle ∧ (s.setMark n x).variant = s.variant ∧
    (s.setMark n x).fresh = s.fresh ∧ (s.setMark n x).pages = s.pages ∧ (s.setMark n x).regs = s.regs ∧
    (s.setMark n x).shadow = s.shadow ∧ (s.setMark n x).stored = s.stored ∧ (s.setMark n x).readData = s.readData ∧
    (s.setMark n x).out = s.out ∧ (s.setMark n x).evs = s.evs ∧ (s.setMark n x).trigs = s.trigs ∧
    (s.setMark n x).chans = s.chans ∧ (s.setMark n x).queues = s.queues ∧ (s.setMark n x).dram = s.dram ∧
    (s.setMark n x).host0 = s.host0 ∧ (s.setMark n x).host1 = s.host1 ∧ (s.setMark n x).pcie = s.pcie ∧
    (s.setMark n x).hostReads = s.hostReads ∧ (s.setMark n x).dramBad = s.dramBad ∧
    (s.setMark n x).dramSoft = s.dramSoft ∧ (s.setMark n x).enc = s.enc ∧ (s.setMark n x).obs = s.obs ∧
    (s.setMark n x).emu = s.emu ∧ (s.setMark n x).axs = s.axs ∧ (s.setMark n x).sdf = s.sdf ∧
    (s.setMark n x).ptp = s.ptp ∧ (s.setMark n x).released = s.released ∧ (s.setMark n x).markWrites = s.markWrites ∧
    (s.setMark n x).markEpochs = s.markEpochs ∧ (s.setMark n x).markFires = s.markFires ∧
    (s.setMark n x).keys = s.keys ∧ (s.setMark n x).jobs = s.jobs ∧ (s.setMark n x).verifying = s.verifying ∧
    (s.setMark n x).passVerdicts = s.passVerdicts ∧ (s.setMark n x).barCurs = s.barCurs ∧
    (s.setMark n x).refCurs = s.refCurs ∧ (s.setMark n x).nct = s.nct ∧ (s.setMark n x).stripes = s.stripes ∧
    (s.setMark n x).lanes = s.lanes ∧ (s.setMark n x).screens = s.screens ∧ (s.setMark n x).bars = s.bars ∧
    (s.setMark n x).links = s.links ∧ (s.setMark n x).cams = s.cams ∧ (s.setMark n x).camCorr = s.camCorr ∧
    (s.setMark n x).cups = s.cups ∧ (s.setMark n x).tones = s.tones ∧ (s.setMark n x).inks = s.inks ∧
    (s.setMark n x).cmps = s.cmps ∧ (s.setMark n x).defs = s.defs ∧ (s.setMark n x).clp = s.clp ∧
    (s.setMark n x).tlk = s.tlk ∧ (s.setMark n x).chanWrites = s.chanWrites ∧ (s.setMark n x).chSels = s.chSels ∧
    (s.setMark n x).swArgs = s.swArgs ∧ (s.setMark n x).hits = s.hits ∧ (s.setMark n x).gpioFrom = s.gpioFrom ∧
    (s.setMark n x).pulses = s.pulses ∧ (s.setMark n x).srcs = s.srcs ∧ (s.setMark n x).hostEnds = s.hostEnds ∧
    (s.setMark n x).pwr = s.pwr ∧ (s.setMark n x).eths = s.eths ∧ (s.setMark n x).ofsLow = s.ofsLow ∧
    (s.setMark n x).cal = s.cal ∧ (s.setMark n x).lant = s.lant ∧ (s.setMark n x).sram = s.sram ∧
    (s.setMark n x).dmcs = s.dmcs ∧ (s.setMark n x).keep = s.keep ∧ (s.setMark n x).dbg = s.dbg ∧
    (s.setMark n x).wdog = s.wdog ∧ (s.setMark n x).rst = s.rst ∧ (s.setMark n x).epoch = s.epoch ∧
    (s.setMark n x).dramLost = s.dramLost ∧ (s.setMark n x).dmas = s.dmas :=
  ⟨rfl, rfl, rfl, rfl, rfl, rfl, rfl, rfl, rfl, rfl, rfl, rfl, rfl, rfl, rfl, rfl, rfl, rfl, rfl, rfl, rfl, rfl, rfl,
  rfl, rfl, rfl, rfl, rfl, rfl, rfl, rfl, rfl, rfl, rfl, rfl, rfl, rfl, rfl, rfl, rfl, rfl, rfl, rfl, rfl, rfl, rfl,
  rfl, rfl, rfl, rfl, rfl, rfl, rfl, rfl, rfl, rfl, rfl, rfl, rfl, rfl, rfl, rfl, rfl, rfl, rfl, rfl, rfl, rfl, rfl,
  rfl, rfl, rfl, rfl, rfl⟩

@[simp] theorem State.setBarCur_frame (s : State) (n : Nat) (x : BarCur) :
    (s.setBarCur n x).pending = s.pending ∧ (s.setBarCur n x).cycle = s.cycle ∧
    (s.setBarCur n x).variant = s.variant ∧ (s.setBarCur n x).fresh = s.fresh ∧ (s.setBarCur n x).pages = s.pages ∧
    (s.setBarCur n x).regs = s.regs ∧ (s.setBarCur n x).shadow = s.shadow ∧ (s.setBarCur n x).stored = s.stored ∧
    (s.setBarCur n x).readData = s.readData ∧ (s.setBarCur n x).out = s.out ∧ (s.setBarCur n x).evs = s.evs ∧
    (s.setBarCur n x).trigs = s.trigs ∧ (s.setBarCur n x).chans = s.chans ∧ (s.setBarCur n x).queues = s.queues ∧
    (s.setBarCur n x).dram = s.dram ∧ (s.setBarCur n x).host0 = s.host0 ∧ (s.setBarCur n x).host1 = s.host1 ∧
    (s.setBarCur n x).pcie = s.pcie ∧ (s.setBarCur n x).hostReads = s.hostReads ∧
    (s.setBarCur n x).dramBad = s.dramBad ∧ (s.setBarCur n x).dramSoft = s.dramSoft ∧ (s.setBarCur n x).enc = s.enc ∧
    (s.setBarCur n x).obs = s.obs ∧ (s.setBarCur n x).emu = s.emu ∧ (s.setBarCur n x).axs = s.axs ∧
    (s.setBarCur n x).sdf = s.sdf ∧ (s.setBarCur n x).ptp = s.ptp ∧ (s.setBarCur n x).released = s.released ∧
    (s.setBarCur n x).marks = s.marks ∧ (s.setBarCur n x).markWrites = s.markWrites ∧
    (s.setBarCur n x).markEpochs = s.markEpochs ∧ (s.setBarCur n x).markFires = s.markFires ∧
    (s.setBarCur n x).keys = s.keys ∧ (s.setBarCur n x).jobs = s.jobs ∧ (s.setBarCur n x).verifying = s.verifying ∧
    (s.setBarCur n x).passVerdicts = s.passVerdicts ∧ (s.setBarCur n x).refCurs = s.refCurs ∧
    (s.setBarCur n x).nct = s.nct ∧ (s.setBarCur n x).stripes = s.stripes ∧ (s.setBarCur n x).lanes = s.lanes ∧
    (s.setBarCur n x).screens = s.screens ∧ (s.setBarCur n x).bars = s.bars ∧ (s.setBarCur n x).links = s.links ∧
    (s.setBarCur n x).cams = s.cams ∧ (s.setBarCur n x).camCorr = s.camCorr ∧ (s.setBarCur n x).cups = s.cups ∧
    (s.setBarCur n x).tones = s.tones ∧ (s.setBarCur n x).inks = s.inks ∧ (s.setBarCur n x).cmps = s.cmps ∧
    (s.setBarCur n x).defs = s.defs ∧ (s.setBarCur n x).clp = s.clp ∧ (s.setBarCur n x).tlk = s.tlk ∧
    (s.setBarCur n x).chanWrites = s.chanWrites ∧ (s.setBarCur n x).chSels = s.chSels ∧
    (s.setBarCur n x).swArgs = s.swArgs ∧ (s.setBarCur n x).hits = s.hits ∧ (s.setBarCur n x).gpioFrom = s.gpioFrom ∧
    (s.setBarCur n x).pulses = s.pulses ∧ (s.setBarCur n x).srcs = s.srcs ∧ (s.setBarCur n x).hostEnds = s.hostEnds ∧
    (s.setBarCur n x).pwr = s.pwr ∧ (s.setBarCur n x).eths = s.eths ∧ (s.setBarCur n x).ofsLow = s.ofsLow ∧
    (s.setBarCur n x).cal = s.cal ∧ (s.setBarCur n x).lant = s.lant ∧ (s.setBarCur n x).sram = s.sram ∧
    (s.setBarCur n x).dmcs = s.dmcs ∧ (s.setBarCur n x).keep = s.keep ∧ (s.setBarCur n x).dbg = s.dbg ∧
    (s.setBarCur n x).wdog = s.wdog ∧ (s.setBarCur n x).rst = s.rst ∧ (s.setBarCur n x).epoch = s.epoch ∧
    (s.setBarCur n x).dramLost = s.dramLost ∧ (s.setBarCur n x).dmas = s.dmas :=
  ⟨rfl, rfl, rfl, rfl, rfl, rfl, rfl, rfl, rfl, rfl, rfl, rfl, rfl, rfl, rfl, rfl, rfl, rfl, rfl, rfl, rfl, rfl, rfl,
  rfl, rfl, rfl, rfl, rfl, rfl, rfl, rfl, rfl, rfl, rfl, rfl, rfl, rfl, rfl, rfl, rfl, rfl, rfl, rfl, rfl, rfl, rfl,
  rfl, rfl, rfl, rfl, rfl, rfl, rfl, rfl, rfl, rfl, rfl, rfl, rfl, rfl, rfl, rfl, rfl, rfl, rfl, rfl, rfl, rfl, rfl,
  rfl, rfl, rfl, rfl, rfl⟩

@[simp] theorem State.setRefCur_frame (s : State) (n : Nat) (x : RefCur) :
    (s.setRefCur n x).pending = s.pending ∧ (s.setRefCur n x).cycle = s.cycle ∧
    (s.setRefCur n x).variant = s.variant ∧ (s.setRefCur n x).fresh = s.fresh ∧ (s.setRefCur n x).pages = s.pages ∧
    (s.setRefCur n x).regs = s.regs ∧ (s.setRefCur n x).shadow = s.shadow ∧ (s.setRefCur n x).stored = s.stored ∧
    (s.setRefCur n x).readData = s.readData ∧ (s.setRefCur n x).out = s.out ∧ (s.setRefCur n x).evs = s.evs ∧
    (s.setRefCur n x).trigs = s.trigs ∧ (s.setRefCur n x).chans = s.chans ∧ (s.setRefCur n x).queues = s.queues ∧
    (s.setRefCur n x).dram = s.dram ∧ (s.setRefCur n x).host0 = s.host0 ∧ (s.setRefCur n x).host1 = s.host1 ∧
    (s.setRefCur n x).pcie = s.pcie ∧ (s.setRefCur n x).hostReads = s.hostReads ∧
    (s.setRefCur n x).dramBad = s.dramBad ∧ (s.setRefCur n x).dramSoft = s.dramSoft ∧ (s.setRefCur n x).enc = s.enc ∧
    (s.setRefCur n x).obs = s.obs ∧ (s.setRefCur n x).emu = s.emu ∧ (s.setRefCur n x).axs = s.axs ∧
    (s.setRefCur n x).sdf = s.sdf ∧ (s.setRefCur n x).ptp = s.ptp ∧ (s.setRefCur n x).released = s.released ∧
    (s.setRefCur n x).marks = s.marks ∧ (s.setRefCur n x).markWrites = s.markWrites ∧
    (s.setRefCur n x).markEpochs = s.markEpochs ∧ (s.setRefCur n x).markFires = s.markFires ∧
    (s.setRefCur n x).keys = s.keys ∧ (s.setRefCur n x).jobs = s.jobs ∧ (s.setRefCur n x).verifying = s.verifying ∧
    (s.setRefCur n x).passVerdicts = s.passVerdicts ∧ (s.setRefCur n x).barCurs = s.barCurs ∧
    (s.setRefCur n x).nct = s.nct ∧ (s.setRefCur n x).stripes = s.stripes ∧ (s.setRefCur n x).lanes = s.lanes ∧
    (s.setRefCur n x).screens = s.screens ∧ (s.setRefCur n x).bars = s.bars ∧ (s.setRefCur n x).links = s.links ∧
    (s.setRefCur n x).cams = s.cams ∧ (s.setRefCur n x).camCorr = s.camCorr ∧ (s.setRefCur n x).cups = s.cups ∧
    (s.setRefCur n x).tones = s.tones ∧ (s.setRefCur n x).inks = s.inks ∧ (s.setRefCur n x).cmps = s.cmps ∧
    (s.setRefCur n x).defs = s.defs ∧ (s.setRefCur n x).clp = s.clp ∧ (s.setRefCur n x).tlk = s.tlk ∧
    (s.setRefCur n x).chanWrites = s.chanWrites ∧ (s.setRefCur n x).chSels = s.chSels ∧
    (s.setRefCur n x).swArgs = s.swArgs ∧ (s.setRefCur n x).hits = s.hits ∧ (s.setRefCur n x).gpioFrom = s.gpioFrom ∧
    (s.setRefCur n x).pulses = s.pulses ∧ (s.setRefCur n x).srcs = s.srcs ∧ (s.setRefCur n x).hostEnds = s.hostEnds ∧
    (s.setRefCur n x).pwr = s.pwr ∧ (s.setRefCur n x).eths = s.eths ∧ (s.setRefCur n x).ofsLow = s.ofsLow ∧
    (s.setRefCur n x).cal = s.cal ∧ (s.setRefCur n x).lant = s.lant ∧ (s.setRefCur n x).sram = s.sram ∧
    (s.setRefCur n x).dmcs = s.dmcs ∧ (s.setRefCur n x).keep = s.keep ∧ (s.setRefCur n x).dbg = s.dbg ∧
    (s.setRefCur n x).wdog = s.wdog ∧ (s.setRefCur n x).rst = s.rst ∧ (s.setRefCur n x).epoch = s.epoch ∧
    (s.setRefCur n x).dramLost = s.dramLost ∧ (s.setRefCur n x).dmas = s.dmas :=
  ⟨rfl, rfl, rfl, rfl, rfl, rfl, rfl, rfl, rfl, rfl, rfl, rfl, rfl, rfl, rfl, rfl, rfl, rfl, rfl, rfl, rfl, rfl, rfl,
  rfl, rfl, rfl, rfl, rfl, rfl, rfl, rfl, rfl, rfl, rfl, rfl, rfl, rfl, rfl, rfl, rfl, rfl, rfl, rfl, rfl, rfl, rfl,
  rfl, rfl, rfl, rfl, rfl, rfl, rfl, rfl, rfl, rfl, rfl, rfl, rfl, rfl, rfl, rfl, rfl, rfl, rfl, rfl, rfl, rfl, rfl,
  rfl, rfl, rfl, rfl, rfl⟩

@[simp] theorem State.setStripe_frame (s : State) (n : Nat) (x : Stripe) :
    (s.setStripe n x).pending = s.pending ∧ (s.setStripe n x).cycle = s.cycle ∧
    (s.setStripe n x).variant = s.variant ∧ (s.setStripe n x).fresh = s.fresh ∧ (s.setStripe n x).pages = s.pages ∧
    (s.setStripe n x).regs = s.regs ∧ (s.setStripe n x).shadow = s.shadow ∧ (s.setStripe n x).stored = s.stored ∧
    (s.setStripe n x).readData = s.readData ∧ (s.setStripe n x).out = s.out ∧ (s.setStripe n x).evs = s.evs ∧
    (s.setStripe n x).trigs = s.trigs ∧ (s.setStripe n x).chans = s.chans ∧ (s.setStripe n x).queues = s.queues ∧
    (s.setStripe n x).dram = s.dram ∧ (s.setStripe n x).host0 = s.host0 ∧ (s.setStripe n x).host1 = s.host1 ∧
    (s.setStripe n x).pcie = s.pcie ∧ (s.setStripe n x).hostReads = s.hostReads ∧
    (s.setStripe n x).dramBad = s.dramBad ∧ (s.setStripe n x).dramSoft = s.dramSoft ∧ (s.setStripe n x).enc = s.enc ∧
    (s.setStripe n x).obs = s.obs ∧ (s.setStripe n x).emu = s.emu ∧ (s.setStripe n x).axs = s.axs ∧
    (s.setStripe n x).sdf = s.sdf ∧ (s.setStripe n x).ptp = s.ptp ∧ (s.setStripe n x).released = s.released ∧
    (s.setStripe n x).marks = s.marks ∧ (s.setStripe n x).markWrites = s.markWrites ∧
    (s.setStripe n x).markEpochs = s.markEpochs ∧ (s.setStripe n x).markFires = s.markFires ∧
    (s.setStripe n x).keys = s.keys ∧ (s.setStripe n x).jobs = s.jobs ∧ (s.setStripe n x).verifying = s.verifying ∧
    (s.setStripe n x).passVerdicts = s.passVerdicts ∧ (s.setStripe n x).barCurs = s.barCurs ∧
    (s.setStripe n x).refCurs = s.refCurs ∧ (s.setStripe n x).nct = s.nct ∧ (s.setStripe n x).lanes = s.lanes ∧
    (s.setStripe n x).screens = s.screens ∧ (s.setStripe n x).bars = s.bars ∧ (s.setStripe n x).links = s.links ∧
    (s.setStripe n x).cams = s.cams ∧ (s.setStripe n x).camCorr = s.camCorr ∧ (s.setStripe n x).cups = s.cups ∧
    (s.setStripe n x).tones = s.tones ∧ (s.setStripe n x).inks = s.inks ∧ (s.setStripe n x).cmps = s.cmps ∧
    (s.setStripe n x).defs = s.defs ∧ (s.setStripe n x).clp = s.clp ∧ (s.setStripe n x).tlk = s.tlk ∧
    (s.setStripe n x).chanWrites = s.chanWrites ∧ (s.setStripe n x).chSels = s.chSels ∧
    (s.setStripe n x).swArgs = s.swArgs ∧ (s.setStripe n x).hits = s.hits ∧ (s.setStripe n x).gpioFrom = s.gpioFrom ∧
    (s.setStripe n x).pulses = s.pulses ∧ (s.setStripe n x).srcs = s.srcs ∧ (s.setStripe n x).hostEnds = s.hostEnds ∧
    (s.setStripe n x).pwr = s.pwr ∧ (s.setStripe n x).eths = s.eths ∧ (s.setStripe n x).ofsLow = s.ofsLow ∧
    (s.setStripe n x).cal = s.cal ∧ (s.setStripe n x).lant = s.lant ∧ (s.setStripe n x).sram = s.sram ∧
    (s.setStripe n x).dmcs = s.dmcs ∧ (s.setStripe n x).keep = s.keep ∧ (s.setStripe n x).dbg = s.dbg ∧
    (s.setStripe n x).wdog = s.wdog ∧ (s.setStripe n x).rst = s.rst ∧ (s.setStripe n x).epoch = s.epoch ∧
    (s.setStripe n x).dramLost = s.dramLost ∧ (s.setStripe n x).dmas = s.dmas :=
  ⟨rfl, rfl, rfl, rfl, rfl, rfl, rfl, rfl, rfl, rfl, rfl, rfl, rfl, rfl, rfl, rfl, rfl, rfl, rfl, rfl, rfl, rfl, rfl,
  rfl, rfl, rfl, rfl, rfl, rfl, rfl, rfl, rfl, rfl, rfl, rfl, rfl, rfl, rfl, rfl, rfl, rfl, rfl, rfl, rfl, rfl, rfl,
  rfl, rfl, rfl, rfl, rfl, rfl, rfl, rfl, rfl, rfl, rfl, rfl, rfl, rfl, rfl, rfl, rfl, rfl, rfl, rfl, rfl, rfl, rfl,
  rfl, rfl, rfl, rfl, rfl⟩

@[simp] theorem State.setBar_frame (s : State) (n : Nat) (x : Bar) :
    (s.setBar n x).pending = s.pending ∧ (s.setBar n x).cycle = s.cycle ∧ (s.setBar n x).variant = s.variant ∧
    (s.setBar n x).fresh = s.fresh ∧ (s.setBar n x).pages = s.pages ∧ (s.setBar n x).regs = s.regs ∧
    (s.setBar n x).shadow = s.shadow ∧ (s.setBar n x).stored = s.stored ∧ (s.setBar n x).readData = s.readData ∧
    (s.setBar n x).out = s.out ∧ (s.setBar n x).evs = s.evs ∧ (s.setBar n x).trigs = s.trigs ∧
    (s.setBar n x).chans = s.chans ∧ (s.setBar n x).queues = s.queues ∧ (s.setBar n x).dram = s.dram ∧
    (s.setBar n x).host0 = s.host0 ∧ (s.setBar n x).host1 = s.host1 ∧ (s.setBar n x).pcie = s.pcie ∧
    (s.setBar n x).hostReads = s.hostReads ∧ (s.setBar n x).dramBad = s.dramBad ∧
    (s.setBar n x).dramSoft = s.dramSoft ∧ (s.setBar n x).enc = s.enc ∧ (s.setBar n x).obs = s.obs ∧
    (s.setBar n x).emu = s.emu ∧ (s.setBar n x).axs = s.axs ∧ (s.setBar n x).sdf = s.sdf ∧
    (s.setBar n x).ptp = s.ptp ∧ (s.setBar n x).released = s.released ∧ (s.setBar n x).marks = s.marks ∧
    (s.setBar n x).markWrites = s.markWrites ∧ (s.setBar n x).markEpochs = s.markEpochs ∧
    (s.setBar n x).markFires = s.markFires ∧ (s.setBar n x).keys = s.keys ∧ (s.setBar n x).jobs = s.jobs ∧
    (s.setBar n x).verifying = s.verifying ∧ (s.setBar n x).passVerdicts = s.passVerdicts ∧
    (s.setBar n x).barCurs = s.barCurs ∧ (s.setBar n x).refCurs = s.refCurs ∧ (s.setBar n x).nct = s.nct ∧
    (s.setBar n x).stripes = s.stripes ∧ (s.setBar n x).lanes = s.lanes ∧ (s.setBar n x).screens = s.screens ∧
    (s.setBar n x).links = s.links ∧ (s.setBar n x).cams = s.cams ∧ (s.setBar n x).camCorr = s.camCorr ∧
    (s.setBar n x).cups = s.cups ∧ (s.setBar n x).tones = s.tones ∧ (s.setBar n x).inks = s.inks ∧
    (s.setBar n x).cmps = s.cmps ∧ (s.setBar n x).defs = s.defs ∧ (s.setBar n x).clp = s.clp ∧
    (s.setBar n x).tlk = s.tlk ∧ (s.setBar n x).chanWrites = s.chanWrites ∧ (s.setBar n x).chSels = s.chSels ∧
    (s.setBar n x).swArgs = s.swArgs ∧ (s.setBar n x).hits = s.hits ∧ (s.setBar n x).gpioFrom = s.gpioFrom ∧
    (s.setBar n x).pulses = s.pulses ∧ (s.setBar n x).srcs = s.srcs ∧ (s.setBar n x).hostEnds = s.hostEnds ∧
    (s.setBar n x).pwr = s.pwr ∧ (s.setBar n x).eths = s.eths ∧ (s.setBar n x).ofsLow = s.ofsLow ∧
    (s.setBar n x).cal = s.cal ∧ (s.setBar n x).lant = s.lant ∧ (s.setBar n x).sram = s.sram ∧
    (s.setBar n x).dmcs = s.dmcs ∧ (s.setBar n x).keep = s.keep ∧ (s.setBar n x).dbg = s.dbg ∧
    (s.setBar n x).wdog = s.wdog ∧ (s.setBar n x).rst = s.rst ∧ (s.setBar n x).epoch = s.epoch ∧
    (s.setBar n x).dramLost = s.dramLost ∧ (s.setBar n x).dmas = s.dmas :=
  ⟨rfl, rfl, rfl, rfl, rfl, rfl, rfl, rfl, rfl, rfl, rfl, rfl, rfl, rfl, rfl, rfl, rfl, rfl, rfl, rfl, rfl, rfl, rfl,
  rfl, rfl, rfl, rfl, rfl, rfl, rfl, rfl, rfl, rfl, rfl, rfl, rfl, rfl, rfl, rfl, rfl, rfl, rfl, rfl, rfl, rfl, rfl,
  rfl, rfl, rfl, rfl, rfl, rfl, rfl, rfl, rfl, rfl, rfl, rfl, rfl, rfl, rfl, rfl, rfl, rfl, rfl, rfl, rfl, rfl, rfl,
  rfl, rfl, rfl, rfl, rfl⟩

@[simp] theorem State.setLink_frame (s : State) (n : Nat) (x : Link) :
    (s.setLink n x).pending = s.pending ∧ (s.setLink n x).cycle = s.cycle ∧ (s.setLink n x).variant = s.variant ∧
    (s.setLink n x).fresh = s.fresh ∧ (s.setLink n x).pages = s.pages ∧ (s.setLink n x).regs = s.regs ∧
    (s.setLink n x).shadow = s.shadow ∧ (s.setLink n x).stored = s.stored ∧ (s.setLink n x).readData = s.readData ∧
    (s.setLink n x).out = s.out ∧ (s.setLink n x).evs = s.evs ∧ (s.setLink n x).trigs = s.trigs ∧
    (s.setLink n x).chans = s.chans ∧ (s.setLink n x).queues = s.queues ∧ (s.setLink n x).dram = s.dram ∧
    (s.setLink n x).host0 = s.host0 ∧ (s.setLink n x).host1 = s.host1 ∧ (s.setLink n x).pcie = s.pcie ∧
    (s.setLink n x).hostReads = s.hostReads ∧ (s.setLink n x).dramBad = s.dramBad ∧
    (s.setLink n x).dramSoft = s.dramSoft ∧ (s.setLink n x).enc = s.enc ∧ (s.setLink n x).obs = s.obs ∧
    (s.setLink n x).emu = s.emu ∧ (s.setLink n x).axs = s.axs ∧ (s.setLink n x).sdf = s.sdf ∧
    (s.setLink n x).ptp = s.ptp ∧ (s.setLink n x).released = s.released ∧ (s.setLink n x).marks = s.marks ∧
    (s.setLink n x).markWrites = s.markWrites ∧ (s.setLink n x).markEpochs = s.markEpochs ∧
    (s.setLink n x).markFires = s.markFires ∧ (s.setLink n x).keys = s.keys ∧ (s.setLink n x).jobs = s.jobs ∧
    (s.setLink n x).verifying = s.verifying ∧ (s.setLink n x).passVerdicts = s.passVerdicts ∧
    (s.setLink n x).barCurs = s.barCurs ∧ (s.setLink n x).refCurs = s.refCurs ∧ (s.setLink n x).nct = s.nct ∧
    (s.setLink n x).stripes = s.stripes ∧ (s.setLink n x).lanes = s.lanes ∧ (s.setLink n x).screens = s.screens ∧
    (s.setLink n x).bars = s.bars ∧ (s.setLink n x).cams = s.cams ∧ (s.setLink n x).camCorr = s.camCorr ∧
    (s.setLink n x).cups = s.cups ∧ (s.setLink n x).tones = s.tones ∧ (s.setLink n x).inks = s.inks ∧
    (s.setLink n x).cmps = s.cmps ∧ (s.setLink n x).defs = s.defs ∧ (s.setLink n x).clp = s.clp ∧
    (s.setLink n x).tlk = s.tlk ∧ (s.setLink n x).chanWrites = s.chanWrites ∧ (s.setLink n x).chSels = s.chSels ∧
    (s.setLink n x).swArgs = s.swArgs ∧ (s.setLink n x).hits = s.hits ∧ (s.setLink n x).gpioFrom = s.gpioFrom ∧
    (s.setLink n x).pulses = s.pulses ∧ (s.setLink n x).srcs = s.srcs ∧ (s.setLink n x).hostEnds = s.hostEnds ∧
    (s.setLink n x).pwr = s.pwr ∧ (s.setLink n x).eths = s.eths ∧ (s.setLink n x).ofsLow = s.ofsLow ∧
    (s.setLink n x).cal = s.cal ∧ (s.setLink n x).lant = s.lant ∧ (s.setLink n x).sram = s.sram ∧
    (s.setLink n x).dmcs = s.dmcs ∧ (s.setLink n x).keep = s.keep ∧ (s.setLink n x).dbg = s.dbg ∧
    (s.setLink n x).wdog = s.wdog ∧ (s.setLink n x).rst = s.rst ∧ (s.setLink n x).epoch = s.epoch ∧
    (s.setLink n x).dramLost = s.dramLost ∧ (s.setLink n x).dmas = s.dmas :=
  ⟨rfl, rfl, rfl, rfl, rfl, rfl, rfl, rfl, rfl, rfl, rfl, rfl, rfl, rfl, rfl, rfl, rfl, rfl, rfl, rfl, rfl, rfl, rfl,
  rfl, rfl, rfl, rfl, rfl, rfl, rfl, rfl, rfl, rfl, rfl, rfl, rfl, rfl, rfl, rfl, rfl, rfl, rfl, rfl, rfl, rfl, rfl,
  rfl, rfl, rfl, rfl, rfl, rfl, rfl, rfl, rfl, rfl, rfl, rfl, rfl, rfl, rfl, rfl, rfl, rfl, rfl, rfl, rfl, rfl, rfl,
  rfl, rfl, rfl, rfl, rfl⟩

@[simp] theorem State.setCam_frame (s : State) (n : Nat) (x : Cam) :
    (s.setCam n x).pending = s.pending ∧ (s.setCam n x).cycle = s.cycle ∧ (s.setCam n x).variant = s.variant ∧
    (s.setCam n x).fresh = s.fresh ∧ (s.setCam n x).pages = s.pages ∧ (s.setCam n x).regs = s.regs ∧
    (s.setCam n x).shadow = s.shadow ∧ (s.setCam n x).stored = s.stored ∧ (s.setCam n x).readData = s.readData ∧
    (s.setCam n x).out = s.out ∧ (s.setCam n x).evs = s.evs ∧ (s.setCam n x).trigs = s.trigs ∧
    (s.setCam n x).chans = s.chans ∧ (s.setCam n x).queues = s.queues ∧ (s.setCam n x).dram = s.dram ∧
    (s.setCam n x).host0 = s.host0 ∧ (s.setCam n x).host1 = s.host1 ∧ (s.setCam n x).pcie = s.pcie ∧
    (s.setCam n x).hostReads = s.hostReads ∧ (s.setCam n x).dramBad = s.dramBad ∧
    (s.setCam n x).dramSoft = s.dramSoft ∧ (s.setCam n x).enc = s.enc ∧ (s.setCam n x).obs = s.obs ∧
    (s.setCam n x).emu = s.emu ∧ (s.setCam n x).axs = s.axs ∧ (s.setCam n x).sdf = s.sdf ∧
    (s.setCam n x).ptp = s.ptp ∧ (s.setCam n x).released = s.released ∧ (s.setCam n x).marks = s.marks ∧
    (s.setCam n x).markWrites = s.markWrites ∧ (s.setCam n x).markEpochs = s.markEpochs ∧
    (s.setCam n x).markFires = s.markFires ∧ (s.setCam n x).keys = s.keys ∧ (s.setCam n x).jobs = s.jobs ∧
    (s.setCam n x).verifying = s.verifying ∧ (s.setCam n x).passVerdicts = s.passVerdicts ∧
    (s.setCam n x).barCurs = s.barCurs ∧ (s.setCam n x).refCurs = s.refCurs ∧ (s.setCam n x).nct = s.nct ∧
    (s.setCam n x).stripes = s.stripes ∧ (s.setCam n x).lanes = s.lanes ∧ (s.setCam n x).screens = s.screens ∧
    (s.setCam n x).bars = s.bars ∧ (s.setCam n x).links = s.links ∧ (s.setCam n x).camCorr = s.camCorr ∧
    (s.setCam n x).cups = s.cups ∧ (s.setCam n x).tones = s.tones ∧ (s.setCam n x).inks = s.inks ∧
    (s.setCam n x).cmps = s.cmps ∧ (s.setCam n x).defs = s.defs ∧ (s.setCam n x).clp = s.clp ∧
    (s.setCam n x).tlk = s.tlk ∧ (s.setCam n x).chanWrites = s.chanWrites ∧ (s.setCam n x).chSels = s.chSels ∧
    (s.setCam n x).swArgs = s.swArgs ∧ (s.setCam n x).hits = s.hits ∧ (s.setCam n x).gpioFrom = s.gpioFrom ∧
    (s.setCam n x).pulses = s.pulses ∧ (s.setCam n x).srcs = s.srcs ∧ (s.setCam n x).hostEnds = s.hostEnds ∧
    (s.setCam n x).pwr = s.pwr ∧ (s.setCam n x).eths = s.eths ∧ (s.setCam n x).ofsLow = s.ofsLow ∧
    (s.setCam n x).cal = s.cal ∧ (s.setCam n x).lant = s.lant ∧ (s.setCam n x).sram = s.sram ∧
    (s.setCam n x).dmcs = s.dmcs ∧ (s.setCam n x).keep = s.keep ∧ (s.setCam n x).dbg = s.dbg ∧
    (s.setCam n x).wdog = s.wdog ∧ (s.setCam n x).rst = s.rst ∧ (s.setCam n x).epoch = s.epoch ∧
    (s.setCam n x).dramLost = s.dramLost ∧ (s.setCam n x).dmas = s.dmas :=
  ⟨rfl, rfl, rfl, rfl, rfl, rfl, rfl, rfl, rfl, rfl, rfl, rfl, rfl, rfl, rfl, rfl, rfl, rfl, rfl, rfl, rfl, rfl, rfl,
  rfl, rfl, rfl, rfl, rfl, rfl, rfl, rfl, rfl, rfl, rfl, rfl, rfl, rfl, rfl, rfl, rfl, rfl, rfl, rfl, rfl, rfl, rfl,
  rfl, rfl, rfl, rfl, rfl, rfl, rfl, rfl, rfl, rfl, rfl, rfl, rfl, rfl, rfl, rfl, rfl, rfl, rfl, rfl, rfl, rfl, rfl,
  rfl, rfl, rfl, rfl, rfl⟩

@[simp] theorem State.setCup_frame (s : State) (n : Nat) (x : Cup) :
    (s.setCup n x).pending = s.pending ∧ (s.setCup n x).cycle = s.cycle ∧ (s.setCup n x).variant = s.variant ∧
    (s.setCup n x).fresh = s.fresh ∧ (s.setCup n x).pages = s.pages ∧ (s.setCup n x).regs = s.regs ∧
    (s.setCup n x).shadow = s.shadow ∧ (s.setCup n x).stored = s.stored ∧ (s.setCup n x).readData = s.readData ∧
    (s.setCup n x).out = s.out ∧ (s.setCup n x).evs = s.evs ∧ (s.setCup n x).trigs = s.trigs ∧
    (s.setCup n x).chans = s.chans ∧ (s.setCup n x).queues = s.queues ∧ (s.setCup n x).dram = s.dram ∧
    (s.setCup n x).host0 = s.host0 ∧ (s.setCup n x).host1 = s.host1 ∧ (s.setCup n x).pcie = s.pcie ∧
    (s.setCup n x).hostReads = s.hostReads ∧ (s.setCup n x).dramBad = s.dramBad ∧
    (s.setCup n x).dramSoft = s.dramSoft ∧ (s.setCup n x).enc = s.enc ∧ (s.setCup n x).obs = s.obs ∧
    (s.setCup n x).emu = s.emu ∧ (s.setCup n x).axs = s.axs ∧ (s.setCup n x).sdf = s.sdf ∧
    (s.setCup n x).ptp = s.ptp ∧ (s.setCup n x).released = s.released ∧ (s.setCup n x).marks = s.marks ∧
    (s.setCup n x).markWrites = s.markWrites ∧ (s.setCup n x).markEpochs = s.markEpochs ∧
    (s.setCup n x).markFires = s.markFires ∧ (s.setCup n x).keys = s.keys ∧ (s.setCup n x).jobs = s.jobs ∧
    (s.setCup n x).verifying = s.verifying ∧ (s.setCup n x).passVerdicts = s.passVerdicts ∧
    (s.setCup n x).barCurs = s.barCurs ∧ (s.setCup n x).refCurs = s.refCurs ∧ (s.setCup n x).nct = s.nct ∧
    (s.setCup n x).stripes = s.stripes ∧ (s.setCup n x).lanes = s.lanes ∧ (s.setCup n x).screens = s.screens ∧
    (s.setCup n x).bars = s.bars ∧ (s.setCup n x).links = s.links ∧ (s.setCup n x).cams = s.cams ∧
    (s.setCup n x).camCorr = s.camCorr ∧ (s.setCup n x).tones = s.tones ∧ (s.setCup n x).inks = s.inks ∧
    (s.setCup n x).cmps = s.cmps ∧ (s.setCup n x).defs = s.defs ∧ (s.setCup n x).clp = s.clp ∧
    (s.setCup n x).tlk = s.tlk ∧ (s.setCup n x).chanWrites = s.chanWrites ∧ (s.setCup n x).chSels = s.chSels ∧
    (s.setCup n x).swArgs = s.swArgs ∧ (s.setCup n x).hits = s.hits ∧ (s.setCup n x).gpioFrom = s.gpioFrom ∧
    (s.setCup n x).pulses = s.pulses ∧ (s.setCup n x).srcs = s.srcs ∧ (s.setCup n x).hostEnds = s.hostEnds ∧
    (s.setCup n x).pwr = s.pwr ∧ (s.setCup n x).eths = s.eths ∧ (s.setCup n x).ofsLow = s.ofsLow ∧
    (s.setCup n x).cal = s.cal ∧ (s.setCup n x).lant = s.lant ∧ (s.setCup n x).sram = s.sram ∧
    (s.setCup n x).dmcs = s.dmcs ∧ (s.setCup n x).keep = s.keep ∧ (s.setCup n x).dbg = s.dbg ∧
    (s.setCup n x).wdog = s.wdog ∧ (s.setCup n x).rst = s.rst ∧ (s.setCup n x).epoch = s.epoch ∧
    (s.setCup n x).dramLost = s.dramLost ∧ (s.setCup n x).dmas = s.dmas :=
  ⟨rfl, rfl, rfl, rfl, rfl, rfl, rfl, rfl, rfl, rfl, rfl, rfl, rfl, rfl, rfl, rfl, rfl, rfl, rfl, rfl, rfl, rfl, rfl,
  rfl, rfl, rfl, rfl, rfl, rfl, rfl, rfl, rfl, rfl, rfl, rfl, rfl, rfl, rfl, rfl, rfl, rfl, rfl, rfl, rfl, rfl, rfl,
  rfl, rfl, rfl, rfl, rfl, rfl, rfl, rfl, rfl, rfl, rfl, rfl, rfl, rfl, rfl, rfl, rfl, rfl, rfl, rfl, rfl, rfl, rfl,
  rfl, rfl, rfl, rfl, rfl⟩

@[simp] theorem State.setCmp_frame (s : State) (n : Nat) (x : Cmp) :
    (s.setCmp n x).pending = s.pending ∧ (s.setCmp n x).cycle = s.cycle ∧ (s.setCmp n x).variant = s.variant ∧
    (s.setCmp n x).fresh = s.fresh ∧ (s.setCmp n x).pages = s.pages ∧ (s.setCmp n x).regs = s.regs ∧
    (s.setCmp n x).shadow = s.shadow ∧ (s.setCmp n x).stored = s.stored ∧ (s.setCmp n x).readData = s.readData ∧
    (s.setCmp n x).out = s.out ∧ (s.setCmp n x).evs = s.evs ∧ (s.setCmp n x).trigs = s.trigs ∧
    (s.setCmp n x).chans = s.chans ∧ (s.setCmp n x).queues = s.queues ∧ (s.setCmp n x).dram = s.dram ∧
    (s.setCmp n x).host0 = s.host0 ∧ (s.setCmp n x).host1 = s.host1 ∧ (s.setCmp n x).pcie = s.pcie ∧
    (s.setCmp n x).hostReads = s.hostReads ∧ (s.setCmp n x).dramBad = s.dramBad ∧
    (s.setCmp n x).dramSoft = s.dramSoft ∧ (s.setCmp n x).enc = s.enc ∧ (s.setCmp n x).obs = s.obs ∧
    (s.setCmp n x).emu = s.emu ∧ (s.setCmp n x).axs = s.axs ∧ (s.setCmp n x).sdf = s.sdf ∧
    (s.setCmp n x).ptp = s.ptp ∧ (s.setCmp n x).released = s.released ∧ (s.setCmp n x).marks = s.marks ∧
    (s.setCmp n x).markWrites = s.markWrites ∧ (s.setCmp n x).markEpochs = s.markEpochs ∧
    (s.setCmp n x).markFires = s.markFires ∧ (s.setCmp n x).keys = s.keys ∧ (s.setCmp n x).jobs = s.jobs ∧
    (s.setCmp n x).verifying = s.verifying ∧ (s.setCmp n x).passVerdicts = s.passVerdicts ∧
    (s.setCmp n x).barCurs = s.barCurs ∧ (s.setCmp n x).refCurs = s.refCurs ∧ (s.setCmp n x).nct = s.nct ∧
    (s.setCmp n x).stripes = s.stripes ∧ (s.setCmp n x).lanes = s.lanes ∧ (s.setCmp n x).screens = s.screens ∧
    (s.setCmp n x).bars = s.bars ∧ (s.setCmp n x).links = s.links ∧ (s.setCmp n x).cams = s.cams ∧
    (s.setCmp n x).camCorr = s.camCorr ∧ (s.setCmp n x).cups = s.cups ∧ (s.setCmp n x).tones = s.tones ∧
    (s.setCmp n x).inks = s.inks ∧ (s.setCmp n x).defs = s.defs ∧ (s.setCmp n x).clp = s.clp ∧
    (s.setCmp n x).tlk = s.tlk ∧ (s.setCmp n x).chanWrites = s.chanWrites ∧ (s.setCmp n x).chSels = s.chSels ∧
    (s.setCmp n x).swArgs = s.swArgs ∧ (s.setCmp n x).hits = s.hits ∧ (s.setCmp n x).gpioFrom = s.gpioFrom ∧
    (s.setCmp n x).pulses = s.pulses ∧ (s.setCmp n x).srcs = s.srcs ∧ (s.setCmp n x).hostEnds = s.hostEnds ∧
    (s.setCmp n x).pwr = s.pwr ∧ (s.setCmp n x).eths = s.eths ∧ (s.setCmp n x).ofsLow = s.ofsLow ∧
    (s.setCmp n x).cal = s.cal ∧ (s.setCmp n x).lant = s.lant ∧ (s.setCmp n x).sram = s.sram ∧
    (s.setCmp n x).dmcs = s.dmcs ∧ (s.setCmp n x).keep = s.keep ∧ (s.setCmp n x).dbg = s.dbg ∧
    (s.setCmp n x).wdog = s.wdog ∧ (s.setCmp n x).rst = s.rst ∧ (s.setCmp n x).epoch = s.epoch ∧
    (s.setCmp n x).dramLost = s.dramLost ∧ (s.setCmp n x).dmas = s.dmas :=
  ⟨rfl, rfl, rfl, rfl, rfl, rfl, rfl, rfl, rfl, rfl, rfl, rfl, rfl, rfl, rfl, rfl, rfl, rfl, rfl, rfl, rfl, rfl, rfl,
  rfl, rfl, rfl, rfl, rfl, rfl, rfl, rfl, rfl, rfl, rfl, rfl, rfl, rfl, rfl, rfl, rfl, rfl, rfl, rfl, rfl, rfl, rfl,
  rfl, rfl, rfl, rfl, rfl, rfl, rfl, rfl, rfl, rfl, rfl, rfl, rfl, rfl, rfl, rfl, rfl, rfl, rfl, rfl, rfl, rfl, rfl,
  rfl, rfl, rfl, rfl, rfl⟩

@[simp] theorem State.setDef_frame (s : State) (n : Nat) (x : Def) :
    (s.setDef n x).pending = s.pending ∧ (s.setDef n x).cycle = s.cycle ∧ (s.setDef n x).variant = s.variant ∧
    (s.setDef n x).fresh = s.fresh ∧ (s.setDef n x).pages = s.pages ∧ (s.setDef n x).regs = s.regs ∧
    (s.setDef n x).shadow = s.shadow ∧ (s.setDef n x).stored = s.stored ∧ (s.setDef n x).readData = s.readData ∧
    (s.setDef n x).out = s.out ∧ (s.setDef n x).evs = s.evs ∧ (s.setDef n x).trigs = s.trigs ∧
    (s.setDef n x).chans = s.chans ∧ (s.setDef n x).queues = s.queues ∧ (s.setDef n x).dram = s.dram ∧
    (s.setDef n x).host0 = s.host0 ∧ (s.setDef n x).host1 = s.host1 ∧ (s.setDef n x).pcie = s.pcie ∧
    (s.setDef n x).hostReads = s.hostReads ∧ (s.setDef n x).dramBad = s.dramBad ∧
    (s.setDef n x).dramSoft = s.dramSoft ∧ (s.setDef n x).enc = s.enc ∧ (s.setDef n x).obs = s.obs ∧
    (s.setDef n x).emu = s.emu ∧ (s.setDef n x).axs = s.axs ∧ (s.setDef n x).sdf = s.sdf ∧
    (s.setDef n x).ptp = s.ptp ∧ (s.setDef n x).released = s.released ∧ (s.setDef n x).marks = s.marks ∧
    (s.setDef n x).markWrites = s.markWrites ∧ (s.setDef n x).markEpochs = s.markEpochs ∧
    (s.setDef n x).markFires = s.markFires ∧ (s.setDef n x).keys = s.keys ∧ (s.setDef n x).jobs = s.jobs ∧
    (s.setDef n x).verifying = s.verifying ∧ (s.setDef n x).passVerdicts = s.passVerdicts ∧
    (s.setDef n x).barCurs = s.barCurs ∧ (s.setDef n x).refCurs = s.refCurs ∧ (s.setDef n x).nct = s.nct ∧
    (s.setDef n x).stripes = s.stripes ∧ (s.setDef n x).lanes = s.lanes ∧ (s.setDef n x).screens = s.screens ∧
    (s.setDef n x).bars = s.bars ∧ (s.setDef n x).links = s.links ∧ (s.setDef n x).cams = s.cams ∧
    (s.setDef n x).camCorr = s.camCorr ∧ (s.setDef n x).cups = s.cups ∧ (s.setDef n x).tones = s.tones ∧
    (s.setDef n x).inks = s.inks ∧ (s.setDef n x).cmps = s.cmps ∧ (s.setDef n x).clp = s.clp ∧
    (s.setDef n x).tlk = s.tlk ∧ (s.setDef n x).chanWrites = s.chanWrites ∧ (s.setDef n x).chSels = s.chSels ∧
    (s.setDef n x).swArgs = s.swArgs ∧ (s.setDef n x).hits = s.hits ∧ (s.setDef n x).gpioFrom = s.gpioFrom ∧
    (s.setDef n x).pulses = s.pulses ∧ (s.setDef n x).srcs = s.srcs ∧ (s.setDef n x).hostEnds = s.hostEnds ∧
    (s.setDef n x).pwr = s.pwr ∧ (s.setDef n x).eths = s.eths ∧ (s.setDef n x).ofsLow = s.ofsLow ∧
    (s.setDef n x).cal = s.cal ∧ (s.setDef n x).lant = s.lant ∧ (s.setDef n x).sram = s.sram ∧
    (s.setDef n x).dmcs = s.dmcs ∧ (s.setDef n x).keep = s.keep ∧ (s.setDef n x).dbg = s.dbg ∧
    (s.setDef n x).wdog = s.wdog ∧ (s.setDef n x).rst = s.rst ∧ (s.setDef n x).epoch = s.epoch ∧
    (s.setDef n x).dramLost = s.dramLost ∧ (s.setDef n x).dmas = s.dmas :=
  ⟨rfl, rfl, rfl, rfl, rfl, rfl, rfl, rfl, rfl, rfl, rfl, rfl, rfl, rfl, rfl, rfl, rfl, rfl, rfl, rfl, rfl, rfl, rfl,
  rfl, rfl, rfl, rfl, rfl, rfl, rfl, rfl, rfl, rfl, rfl, rfl, rfl, rfl, rfl, rfl, rfl, rfl, rfl, rfl, rfl, rfl, rfl,
  rfl, rfl, rfl, rfl, rfl, rfl, rfl, rfl, rfl, rfl, rfl, rfl, rfl, rfl, rfl, rfl, rfl, rfl, rfl, rfl, rfl, rfl, rfl,
  rfl, rfl, rfl, rfl, rfl⟩

@[simp] theorem State.setClpBar_frame (s : State) (n : Nat) (x : ClpBar) :
    (s.setClpBar n x).pending = s.pending ∧ (s.setClpBar n x).cycle = s.cycle ∧
    (s.setClpBar n x).variant = s.variant ∧ (s.setClpBar n x).fresh = s.fresh ∧ (s.setClpBar n x).pages = s.pages ∧
    (s.setClpBar n x).regs = s.regs ∧ (s.setClpBar n x).shadow = s.shadow ∧ (s.setClpBar n x).stored = s.stored ∧
    (s.setClpBar n x).readData = s.readData ∧ (s.setClpBar n x).out = s.out ∧ (s.setClpBar n x).evs = s.evs ∧
    (s.setClpBar n x).trigs = s.trigs ∧ (s.setClpBar n x).chans = s.chans ∧ (s.setClpBar n x).queues = s.queues ∧
    (s.setClpBar n x).dram = s.dram ∧ (s.setClpBar n x).host0 = s.host0 ∧ (s.setClpBar n x).host1 = s.host1 ∧
    (s.setClpBar n x).pcie = s.pcie ∧ (s.setClpBar n x).hostReads = s.hostReads ∧
    (s.setClpBar n x).dramBad = s.dramBad ∧ (s.setClpBar n x).dramSoft = s.dramSoft ∧ (s.setClpBar n x).enc = s.enc ∧
    (s.setClpBar n x).obs = s.obs ∧ (s.setClpBar n x).emu = s.emu ∧ (s.setClpBar n x).axs = s.axs ∧
    (s.setClpBar n x).sdf = s.sdf ∧ (s.setClpBar n x).ptp = s.ptp ∧ (s.setClpBar n x).released = s.released ∧
    (s.setClpBar n x).marks = s.marks ∧ (s.setClpBar n x).markWrites = s.markWrites ∧
    (s.setClpBar n x).markEpochs = s.markEpochs ∧ (s.setClpBar n x).markFires = s.markFires ∧
    (s.setClpBar n x).keys = s.keys ∧ (s.setClpBar n x).jobs = s.jobs ∧ (s.setClpBar n x).verifying = s.verifying ∧
    (s.setClpBar n x).passVerdicts = s.passVerdicts ∧ (s.setClpBar n x).barCurs = s.barCurs ∧
    (s.setClpBar n x).refCurs = s.refCurs ∧ (s.setClpBar n x).nct = s.nct ∧ (s.setClpBar n x).stripes = s.stripes ∧
    (s.setClpBar n x).lanes = s.lanes ∧ (s.setClpBar n x).screens = s.screens ∧ (s.setClpBar n x).bars = s.bars ∧
    (s.setClpBar n x).links = s.links ∧ (s.setClpBar n x).cams = s.cams ∧ (s.setClpBar n x).camCorr = s.camCorr ∧
    (s.setClpBar n x).cups = s.cups ∧ (s.setClpBar n x).tones = s.tones ∧ (s.setClpBar n x).inks = s.inks ∧
    (s.setClpBar n x).cmps = s.cmps ∧ (s.setClpBar n x).defs = s.defs ∧ (s.setClpBar n x).tlk = s.tlk ∧
    (s.setClpBar n x).chanWrites = s.chanWrites ∧ (s.setClpBar n x).chSels = s.chSels ∧
    (s.setClpBar n x).swArgs = s.swArgs ∧ (s.setClpBar n x).hits = s.hits ∧ (s.setClpBar n x).gpioFrom = s.gpioFrom ∧
    (s.setClpBar n x).pulses = s.pulses ∧ (s.setClpBar n x).srcs = s.srcs ∧ (s.setClpBar n x).hostEnds = s.hostEnds ∧
    (s.setClpBar n x).pwr = s.pwr ∧ (s.setClpBar n x).eths = s.eths ∧ (s.setClpBar n x).ofsLow = s.ofsLow ∧
    (s.setClpBar n x).cal = s.cal ∧ (s.setClpBar n x).lant = s.lant ∧ (s.setClpBar n x).sram = s.sram ∧
    (s.setClpBar n x).dmcs = s.dmcs ∧ (s.setClpBar n x).keep = s.keep ∧ (s.setClpBar n x).dbg = s.dbg ∧
    (s.setClpBar n x).wdog = s.wdog ∧ (s.setClpBar n x).rst = s.rst ∧ (s.setClpBar n x).epoch = s.epoch ∧
    (s.setClpBar n x).dramLost = s.dramLost ∧ (s.setClpBar n x).dmas = s.dmas :=
  ⟨rfl, rfl, rfl, rfl, rfl, rfl, rfl, rfl, rfl, rfl, rfl, rfl, rfl, rfl, rfl, rfl, rfl, rfl, rfl, rfl, rfl, rfl, rfl,
  rfl, rfl, rfl, rfl, rfl, rfl, rfl, rfl, rfl, rfl, rfl, rfl, rfl, rfl, rfl, rfl, rfl, rfl, rfl, rfl, rfl, rfl, rfl,
  rfl, rfl, rfl, rfl, rfl, rfl, rfl, rfl, rfl, rfl, rfl, rfl, rfl, rfl, rfl, rfl, rfl, rfl, rfl, rfl, rfl, rfl, rfl,
  rfl, rfl, rfl, rfl, rfl⟩

@[simp] theorem State.setClpGrp_frame (s : State) (n : Nat) (x : ClpGrp) :
    (s.setClpGrp n x).pending = s.pending ∧ (s.setClpGrp n x).cycle = s.cycle ∧
    (s.setClpGrp n x).variant = s.variant ∧ (s.setClpGrp n x).fresh = s.fresh ∧ (s.setClpGrp n x).pages = s.pages ∧
    (s.setClpGrp n x).regs = s.regs ∧ (s.setClpGrp n x).shadow = s.shadow ∧ (s.setClpGrp n x).stored = s.stored ∧
    (s.setClpGrp n x).readData = s.readData ∧ (s.setClpGrp n x).out = s.out ∧ (s.setClpGrp n x).evs = s.evs ∧
    (s.setClpGrp n x).trigs = s.trigs ∧ (s.setClpGrp n x).chans = s.chans ∧ (s.setClpGrp n x).queues = s.queues ∧
    (s.setClpGrp n x).dram = s.dram ∧ (s.setClpGrp n x).host0 = s.host0 ∧ (s.setClpGrp n x).host1 = s.host1 ∧
    (s.setClpGrp n x).pcie = s.pcie ∧ (s.setClpGrp n x).hostReads = s.hostReads ∧
    (s.setClpGrp n x).dramBad = s.dramBad ∧ (s.setClpGrp n x).dramSoft = s.dramSoft ∧ (s.setClpGrp n x).enc = s.enc ∧
    (s.setClpGrp n x).obs = s.obs ∧ (s.setClpGrp n x).emu = s.emu ∧ (s.setClpGrp n x).axs = s.axs ∧
    (s.setClpGrp n x).sdf = s.sdf ∧ (s.setClpGrp n x).ptp = s.ptp ∧ (s.setClpGrp n x).released = s.released ∧
    (s.setClpGrp n x).marks = s.marks ∧ (s.setClpGrp n x).markWrites = s.markWrites ∧
    (s.setClpGrp n x).markEpochs = s.markEpochs ∧ (s.setClpGrp n x).markFires = s.markFires ∧
    (s.setClpGrp n x).keys = s.keys ∧ (s.setClpGrp n x).jobs = s.jobs ∧ (s.setClpGrp n x).verifying = s.verifying ∧
    (s.setClpGrp n x).passVerdicts = s.passVerdicts ∧ (s.setClpGrp n x).barCurs = s.barCurs ∧
    (s.setClpGrp n x).refCurs = s.refCurs ∧ (s.setClpGrp n x).nct = s.nct ∧ (s.setClpGrp n x).stripes = s.stripes ∧
    (s.setClpGrp n x).lanes = s.lanes ∧ (s.setClpGrp n x).screens = s.screens ∧ (s.setClpGrp n x).bars = s.bars ∧
    (s.setClpGrp n x).links = s.links ∧ (s.setClpGrp n x).cams = s.cams ∧ (s.setClpGrp n x).camCorr = s.camCorr ∧
    (s.setClpGrp n x).cups = s.cups ∧ (s.setClpGrp n x).tones = s.tones ∧ (s.setClpGrp n x).inks = s.inks ∧
    (s.setClpGrp n x).cmps = s.cmps ∧ (s.setClpGrp n x).defs = s.defs ∧ (s.setClpGrp n x).tlk = s.tlk ∧
    (s.setClpGrp n x).chanWrites = s.chanWrites ∧ (s.setClpGrp n x).chSels = s.chSels ∧
    (s.setClpGrp n x).swArgs = s.swArgs ∧ (s.setClpGrp n x).hits = s.hits ∧ (s.setClpGrp n x).gpioFrom = s.gpioFrom ∧
    (s.setClpGrp n x).pulses = s.pulses ∧ (s.setClpGrp n x).srcs = s.srcs ∧ (s.setClpGrp n x).hostEnds = s.hostEnds ∧
    (s.setClpGrp n x).pwr = s.pwr ∧ (s.setClpGrp n x).eths = s.eths ∧ (s.setClpGrp n x).ofsLow = s.ofsLow ∧
    (s.setClpGrp n x).cal = s.cal ∧ (s.setClpGrp n x).lant = s.lant ∧ (s.setClpGrp n x).sram = s.sram ∧
    (s.setClpGrp n x).dmcs = s.dmcs ∧ (s.setClpGrp n x).keep = s.keep ∧ (s.setClpGrp n x).dbg = s.dbg ∧
    (s.setClpGrp n x).wdog = s.wdog ∧ (s.setClpGrp n x).rst = s.rst ∧ (s.setClpGrp n x).epoch = s.epoch ∧
    (s.setClpGrp n x).dramLost = s.dramLost ∧ (s.setClpGrp n x).dmas = s.dmas :=
  ⟨rfl, rfl, rfl, rfl, rfl, rfl, rfl, rfl, rfl, rfl, rfl, rfl, rfl, rfl, rfl, rfl, rfl, rfl, rfl, rfl, rfl, rfl, rfl,
  rfl, rfl, rfl, rfl, rfl, rfl, rfl, rfl, rfl, rfl, rfl, rfl, rfl, rfl, rfl, rfl, rfl, rfl, rfl, rfl, rfl, rfl, rfl,
  rfl, rfl, rfl, rfl, rfl, rfl, rfl, rfl, rfl, rfl, rfl, rfl, rfl, rfl, rfl, rfl, rfl, rfl, rfl, rfl, rfl, rfl, rfl,
  rfl, rfl, rfl, rfl, rfl⟩

@[simp] theorem State.setQueue_frame (s : State) (n : Nat) (x : Queue) :
    (s.setQueue n x).pending = s.pending ∧ (s.setQueue n x).cycle = s.cycle ∧ (s.setQueue n x).variant = s.variant ∧
    (s.setQueue n x).fresh = s.fresh ∧ (s.setQueue n x).pages = s.pages ∧ (s.setQueue n x).regs = s.regs ∧
    (s.setQueue n x).shadow = s.shadow ∧ (s.setQueue n x).stored = s.stored ∧
    (s.setQueue n x).readData = s.readData ∧ (s.setQueue n x).out = s.out ∧ (s.setQueue n x).evs = s.evs ∧
    (s.setQueue n x).trigs = s.trigs ∧ (s.setQueue n x).chans = s.chans ∧ (s.setQueue n x).dram = s.dram ∧
    (s.setQueue n x).host0 = s.host0 ∧ (s.setQueue n x).host1 = s.host1 ∧ (s.setQueue n x).pcie = s.pcie ∧
    (s.setQueue n x).hostReads = s.hostReads ∧ (s.setQueue n x).dramBad = s.dramBad ∧
    (s.setQueue n x).dramSoft = s.dramSoft ∧ (s.setQueue n x).enc = s.enc ∧ (s.setQueue n x).obs = s.obs ∧
    (s.setQueue n x).emu = s.emu ∧ (s.setQueue n x).axs = s.axs ∧ (s.setQueue n x).sdf = s.sdf ∧
    (s.setQueue n x).ptp = s.ptp ∧ (s.setQueue n x).released = s.released ∧ (s.setQueue n x).marks = s.marks ∧
    (s.setQueue n x).markWrites = s.markWrites ∧ (s.setQueue n x).markEpochs = s.markEpochs ∧
    (s.setQueue n x).markFires = s.markFires ∧ (s.setQueue n x).keys = s.keys ∧ (s.setQueue n x).jobs = s.jobs ∧
    (s.setQueue n x).verifying = s.verifying ∧ (s.setQueue n x).passVerdicts = s.passVerdicts ∧
    (s.setQueue n x).barCurs = s.barCurs ∧ (s.setQueue n x).refCurs = s.refCurs ∧ (s.setQueue n x).nct = s.nct ∧
    (s.setQueue n x).stripes = s.stripes ∧ (s.setQueue n x).lanes = s.lanes ∧ (s.setQueue n x).screens = s.screens ∧
    (s.setQueue n x).bars = s.bars ∧ (s.setQueue n x).links = s.links ∧ (s.setQueue n x).cams = s.cams ∧
    (s.setQueue n x).camCorr = s.camCorr ∧ (s.setQueue n x).cups = s.cups ∧ (s.setQueue n x).tones = s.tones ∧
    (s.setQueue n x).inks = s.inks ∧ (s.setQueue n x).cmps = s.cmps ∧ (s.setQueue n x).defs = s.defs ∧
    (s.setQueue n x).clp = s.clp ∧ (s.setQueue n x).tlk = s.tlk ∧ (s.setQueue n x).chanWrites = s.chanWrites ∧
    (s.setQueue n x).chSels = s.chSels ∧ (s.setQueue n x).swArgs = s.swArgs ∧ (s.setQueue n x).hits = s.hits ∧
    (s.setQueue n x).gpioFrom = s.gpioFrom ∧ (s.setQueue n x).pulses = s.pulses ∧ (s.setQueue n x).srcs = s.srcs ∧
    (s.setQueue n x).hostEnds = s.hostEnds ∧ (s.setQueue n x).pwr = s.pwr ∧ (s.setQueue n x).eths = s.eths ∧
    (s.setQueue n x).ofsLow = s.ofsLow ∧ (s.setQueue n x).cal = s.cal ∧ (s.setQueue n x).lant = s.lant ∧
    (s.setQueue n x).sram = s.sram ∧ (s.setQueue n x).dmcs = s.dmcs ∧ (s.setQueue n x).keep = s.keep ∧
    (s.setQueue n x).dbg = s.dbg ∧ (s.setQueue n x).wdog = s.wdog ∧ (s.setQueue n x).rst = s.rst ∧
    (s.setQueue n x).epoch = s.epoch ∧ (s.setQueue n x).dramLost = s.dramLost ∧ (s.setQueue n x).dmas = s.dmas :=
  ⟨rfl, rfl, rfl, rfl, rfl, rfl, rfl, rfl, rfl, rfl, rfl, rfl, rfl, rfl, rfl, rfl, rfl, rfl, rfl, rfl, rfl, rfl, rfl,
  rfl, rfl, rfl, rfl, rfl, rfl, rfl, rfl, rfl, rfl, rfl, rfl, rfl, rfl, rfl, rfl, rfl, rfl, rfl, rfl, rfl, rfl, rfl,
  rfl, rfl, rfl, rfl, rfl, rfl, rfl, rfl, rfl, rfl, rfl, rfl, rfl, rfl, rfl, rfl, rfl, rfl, rfl, rfl, rfl, rfl, rfl,
  rfl, rfl, rfl, rfl, rfl⟩

@[simp] theorem State.setDma_frame (s : State) (n : Nat) (x : DmaCh) :
    (s.setDma n x).pending = s.pending ∧ (s.setDma n x).cycle = s.cycle ∧ (s.setDma n x).variant = s.variant ∧
    (s.setDma n x).fresh = s.fresh ∧ (s.setDma n x).pages = s.pages ∧ (s.setDma n x).regs = s.regs ∧
    (s.setDma n x).shadow = s.shadow ∧ (s.setDma n x).stored = s.stored ∧ (s.setDma n x).readData = s.readData ∧
    (s.setDma n x).out = s.out ∧ (s.setDma n x).evs = s.evs ∧ (s.setDma n x).trigs = s.trigs ∧
    (s.setDma n x).chans = s.chans ∧ (s.setDma n x).queues = s.queues ∧ (s.setDma n x).dram = s.dram ∧
    (s.setDma n x).host0 = s.host0 ∧ (s.setDma n x).host1 = s.host1 ∧ (s.setDma n x).pcie = s.pcie ∧
    (s.setDma n x).hostReads = s.hostReads ∧ (s.setDma n x).dramBad = s.dramBad ∧
    (s.setDma n x).dramSoft = s.dramSoft ∧ (s.setDma n x).enc = s.enc ∧ (s.setDma n x).obs = s.obs ∧
    (s.setDma n x).emu = s.emu ∧ (s.setDma n x).axs = s.axs ∧ (s.setDma n x).sdf = s.sdf ∧
    (s.setDma n x).ptp = s.ptp ∧ (s.setDma n x).released = s.released ∧ (s.setDma n x).marks = s.marks ∧
    (s.setDma n x).markWrites = s.markWrites ∧ (s.setDma n x).markEpochs = s.markEpochs ∧
    (s.setDma n x).markFires = s.markFires ∧ (s.setDma n x).keys = s.keys ∧ (s.setDma n x).jobs = s.jobs ∧
    (s.setDma n x).verifying = s.verifying ∧ (s.setDma n x).passVerdicts = s.passVerdicts ∧
    (s.setDma n x).barCurs = s.barCurs ∧ (s.setDma n x).refCurs = s.refCurs ∧ (s.setDma n x).nct = s.nct ∧
    (s.setDma n x).stripes = s.stripes ∧ (s.setDma n x).lanes = s.lanes ∧ (s.setDma n x).screens = s.screens ∧
    (s.setDma n x).bars = s.bars ∧ (s.setDma n x).links = s.links ∧ (s.setDma n x).cams = s.cams ∧
    (s.setDma n x).camCorr = s.camCorr ∧ (s.setDma n x).cups = s.cups ∧ (s.setDma n x).tones = s.tones ∧
    (s.setDma n x).inks = s.inks ∧ (s.setDma n x).cmps = s.cmps ∧ (s.setDma n x).defs = s.defs ∧
    (s.setDma n x).clp = s.clp ∧ (s.setDma n x).tlk = s.tlk ∧ (s.setDma n x).chanWrites = s.chanWrites ∧
    (s.setDma n x).chSels = s.chSels ∧ (s.setDma n x).swArgs = s.swArgs ∧ (s.setDma n x).hits = s.hits ∧
    (s.setDma n x).gpioFrom = s.gpioFrom ∧ (s.setDma n x).pulses = s.pulses ∧ (s.setDma n x).srcs = s.srcs ∧
    (s.setDma n x).hostEnds = s.hostEnds ∧ (s.setDma n x).pwr = s.pwr ∧ (s.setDma n x).eths = s.eths ∧
    (s.setDma n x).ofsLow = s.ofsLow ∧ (s.setDma n x).cal = s.cal ∧ (s.setDma n x).lant = s.lant ∧
    (s.setDma n x).sram = s.sram ∧ (s.setDma n x).dmcs = s.dmcs ∧ (s.setDma n x).keep = s.keep ∧
    (s.setDma n x).dbg = s.dbg ∧ (s.setDma n x).wdog = s.wdog ∧ (s.setDma n x).rst = s.rst ∧
    (s.setDma n x).epoch = s.epoch ∧ (s.setDma n x).dramLost = s.dramLost :=
  ⟨rfl, rfl, rfl, rfl, rfl, rfl, rfl, rfl, rfl, rfl, rfl, rfl, rfl, rfl, rfl, rfl, rfl, rfl, rfl, rfl, rfl, rfl, rfl,
  rfl, rfl, rfl, rfl, rfl, rfl, rfl, rfl, rfl, rfl, rfl, rfl, rfl, rfl, rfl, rfl, rfl, rfl, rfl, rfl, rfl, rfl, rfl,
  rfl, rfl, rfl, rfl, rfl, rfl, rfl, rfl, rfl, rfl, rfl, rfl, rfl, rfl, rfl, rfl, rfl, rfl, rfl, rfl, rfl, rfl, rfl,
  rfl, rfl, rfl, rfl, rfl⟩

@[simp] theorem State.setSrc_frame (s : State) (n : Nat) (x : Src) :
    (s.setSrc n x).pending = s.pending ∧ (s.setSrc n x).cycle = s.cycle ∧ (s.setSrc n x).variant = s.variant ∧
    (s.setSrc n x).fresh = s.fresh ∧ (s.setSrc n x).pages = s.pages ∧ (s.setSrc n x).regs = s.regs ∧
    (s.setSrc n x).shadow = s.shadow ∧ (s.setSrc n x).stored = s.stored ∧ (s.setSrc n x).readData = s.readData ∧
    (s.setSrc n x).out = s.out ∧ (s.setSrc n x).evs = s.evs ∧ (s.setSrc n x).trigs = s.trigs ∧
    (s.setSrc n x).chans = s.chans ∧ (s.setSrc n x).queues = s.queues ∧ (s.setSrc n x).dram = s.dram ∧
    (s.setSrc n x).host0 = s.host0 ∧ (s.setSrc n x).host1 = s.host1 ∧ (s.setSrc n x).pcie = s.pcie ∧
    (s.setSrc n x).hostReads = s.hostReads ∧ (s.setSrc n x).dramBad = s.dramBad ∧
    (s.setSrc n x).dramSoft = s.dramSoft ∧ (s.setSrc n x).enc = s.enc ∧ (s.setSrc n x).obs = s.obs ∧
    (s.setSrc n x).emu = s.emu ∧ (s.setSrc n x).axs = s.axs ∧ (s.setSrc n x).sdf = s.sdf ∧
    (s.setSrc n x).ptp = s.ptp ∧ (s.setSrc n x).released = s.released ∧ (s.setSrc n x).marks = s.marks ∧
    (s.setSrc n x).markWrites = s.markWrites ∧ (s.setSrc n x).markEpochs = s.markEpochs ∧
    (s.setSrc n x).markFires = s.markFires ∧ (s.setSrc n x).keys = s.keys ∧ (s.setSrc n x).jobs = s.jobs ∧
    (s.setSrc n x).verifying = s.verifying ∧ (s.setSrc n x).passVerdicts = s.passVerdicts ∧
    (s.setSrc n x).barCurs = s.barCurs ∧ (s.setSrc n x).refCurs = s.refCurs ∧ (s.setSrc n x).nct = s.nct ∧
    (s.setSrc n x).stripes = s.stripes ∧ (s.setSrc n x).lanes = s.lanes ∧ (s.setSrc n x).screens = s.screens ∧
    (s.setSrc n x).bars = s.bars ∧ (s.setSrc n x).links = s.links ∧ (s.setSrc n x).cams = s.cams ∧
    (s.setSrc n x).camCorr = s.camCorr ∧ (s.setSrc n x).cups = s.cups ∧ (s.setSrc n x).tones = s.tones ∧
    (s.setSrc n x).inks = s.inks ∧ (s.setSrc n x).cmps = s.cmps ∧ (s.setSrc n x).defs = s.defs ∧
    (s.setSrc n x).clp = s.clp ∧ (s.setSrc n x).tlk = s.tlk ∧ (s.setSrc n x).chanWrites = s.chanWrites ∧
    (s.setSrc n x).chSels = s.chSels ∧ (s.setSrc n x).swArgs = s.swArgs ∧ (s.setSrc n x).hits = s.hits ∧
    (s.setSrc n x).gpioFrom = s.gpioFrom ∧ (s.setSrc n x).pulses = s.pulses ∧ (s.setSrc n x).hostEnds = s.hostEnds ∧
    (s.setSrc n x).pwr = s.pwr ∧ (s.setSrc n x).eths = s.eths ∧ (s.setSrc n x).ofsLow = s.ofsLow ∧
    (s.setSrc n x).cal = s.cal ∧ (s.setSrc n x).lant = s.lant ∧ (s.setSrc n x).sram = s.sram ∧
    (s.setSrc n x).dmcs = s.dmcs ∧ (s.setSrc n x).keep = s.keep ∧ (s.setSrc n x).dbg = s.dbg ∧
    (s.setSrc n x).wdog = s.wdog ∧ (s.setSrc n x).rst = s.rst ∧ (s.setSrc n x).epoch = s.epoch ∧
    (s.setSrc n x).dramLost = s.dramLost ∧ (s.setSrc n x).dmas = s.dmas :=
  ⟨rfl, rfl, rfl, rfl, rfl, rfl, rfl, rfl, rfl, rfl, rfl, rfl, rfl, rfl, rfl, rfl, rfl, rfl, rfl, rfl, rfl, rfl, rfl,
  rfl, rfl, rfl, rfl, rfl, rfl, rfl, rfl, rfl, rfl, rfl, rfl, rfl, rfl, rfl, rfl, rfl, rfl, rfl, rfl, rfl, rfl, rfl,
  rfl, rfl, rfl, rfl, rfl, rfl, rfl, rfl, rfl, rfl, rfl, rfl, rfl, rfl, rfl, rfl, rfl, rfl, rfl, rfl, rfl, rfl, rfl,
  rfl, rfl, rfl, rfl, rfl⟩

@[simp] theorem State.setAx_frame (s : State) (n : Nat) (x : Axs) :
    (s.setAx n x).pending = s.pending ∧ (s.setAx n x).cycle = s.cycle ∧ (s.setAx n x).variant = s.variant ∧
    (s.setAx n x).fresh = s.fresh ∧ (s.setAx n x).pages = s.pages ∧ (s.setAx n x).regs = s.regs ∧
    (s.setAx n x).shadow = s.shadow ∧ (s.setAx n x).stored = s.stored ∧ (s.setAx n x).readData = s.readData ∧
    (s.setAx n x).out = s.out ∧ (s.setAx n x).evs = s.evs ∧ (s.setAx n x).trigs = s.trigs ∧
    (s.setAx n x).chans = s.chans ∧ (s.setAx n x).queues = s.queues ∧ (s.setAx n x).dram = s.dram ∧
    (s.setAx n x).host0 = s.host0 ∧ (s.setAx n x).host1 = s.host1 ∧ (s.setAx n x).pcie = s.pcie ∧
    (s.setAx n x).hostReads = s.hostReads ∧ (s.setAx n x).dramBad = s.dramBad ∧ (s.setAx n x).dramSoft = s.dramSoft ∧
    (s.setAx n x).enc = s.enc ∧ (s.setAx n x).obs = s.obs ∧ (s.setAx n x).emu = s.emu ∧ (s.setAx n x).sdf = s.sdf ∧
    (s.setAx n x).ptp = s.ptp ∧ (s.setAx n x).released = s.released ∧ (s.setAx n x).marks = s.marks ∧
    (s.setAx n x).markWrites = s.markWrites ∧ (s.setAx n x).markEpochs = s.markEpochs ∧
    (s.setAx n x).markFires = s.markFires ∧ (s.setAx n x).keys = s.keys ∧ (s.setAx n x).jobs = s.jobs ∧
    (s.setAx n x).verifying = s.verifying ∧ (s.setAx n x).passVerdicts = s.passVerdicts ∧
    (s.setAx n x).barCurs = s.barCurs ∧ (s.setAx n x).refCurs = s.refCurs ∧ (s.setAx n x).nct = s.nct ∧
    (s.setAx n x).stripes = s.stripes ∧ (s.setAx n x).lanes = s.lanes ∧ (s.setAx n x).screens = s.screens ∧
    (s.setAx n x).bars = s.bars ∧ (s.setAx n x).links = s.links ∧ (s.setAx n x).cams = s.cams ∧
    (s.setAx n x).camCorr = s.camCorr ∧ (s.setAx n x).cups = s.cups ∧ (s.setAx n x).tones = s.tones ∧
    (s.setAx n x).inks = s.inks ∧ (s.setAx n x).cmps = s.cmps ∧ (s.setAx n x).defs = s.defs ∧
    (s.setAx n x).clp = s.clp ∧ (s.setAx n x).tlk = s.tlk ∧ (s.setAx n x).chanWrites = s.chanWrites ∧
    (s.setAx n x).chSels = s.chSels ∧ (s.setAx n x).swArgs = s.swArgs ∧ (s.setAx n x).hits = s.hits ∧
    (s.setAx n x).gpioFrom = s.gpioFrom ∧ (s.setAx n x).pulses = s.pulses ∧ (s.setAx n x).srcs = s.srcs ∧
    (s.setAx n x).hostEnds = s.hostEnds ∧ (s.setAx n x).pwr = s.pwr ∧ (s.setAx n x).eths = s.eths ∧
    (s.setAx n x).ofsLow = s.ofsLow ∧ (s.setAx n x).cal = s.cal ∧ (s.setAx n x).lant = s.lant ∧
    (s.setAx n x).sram = s.sram ∧ (s.setAx n x).dmcs = s.dmcs ∧ (s.setAx n x).keep = s.keep ∧
    (s.setAx n x).dbg = s.dbg ∧ (s.setAx n x).wdog = s.wdog ∧ (s.setAx n x).rst = s.rst ∧
    (s.setAx n x).epoch = s.epoch ∧ (s.setAx n x).dramLost = s.dramLost ∧ (s.setAx n x).dmas = s.dmas :=
  ⟨rfl, rfl, rfl, rfl, rfl, rfl, rfl, rfl, rfl, rfl, rfl, rfl, rfl, rfl, rfl, rfl, rfl, rfl, rfl, rfl, rfl, rfl, rfl,
  rfl, rfl, rfl, rfl, rfl, rfl, rfl, rfl, rfl, rfl, rfl, rfl, rfl, rfl, rfl, rfl, rfl, rfl, rfl, rfl, rfl, rfl, rfl,
  rfl, rfl, rfl, rfl, rfl, rfl, rfl, rfl, rfl, rfl, rfl, rfl, rfl, rfl, rfl, rfl, rfl, rfl, rfl, rfl, rfl, rfl, rfl,
  rfl, rfl, rfl, rfl, rfl⟩

@[simp] theorem State.setSd_frame (s : State) (n : Nat) (x : Sdf) :
    (s.setSd n x).pending = s.pending ∧ (s.setSd n x).cycle = s.cycle ∧ (s.setSd n x).variant = s.variant ∧
    (s.setSd n x).fresh = s.fresh ∧ (s.setSd n x).pages = s.pages ∧ (s.setSd n x).regs = s.regs ∧
    (s.setSd n x).shadow = s.shadow ∧ (s.setSd n x).stored = s.stored ∧ (s.setSd n x).readData = s.readData ∧
    (s.setSd n x).out = s.out ∧ (s.setSd n x).evs = s.evs ∧ (s.setSd n x).trigs = s.trigs ∧
    (s.setSd n x).chans = s.chans ∧ (s.setSd n x).queues = s.queues ∧ (s.setSd n x).dram = s.dram ∧
    (s.setSd n x).host0 = s.host0 ∧ (s.setSd n x).host1 = s.host1 ∧ (s.setSd n x).pcie = s.pcie ∧
    (s.setSd n x).hostReads = s.hostReads ∧ (s.setSd n x).dramBad = s.dramBad ∧ (s.setSd n x).dramSoft = s.dramSoft ∧
    (s.setSd n x).enc = s.enc ∧ (s.setSd n x).obs = s.obs ∧ (s.setSd n x).emu = s.emu ∧ (s.setSd n x).axs = s.axs ∧
    (s.setSd n x).ptp = s.ptp ∧ (s.setSd n x).released = s.released ∧ (s.setSd n x).marks = s.marks ∧
    (s.setSd n x).markWrites = s.markWrites ∧ (s.setSd n x).markEpochs = s.markEpochs ∧
    (s.setSd n x).markFires = s.markFires ∧ (s.setSd n x).keys = s.keys ∧ (s.setSd n x).jobs = s.jobs ∧
    (s.setSd n x).verifying = s.verifying ∧ (s.setSd n x).passVerdicts = s.passVerdicts ∧
    (s.setSd n x).barCurs = s.barCurs ∧ (s.setSd n x).refCurs = s.refCurs ∧ (s.setSd n x).nct = s.nct ∧
    (s.setSd n x).stripes = s.stripes ∧ (s.setSd n x).lanes = s.lanes ∧ (s.setSd n x).screens = s.screens ∧
    (s.setSd n x).bars = s.bars ∧ (s.setSd n x).links = s.links ∧ (s.setSd n x).cams = s.cams ∧
    (s.setSd n x).camCorr = s.camCorr ∧ (s.setSd n x).cups = s.cups ∧ (s.setSd n x).tones = s.tones ∧
    (s.setSd n x).inks = s.inks ∧ (s.setSd n x).cmps = s.cmps ∧ (s.setSd n x).defs = s.defs ∧
    (s.setSd n x).clp = s.clp ∧ (s.setSd n x).tlk = s.tlk ∧ (s.setSd n x).chanWrites = s.chanWrites ∧
    (s.setSd n x).chSels = s.chSels ∧ (s.setSd n x).swArgs = s.swArgs ∧ (s.setSd n x).hits = s.hits ∧
    (s.setSd n x).gpioFrom = s.gpioFrom ∧ (s.setSd n x).pulses = s.pulses ∧ (s.setSd n x).srcs = s.srcs ∧
    (s.setSd n x).hostEnds = s.hostEnds ∧ (s.setSd n x).pwr = s.pwr ∧ (s.setSd n x).eths = s.eths ∧
    (s.setSd n x).ofsLow = s.ofsLow ∧ (s.setSd n x).cal = s.cal ∧ (s.setSd n x).lant = s.lant ∧
    (s.setSd n x).sram = s.sram ∧ (s.setSd n x).dmcs = s.dmcs ∧ (s.setSd n x).keep = s.keep ∧
    (s.setSd n x).dbg = s.dbg ∧ (s.setSd n x).wdog = s.wdog ∧ (s.setSd n x).rst = s.rst ∧
    (s.setSd n x).epoch = s.epoch ∧ (s.setSd n x).dramLost = s.dramLost ∧ (s.setSd n x).dmas = s.dmas :=
  ⟨rfl, rfl, rfl, rfl, rfl, rfl, rfl, rfl, rfl, rfl, rfl, rfl, rfl, rfl, rfl, rfl, rfl, rfl, rfl, rfl, rfl, rfl, rfl,
  rfl, rfl, rfl, rfl, rfl, rfl, rfl, rfl, rfl, rfl, rfl, rfl, rfl, rfl, rfl, rfl, rfl, rfl, rfl, rfl, rfl, rfl, rfl,
  rfl, rfl, rfl, rfl, rfl, rfl, rfl, rfl, rfl, rfl, rfl, rfl, rfl, rfl, rfl, rfl, rfl, rfl, rfl, rfl, rfl, rfl, rfl,
  rfl, rfl, rfl, rfl, rfl⟩

@[simp] theorem State.setEth_frame (s : State) (n : Nat) (x : Eth) :
    (s.setEth n x).pending = s.pending ∧ (s.setEth n x).cycle = s.cycle ∧ (s.setEth n x).variant = s.variant ∧
    (s.setEth n x).fresh = s.fresh ∧ (s.setEth n x).pages = s.pages ∧ (s.setEth n x).regs = s.regs ∧
    (s.setEth n x).shadow = s.shadow ∧ (s.setEth n x).stored = s.stored ∧ (s.setEth n x).readData = s.readData ∧
    (s.setEth n x).out = s.out ∧ (s.setEth n x).evs = s.evs ∧ (s.setEth n x).trigs = s.trigs ∧
    (s.setEth n x).chans = s.chans ∧ (s.setEth n x).queues = s.queues ∧ (s.setEth n x).dram = s.dram ∧
    (s.setEth n x).host0 = s.host0 ∧ (s.setEth n x).host1 = s.host1 ∧ (s.setEth n x).pcie = s.pcie ∧
    (s.setEth n x).hostReads = s.hostReads ∧ (s.setEth n x).dramBad = s.dramBad ∧
    (s.setEth n x).dramSoft = s.dramSoft ∧ (s.setEth n x).enc = s.enc ∧ (s.setEth n x).obs = s.obs ∧
    (s.setEth n x).emu = s.emu ∧ (s.setEth n x).axs = s.axs ∧ (s.setEth n x).sdf = s.sdf ∧
    (s.setEth n x).ptp = s.ptp ∧ (s.setEth n x).released = s.released ∧ (s.setEth n x).marks = s.marks ∧
    (s.setEth n x).markWrites = s.markWrites ∧ (s.setEth n x).markEpochs = s.markEpochs ∧
    (s.setEth n x).markFires = s.markFires ∧ (s.setEth n x).keys = s.keys ∧ (s.setEth n x).jobs = s.jobs ∧
    (s.setEth n x).verifying = s.verifying ∧ (s.setEth n x).passVerdicts = s.passVerdicts ∧
    (s.setEth n x).barCurs = s.barCurs ∧ (s.setEth n x).refCurs = s.refCurs ∧ (s.setEth n x).nct = s.nct ∧
    (s.setEth n x).stripes = s.stripes ∧ (s.setEth n x).lanes = s.lanes ∧ (s.setEth n x).screens = s.screens ∧
    (s.setEth n x).bars = s.bars ∧ (s.setEth n x).links = s.links ∧ (s.setEth n x).cams = s.cams ∧
    (s.setEth n x).camCorr = s.camCorr ∧ (s.setEth n x).cups = s.cups ∧ (s.setEth n x).tones = s.tones ∧
    (s.setEth n x).inks = s.inks ∧ (s.setEth n x).cmps = s.cmps ∧ (s.setEth n x).defs = s.defs ∧
    (s.setEth n x).clp = s.clp ∧ (s.setEth n x).tlk = s.tlk ∧ (s.setEth n x).chanWrites = s.chanWrites ∧
    (s.setEth n x).chSels = s.chSels ∧ (s.setEth n x).swArgs = s.swArgs ∧ (s.setEth n x).hits = s.hits ∧
    (s.setEth n x).gpioFrom = s.gpioFrom ∧ (s.setEth n x).pulses = s.pulses ∧ (s.setEth n x).srcs = s.srcs ∧
    (s.setEth n x).hostEnds = s.hostEnds ∧ (s.setEth n x).pwr = s.pwr ∧ (s.setEth n x).ofsLow = s.ofsLow ∧
    (s.setEth n x).cal = s.cal ∧ (s.setEth n x).lant = s.lant ∧ (s.setEth n x).sram = s.sram ∧
    (s.setEth n x).dmcs = s.dmcs ∧ (s.setEth n x).keep = s.keep ∧ (s.setEth n x).dbg = s.dbg ∧
    (s.setEth n x).wdog = s.wdog ∧ (s.setEth n x).rst = s.rst ∧ (s.setEth n x).epoch = s.epoch ∧
    (s.setEth n x).dramLost = s.dramLost ∧ (s.setEth n x).dmas = s.dmas :=
  ⟨rfl, rfl, rfl, rfl, rfl, rfl, rfl, rfl, rfl, rfl, rfl, rfl, rfl, rfl, rfl, rfl, rfl, rfl, rfl, rfl, rfl, rfl, rfl,
  rfl, rfl, rfl, rfl, rfl, rfl, rfl, rfl, rfl, rfl, rfl, rfl, rfl, rfl, rfl, rfl, rfl, rfl, rfl, rfl, rfl, rfl, rfl,
  rfl, rfl, rfl, rfl, rfl, rfl, rfl, rfl, rfl, rfl, rfl, rfl, rfl, rfl, rfl, rfl, rfl, rfl, rfl, rfl, rfl, rfl, rfl,
  rfl, rfl, rfl, rfl, rfl⟩

@[simp] theorem State.setDmc_frame (s : State) (n : Nat) (x : DramChan) :
    (s.setDmc n x).pending = s.pending ∧ (s.setDmc n x).cycle = s.cycle ∧ (s.setDmc n x).variant = s.variant ∧
    (s.setDmc n x).fresh = s.fresh ∧ (s.setDmc n x).pages = s.pages ∧ (s.setDmc n x).regs = s.regs ∧
    (s.setDmc n x).shadow = s.shadow ∧ (s.setDmc n x).stored = s.stored ∧ (s.setDmc n x).readData = s.readData ∧
    (s.setDmc n x).out = s.out ∧ (s.setDmc n x).evs = s.evs ∧ (s.setDmc n x).trigs = s.trigs ∧
    (s.setDmc n x).chans = s.chans ∧ (s.setDmc n x).queues = s.queues ∧ (s.setDmc n x).dram = s.dram ∧
    (s.setDmc n x).host0 = s.host0 ∧ (s.setDmc n x).host1 = s.host1 ∧ (s.setDmc n x).pcie = s.pcie ∧
    (s.setDmc n x).hostReads = s.hostReads ∧ (s.setDmc n x).dramBad = s.dramBad ∧
    (s.setDmc n x).dramSoft = s.dramSoft ∧ (s.setDmc n x).enc = s.enc ∧ (s.setDmc n x).obs = s.obs ∧
    (s.setDmc n x).emu = s.emu ∧ (s.setDmc n x).axs = s.axs ∧ (s.setDmc n x).sdf = s.sdf ∧
    (s.setDmc n x).ptp = s.ptp ∧ (s.setDmc n x).released = s.released ∧ (s.setDmc n x).marks = s.marks ∧
    (s.setDmc n x).markWrites = s.markWrites ∧ (s.setDmc n x).markEpochs = s.markEpochs ∧
    (s.setDmc n x).markFires = s.markFires ∧ (s.setDmc n x).keys = s.keys ∧ (s.setDmc n x).jobs = s.jobs ∧
    (s.setDmc n x).verifying = s.verifying ∧ (s.setDmc n x).passVerdicts = s.passVerdicts ∧
    (s.setDmc n x).barCurs = s.barCurs ∧ (s.setDmc n x).refCurs = s.refCurs ∧ (s.setDmc n x).nct = s.nct ∧
    (s.setDmc n x).stripes = s.stripes ∧ (s.setDmc n x).lanes = s.lanes ∧ (s.setDmc n x).screens = s.screens ∧
    (s.setDmc n x).bars = s.bars ∧ (s.setDmc n x).links = s.links ∧ (s.setDmc n x).cams = s.cams ∧
    (s.setDmc n x).camCorr = s.camCorr ∧ (s.setDmc n x).cups = s.cups ∧ (s.setDmc n x).tones = s.tones ∧
    (s.setDmc n x).inks = s.inks ∧ (s.setDmc n x).cmps = s.cmps ∧ (s.setDmc n x).defs = s.defs ∧
    (s.setDmc n x).clp = s.clp ∧ (s.setDmc n x).tlk = s.tlk ∧ (s.setDmc n x).chanWrites = s.chanWrites ∧
    (s.setDmc n x).chSels = s.chSels ∧ (s.setDmc n x).swArgs = s.swArgs ∧ (s.setDmc n x).hits = s.hits ∧
    (s.setDmc n x).gpioFrom = s.gpioFrom ∧ (s.setDmc n x).pulses = s.pulses ∧ (s.setDmc n x).srcs = s.srcs ∧
    (s.setDmc n x).hostEnds = s.hostEnds ∧ (s.setDmc n x).pwr = s.pwr ∧ (s.setDmc n x).eths = s.eths ∧
    (s.setDmc n x).ofsLow = s.ofsLow ∧ (s.setDmc n x).cal = s.cal ∧ (s.setDmc n x).lant = s.lant ∧
    (s.setDmc n x).sram = s.sram ∧ (s.setDmc n x).keep = s.keep ∧ (s.setDmc n x).dbg = s.dbg ∧
    (s.setDmc n x).wdog = s.wdog ∧ (s.setDmc n x).rst = s.rst ∧ (s.setDmc n x).epoch = s.epoch ∧
    (s.setDmc n x).dramLost = s.dramLost ∧ (s.setDmc n x).dmas = s.dmas :=
  ⟨rfl, rfl, rfl, rfl, rfl, rfl, rfl, rfl, rfl, rfl, rfl, rfl, rfl, rfl, rfl, rfl, rfl, rfl, rfl, rfl, rfl, rfl, rfl,
  rfl, rfl, rfl, rfl, rfl, rfl, rfl, rfl, rfl, rfl, rfl, rfl, rfl, rfl, rfl, rfl, rfl, rfl, rfl, rfl, rfl, rfl, rfl,
  rfl, rfl, rfl, rfl, rfl, rfl, rfl, rfl, rfl, rfl, rfl, rfl, rfl, rfl, rfl, rfl, rfl, rfl, rfl, rfl, rfl, rfl, rfl,
  rfl, rfl, rfl, rfl, rfl⟩

@[simp] theorem State.setFwdRx_frame (s : State) (n : Nat) (x : FwdRx) :
    (s.setFwdRx n x).pending = s.pending ∧ (s.setFwdRx n x).cycle = s.cycle ∧ (s.setFwdRx n x).variant = s.variant ∧
    (s.setFwdRx n x).fresh = s.fresh ∧ (s.setFwdRx n x).pages = s.pages ∧ (s.setFwdRx n x).regs = s.regs ∧
    (s.setFwdRx n x).shadow = s.shadow ∧ (s.setFwdRx n x).stored = s.stored ∧
    (s.setFwdRx n x).readData = s.readData ∧ (s.setFwdRx n x).out = s.out ∧ (s.setFwdRx n x).evs = s.evs ∧
    (s.setFwdRx n x).trigs = s.trigs ∧ (s.setFwdRx n x).chans = s.chans ∧ (s.setFwdRx n x).queues = s.queues ∧
    (s.setFwdRx n x).dram = s.dram ∧ (s.setFwdRx n x).host0 = s.host0 ∧ (s.setFwdRx n x).host1 = s.host1 ∧
    (s.setFwdRx n x).pcie = s.pcie ∧ (s.setFwdRx n x).hostReads = s.hostReads ∧
    (s.setFwdRx n x).dramBad = s.dramBad ∧ (s.setFwdRx n x).dramSoft = s.dramSoft ∧ (s.setFwdRx n x).enc = s.enc ∧
    (s.setFwdRx n x).obs = s.obs ∧ (s.setFwdRx n x).emu = s.emu ∧ (s.setFwdRx n x).axs = s.axs ∧
    (s.setFwdRx n x).sdf = s.sdf ∧ (s.setFwdRx n x).ptp = s.ptp ∧ (s.setFwdRx n x).released = s.released ∧
    (s.setFwdRx n x).marks = s.marks ∧ (s.setFwdRx n x).markWrites = s.markWrites ∧
    (s.setFwdRx n x).markEpochs = s.markEpochs ∧ (s.setFwdRx n x).markFires = s.markFires ∧
    (s.setFwdRx n x).keys = s.keys ∧ (s.setFwdRx n x).jobs = s.jobs ∧ (s.setFwdRx n x).verifying = s.verifying ∧
    (s.setFwdRx n x).passVerdicts = s.passVerdicts ∧ (s.setFwdRx n x).barCurs = s.barCurs ∧
    (s.setFwdRx n x).refCurs = s.refCurs ∧ (s.setFwdRx n x).nct = s.nct ∧ (s.setFwdRx n x).stripes = s.stripes ∧
    (s.setFwdRx n x).lanes = s.lanes ∧ (s.setFwdRx n x).screens = s.screens ∧ (s.setFwdRx n x).bars = s.bars ∧
    (s.setFwdRx n x).links = s.links ∧ (s.setFwdRx n x).cams = s.cams ∧ (s.setFwdRx n x).camCorr = s.camCorr ∧
    (s.setFwdRx n x).cups = s.cups ∧ (s.setFwdRx n x).tones = s.tones ∧ (s.setFwdRx n x).inks = s.inks ∧
    (s.setFwdRx n x).cmps = s.cmps ∧ (s.setFwdRx n x).defs = s.defs ∧ (s.setFwdRx n x).clp = s.clp ∧
    (s.setFwdRx n x).chanWrites = s.chanWrites ∧ (s.setFwdRx n x).chSels = s.chSels ∧
    (s.setFwdRx n x).swArgs = s.swArgs ∧ (s.setFwdRx n x).hits = s.hits ∧ (s.setFwdRx n x).gpioFrom = s.gpioFrom ∧
    (s.setFwdRx n x).pulses = s.pulses ∧ (s.setFwdRx n x).srcs = s.srcs ∧ (s.setFwdRx n x).hostEnds = s.hostEnds ∧
    (s.setFwdRx n x).pwr = s.pwr ∧ (s.setFwdRx n x).eths = s.eths ∧ (s.setFwdRx n x).ofsLow = s.ofsLow ∧
    (s.setFwdRx n x).cal = s.cal ∧ (s.setFwdRx n x).lant = s.lant ∧ (s.setFwdRx n x).sram = s.sram ∧
    (s.setFwdRx n x).dmcs = s.dmcs ∧ (s.setFwdRx n x).keep = s.keep ∧ (s.setFwdRx n x).dbg = s.dbg ∧
    (s.setFwdRx n x).wdog = s.wdog ∧ (s.setFwdRx n x).rst = s.rst ∧ (s.setFwdRx n x).epoch = s.epoch ∧
    (s.setFwdRx n x).dramLost = s.dramLost ∧ (s.setFwdRx n x).dmas = s.dmas :=
  ⟨rfl, rfl, rfl, rfl, rfl, rfl, rfl, rfl, rfl, rfl, rfl, rfl, rfl, rfl, rfl, rfl, rfl, rfl, rfl, rfl, rfl, rfl, rfl,
  rfl, rfl, rfl, rfl, rfl, rfl, rfl, rfl, rfl, rfl, rfl, rfl, rfl, rfl, rfl, rfl, rfl, rfl, rfl, rfl, rfl, rfl, rfl,
  rfl, rfl, rfl, rfl, rfl, rfl, rfl, rfl, rfl, rfl, rfl, rfl, rfl, rfl, rfl, rfl, rfl, rfl, rfl, rfl, rfl, rfl, rfl,
  rfl, rfl, rfl, rfl, rfl⟩

end Sys2Proof.Machine
end

