-- ==== Sys2Proof/Laws/Registers.lean ====
section
/-!
SUPPORT. A register word and a page header read after a write: the value written at the place written, the old value
everywhere else. And what an error event, a counter and a field write do to the words they touch.
-/

namespace Sys2Proof.Machine

/-! ## Tables -/

theorem Tbl.get?_put_self {α : Type} (t : Tbl α) (k : Nat) (v : α) : Tbl.get? (Tbl.put t k v) k = some v := by
  induction t with
  | nil => simp [Tbl.put, Tbl.get?]
  | cons e r ih =>
    obtain ⟨k', v'⟩ := e
    simp only [Tbl.put]
    split
    · simp [Tbl.get?]
    · split
      · simp [Tbl.get?]
      · simp [Tbl.get?, *]

theorem Tbl.get?_put_ne {α : Type} {t : Tbl α} {k j : Nat} (v : α) (h : j ≠ k) :
    Tbl.get? (Tbl.put t k v) j = Tbl.get? t j := by
  induction t with
  | nil => simp [Tbl.put, Tbl.get?, h]
  | cons e r ih =>
    obtain ⟨k', v'⟩ := e
    simp only [Tbl.put]
    split
    · rename_i q; subst q; simp [Tbl.get?, h]
    · split
      · simp only [Tbl.get?, h, if_false]
        by_cases c : j < k
        · rw [if_pos c, if_neg (by omega), if_pos (by omega)]
        · rw [if_neg c]
      · simp [Tbl.get?, ih]

theorem Tbl.get?_below {α : Type} {t : Tbl α} {n j : Nat} (h : Tbl.wfFrom n t = true) (hj : j < n) : Tbl.get? t j = none := by
  cases t with
  | nil => rfl
  | cons e r =>
    obtain ⟨k, v⟩ := e
    simp only [Tbl.wfFrom, Bool.and_eq_true, decide_eq_true_eq] at h
    simp [Tbl.get?, show j ≠ k by omega, show j < k by omega]

theorem Tbl.get?_del_self {α : Type} {t : Tbl α} {k : Nat} : ∀ {n : Nat}, Tbl.wfFrom n t = true →
    Tbl.get? (Tbl.del t k) k = none := by
  induction t with
  | nil => intros; rfl
  | cons e r ih =>
    intro n h
    obtain ⟨k', v'⟩ := e
    simp only [Tbl.wfFrom, Bool.and_eq_true, decide_eq_true_eq] at h
    simp only [Tbl.del]
    split
    · rename_i q; subst q; exact Tbl.get?_below h.2 (by omega)
    · rename_i q
      split
      · rename_i c; simp [Tbl.get?, q, c]
      · rename_i c; simp [Tbl.get?, q, c, ih h.2]

theorem Tbl.get?_del_ne {α : Type} {t : Tbl α} {k j : Nat} (hj : j ≠ k) : ∀ {n : Nat}, Tbl.wfFrom n t = true →
    Tbl.get? (Tbl.del t k) j = Tbl.get? t j := by
  induction t with
  | nil => intros; rfl
  | cons e r ih =>
    intro n h
    obtain ⟨k', v'⟩ := e
    simp only [Tbl.wfFrom, Bool.and_eq_true, decide_eq_true_eq] at h
    simp only [Tbl.del]
    split
    · rename_i q; subst q
      simp only [Tbl.get?, hj, if_false]
      split
      · exact Tbl.get?_below h.2 (by omega)
      · rfl
    · split
      · rfl
      · simp [Tbl.get?, ih h.2]

theorem Tbl.getD_put_self {α : Type} (t : Tbl α) (k : Nat) (v d : α) : Tbl.getD (Tbl.put t k v) k d = v := by
  simp [Tbl.getD, Tbl.get?_put_self]

theorem Tbl.getD_put_ne {α : Type} {t : Tbl α} {k j : Nat} (v d : α) (h : j ≠ k) :
    Tbl.getD (Tbl.put t k v) j d = Tbl.getD t j d := by
  simp [Tbl.getD, Tbl.get?_put_ne v h]

theorem Tbl.getD_putD_self {α : Type} [DecidableEq α] {t : Tbl α} {k : Nat} {v d : α} (h : Tbl.wf t = true) :
    Tbl.getD (Tbl.putD t k v d) k d = v := by
  unfold Tbl.putD
  split
  · rename_i e; subst e; simp [Tbl.getD, Tbl.get?_del_self h]
  · exact Tbl.getD_put_self t k v d

theorem Tbl.getD_putD_ne {α : Type} [DecidableEq α] {t : Tbl α} {k j : Nat} {v d d' : α} (h : Tbl.wf t = true) (hj : j ≠ k) :
    Tbl.getD (Tbl.putD t k v d) j d' = Tbl.getD t j d' := by
  unfold Tbl.putD
  split
  · simp [Tbl.getD, Tbl.get?_del_ne hj h]
  · exact Tbl.getD_put_ne v d' hj

/-! ## Page headers -/

@[simp] theorem State.page_setPage_self (s : State) (p : Nat) (g : Page) : (s.setPage p g).page p = g :=
  Tbl.getD_put_self _ _ _ _

theorem State.page_setPage_ne (s : State) {p q : Nat} (g : Page) (h : q ≠ p) : (s.setPage p g).page q = s.page q :=
  Tbl.getD_put_ne _ _ h

/-- A page's header depends on the list of headers alone. -/
theorem State.page_of_pages {s t : State} (h : t.pages = s.pages) (p : Nat) : t.page p = s.page p := by
  simp [State.page, h]

@[simp] theorem State.page_setRg (s : State) (p o v q : Nat) : (s.setRg p o v).page q = s.page q := rfl
@[simp] theorem State.page_setRg64 (s : State) (p o v q : Nat) : (s.setRg64 p o v).page q = s.page q := rfl
@[simp] theorem State.page_setFl (s : State) (p o hi lo v q : Nat) : (s.setFl p o hi lo v).page q = s.page q := rfl
@[simp] theorem State.page_sat (s : State) (p o n q : Nat) : (s.sat p o n).page q = s.page q := rfl
@[simp] theorem State.page_inc (s : State) (p o n q : Nat) : (s.inc p o n).page q = s.page q := rfl
@[simp] theorem State.page_emit (s : State) (x : Out) (q : Nat) : (s.emit x).page q = s.page q := rfl
@[simp] theorem State.page_drawn (s : State) (q : Nat) : s.drawn.page q = s.page q := rfl

/-- An error event on its own page (R29, R38, R39). -/
theorem State.page_err (s : State) (p b code ctx : Nat) :
    (s.err p b code ctx).page p = ((s.page p).setErr b).countErr.push (s.entry code ctx) :=
  State.page_setPage_self _ _ _

/-- An error event on every other page: nothing. -/
theorem State.page_err_ne (s : State) {p q : Nat} (b code ctx : Nat) (h : q ≠ p) : (s.err p b code ctx).page q = s.page q :=
  State.page_setPage_ne _ _ h

/-! ## Register words -/

/-- Two words of the pages are one only when page and offset agree. -/
theorem regKey_inj {p q o r : Nat} (ho : o < 4096) (hr : r < 4096) (h : regKey p o = regKey q r) : p = q ∧ o = r := by
  simp only [regKey] at h; omega

theorem State.rg_lt (s : State) (p o : Nat) : s.rg p o < 2 ^ 32 := BitVec.isLt _

theorem State.rg_setRg_self {s : State} (h : Tbl.wf s.regs = true) (p o v : Nat) : (s.setRg p o v).rg p o = v % 2 ^ 32 := by
  simp only [State.rg, State.setRg, Tbl.getD_putD_self h, BitVec.toNat_ofNat]

theorem State.rg_setRg_ne {s : State} (h : Tbl.wf s.regs = true) {p o q r : Nat} (v : Nat) (hk : regKey q r ≠ regKey p o) :
    (s.setRg p o v).rg q r = s.rg q r := by
  simp only [State.rg, State.setRg, Tbl.getD_putD_ne h hk]

/-- A register word depends on the list of register words alone. -/
theorem State.rg_of_regs {s t : State} (h : t.regs = s.regs) (p o : Nat) : t.rg p o = s.rg p o := by
  simp [State.rg, h]

@[simp] theorem State.rg_setPage (s : State) (p : Nat) (g : Page) (q o : Nat) : (s.setPage p g).rg q o = s.rg q o := rfl
@[simp] theorem State.rg_err (s : State) (p b code ctx q o : Nat) : (s.err p b code ctx).rg q o = s.rg q o := rfl
@[simp] theorem State.rg_emit (s : State) (x : Out) (q o : Nat) : (s.emit x).rg q o = s.rg q o := rfl
@[simp] theorem State.rg_drawn (s : State) (q o : Nat) : s.drawn.rg q o = s.rg q o := rfl
@[simp] theorem State.rg_setIst (s : State) (p b q o : Nat) : (s.setIst p b).rg q o = s.rg q o := rfl

theorem State.setRg_wf {s : State} (h : Tbl.wf s.regs = true) (p o v : Nat) : Tbl.wf (s.setRg p o v).regs = true :=
  Tbl.wf_putD h

/-- A 64-bit register reads what was written to it, modulo 2^64. -/
theorem State.rg64_setRg64 {s : State} (h : Tbl.wf s.regs = true) (p o v : Nat) :
    (s.setRg64 p o v).rg64 p o = v % 2 ^ 64 := by
  have k : regKey p o ≠ regKey p (o + 4) := by simp only [regKey]; omega
  simp only [State.rg64, State.setRg64]
  rw [State.rg_setRg_self (State.setRg_wf h _ _ _), State.rg_setRg_ne (State.setRg_wf h _ _ _) _ k, State.rg_setRg_self h]
  omega

end Sys2Proof.Machine
end

