-- ==== Sys2Proof/Laws/Access.lean ====
section
/-!
SUPPORT. What a write or a read command does once its page takes it: each gate answers the command's own effect.
-/

namespace Sys2Proof.Machine

/-- A single-bit read is the bit test of the library. -/
theorem bit_eq_testBit (x i : Nat) : bit x i = x.testBit i := by
  have e : (x >>> i) % 2 = 0 ∨ (x >>> i) % 2 = 1 := Nat.mod_two_eq_zero_or_one _
  rcases e with e | e <;> simp [bit, Nat.testBit, Nat.and_comm, Nat.and_one_is_mod, e]

/-- A link reads as it was written. -/
@[simp] theorem State.link_setLink (s : State) (n : Nat) (x : Link) : (s.setLink n x).link n = x :=
  Tbl.getD_put_self _ _ _ _

/-- The host's write is mirrored nowhere when no standby takes it (R396). -/
theorem mirror_unmirrored {s : State} {req : Nat} (h : s.unmirrored req) (off : Nat) (wide : Bool) (data : Nat) :
    s.mirror off wide data req = s := by
  unfold State.mirror
  rcases h with h | h <;> simp [h]

/-- A write meets its page in the state itself when no standby takes it. -/
theorem meets_unmirrored {s : State} {p req : Nat} (h : s.unmirrored req) (ha : s.admits p req = true) (off : Nat) (wide : Bool)
    (data : Nat) : s.meets p req off wide data s :=
  ⟨(mirror_unmirrored h off wide data).symm, ha⟩

theorem gate_meets {s t : State} {p req a d off : Nat} {w : Bool} {f : State → State} (h : s.meets p req a w d t) :
    (s.mirror a w d req).gate p req off f = f t := by
  obtain ⟨rfl, h⟩ := h
  simp [State.gate, h]

theorem gateH_meets {s t : State} {p req off d : Nat} {f : State → State} (h : s.meets32 p req off d t) :
    s.gateH p req off d f = f t := gate_meets h

theorem gateW_meets {s t : State} {p req off d : Nat} {f : State → State} (h : s.meets64 p req off d t) :
    s.gateW p req off d f = f t := gate_meets h

theorem ctrlGate_meets {s t : State} {p req d : Nat} (h : s.meets32 p req 8 d t) : s.ctrlGate p req d = t.ctrlWrite p d :=
  gateH_meets h

theorem gateU_meets {s t : State} {b : Blk} {n p req off d : Nat} {f : State → State} (hn : n < unitCount s.variant b)
    (hp : b.page n = p) (h : s.meets32 p req off d t) : s.gateU b n req off d f = f t := by
  subst hp
  simp [State.gateU, hn, gateH_meets h]

theorem bell_meets {s t : State} {q req off v : Nat} {f : State → State} (hq : q < 4096)
    (h : s.meets pgHQF req (0x200000 + 64 * q + off) false v t) : s.bell q req false off v f = f t := by
  unfold State.bell
  rw [if_neg (by omega)]
  exact gate_meets h

theorem readGate_readable {s : State} {p req : Nat} {f : State → State} (h : s.readable p req) : s.readGate p req f = f s := by
  obtain ⟨a, b, c⟩ := h
  simp [State.readGate, a, b, c]

end Sys2Proof.Machine
end

