-- ==== Sys2Proof/Laws/Events.lean ====
section
/-!
SUPPORT. What raising an event can do: it changes the event channels, the events of the cycle, the page of EVF, registers of
EVF, PWRC and BIC, and, on an asynchronous channel, outputs, pulses and a wake; nothing else.
-/

namespace Sys2Proof.Machine

/-- A page whose registers an event may change: EVF, PWRC (a wake), BIC (a latch). -/
def evPage (q : Nat) : Prop := q = pgEVF ∨ q = pgPWRC ∨ q = pgBIC

/-- State `b` differs from `a` by what events do alone. -/
structure EvSame (a b : State) : Prop where
  same : b = { a with
    pages := b.pages
    regs := b.regs
    chans := b.chans
    evs := b.evs
    out := b.out
    hits := b.hits
    pulses := b.pulses
    pwr := b.pwr }
  page : ∀ q, q ≠ pgEVF → b.page q = a.page q
  wf : Tbl.wf a.regs = true → Tbl.wf b.regs = true
  rg : Tbl.wf a.regs = true → ∀ q o, ¬ evPage q → o < 4096 → b.rg q o = a.rg q o

theorem EvSame.refl (a : State) : EvSame a a := ⟨rfl, fun _ _ => rfl, id, fun _ _ _ _ _ => rfl⟩

theorem EvSame.trans {a b c : State} (h : EvSame a b) (k : EvSame b c) : EvSame a c where
  same := by rw [k.same, h.same]
  page q hq := (k.page q hq).trans (h.page q hq)
  wf w := k.wf (h.wf w)
  rg w q o hq ho := (k.rg (h.wf w) q o hq ho).trans (h.rg w q o hq ho)

theorem EvSame.foldl {α : Type} {f : State → α → State} (hf : ∀ t x, EvSame t (f t x)) :
    ∀ (l : List α) (s : State), EvSame s (l.foldl f s) := by
  intro l
  induction l with
  | nil => intro s; exact EvSame.refl s
  | cons x xs ih => intro s; exact (hf s x).trans (ih (f s x))

theorem EvSame.foldlMem {α : Type} {f : State → α → State} : ∀ (l : List α) (s : State),
    (∀ t x, x ∈ l → EvSame t (f t x)) → EvSame s (l.foldl f s) := by
  intro l
  induction l with
  | nil => intro s _; exact EvSame.refl s
  | cons x xs ih =>
    intro s hf
    exact (hf s x (by simp)).trans (ih (f s x) (fun t y hy => hf t y (by simp [hy])))

theorem EvSame.ite {c : Prop} [Decidable c] {s a b : State} (h : EvSame s a) (k : EvSame s b) :
    EvSame s (if c then a else b) := by
  split
  · exact h
  · exact k

/-- A register of such a page written. -/
theorem EvSame.setRgOf (s : State) {p o : Nat} (hp : evPage p) (ho : o < 4096) (v : Nat) : EvSame s (s.setRg p o v) where
  same := rfl
  page _ _ := rfl
  wf w := State.setRg_wf w _ _ _
  rg w _ _ hq hr := State.rg_setRg_ne w _ (fun e => hq ((regKey_inj hr ho e).1 ▸ hp))

/-- A register of EVF written. -/
theorem EvSame.setRg (s : State) {o : Nat} (ho : o < 4096) (v : Nat) : EvSame s (s.setRg pgEVF o v) :=
  EvSame.setRgOf s (.inl rfl) ho v

/-- Outputs, the times of hits and pulses, the power state changed. -/
theorem EvSame.rest (s : State) (o : List Out) (h p : Tbl Nat) (w : Pwr) :
    EvSame s { s with out := o, hits := h, pulses := p, pwr := w } :=
  ⟨rfl, fun _ _ => rfl, id, fun _ _ _ _ _ => rfl⟩

/-- An error event of EVF. -/
theorem EvSame.err (s : State) (b code ctx : Nat) : EvSame s (s.err pgEVF b code ctx) :=
  ⟨rfl, fun _ hq => State.page_err_ne _ _ _ _ hq, id, fun _ _ _ _ _ => rfl⟩

theorem EvSame.setIst (s : State) (b : Nat) : EvSame s (s.setIst pgEVF b) :=
  ⟨rfl, fun _ hq => State.page_setPage_ne _ _ hq, id, fun _ _ _ _ _ => rfl⟩

theorem EvSame.setChan (s : State) (ch : Nat) (c : Chan) : EvSame s (s.setChan ch c) :=
  ⟨rfl, fun _ _ => rfl, id, fun _ _ _ _ _ => rfl⟩

theorem EvSame.evs (s : State) (l : List Ev) : EvSame s { s with evs := l } :=
  ⟨rfl, fun _ _ => rfl, id, fun _ _ _ _ _ => rfl⟩

theorem showPwr_evSame (s : State) : EvSame s s.showPwr :=
  (EvSame.setRgOf s (.inr (.inl rfl)) (by decide) _).trans (EvSame.setRgOf _ (.inr (.inl rfl)) (by decide) _)

theorem wakeBy_evSame (s : State) (cause : Nat) (works : List Nat) : EvSame s (s.wakeBy cause works) := by
  unfold State.wakeBy
  extract_lets x s1 s2
  have h1 : EvSame s s1 :=
    (EvSame.setRgOf s (.inr (.inl rfl)) (by decide) _).trans (EvSame.setRgOf _ (.inr (.inl rfl)) (by decide) _)
  have h2 : EvSame s s2 := EvSame.ite (h1.trans (EvSame.setRgOf _ (.inr (.inl rfl)) (by decide) _)) h1
  clear_value s1 s2
  exact EvSame.ite (EvSame.refl s) (h2.trans ((EvSame.rest s2 s2.out s2.hits s2.pulses _).trans (showPwr_evSame _)))

theorem pin_evSame (s : State) (p k lvl : Nat) : EvSame s (s.pin p k lvl) :=
  EvSame.ite (EvSame.refl s) (EvSame.rest s _ s.hits s.pulses s.pwr)

theorem gpioSet_evSame (s : State) (g : Nat) (l : Bool) : EvSame s (s.gpioSet g l) := by
  unfold State.gpioSet
  exact EvSame.ite (EvSame.refl s) (((EvSame.setRg s (by decide) _).trans (EvSame.setRg _ (by decide) _)).trans
    (pin_evSame _ _ _ _))

theorem gpioTask_evSame (s : State) (g : Nat) : EvSame s (s.gpioTask g) := by
  unfold State.gpioTask
  extract_lets c
  refine EvSame.ite (EvSame.refl s) ?_
  split
  · exact gpioSet_evSame s g true
  · exact gpioSet_evSame s g false
  · exact gpioSet_evSame s g _
  · exact (gpioSet_evSame s g true).trans (EvSame.rest (s.gpioSet g true) (s.gpioSet g true).out (s.gpioSet g true).hits _
      (s.gpioSet g true).pwr)

theorem hit_evSame (s : State) (p k at_ : Nat) {f : State → State} (hf : ∀ t, EvSame t (f t)) : EvSame s (s.hit p k at_ f) := by
  unfold State.hit
  exact EvSame.ite (EvSame.setRg s (by decide) _) ((EvSame.rest s s.out _ s.pulses s.pwr).trans (hf _))

theorem latchSee_evSame (s : State) (gpio : Bool) (idx : Nat) (rising falling : Bool) :
    EvSame s (s.latchSee gpio idx rising falling) := by
  refine EvSame.foldlMem _ _ (fun t n hn => ?_)
  have hb : Reg.BIC.ALAT n < 4096 := by simp only [List.mem_range] at hn; simp only [Reg.BIC.ALAT]; omega
  have h := EvSame.setRgOf t (p := pgBIC) (.inr (.inr rfl)) hb (setBits (t.rg pgBIC (Reg.BIC.ALAT n)) 24 24 1)
  exact EvSame.ite (EvSame.ite (h.trans (wakeBy_evSame _ _ _)) h) (EvSame.refl t)

/-- What an event on an asynchronous channel does at once (R341). -/
theorem asyncActs_evSame (s : State) (ch : Nat) (c : Chan) : EvSame s (s.asyncActs ch c) := by
  unfold State.asyncActs
  refine EvSame.trans (EvSame.foldl (fun t v => ?_) _ _) (latchSee_evSame _ _ _ _ _)
  exact EvSame.ite (EvSame.refl t) (EvSame.ite (hit_evSame t _ _ _ (fun u => gpioTask_evSame u _))
    (EvSame.ite (hit_evSame t _ _ _ (fun u => wakeBy_evSame u _ _)) (EvSame.refl t)))

theorem merge_evSame (s : State) (e : Ev) : EvSame s (s.merge e) := by
  unfold State.merge
  split
  · simp only
    split
    · exact (EvSame.setRg s (by decide) _).trans (EvSame.evs _ _)
    · exact EvSame.setRg s (by decide) _
  · have h := (EvSame.setChan s e.ch { s.chan e.ch with cfire := ((s.chan e.ch).cfire + 1) % 2 ^ 32 }).trans
      (EvSame.evs _ (s.evs ++ [e]))
    exact EvSame.ite (h.trans (asyncActs_evSame _ _ _)) h

theorem enterNew_evSame (s : State) (ch kind index ovs arg : Nat) (mark : Option Nat) :
    EvSame s (s.enterNew ch kind index ovs arg mark) := by
  unfold State.enterNew
  simp only
  split
  · exact EvSame.refl s
  · split
    · exact (EvSame.err s _ _ _).trans (EvSame.setRg _ (by decide) _)
    · exact merge_evSame s _

theorem raise_evSame (s : State) (p evt arg : Nat) : EvSame s (s.raise p evt arg) :=
  EvSame.foldl (fun t ch => enterNew_evSame t ch 1 0 0 arg none) _ _

/-- An event that is also an interrupt status bit: besides what the event does, the page's IST bit is set (R332). -/
theorem happen_evSame (s : State) (p b arg : Nat) : EvSame (s.setIst p b) (s.happen p b arg) := raise_evSame _ _ _ _

theorem happen_page {s : State} {p q b arg : Nat} (hq : q ≠ pgEVF) (hp : q ≠ p) : (s.happen p b arg).page q = s.page q :=
  ((happen_evSame s p b arg).page q hq).trans (State.page_setPage_ne _ _ hp)

theorem loopDrop_evSame (s : State) (ch origin : Nat) : EvSame s (s.loopDrop ch origin) := by
  have step : ∀ (t : State) (b code ctx arg : Nat), EvSame t ((t.err pgEVF b code ctx).happen pgEVF b arg) := fun t b code ctx arg =>
    (EvSame.err t b code ctx).trans ((EvSame.setIst _ b).trans (happen_evSame _ pgEVF b arg))
  unfold State.loopDrop
  simp only
  split
  · exact (((EvSame.setChan s _ _).trans (EvSame.setRg _ (by decide) _)).trans (step _ _ _ _ _)).trans
      ((EvSame.setChan _ _ _).trans (step _ _ _ _ _))
  · exact ((EvSame.setChan s _ _).trans (EvSame.setRg _ (by decide) _)).trans (step _ _ _ _ _)

theorem enterChain_evSame (s : State) (ch arg origin depth : Nat) : EvSame s (s.enterChain ch arg origin depth) := by
  unfold State.enterChain
  simp only
  split
  · exact EvSame.refl s
  · split
    · exact (EvSame.err s _ _ _).trans (EvSame.setRg _ (by decide) _)
    · split
      · exact loopDrop_evSame s ch origin
      · exact merge_evSame s _

theorem raiseFrom_evSame (s : State) (p evt arg : Nat) (o : Option (Nat × Nat)) : EvSame s (s.raiseFrom p evt arg o) := by
  cases o with
  | none => exact raise_evSame s p evt arg
  | some x => exact EvSame.foldl (fun t ch => enterChain_evSame t ch arg x.1 (x.2 + 1)) _ _

end Sys2Proof.Machine
end

