-- ==== Sys2Proof/Laws/KeepsBase.lean ====
section
/-!
SUPPORT. What the named operations keep: shared operations, SRAM, DRAM, queues. One lemma per operation.
-/

set_option Elab.async false

namespace Sys2Proof.Machine

theorem State.setRg64_keeps {a : State} {s : State} {p : Nat} {o : Nat} {v : Nat} (h : Keeps a s) : Keeps a
    (State.setRg64 s p o v) := by
  unfold State.setRg64
  exact (State.setRg_keeps (State.setRg_keeps h))

theorem State.setRgI_keeps {a : State} {s : State} {p : Nat} {o : Nat} {v : Int} (h : Keeps a s) : Keeps a
    (State.setRgI s p o v) := by
  unfold State.setRgI
  exact (State.setRg64_keeps h)

theorem State.setFl_keeps {a : State} {s : State} {p : Nat} {o : Nat} {hi : Nat} {lo : Nat} {v : Nat} (h : Keeps a s)
    : Keeps a (State.setFl s p o hi lo v) := by
  unfold State.setFl
  exact (State.setRg_keeps h)

theorem State.sat_keeps {a : State} {s : State} {p : Nat} {o : Nat} {n : Nat} (h : Keeps a s) : Keeps a (State.sat s p
    o n) := by
  unfold State.sat
  exact (State.setRg_keeps h)

theorem State.inc_keeps {a : State} {s : State} {p : Nat} {o : Nat} {n : Nat} (h : Keeps a s) : Keeps a (State.inc s p
    o n) := by
  unfold State.inc
  exact (State.setRg_keeps h)

theorem State.inc64_keeps {a : State} {s : State} {p : Nat} {o : Nat} {n : Nat} (h : Keeps a s) : Keeps a (State.inc64
    s p o n) := by
  unfold State.inc64
  exact (State.setRg64_keeps h)

theorem State.emit_keeps {a : State} {s : State} {o : Out} (h : Keeps a s) : Keeps a (State.emit s o) := by
  unfold State.emit
  exact (Keeps.upd h)

theorem State.drawn_keeps {a : State} {s : State} (h : Keeps a s) : Keeps a (State.drawn s) := by
  unfold State.drawn
  exact (Keeps.upd h)

theorem State.commitShadow_keeps {a : State} {s : State} {p : Nat} (h : Keeps a s) : Keeps a (State.commitShadow s p)
    := by
  unfold State.commitShadow
  exact (Keeps.upd (Keeps.foldl h (fun _ _ h0 => (State.setRg_keeps h0))))

theorem State.dropShadow_keeps {a : State} {s : State} {p : Nat} (h : Keeps a s) : Keeps a (State.dropShadow s p) := by
  unfold State.dropShadow
  exact (Keeps.upd h)

theorem State.commitStored_keeps {a : State} {s : State} {p : Nat} (h : Keeps a s) : Keeps a (State.commitStored s p)
    := by
  unfold State.commitStored
  exact (Keeps.upd (Keeps.foldl h (fun _ _ h0 => (State.setRg_keeps h0))))

theorem State.applySet_keeps {a : State} {s : State} {p : Nat} (h : Keeps a s) : Keeps a (State.applySet s p) := by
  unfold State.applySet
  exact (State.setPage_keeps (State.commitShadow_keeps h))

theorem State.refuseSet_keeps {a : State} {s : State} {p : Nat} (h : Keeps a s) : Keeps a (State.refuseSet s p) := by
  unfold State.refuseSet
  exact (State.setPage_keeps (State.dropShadow_keeps h))

theorem State.toFault_keeps {a : State} {s : State} {p : Nat} (h : Keeps a s) : Keeps a (State.toFault s p) := by
  unfold State.toFault
  exact (by (try dsimp only); split; exact h; exact (State.setPage_keeps h))

theorem State.pin_keeps {a : State} {s : State} {p : Nat} {k : Nat} {lvl : Nat} (h : Keeps a s) : Keeps a (State.pin s
    p k lvl) := by
  unfold State.pin
  exact (Keeps.ite h (State.emit_keeps h))

theorem State.showPwr_keeps {a : State} {s : State} (h : Keeps a s) : Keeps a (State.showPwr s) := by
  unfold State.showPwr
  exact (State.setFl_keeps (State.setFl_keeps h))

theorem State.wakeBy_keeps {a : State} {s : State} {cause : Nat} {works : List Nat} (h : Keeps a s) : Keeps a
    (State.wakeBy s cause works) := by
  unfold State.wakeBy
  exact (Keeps.ite h (State.showPwr_keeps (Keeps.upd (Keeps.ite (State.sat_keeps (State.setFl_keeps (State.inc_keeps
    h))) (State.setFl_keeps (State.inc_keeps h))))))

theorem State.gpioSet_keeps {a : State} {s : State} {g : Nat} {l : Bool} (h : Keeps a s) : Keeps a (State.gpioSet s g
    l) := by
  unfold State.gpioSet
  exact (Keeps.ite h (State.pin_keeps (State.setRg64_keeps h)))

theorem State.gpioTask_keeps {a : State} {s : State} {g : Nat} (h : Keeps a s) : Keeps a (State.gpioTask s g) := by
  unfold State.gpioTask
  exact (Keeps.ite h (by split; exact (State.gpioSet_keeps h); exact (State.gpioSet_keeps h); exact (State.gpioSet_keeps h); exact (Keeps.upd (State.gpioSet_keeps h))))

theorem State.latchSee_keeps {a : State} {s : State} {gpio : Bool} {idx : Nat} {rising : Bool} {falling : Bool} (h :
    Keeps a s) : Keeps a (State.latchSee s gpio idx rising falling) := by
  unfold State.latchSee
  exact (Keeps.foldl h (fun _ _ h0 => (Keeps.ite (Keeps.ite (State.wakeBy_keeps (State.setFl_keeps h0))
    (State.setFl_keeps h0)) h0)))

theorem State.hit_keeps {a : State} {s : State} {p : Nat} {k : Nat} {at_ : Nat} {f : State → State} (h : Keeps a s)
    (hf : ∀ t, Keeps a t → Keeps a (f t)) : Keeps a (State.hit s p k at_ f) := by
  unfold State.hit
  exact (Keeps.ite (State.inc_keeps h) (hf _ (Keeps.upd h)))

theorem State.asyncActs_keeps {a : State} {s : State} {ch : Nat} {c : Chan} (h : Keeps a s) : Keeps a (State.asyncActs
    s ch c) := by
  unfold State.asyncActs
  exact (State.latchSee_keeps (Keeps.foldl h (fun _ _ h0 => (Keeps.ite h0 (Keeps.ite (State.hit_keeps h0 (fun _ h1 =>
    (State.gpioTask_keeps h1))) (Keeps.ite (State.hit_keeps h0 (fun _ h1 => (State.wakeBy_keeps h1))) h0))))))

theorem State.err_keeps {a : State} {s : State} {p : Nat} {b : Nat} {code : Nat} {ctx : Nat} (h : Keeps a s) : Keeps a
    (State.err s p b code ctx) := by
  unfold State.err
  exact (State.setPage_keeps h)

theorem State.errBit_keeps {a : State} {s : State} {p : Nat} {b : Nat} (h : Keeps a s) : Keeps a (State.errBit s p b)
    := by
  unfold State.errBit
  exact (State.err_keeps h)

theorem State.logOnly_keeps {a : State} {s : State} {p : Nat} {code : Nat} {ctx : Nat} (h : Keeps a s) : Keeps a
    (State.logOnly s p code ctx) := by
  unfold State.logOnly
  exact (State.setPage_keeps h)

theorem State.errSilent_keeps {a : State} {s : State} {p : Nat} {b : Nat} (h : Keeps a s) : Keeps a (State.errSilent s
    p b) := by
  unfold State.errSilent
  exact (State.setPage_keeps h)

theorem State.setIst_keeps {a : State} {s : State} {p : Nat} {b : Nat} (h : Keeps a s) : Keeps a (State.setIst s p b)
    := by
  unfold State.setIst
  exact (State.setPage_keeps h)

theorem State.setChan_keeps {a : State} {s : State} {ch : Nat} {c : Chan} (h : Keeps a s) : Keeps a (State.setChan s
    ch c) := by
  unfold State.setChan
  exact (Keeps.upd h)

theorem State.merge_keeps {a : State} {s : State} {e : Ev} (h : Keeps a s) : Keeps a (State.merge s e) := by
  unfold State.merge
  exact (by split; exact (Keeps.ite (Keeps.upd (State.inc_keeps h)) (State.inc_keeps h)); exact (Keeps.ite (State.asyncActs_keeps (Keeps.upd (State.setChan_keeps h))) (Keeps.upd (State.setChan_keeps h))))

theorem State.enterNew_keeps {a : State} {s : State} {ch : Nat} {kind : Nat} {index : Nat} {ovs : Nat} {arg : Nat}
    {mark : Option Nat} (h : Keeps a s) : Keeps a (State.enterNew s ch kind index ovs arg mark) := by
  unfold State.enterNew
  exact (Keeps.ite h (Keeps.ite (State.sat_keeps (State.err_keeps h)) (State.merge_keeps h)))

theorem State.raise_keeps {a : State} {s : State} {p : Nat} {evt : Nat} {arg : Nat} (h : Keeps a s) : Keeps a
    (State.raise s p evt arg) := by
  unfold State.raise
  exact (Keeps.foldl h (fun _ _ h0 => (State.enterNew_keeps h0)))

theorem State.happen_keeps {a : State} {s : State} {p : Nat} {b : Nat} {arg : Nat} (h : Keeps a s) : Keeps a
    (State.happen s p b arg) := by
  unfold State.happen
  exact (State.raise_keeps (State.setIst_keeps h))

theorem State.loopDrop_keeps {a : State} {s : State} {ch : Nat} {origin : Nat} (h : Keeps a s) : Keeps a
    (State.loopDrop s ch origin) := by
  unfold State.loopDrop
  exact (Keeps.ite (State.happen_keeps (State.err_keeps (State.setChan_keeps (State.happen_keeps (State.err_keeps
    (State.sat_keeps (State.setChan_keeps h))))))) (State.happen_keeps (State.err_keeps (State.sat_keeps
    (State.setChan_keeps h)))))

theorem State.enterChain_keeps {a : State} {s : State} {ch : Nat} {arg : Nat} {origin : Nat} {depth : Nat} (h : Keeps
    a s) : Keeps a (State.enterChain s ch arg origin depth) := by
  unfold State.enterChain
  exact (Keeps.ite h (Keeps.ite (State.sat_keeps (State.err_keeps h)) (Keeps.ite (State.loopDrop_keeps h)
    (State.merge_keeps h))))

theorem State.raiseFrom_keeps {a : State} {s : State} {p : Nat} {evt : Nat} {arg : Nat} {z4 : Option (Nat × Nat)} (h :
    Keeps a s) : Keeps a (State.raiseFrom s p evt arg z4) := by
  unfold State.raiseFrom
  exact (by split; exact (State.raise_keeps h); exact (Keeps.foldl h (fun _ _ h0 => (State.enterChain_keeps h0))))

theorem State.happenFrom_keeps {a : State} {s : State} {p : Nat} {b : Nat} {arg : Nat} {c : Option (Nat × Nat)} (h :
    Keeps a s) : Keeps a (State.happenFrom s p b arg c) := by
  unfold State.happenFrom
  exact (State.raiseFrom_keeps (State.setIst_keeps h))

theorem State.quarantine_keeps {a : State} {s : State} {p : Nat} {code : Nat} (h : Keeps a s) : Keeps a
    (State.quarantine s p code) := by
  unfold State.quarantine
  exact (State.toFault_keeps (State.err_keeps h))

theorem State.violate_keeps {a : State} {s : State} {p : Nat} {code : Nat} (h : Keeps a s) : Keeps a (State.violate s
    p code) := by
  unfold State.violate
  exact (Keeps.ite (State.quarantine_keeps (State.setPage_keeps h)) (State.setPage_keeps h))

theorem State.sramCe_keeps {a : State} {s : State} {part : Nat} {word : Nat} (h : Keeps a s) : Keeps a (State.sramCe s
    part word) := by
  unfold State.sramCe
  exact (Keeps.ite (State.err_keeps (State.setIst_keeps (State.sat_keeps (Keeps.upd h)))) (State.errSilent_keeps
    (State.setIst_keeps (State.sat_keeps (Keeps.upd h)))))

theorem State.sramUe_keeps {a : State} {s : State} {part : Nat} {word : Nat} (h : Keeps a s) : Keeps a (State.sramUe s
    part word) := by
  unfold State.sramUe
  exact (State.happen_keeps (State.err_keeps (State.setRg_keeps (State.sat_keeps h))))

theorem State.sramRead_keeps {a : State} {s : State} {part : Nat} {word : Nat} (h : Keeps a s) : Keeps a
    (State.sramRead s part word).1 := by
  unfold State.sramRead
  exact (Keeps.ite1 (Keeps.upd h) (Keeps.ite1 (State.sramCe_keeps (Keeps.upd h)) (State.sramUe_keeps (Keeps.upd h))))

theorem State.sramMeets_keeps {a : State} {s : State} {part : Nat} {unit : Nat} {item : Nat} (h : Keeps a s) : Keeps a
    (State.sramMeets s part unit item).1 := by
  unfold State.sramMeets
  exact (Keeps.ite1 h (State.sramRead_keeps h))

theorem State.sramSpan_keeps {a : State} {s : State} {part : Nat} {first : Nat} {n : Nat} (h : Keeps a s) : Keeps a
    (State.sramSpan s part first n).1 := by
  unfold State.sramSpan
  exact (Keeps.foldl1 h (fun _ _ h0 => (State.sramRead_keeps h0)))

theorem State.sramFill_keeps {a : State} {s : State} {part : Nat} {first : Nat} {n : Nat} (h : Keeps a s) : Keeps a
    (State.sramFill s part first n) := by
  unfold State.sramFill
  exact (Keeps.upd h)

theorem State.sramItems_keeps {a : State} {α : Type} {s : State} {part : Nat} {unit : Nat} {key : α → Nat} {xs : List
    α} (h : Keeps a s) : Keeps a (State.sramItems s part unit key xs).1 := by
  unfold State.sramItems
  exact (Keeps.ite1 h (Keeps.foldl1 h (fun _ _ h0 => (State.sramMeets_keeps h0))))

theorem State.sramPut_keeps {a : State} {s : State} {part : Nat} {unit : Nat} {item : Nat} (h : Keeps a s) : Keeps a
    (State.sramPut s part unit item) := by
  unfold State.sramPut
  exact (Keeps.ite h (Keeps.upd h))

theorem State.sramUpset_keeps {a : State} {s : State} {part : Nat} {word : Nat} {flips : Nat} (h : Keeps a s) : Keeps
    a (State.sramUpset s part word flips) := by
  unfold State.sramUpset
  exact (Keeps.ite h (Keeps.upd h))

theorem State.injectWrite_keeps {a : State} {s : State} {v : Nat} (h : Keeps a s) : Keeps a (State.injectWrite s v) := by
  unfold State.injectWrite
  exact (Keeps.ite h (Keeps.ite (State.err_keeps h) (Keeps.upd h)))

theorem State.sramOnWrite_keeps {a : State} {s : State} {o : Nat} {v : Nat} (h : Keeps a s) : KeepsO a
    (State.sramOnWrite s o v) := by
  unfold State.sramOnWrite
  exact (KeepsO.ite (KeepsO.some (State.injectWrite_keeps h)) (KeepsO.ite (KeepsO.some (State.err_keeps h)) KeepsO.none))

theorem State.sramZero_keeps {a : State} {s : State} {part : Nat → Bool} (h : Keeps a s) : Keeps a (State.sramZero s
    part) := by
  unfold State.sramZero
  exact (Keeps.upd h)

theorem State.dramError_keeps {a : State} {s : State} {w : Who} {wr : Bool} {code : Nat} {z4 : Nat} (h : Keeps a s) :
    Keeps a (State.dramError s w wr code z4) := by
  unfold State.dramError
  exact (Keeps.ite (State.happen_keeps (State.setRg_keeps (State.setRg64_keeps (State.sat_keeps (State.err_keeps
    h))))) (Keeps.ite (State.happen_keeps (State.setRg_keeps (State.setRg64_keeps (State.sat_keeps (State.err_keeps
    h))))) (State.setRg_keeps (State.setRg64_keeps (State.sat_keeps (State.err_keeps h))))))

theorem State.setDmc_keeps {a : State} {s : State} {n : Nat} {x : DramChan} (h : Keeps a s) : Keeps a (State.setDmc s
    n x) := by
  unfold State.setDmc
  exact (Keeps.upd h)

theorem State.dmcEnter_keeps {a : State} {s : State} {n : Nat} {r : DramReq} (h : Keeps a s) : Keeps a (State.dmcEnter
    s n r) := by
  unfold State.dmcEnter
  exact (Keeps.ite (State.inc_keeps (State.setDmc_keeps h)) (State.setDmc_keeps h))

theorem State.dmcAdmit_keeps {a : State} {s : State} {n : Nat} (h : Keeps a s) : Keeps a (State.dmcAdmit s n) := by
  unfold State.dmcAdmit
  exact (Keeps.foldl (State.setDmc_keeps h) (fun _ _ h0 => (State.dmcEnter_keeps h0)))

theorem State.dmcArrive_keeps {a : State} {s : State} {w : Who} {wr : Bool} {z3 : Nat} {n : Nat} (h : Keeps a s) :
    Keeps a (State.dmcArrive s w wr z3 n) := by
  unfold State.dmcArrive
  exact (Keeps.foldl h (fun _ _ h0 => (State.setDmc_keeps h0)))

theorem State.dramUpset_keeps {a : State} {s : State} {ce : List Nat} {ue : List Nat} (h : Keeps a s) : Keeps a
    (State.dramUpset s ce ue) := by
  unfold State.dramUpset
  exact (Keeps.upd h)

theorem State.dramCe_keeps {a : State} {s : State} {w : Who} {z2 : Nat} (h : Keeps a s) : Keeps a (State.dramCe s w
    z2) := by
  unfold State.dramCe
  exact (Keeps.ite (State.err_keeps (State.setIst_keeps (State.sat_keeps (Keeps.upd h)))) (State.errSilent_keeps
    (State.setIst_keeps (State.sat_keeps (Keeps.upd h)))))

theorem State.dramMeets_keeps {a : State} {s : State} {w : Who} {wr : Bool} {z3 : Nat} {n : Nat} (h : Keeps a s) :
    Keeps a (State.dramMeets s w wr z3 n) := by
  unfold State.dramMeets
  exact (Keeps.foldl (Keeps.upd h) (fun _ _ h0 => (State.dramCe_keeps h0)))

theorem State.countBytes_keeps {a : State} {s : State} {wr : Bool} {z2 : Nat} {n : Nat} (h : Keeps a s) : Keeps a
    (State.countBytes s wr z2 n) := by
  unfold State.countBytes
  exact (Keeps.foldl h (fun _ _ h0 => (State.inc64_keeps h0)))

theorem State.dramPass_keeps {a : State} {s : State} {w : Who} {wr : Bool} {z3 : Nat} {n : Nat} (h : Keeps a s) :
    Keeps a (State.dramPass s w wr z3 n) := by
  unfold State.dramPass
  exact (State.dmcArrive_keeps (State.dramMeets_keeps (State.countBytes_keeps h)))

theorem State.dramRead_keeps {a : State} {s : State} {w : Who} {z2 : Nat} {n : Nat} (h : Keeps a s) : Keeps a
    (State.dramRead s w z2 n).1 := by
  unfold State.dramRead
  exact (by split; exact (State.dramError_keeps h); exact (State.dramPass_keeps h))

theorem State.dramMeets_dramLost {s : State} {w : Who} {wr : Bool} {z n : Nat} : (s.dramMeets w wr z n).dramLost =
    s.dramLost := by
  have f : ∀ (l : List Nat) (t : State), (l.foldl (fun u b => u.dramCe w b) t).dramLost = t.dramLost := by
    intro l
    induction l with
    | nil => intro t; rfl
    | cons x r ih =>
      intro t
      rw [List.foldl_cons, ih]
      unfold State.dramCe
      dsimp only
      split <;> rfl
  unfold State.dramMeets
  exact f _ _

theorem State.dmcArrive_dramLost {s : State} {w : Who} {wr : Bool} {z n : Nat} : (s.dmcArrive w wr z n).dramLost =
    s.dramLost := by
  unfold State.dmcArrive
  generalize pieces (n / 256 + 2) z n = l
  induction l generalizing s with
  | nil => rfl
  | cons x r ih => exact ih

theorem State.countBytes_dramLost {s : State} {wr : Bool} {z n : Nat} : (s.countBytes wr z n).dramLost = s.dramLost := by
  unfold State.countBytes
  generalize pieces (n / 256 + 2) z n = l
  induction l generalizing s with
  | nil => rfl
  | cons x r ih => exact ih

/-- An access changes what its channels hold and show, and no content. -/
theorem State.dramPass_dramLost {s : State} {w : Who} {wr : Bool} {z n : Nat} : (s.dramPass w wr z n).dramLost =
    s.dramLost :=
  State.dmcArrive_dramLost.trans (State.dramMeets_dramLost.trans State.countBytes_dramLost)

theorem State.dramWrite_keeps {a s : State} {w : Who} {z : Nat} {bs : List Byte} (h : Keeps a s) :
    Keeps a (State.dramWrite s w z bs).1 := by
  unfold State.dramWrite
  split
  · exact State.dramError_keeps h
  · have k := State.dramPass_keeps (w := w) (wr := true) (z3 := z) (n := bs.length) h
    refine ⟨k.variant, k.pending, fun i => ⟨⟨?_, (k.inv i).1.2⟩, (k.inv i).2⟩⟩
    show Memory.wf (dramEmpty (s.dramPass w true z bs.length).dramLost) _ = true
    rw [State.dramPass_dramLost]
    exact Memory.wf_setBytes (h.inv i).1.1

theorem State.setHostBytes_keeps {a s : State} {fn z : Nat} {bs : List Byte} (h : Keeps a s) :
    Keeps a (State.setHostBytes s fn z bs) := by
  unfold State.setHostBytes
  split
  · exact ⟨h.variant, h.pending, fun i => ⟨⟨(h.inv i).1.1, Memory.wf_setBytes (h.inv i).1.2.1, (h.inv i).1.2.2⟩,
    (h.inv i).2⟩⟩
  · exact ⟨h.variant, h.pending, fun i => ⟨⟨(h.inv i).1.1, (h.inv i).1.2.1, Memory.wf_setBytes (h.inv i).1.2.2⟩,
    (h.inv i).2⟩⟩

theorem State.put_keeps {a : State} {s : State} {w : Who} {host : Bool} {fn : Nat} {z4 : Nat} {bs : List Byte} (h :
    Keeps a s) : Keeps a (State.put s w host fn z4 bs).1 := by
  unfold State.put
  exact (Keeps.ite1 (by split; exact h; exact (State.setHostBytes_keeps h)) (by split; exact (Keeps.fst ‹_› (State.dramWrite_keeps h)); exact (Keeps.fst ‹_› (State.dramWrite_keeps h))))

theorem State.hostRequest_keeps {a : State} {s : State} {kind : Nat} {num : Nat} {fn : Nat} {z4 : Nat} {n : Nat} (h :
    Keeps a s) : Keeps a (State.hostRequest s kind num fn z4 n).1 := by
  unfold State.hostRequest
  exact (by split; exact h; exact (Keeps.ite1 h (Keeps.upd h)))

theorem State.hostFetch_keeps {a : State} {s : State} {kind : Nat} {num : Nat} {fn : Nat} {z4 : Nat} {n : Nat} (h :
    Keeps a s) : Keeps a (State.hostFetch s kind num fn z4 n).1 := by
  unfold State.hostFetch
  exact (by split; exact h; exact (Keeps.foldl1 h (fun _ _ h0 => (State.hostRequest_keeps h0))))

theorem State.hostDiscard_keeps {a : State} {s : State} {f : HostRead → Bool} (h : Keeps a s) : Keeps a
    (State.hostDiscard s f) := by
  unfold State.hostDiscard
  exact (Keeps.upd h)

theorem State.hostForget_keeps {a : State} {s : State} {kind : Nat} {num : Nat} (h : Keeps a s) : Keeps a
    (State.hostForget s kind num) := by
  unfold State.hostForget
  exact (State.hostDiscard_keeps h)

theorem State.ownerError_keeps {a : State} {s : State} {p : Nat} {req : Nat} (h : Keeps a s) : Keeps a
    (State.ownerError s p req) := by
  unfold State.ownerError
  exact (State.err_keeps h)

theorem State.accessError_keeps {a : State} {s : State} {p : Nat} {off : Nat} (h : Keeps a s) : Keeps a
    (State.accessError s p off) := by
  unfold State.accessError
  exact (State.err_keeps h)

theorem State.gate_keeps {a : State} {s : State} {p : Nat} {req : Nat} {off : Nat} {f : State → State} (h : Keeps a s)
    (hf : ∀ t, Keeps a t → Keeps a (f t)) : Keeps a (State.gate s p req off f) := by
  unfold State.gate
  exact (Keeps.ite (hf _ h) (Keeps.ite h (Keeps.ite (State.ownerError_keeps h) (State.accessError_keeps h))))

theorem State.writeS_keeps {a : State} {s : State} {p : Nat} {o : Nat} {v : Nat} {m : Nat} (h : Keeps a s) : Keeps a
    (State.writeS s p o v m) := by
  unfold State.writeS
  exact (Keeps.ite h (Keeps.ite (State.err_keeps h) (Keeps.ite (Keeps.upd h) (State.setRg_keeps (Keeps.upd h)))))

theorem State.writeB_keeps {a : State} {s : State} {p : Nat} {o : Nat} {v : Nat} {m : Nat} (h : Keeps a s) : Keeps a
    (State.writeB s p o v m) := by
  unfold State.writeB
  exact (Keeps.ite h (State.setPage_keeps (Keeps.upd h)))

theorem State.writeL_keeps {a : State} {s : State} {p : Nat} {o : Nat} {v : Nat} {m : Nat} (h : Keeps a s) : Keeps a
    (State.writeL s p o v m) := by
  unfold State.writeL
  exact (Keeps.ite h (State.setRg_keeps h))

theorem State.writeWord_keeps {a : State} {s : State} {p : Nat} {o : Nat} {v : Nat} (h : Keeps a s) : Keeps a
    (State.writeWord s p o v) := by
  unfold State.writeWord
  exact (State.writeL_keeps (State.writeB_keeps (State.writeS_keeps h)))

theorem State.bindError_keeps {a : State} {s : State} {p : Nat} {code : Nat} {slot : Nat} (h : Keeps a s) : Keeps a
    (State.bindError s p code slot) := by
  unfold State.bindError
  exact (State.err_keeps h)

theorem State.takeTrig_keeps {a : State} {s : State} {p : Nat} {task : Nat} (h : Keeps a s) : KeepsP a (State.takeTrig
    s p task) := by
  unfold State.takeTrig
  exact (by split; exact (KeepsP.some (Keeps.upd h)); exact KeepsP.none)

theorem State.setQueue_keeps {a : State} {s : State} {q : Nat} {x : Queue} (h : Keeps a s) : Keeps a (State.setQueue s
    q x) := by
  unfold State.setQueue
  exact (Keeps.upd h)

theorem State.queueError_keeps {a : State} {s : State} {q : Nat} {code : Nat} (h : Keeps a s) : Keeps a
    (State.queueError s q code) := by
  unfold State.queueError
  exact (State.setIst_keeps (State.err_keeps (State.setRg_keeps (State.sat_keeps (State.setQueue_keeps
    (State.hostForget_keeps h))))))

theorem State.writeEntries_keeps {a s : State} {w : Who} {q i : Nat} {x : Queue} {es : List (List Byte)} (h : Keeps a s) :
    Keeps a (State.writeEntries s w q x i es).1 := by
  induction es generalizing s i with
  | nil => exact h
  | cons e es ih =>
    unfold State.writeEntries
    split
    · exact ih (Keeps.fst ‹_› (State.put_keeps h))
    · exact Keeps.fst ‹_› (State.put_keeps h)

theorem State.writeShadow_keeps {a : State} {s : State} {w : Who} {q : Nat} {idx : Nat} (h : Keeps a s) : Keeps a
    (State.writeShadow s w q idx) := by
  unfold State.writeShadow
  exact (Keeps.ite h (by split; exact (Keeps.fst ‹_› (State.put_keeps h)); exact (State.queueError_keeps (Keeps.fst ‹_› (State.put_keeps h)))))

theorem State.post_keeps {a : State} {s : State} {u : Nat} {port : Nat} {es : List (List Byte)} (h : Keeps a s) :
    Keeps a (State.post s u port es).1 := by
  unfold State.post
  exact (by split; exact h; exact (Keeps.ite1 h (by split; exact (State.queueError_keeps (Keeps.fst ‹_› (State.writeEntries_keeps h))); exact (State.writeShadow_keeps (State.setQueue_keeps (Keeps.fst ‹_› (State.writeEntries_keeps h)))))))

theorem State.peek_keeps {a : State} {s : State} {u : Nat} {port : Nat} (h : Keeps a s) : Keeps a (State.peek s u
    port).1 := by
  unfold State.peek
  exact (by split; exact h; exact (Keeps.ite1 h (Keeps.ite1 h (Keeps.ite1 (by split; exact (State.queueError_keeps (Keeps.fst ‹_› (State.hostFetch_keeps h))); exact (State.setQueue_keeps (Keeps.fst ‹_› (State.hostFetch_keeps h)))) (by split; exact (State.queueError_keeps (Keeps.fst ‹_› (State.dramRead_keeps h))); exact (State.setQueue_keeps (Keeps.fst ‹_› (State.dramRead_keeps h))))))))

theorem State.consume_keeps {a : State} {s : State} {u : Nat} {port : Nat} (h : Keeps a s) : Keeps a (State.consume s
    u port) := by
  unfold State.consume
  exact (by split; exact h; exact (State.writeShadow_keeps (State.setQueue_keeps (State.hostForget_keeps h))))

theorem State.pinsRest_keeps {a : State} {s : State} {p : Nat} (h : Keeps a s) : Keeps a (State.pinsRest s p) := by
  unfold State.pinsRest
  exact (by split; exact (Keeps.foldl h (fun _ _ h0 => (State.emit_keeps h0))); exact (Keeps.foldl h (fun _ _ h0 => (State.emit_keeps h0))); exact (Keeps.foldl h (fun _ _ h0 => (State.emit_keeps h0))); exact (Keeps.foldl h (fun _ _ h0 => (State.emit_keeps h0))); exact (State.emit_keeps h); exact (State.emit_keeps h); exact (State.emit_keeps h); exact h)

theorem State.pinsAllRest_keeps {a : State} {s : State} (h : Keeps a s) : Keeps a (State.pinsAllRest s) := by
  unfold State.pinsAllRest
  exact (Keeps.foldl h (fun _ _ h0 => (Keeps.ite (State.pinsRest_keeps h0) h0)))

theorem State.calBegin_keeps {a : State} {s : State} {j : CalJob} (h : Keeps a s) : Keeps a (State.calBegin s j) := by
  unfold State.calBegin
  exact (Keeps.upd h)

theorem State.calPump_keeps {a : State} {s : State} {dom : Nat} (h : Keeps a s) : Keeps a (State.calPump s dom) := by
  unfold State.calPump
  exact (Keeps.ite h (by split; exact h; exact (Keeps.ite (Keeps.upd (State.calBegin_keeps h)) (Keeps.ite (Keeps.upd (State.calBegin_keeps h)) (State.calBegin_keeps h)))))

theorem State.calRequest_keeps {a : State} {s : State} {dom : Nat} {inst : Nat} {qual : Bool} {force : Bool} (h :
    Keeps a s) : Keeps a (State.calRequest s dom inst qual force) := by
  unfold State.calRequest
  exact (Keeps.ite (State.err_keeps h) (State.calPump_keeps (Keeps.upd h)))

theorem State.calLost_keeps {a : State} {s : State} {dom : Nat} {inst : Nat} (h : Keeps a s) : Keeps a (State.calLost
    s dom inst) := by
  unfold State.calLost
  exact (Keeps.upd h)

theorem State.calReturn_keeps {a : State} {s : State} {p : Nat} (h : Keeps a s) : Keeps a (State.calReturn s p) := by
  unfold State.calReturn
  exact (by (try dsimp only); split; exact (Keeps.ite h (Keeps.upd h)); exact h)

theorem State.noteUp_keeps {a : State} {s : State} {dom : Nat} {inst : Nat} (h : Keeps a s) : Keeps a (State.noteUp s
    dom inst) := by
  unfold State.noteUp
  exact (Keeps.ite (Keeps.upd (State.calLost_keeps h)) (Keeps.ite (State.calRequest_keeps (Keeps.upd
    (State.calLost_keeps h))) (Keeps.upd (State.calLost_keeps h))))

theorem State.ffOpen_keeps {a : State} {s : State} {n : Nat} {b : Nat} (h : Keeps a s) : Keeps a (State.ffOpen s n b)
    := by
  unfold State.ffOpen
  exact (Keeps.ite (Keeps.upd h) h)

theorem State.ffClose_keeps {a : State} {s : State} {n : Nat} {b : Nat} {flags : Nat} (h : Keeps a s) : Keeps a
    (State.ffClose s n b flags) := by
  unfold State.ffClose
  exact (Keeps.ite (Keeps.upd h) h)

theorem State.ffTake_keeps {a : State} {s : State} {n : Nat} {l : FfLine} (h : Keeps a s) : Keeps a (State.ffTake s n
    l) := by
  unfold State.ffTake
  exact (Keeps.ite (Keeps.upd h) h)

theorem State.ffMark_keeps {a : State} {s : State} {cup : Nat} {k : Nat} (h : Keeps a s) : Keeps a (State.ffMark s cup
    k) := by
  unfold State.ffMark
  exact (Keeps.ite (Keeps.upd h) h)

theorem State.sdTake_keeps {a : State} {s : State} {n : Nat} {v : Int} {usable : Bool} (h : Keeps a s) : Keeps a
    (State.sdTake s n v usable) := by
  unfold State.sdTake
  exact (Keeps.ite (Keeps.upd h) h)

theorem State.setPortState_keeps {a : State} {s : State} {b : Bool} {v : Nat} (h : Keeps a s) : Keeps a
    (State.setPortState s b v) := by
  unfold State.setPortState
  exact (Keeps.ite (State.setFl_keeps h) (State.setFl_keeps h))

theorem State.setTport_keeps {a : State} {s : State} {b : Bool} {x : TlkPort} (h : Keeps a s) : Keeps a
    (State.setTport s b x) := by
  unfold State.setTport
  exact (Keeps.upd h)

theorem State.tlkFrame_keeps {a : State} {s : State} {b : Bool} {type : Nat} {src : Nat} {dst : Nat} {shadow : Nat}
    {hops : Nat} {pfault : Nat} {arg : Nat} {words : List Nat} (h : Keeps a s) : Keeps a (State.tlkFrame s b type src
    dst shadow hops pfault arg words) := by
  unfold State.tlkFrame
  exact (State.emit_keeps h)

theorem State.tlkOwn_keeps {a : State} {s : State} {b : Bool} {type : Nat} {dst : Nat} {hops : Nat} {arg : Nat} {words
    : List Nat} (h : Keeps a s) : Keeps a (State.tlkOwn s b type dst hops arg words) := by
  unfold State.tlkOwn
  exact (State.tlkFrame_keeps h)

theorem State.tlkPut_keeps {a : State} {s : State} {b : Bool} {type : Nat} {dst : Nat} {hops : Nat} {arg : Nat} {words
    : List Nat} (h : Keeps a s) : Keeps a (State.tlkPut s b type dst hops arg words) := by
  unfold State.tlkPut
  exact (Keeps.ite (State.tlkOwn_keeps h) h)

theorem State.tlkCast_keeps {a : State} {s : State} {type : Nat} {arg : Nat} {words : List Nat} (h : Keeps a s) :
    Keeps a (State.tlkCast s type arg words) := by
  unfold State.tlkCast
  exact (State.tlkPut_keeps (State.tlkPut_keeps h))

theorem State.tlkSend_keeps {a : State} {s : State} {type : Nat} {dst : Nat} {arg : Nat} {words : List Nat} (h : Keeps
    a s) : Keeps a (State.tlkSend s type dst arg words) := by
  unfold State.tlkSend
  exact (by split; exact (State.tlkPut_keeps h); exact h)

theorem State.showFwd_keeps {a : State} {s : State} (h : Keeps a s) : Keeps a (State.showFwd s) := by
  unfold State.showFwd
  exact (State.setFl_keeps h)

theorem State.fwdBlock_keeps {a : State} {s : State} {n : Nat} {recs : List (List Byte)} (h : Keeps a s) : Keeps a
    (State.fwdBlock s n recs) := by
  unfold State.fwdBlock
  exact (State.showFwd_keeps (State.setRg_keeps (Keeps.foldl (Keeps.upd (Keeps.ite (Keeps.upd h) h)) (fun _ _ h0 =>
    (State.tlkSend_keeps h0)))))

theorem State.publish_keeps {a : State} {s : State} {p : Nat} {n : Nat} {recs : List (List Byte)} (h : Keeps a s) :
    Keeps a (State.publish s p n recs).1 := by
  unfold State.publish
  exact (Keeps.ite1 (Keeps.ite1 (State.fwdBlock_keeps h) h) (State.post_keeps h))

theorem State.mirror_keeps {a : State} {s : State} {off : Nat} {wide : Bool} {data : Nat} {req : Nat} (h : Keeps a s)
    : Keeps a (State.mirror s off wide data req) := by
  unfold State.mirror
  exact (Keeps.ite h (State.tlkSend_keeps (Keeps.upd (State.inc_keeps (State.setRg_keeps h)))))

theorem State.gateH_keeps {a : State} {s : State} {p : Nat} {req : Nat} {off : Nat} {data : Nat} {f : State → State}
    (h : Keeps a s) (hf : ∀ t, Keeps a t → Keeps a (f t)) : Keeps a (State.gateH s p req off data f) := by
  unfold State.gateH
  exact (State.gate_keeps (State.mirror_keeps h) (fun _ h0 => (hf _ h0)))

theorem State.gateW_keeps {a : State} {s : State} {p : Nat} {req : Nat} {off : Nat} {data : Nat} {f : State → State}
    (h : Keeps a s) (hf : ∀ t, Keeps a t → Keeps a (f t)) : Keeps a (State.gateW s p req off data f) := by
  unfold State.gateW
  exact (State.gate_keeps (State.mirror_keeps h) (fun _ h0 => (hf _ h0)))

end Sys2Proof.Machine
end

