-- ==== Sys2Proof/Laws/KeepsPosition.lean ====
section
/-!
SUPPORT. What the named operations keep: encoders, observers, marks, axes, sigma-delta inputs. One lemma per operation.
-/

set_option Elab.async false

namespace Sys2Proof.Machine

theorem State.setAx_keeps {a : State} {s : State} {n : Nat} {x : Axs} (h : Keeps a s) : Keeps a (State.setAx s n x) := by
  unfold State.setAx
  exact (Keeps.upd h)

theorem State.setPstate_keeps {a : State} {s : State} {n : Nat} {v : Nat} (h : Keeps a s) : Keeps a (State.setPstate s
    n v) := by
  unfold State.setPstate
  exact (State.setFl_keeps h)

theorem State.setGeared_keeps {a : State} {s : State} {n : Nat} {b : Bool} (h : Keeps a s) : Keeps a (State.setGeared
    s n b) := by
  unfold State.setGeared
  exact (State.setFl_keeps h)

theorem State.setCoil_keeps {a : State} {s : State} {n : Nat} {m : Nat} (h : Keeps a s) : Keeps a (State.setCoil s n
    m) := by
  unfold State.setCoil
  exact (Keeps.ite (State.pin_keeps (State.pin_keeps (State.setFl_keeps h))) (State.pin_keeps (State.pin_keeps
    (State.setFl_keeps h))))

theorem State.setEpoch_keeps {a : State} {s : State} {d : Nat} {v : Nat} (h : Keeps a s) : Keeps a (State.setEpoch s d
    v) := by
  unfold State.setEpoch
  exact (Keeps.upd (State.setRg_keeps h))

theorem State.axApply_keeps {a : State} {s : State} {n : Nat} (h : Keeps a s) : Keeps a (State.axApply s n) := by
  unfold State.axApply
  exact (Keeps.ite (Keeps.ite (State.err_keeps (State.refuseSet_keeps h)) (State.applySet_keeps h)) h)

theorem State.atBoundary_keeps {a : State} {s : State} {p : Nat} {app : State → State} (h : Keeps a s) (happ : ∀ t,
    Keeps a t → Keeps a (app t)) : Keeps a (State.atBoundary s p app) := by
  unfold State.atBoundary
  exact (Keeps.ite (happ _ h) h)

theorem State.segStart_keeps {a : State} {s : State} {n : Nat} {v0 : Int} (h : Keeps a s) : Keeps a (State.segStart s
    n v0) := by
  unfold State.segStart
  exact (State.setPstate_keeps (State.setAx_keeps (State.setRg_keeps (State.atBoundary_keeps h (fun _ h0 =>
    (State.axApply_keeps h0))))))

theorem State.gearEngage_keeps {a : State} {s : State} {n : Nat} (h : Keeps a s) : Keeps a (State.gearEngage s n) := by
  unfold State.gearEngage
  exact (State.setGeared_keeps (State.setAx_keeps (State.setRgI_keeps h)))

theorem State.segLate_keeps {a : State} {s : State} {n : Nat} (h : Keeps a s) : Keeps a (State.segLate s n) := by
  unfold State.segLate
  exact (State.happenFrom_keeps (State.setAx_keeps (State.err_keeps (State.sat_keeps (State.setPstate_keeps h)))))

theorem State.axStart_keeps {a : State} {s : State} {n : Nat} {c : Option (Nat × Nat)} (h : Keeps a s) : Keeps a
    (State.axStart s n c) := by
  unfold State.axStart
  exact (Keeps.ite (State.err_keeps h) (Keeps.ite (State.setAx_keeps h) (Keeps.ite (State.err_keeps h) (Keeps.ite
    (Keeps.ite (State.gearEngage_keeps (State.segStart_keeps (State.setAx_keeps h))) (State.segStart_keeps
    (State.setAx_keeps h))) (Keeps.ite (State.setPstate_keeps (State.gearEngage_keeps (State.setAx_keeps h)))
    (State.segLate_keeps (State.setAx_keeps h)))))))

theorem State.axStop_keeps {a : State} {s : State} {n : Nat} (h : Keeps a s) : Keeps a (State.axStop s n) := by
  unfold State.axStop
  exact (Keeps.ite (State.setAx_keeps h) (State.setGeared_keeps (State.setAx_keeps h)))

theorem State.axWaited_keeps {a : State} {s : State} {n : Nat} (h : Keeps a s) : Keeps a (State.axWaited s n) := by
  unfold State.axWaited
  exact (by split; exact (State.axStart_keeps (State.setAx_keeps h)); exact h)

theorem State.axHold_keeps {a : State} {s : State} {n : Nat} (h : Keeps a s) : Keeps a (State.axHold s n) := by
  unfold State.axHold
  exact (Keeps.ite (State.happenFrom_keeps (State.setPstate_keeps (State.setGeared_keeps (State.setAx_keeps h))))
    (State.setGeared_keeps (State.setAx_keeps h)))

theorem State.axAbort_keeps {a : State} {s : State} {n : Nat} (h : Keeps a s) : Keeps a (State.axAbort s n) := by
  unfold State.axAbort
  exact (State.axWaited_keeps (State.axHold_keeps h))

theorem State.segHeadWrite_keeps {a : State} {s : State} {n : Nat} {v : Nat} (h : Keeps a s) : Keeps a
    (State.segHeadWrite s n v) := by
  unfold State.segHeadWrite
  exact (Keeps.ite (State.err_keeps h) (State.setRg_keeps h))

theorem State.showLag_keeps {a : State} {s : State} {n : Nat} (h : Keeps a s) : Keeps a (State.showLag s n) := by
  unfold State.showLag
  exact (State.setFl_keeps h)

theorem State.lagCheck_keeps {a : State} {s : State} {n : Nat} (h : Keeps a s) : Keeps a (State.lagCheck s n) := by
  unfold State.lagCheck
  exact (Keeps.ite (State.setCoil_keeps (State.toFault_keeps (State.setIst_keeps (State.err_keeps (State.showLag_keeps
    h))))) (State.showLag_keeps h))

theorem State.gearLost_keeps {a : State} {s : State} {d : Nat} (h : Keeps a s) : Keeps a (State.gearLost s d) := by
  unfold State.gearLost
  exact (Keeps.foldl h (fun _ _ h0 => (Keeps.ite (State.err_keeps (State.setGeared_keeps h0)) h0)))

theorem State.axDirShow_keeps {a : State} {s : State} {n : Nat} (h : Keeps a s) : Keeps a (State.axDirShow s n) := by
  unfold State.axDirShow
  exact (Keeps.ite (State.pin_keeps h) (State.pin_keeps (State.setAx_keeps h)))

theorem State.axOnRun_keeps {a : State} {s : State} {n : Nat} (h : Keeps a s) : Keeps a (State.axOnRun s n) := by
  unfold State.axOnRun
  exact (State.setCoil_keeps (State.setGeared_keeps (State.setPstate_keeps (State.setRg_keeps (State.setRgI_keeps
    (State.setRgI_keeps (State.axDirShow_keeps (State.setAx_keeps h))))))))

theorem State.axOnWrite_keeps {a : State} {s : State} {n : Nat} {o : Nat} {v : Nat} (h : Keeps a s) : KeepsO a
    (State.axOnWrite s n o v) := by
  unfold State.axOnWrite
  exact (KeepsO.ite (KeepsO.some (State.segHeadWrite_keeps h)) (KeepsO.ite (KeepsO.ite (KeepsO.some h) (KeepsO.some
    (State.axWaited_keeps (Keeps.ite (State.axStart_keeps (Keeps.ite (State.axHold_keeps (Keeps.ite
    (State.axStop_keeps h) h)) (Keeps.ite (State.axStop_keeps h) h))) (Keeps.ite (State.axHold_keeps (Keeps.ite
    (State.axStop_keeps h) h)) (Keeps.ite (State.axStop_keeps h) h)))))) KeepsO.none))

theorem State.gateU_keeps {a : State} {s : State} {b : Blk} {n : Nat} {req : Nat} {off : Nat} {data : Nat} {f : State
    → State} (h : Keeps a s) (hf : ∀ t, Keeps a t → Keeps a (f t)) : Keeps a (State.gateU s b n req off data f) := by
  unfold State.gateU
  exact (Keeps.ite (State.gateH_keeps h (fun _ h0 => (hf _ h0))) (Keeps.ite (State.mirror_keeps h) h))

theorem State.setEnc_keeps {a : State} {s : State} {n : Nat} {x : Enc} (h : Keeps a s) : Keeps a (State.setEnc s n x)
    := by
  unfold State.setEnc
  exact (Keeps.upd h)

theorem State.encFault_keeps {a : State} {s : State} {n : Nat} (h : Keeps a s) : Keeps a (State.encFault s n) := by
  unfold State.encFault
  exact (State.toFault_keeps (State.happen_keeps (State.err_keeps h)))

theorem State.encIllegal_keeps {a : State} {s : State} {n : Nat} {old : Nat} {new : Nat} (h : Keeps a s) : Keeps a
    (State.encIllegal s n old new) := by
  unfold State.encIllegal
  exact (by (try dsimp only); split; exact (Keeps.ite (State.encFault_keeps (State.violate_keeps (State.setEnc_keeps (State.err_keeps (State.sat_keeps h))))) (State.violate_keeps (State.setEnc_keeps (State.err_keeps (State.sat_keeps h))))); exact (State.violate_keeps (State.setEnc_keeps (State.err_keeps (State.sat_keeps h)))))

theorem State.encIndex_keeps {a : State} {s : State} {n : Nat} (h : Keeps a s) : Keeps a (State.encIndex s n) := by
  unfold State.encIndex
  exact (Keeps.ite (State.violate_keeps (State.err_keeps (State.sat_keeps (State.happen_keeps (State.setEnc_keeps
    (State.setRg64_keeps (State.setRgI_keeps h))))))) (State.happen_keeps (State.setEnc_keeps (State.setRg64_keeps
    (State.setRgI_keeps h)))))

theorem State.encDecode_keeps {a : State} {s : State} {n : Nat} {z2 : Bool} {b : Bool} {z : Bool} {a' : Bool} {b' :
    Bool} {z' : Bool} (h : Keeps a s) : Keeps a (State.encDecode s n z2 b z a' b' z') := by
  unfold State.encDecode
  exact (Keeps.ite (State.encIndex_keeps (Keeps.ite (State.encIllegal_keeps h) (State.setRgI_keeps h))) (Keeps.ite
    (State.encIllegal_keeps h) (State.setRgI_keeps h)))

theorem State.encEnds_keeps {a : State} {s : State} {n : Nat} (h : Keeps a s) : Keeps a (State.encEnds s n) := by
  unfold State.encEnds
  exact (State.setEnc_keeps h)

theorem State.encWordError_keeps {a : State} {s : State} {n : Nat} {b : Nat} {code : Nat} {ctx : Nat} {latch : Nat} (h
    : Keeps a s) : Keeps a (State.encWordError s n b code ctx latch) := by
  unfold State.encWordError
  exact (Keeps.ite (State.encFault_keeps (State.violate_keeps (State.setFl_keeps (State.setEnc_keeps
    (State.setRgI_keeps (State.err_keeps (State.sat_keeps h))))))) (State.violate_keeps (State.setFl_keeps
    (State.setEnc_keeps (State.setRgI_keeps (State.err_keeps (State.sat_keeps h)))))))

theorem State.encAccept_keeps {a : State} {s : State} {n : Nat} {pos : Nat} {warn : Bool} (h : Keeps a s) : Keeps a
    (State.encAccept s n pos warn) := by
  unfold State.encAccept
  exact (Keeps.ite (State.encWordError_keeps h) (Keeps.ite (State.violate_keeps (State.err_keeps (State.sat_keeps
    (State.setFl_keeps (State.setEnc_keeps (State.setRgI_keeps h)))))) (State.setFl_keeps (State.setEnc_keeps
    (State.setRgI_keeps h)))))

theorem State.encOnRun_keeps {a : State} {s : State} {n : Nat} (h : Keeps a s) : Keeps a (State.encOnRun s n) := by
  unfold State.encOnRun
  exact (State.setEnc_keeps (State.setFl_keeps (State.setRg64_keeps h)))

theorem State.encOff_keeps {a : State} {s : State} {n : Nat} (h : Keeps a s) : Keeps a (State.encOff s n) := by
  unfold State.encOff
  exact (State.setEnc_keeps h)

theorem State.encOnWrite_keeps {a : State} {s : State} {n : Nat} {o : Nat} {v : Nat} (h : Keeps a s) : KeepsO a
    (State.encOnWrite s n o v) := by
  unfold State.encOnWrite
  exact (KeepsO.ite (KeepsO.some (State.errBit_keeps (State.writeWord_keeps h))) KeepsO.none)

theorem State.setObs_keeps {a : State} {s : State} {d : Nat} {x : Obs} (h : Keeps a s) : Keeps a (State.setObs s d x)
    := by
  unfold State.setObs
  exact (Keeps.upd h)

theorem State.rebase_keeps {a : State} {s : State} {d : Nat} {b : Bool} {m : Int} (h : Keeps a s) : Keeps a
    (State.rebase s d b m) := by
  unfold State.rebase
  exact (State.setObs_keeps h)

theorem State.setMode_keeps {a : State} {s : State} {d : Nat} {m : Nat} (h : Keeps a s) : Keeps a (State.setMode s d
    m) := by
  unfold State.setMode
  exact (State.setFl_keeps h)

theorem State.setUsed_keeps {a : State} {s : State} {d : Nat} {u : Nat} {deg : Bool} (h : Keeps a s) : Keeps a
    (State.setUsed s d u deg) := by
  unfold State.setUsed
  exact (State.setFl_keeps (State.setFl_keeps h))

theorem State.renewPair_keeps {a : State} {s : State} {d : Nat} (h : Keeps a s) : Keeps a (State.renewPair s d) := by
  unfold State.renewPair
  exact (State.setObs_keeps h)

theorem State.toCoast_keeps {a : State} {s : State} {d : Nat} (h : Keeps a s) : Keeps a (State.toCoast s d) := by
  unfold State.toCoast
  exact (State.happen_keeps (State.logOnly_keeps (State.setObs_keeps (State.setUsed_keeps (State.setMode_keeps h)))))

theorem State.takeSources_keeps {a : State} {s : State} {d : Nat} {m : Int} (h : Keeps a s) : Keeps a
    (State.takeSources s d m) := by
  unfold State.takeSources
  exact (Keeps.ite (State.renewPair_keeps (State.setUsed_keeps (State.setMode_keeps (State.setObs_keeps (Keeps.ite
    (State.rebase_keeps (Keeps.ite (State.rebase_keeps h) h)) (Keeps.ite (State.rebase_keeps h) h))))))
    (State.setUsed_keeps (State.setMode_keeps (State.setObs_keeps (Keeps.ite (State.rebase_keeps (Keeps.ite
    (State.rebase_keeps h) h)) (Keeps.ite (State.rebase_keeps h) h))))))

theorem State.noteSources_keeps {a : State} {s : State} {d : Nat} (h : Keeps a s) : Keeps a (State.noteSources s d) := by
  unfold State.noteSources
  exact (State.setObs_keeps h)

theorem State.trackSources_keeps {a : State} {s : State} {d : Nat} (h : Keeps a s) : Keeps a (State.trackSources s d)
    := by
  unfold State.trackSources
  exact (Keeps.ite (Keeps.ite (Keeps.ite (State.rebase_keeps (State.setUsed_keeps h)) (State.setUsed_keeps h))
    (State.toCoast_keeps h)) (Keeps.ite (Keeps.ite (Keeps.ite (State.happen_keeps (State.err_keeps (State.sat_keeps
    (State.setObs_keeps (State.setUsed_keeps (Keeps.ite (State.renewPair_keeps (Keeps.ite (State.rebase_keeps
    (Keeps.ite (State.rebase_keeps h) h)) (Keeps.ite (State.rebase_keeps h) h))) (Keeps.ite (State.rebase_keeps
    (Keeps.ite (State.rebase_keeps h) h)) (Keeps.ite (State.rebase_keeps h) h)))))))) (Keeps.ite
    (State.renewPair_keeps (Keeps.ite (State.rebase_keeps (Keeps.ite (State.rebase_keeps h) h)) (Keeps.ite
    (State.rebase_keeps h) h))) (Keeps.ite (State.rebase_keeps (Keeps.ite (State.rebase_keeps h) h)) (Keeps.ite
    (State.rebase_keeps h) h)))) (State.setObs_keeps (State.setUsed_keeps (Keeps.ite (State.rebase_keeps (Keeps.ite
    (State.rebase_keeps h) h)) (Keeps.ite (State.rebase_keeps h) h))))) (Keeps.ite (Keeps.ite (Keeps.ite
    (State.renewPair_keeps (State.rebase_keeps (Keeps.ite (State.rebase_keeps (Keeps.ite (State.rebase_keeps h) h))
    (Keeps.ite (State.rebase_keeps h) h)))) (State.setUsed_keeps (State.renewPair_keeps (State.rebase_keeps (Keeps.ite
    (State.rebase_keeps (Keeps.ite (State.rebase_keeps h) h)) (Keeps.ite (State.rebase_keeps h) h)))))) (Keeps.ite
    (State.rebase_keeps (Keeps.ite (State.rebase_keeps h) h)) (Keeps.ite (State.rebase_keeps h) h))) (Keeps.ite
    (State.rebase_keeps (Keeps.ite (State.rebase_keeps h) h)) (Keeps.ite (State.rebase_keeps h) h)))))

theorem State.gateWidth_keeps {a : State} {s : State} {d : Nat} {now : Bool} (h : Keeps a s) : Keeps a
    (State.gateWidth s d now) := by
  unfold State.gateWidth
  exact (Keeps.ite (State.setObs_keeps h) h)

theorem State.backlash_keeps {a : State} {s : State} {d : Nat} {r : Int} (h : Keeps a s) : Keeps a (State.backlash s d
    r) := by
  unfold State.backlash
  exact (Keeps.ite (Keeps.ite (State.setRgI_keeps (State.setObs_keeps (State.setRgI_keeps (State.gateWidth_keeps h))))
    (State.happen_keeps (State.sat_keeps (State.setFl_keeps (State.setRgI_keeps (State.setObs_keeps
    (State.setRgI_keeps (State.gateWidth_keeps h)))))))) (Keeps.ite (State.setRgI_keeps (State.setObs_keeps
    (State.setRgI_keeps (State.gateWidth_keeps h)))) (State.happen_keeps (State.setFl_keeps (State.setRgI_keeps
    (State.setObs_keeps (State.setRgI_keeps (State.gateWidth_keeps h))))))))

theorem State.trackLoop_keeps {a : State} {s : State} {d : Nat} {m : Int} (h : Keeps a s) : Keeps a (State.trackLoop s
    d m) := by
  unfold State.trackLoop
  exact (State.setObs_keeps (State.drawn_keeps (State.drawn_keeps (State.drawn_keeps (State.drawn_keeps h)))))

theorem State.showSpeed_keeps {a : State} {s : State} {d : Nat} (h : Keeps a s) : Keeps a (State.showSpeed s d) := by
  unfold State.showSpeed
  exact (State.setRgI_keeps (State.setRgI_keeps h))

theorem State.obsHalt_keeps {a : State} {s : State} {d : Nat} (h : Keeps a s) : Keeps a (State.obsHalt s d) := by
  unfold State.obsHalt
  exact (State.gearLost_keeps (State.toFault_keeps (State.happen_keeps (State.err_keeps (State.setMode_keeps
    (State.showSpeed_keeps (State.setObs_keeps h)))))))

theorem State.repairPair_keeps {a : State} {s : State} {d : Nat} (h : Keeps a s) : Keeps a (State.repairPair s d) := by
  unfold State.repairPair
  exact (Keeps.ite (State.setUsed_keeps (State.renewPair_keeps (State.setObs_keeps h))) h)

theorem State.snapObs_keeps {a : State} {s : State} {d : Nat} (h : Keeps a s) : Keeps a (State.snapObs s d) := by
  unfold State.snapObs
  exact (State.setRg64_keeps (State.setRg64_keeps (State.setRg64_keeps (State.setRg64_keeps (State.setRg64_keeps h)))))

theorem State.obsOnRun_keeps {a : State} {s : State} {d : Nat} (h : Keeps a s) : Keeps a (State.obsOnRun s d) := by
  unfold State.obsOnRun
  exact (Keeps.ite (State.setUsed_keeps (State.setMode_keeps (State.showSpeed_keeps (State.setObs_keeps h))))
    (State.gearLost_keeps (State.setRgI_keeps (State.setRgI_keeps (State.setFl_keeps (State.showSpeed_keeps
    (State.gateWidth_keeps (State.noteSources_keeps (Keeps.ite (State.takeSources_keeps (State.setEpoch_keeps
    (State.setObs_keeps h))) (State.setUsed_keeps (State.setMode_keeps (State.setEpoch_keeps (State.setObs_keeps
    h)))))))))))))

theorem State.obsOnWrite_keeps {a : State} {s : State} {d : Nat} {o : Nat} {v : Nat} (h : Keeps a s) : KeepsO a
    (State.obsOnWrite s d o v) := by
  unfold State.obsOnWrite
  exact (KeepsO.ite (KeepsO.some (State.err_keeps (State.writeWord_keeps h))) (KeepsO.ite (KeepsO.some (Keeps.ite
    (State.snapObs_keeps (Keeps.ite (State.repairPair_keeps h) h)) (Keeps.ite (State.repairPair_keeps h) h)))
    KeepsO.none))

theorem State.setEmu_keeps {a : State} {s : State} {n : Nat} {x : EmuCh} (h : Keeps a s) : Keeps a (State.setEmu s n
    x) := by
  unfold State.setEmu
  exact (Keeps.upd h)

theorem State.emuPins_keeps {a : State} {s : State} {n : Nat} {ph : Nat} {c : Int} (h : Keeps a s) : Keeps a
    (State.emuPins s n ph c) := by
  unfold State.emuPins
  exact (State.pin_keeps (State.pin_keeps (State.pin_keeps h)))

theorem State.emuCheck_keeps {a : State} {s : State} {n : Nat} (h : Keeps a s) : Keeps a (State.emuCheck s n) := by
  unfold State.emuCheck
  exact (Keeps.ite (State.errBit_keeps (State.setFl_keeps h)) h)

theorem State.emuEnable_keeps {a : State} {s : State} {n : Nat} (h : Keeps a s) : Keeps a (State.emuEnable s n) := by
  unfold State.emuEnable
  exact (Keeps.ite (State.errBit_keeps h) (Keeps.ite h (State.emuPins_keeps (State.setEmu_keeps (State.setRg_keeps
    (State.setFl_keeps h))))))

theorem State.emuShow_keeps {a : State} {s : State} {n : Nat} (h : Keeps a s) : Keeps a (State.emuShow s n) := by
  unfold State.emuShow
  exact (Keeps.ite (State.emuPins_keeps h) h)

theorem State.emuOnWrite_keeps {a : State} {s : State} {o : Nat} {v : Nat} (h : Keeps a s) : KeepsO a
    (State.emuOnWrite s o v) := by
  unfold State.emuOnWrite
  exact (KeepsO.ite (KeepsO.some (State.emuShow_keeps (Keeps.ite (State.emuEnable_keeps (State.writeS_keeps h))
    (State.setFl_keeps (State.writeS_keeps h))))) (KeepsO.ite (KeepsO.some (State.emuShow_keeps (State.emuCheck_keeps
    (State.writeWord_keeps h)))) KeepsO.none))

theorem State.emuShowAll_keeps {a : State} {s : State} (h : Keeps a s) : Keeps a (State.emuShowAll s) := by
  unfold State.emuShowAll
  exact (Keeps.foldl h (fun _ _ h0 => (State.emuShow_keeps (State.emuCheck_keeps h0))))

theorem State.setSd_keeps {a : State} {s : State} {n : Nat} {x : Sdf} (h : Keeps a s) : Keeps a (State.setSd s n x) := by
  unfold State.setSd
  exact (Keeps.upd h)

theorem State.sdRestart_keeps {a : State} {s : State} {n : Nat} (h : Keeps a s) : Keeps a (State.sdRestart s n) := by
  unfold State.sdRestart
  exact (State.setRg_keeps (State.setSd_keeps h))

theorem State.sdApply_keeps {a : State} {s : State} {n : Nat} (h : Keeps a s) : Keeps a (State.sdApply s n) := by
  unfold State.sdApply
  exact (Keeps.ite (State.applySet_keeps h) h)

theorem State.sdBegin_keeps {a : State} {s : State} {n : Nat} {old : SdfSet} (h : Keeps a s) : Keeps a (State.sdBegin
    s n old) := by
  unfold State.sdBegin
  exact (State.setSd_keeps (Keeps.ite h (State.sdRestart_keeps h)))

theorem State.sdPost_keeps {a : State} {s : State} {n : Nat} {e : List Byte} (h : Keeps a s) : Keeps a (State.sdPost s
    n e).1 := by
  unfold State.sdPost
  exact (by (try dsimp only); split; exact (State.setSd_keeps (Keeps.fst ‹_› (State.post_keeps h))); exact (Keeps.fst ‹_› (State.post_keeps h)))

theorem State.sdWaiting_keeps {a : State} {s : State} {n : Nat} (h : Keeps a s) : Keeps a (State.sdWaiting s n) := by
  unfold State.sdWaiting
  exact (by (try dsimp only); split; exact h; exact (by split; exact (State.setSd_keeps (Keeps.fst ‹_› (State.sdPost_keeps h))); exact (State.err_keeps (State.sat_keeps (State.setSd_keeps (Keeps.fst ‹_› (State.sdPost_keeps h)))))))

theorem State.sdQueue_keeps {a : State} {s : State} {n : Nat} {set : SdfSet} {e : List Byte} (h : Keeps a s) : Keeps a
    (State.sdQueue s n set e).1 := by
  unfold State.sdQueue
  exact (Keeps.ite1 (State.sdWaiting_keeps h) (Keeps.ite1 (State.setSd_keeps (State.sdWaiting_keeps h)) (by split; exact (Keeps.fst ‹_› (State.sdPost_keeps (State.setSd_keeps (State.sdWaiting_keeps h)))); exact (State.setSd_keeps (Keeps.fst ‹_› (State.sdPost_keeps (State.setSd_keeps (State.sdWaiting_keeps h))))))))

theorem State.sdDetect_keeps {a : State} {s : State} {n : Nat} {set : SdfSet} {v : Int} (h : Keeps a s) : Keeps a
    (State.sdDetect s n set v) := by
  unfold State.sdDetect
  exact (Keeps.ite (State.setSd_keeps (State.setRg_keeps (State.setRg_keeps (State.setRg_keeps h))))
    (State.setIst_keeps (State.setRg_keeps (State.setSd_keeps (State.setRg_keeps (State.setRg_keeps (State.setRg_keeps
    h)))))))

theorem State.sdLimit_keeps {a : State} {s : State} {n : Nat} {set : SdfSet} {v : Int} (h : Keeps a s) : Keeps a
    (State.sdLimit s n set v) := by
  unfold State.sdLimit
  exact (Keeps.ite h (Keeps.ite (State.happen_keeps (Keeps.ite (State.happen_keeps (State.setSd_keeps h))
    (State.setSd_keeps h))) (Keeps.ite (State.happen_keeps (State.setSd_keeps h)) (State.setSd_keeps h))))

theorem State.sdClkShow_keeps {a : State} {s : State} {n : Nat} {old : State} (h : Keeps a s) : Keeps a
    (State.sdClkShow s n old) := by
  unfold State.sdClkShow
  exact (Keeps.ite h (State.pin_keeps h))

theorem State.sdHalt_keeps {a : State} {s : State} {n : Nat} {b : Bool} (h : Keeps a s) : Keeps a (State.sdHalt s n b)
    := by
  unfold State.sdHalt
  exact (State.sdClkShow_keeps (State.setSd_keeps h))

theorem State.peakRead_keeps {a : State} {s : State} {n : Nat} {max : Bool} (h : Keeps a s) : Keeps a (State.peakRead
    s n max) := by
  unfold State.peakRead
  exact (State.setSd_keeps (State.setRg_keeps (Keeps.upd h)))

theorem State.sdOnRun_keeps {a : State} {s : State} {n : Nat} (h : Keeps a s) : Keeps a (State.sdOnRun s n) := by
  unfold State.sdOnRun
  exact (Keeps.ite (State.toFault_keeps (State.err_keeps (State.setSd_keeps (State.atBoundary_keeps
    (State.sdHalt_keeps (State.setSd_keeps (State.sdRestart_keeps h))) (fun _ h0 => (State.sdApply_keeps h0))))))
    (State.setSd_keeps (State.atBoundary_keeps (State.sdHalt_keeps (State.setSd_keeps (State.sdRestart_keeps h))) (fun
    _ h0 => (State.sdApply_keeps h0)))))

theorem State.sdOnWrite_keeps {a : State} {s : State} {n : Nat} {o : Nat} {v : Nat} (h : Keeps a s) : KeepsO a
    (State.sdOnWrite s n o v) := by
  unfold State.sdOnWrite
  exact (KeepsO.ite (KeepsO.some (State.err_keeps h)) (KeepsO.ite (KeepsO.some (State.sdClkShow_keeps
    (State.writeWord_keeps h))) KeepsO.none))

theorem State.setMark_keeps {a : State} {s : State} {m : Nat} {x : Mark} (h : Keeps a s) : Keeps a (State.setMark s m
    x) := by
  unfold State.setMark
  exact (Keeps.upd h)

theorem State.markWrite_keeps {a : State} {s : State} {m : Nat} {off : Nat} {v : Nat} {wide : Bool} (h : Keeps a s) :
    Keeps a (State.markWrite s m off v wide) := by
  unfold State.markWrite
  exact (Keeps.ite (State.err_keeps h) (Keeps.ite (State.err_keeps (Keeps.upd h)) (Keeps.upd h)))

theorem State.pscShow_keeps {a : State} {s : State} (h : Keeps a s) : Keeps a (State.pscShow s) := by
  unfold State.pscShow
  exact (State.setRgI_keeps (State.setRgI_keeps (State.setRgI_keeps (State.setRgI_keeps (State.setRg_keeps h)))))

theorem State.markEffect_keeps {a : State} {s : State} {w : MarkWrite} (h : Keeps a s) : Keeps a (State.markEffect s
    w) := by
  unfold State.markEffect
  exact (Keeps.ite (Keeps.upd h) (State.setMark_keeps h))

theorem State.errMany_keeps {a : State} {s : State} {p : Nat} {b : Nat} {code : Nat} {ctx : Nat} {n : Nat} (h : Keeps
    a s) : Keeps a (State.errMany s p b code ctx n) := by
  unfold State.errMany
  exact (State.setPage_keeps (Keeps.foldl h (fun _ _ h0 => (State.err_keeps h0))))

theorem State.markLate_keeps {a : State} {s : State} {m : Nat} {n : Nat} (h : Keeps a s) : Keeps a (State.markLate s m
    n) := by
  unfold State.markLate
  exact (Keeps.ite h (State.setRg_keeps (State.setIst_keeps (State.errMany_keeps (State.sat_keeps (State.setMark_keeps
    h))))))

theorem State.markAdvance_keeps {a : State} {s : State} {m : Nat} {w : Int} {fired : Bool} (h : Keeps a s) : Keeps a
    (State.markAdvance s m w fired) := by
  unfold State.markAdvance
  exact (State.markLate_keeps (State.setMark_keeps h))

theorem State.overshoot_keeps {a : State} {s : State} {w : Int} {target : Int} (h : Keeps a s) : Keeps a
    (State.overshoot s w target).1 := by
  unfold State.overshoot
  exact (Keeps.ite1 (State.drawn_keeps h) h)

theorem State.markFire_keeps {a : State} {s : State} {m : Nat} (h : Keeps a s) : Keeps a (State.markFire s m) := by
  unfold State.markFire
  exact (Keeps.ite (State.markAdvance_keeps (Keeps.ite (State.setIst_keeps (State.err_keeps (State.sat_keeps
    (Keeps.ite (State.inc_keeps (Keeps.ite (State.enterNew_keeps (Keeps.ite (State.enterNew_keeps
    (State.overshoot_keeps h)) (State.overshoot_keeps h))) (Keeps.ite (State.enterNew_keeps (State.overshoot_keeps h))
    (State.overshoot_keeps h)))) (Keeps.ite (State.enterNew_keeps (Keeps.ite (State.enterNew_keeps
    (State.overshoot_keeps h)) (State.overshoot_keeps h))) (Keeps.ite (State.enterNew_keeps (State.overshoot_keeps h))
    (State.overshoot_keeps h))))))) (Keeps.ite (State.inc_keeps (Keeps.ite (State.enterNew_keeps (Keeps.ite
    (State.enterNew_keeps (State.overshoot_keeps h)) (State.overshoot_keeps h))) (Keeps.ite (State.enterNew_keeps
    (State.overshoot_keeps h)) (State.overshoot_keeps h)))) (Keeps.ite (State.enterNew_keeps (Keeps.ite
    (State.enterNew_keeps (State.overshoot_keeps h)) (State.overshoot_keeps h))) (Keeps.ite (State.enterNew_keeps
    (State.overshoot_keeps h)) (State.overshoot_keeps h)))))) (Keeps.ite (State.setMark_keeps (Keeps.ite
    (State.setIst_keeps (State.err_keeps (State.sat_keeps (Keeps.ite (State.inc_keeps (Keeps.ite (State.enterNew_keeps
    (Keeps.ite (State.enterNew_keeps (State.overshoot_keeps h)) (State.overshoot_keeps h))) (Keeps.ite
    (State.enterNew_keeps (State.overshoot_keeps h)) (State.overshoot_keeps h)))) (Keeps.ite (State.enterNew_keeps
    (Keeps.ite (State.enterNew_keeps (State.overshoot_keeps h)) (State.overshoot_keeps h))) (Keeps.ite
    (State.enterNew_keeps (State.overshoot_keeps h)) (State.overshoot_keeps h))))))) (Keeps.ite (State.inc_keeps
    (Keeps.ite (State.enterNew_keeps (Keeps.ite (State.enterNew_keeps (State.overshoot_keeps h))
    (State.overshoot_keeps h))) (Keeps.ite (State.enterNew_keeps (State.overshoot_keeps h)) (State.overshoot_keeps
    h)))) (Keeps.ite (State.enterNew_keeps (Keeps.ite (State.enterNew_keeps (State.overshoot_keeps h))
    (State.overshoot_keeps h))) (Keeps.ite (State.enterNew_keeps (State.overshoot_keeps h)) (State.overshoot_keeps
    h)))))) (State.setMark_keeps (Keeps.ite (State.setIst_keeps (State.err_keeps (State.sat_keeps (Keeps.ite
    (State.inc_keeps (Keeps.ite (State.enterNew_keeps (Keeps.ite (State.enterNew_keeps (State.overshoot_keeps h))
    (State.overshoot_keeps h))) (Keeps.ite (State.enterNew_keeps (State.overshoot_keeps h)) (State.overshoot_keeps
    h)))) (Keeps.ite (State.enterNew_keeps (Keeps.ite (State.enterNew_keeps (State.overshoot_keeps h))
    (State.overshoot_keeps h))) (Keeps.ite (State.enterNew_keeps (State.overshoot_keeps h)) (State.overshoot_keeps
    h))))))) (Keeps.ite (State.inc_keeps (Keeps.ite (State.enterNew_keeps (Keeps.ite (State.enterNew_keeps
    (State.overshoot_keeps h)) (State.overshoot_keeps h))) (Keeps.ite (State.enterNew_keeps (State.overshoot_keeps h))
    (State.overshoot_keeps h)))) (Keeps.ite (State.enterNew_keeps (Keeps.ite (State.enterNew_keeps
    (State.overshoot_keeps h)) (State.overshoot_keeps h))) (Keeps.ite (State.enterNew_keeps (State.overshoot_keeps h))
    (State.overshoot_keeps h))))))))

theorem State.deferRest_keeps {a : State} {s : State} {d : Nat} {l : List (Nat × Mark)} (h : Keeps a s) : Keeps a
    (State.deferRest s d l) := by
  unfold State.deferRest
  exact (Keeps.upd (Keeps.foldl h (fun _ _ h0 => (State.setMark_keeps h0))))

theorem State.fireMarks_keeps {a : State} {s : State} {ls : List (Nat × List (Nat × Mark))} (h : Keeps a s) : Keeps a
    (State.fireMarks s ls) := by
  unfold State.fireMarks
  exact (Keeps.foldl (Keeps.foldl h (fun _ _ h0 => (State.deferRest_keeps h0))) (fun _ _ h0 => (State.markFire_keeps h0)))

theorem State.markEval_keeps {a : State} {s : State} {m : Nat} (h : Keeps a s) : Keeps a (State.markEval s m) := by
  unfold State.markEval
  exact (Keeps.ite (Keeps.ite (State.setMark_keeps h) (State.setMark_keeps h)) (Keeps.ite h (Keeps.ite (Keeps.ite
    (State.setMark_keeps h) (Keeps.ite (State.markAdvance_keeps (State.setMark_keeps h)) (Keeps.ite
    (State.markLate_keeps (State.setMark_keeps (State.setMark_keeps h))) (State.markLate_keeps (State.setMark_keeps
    (State.setMark_keeps h)))))) (Keeps.ite (State.setMark_keeps h) h))))

theorem State.rearmDomain_keeps {a : State} {s : State} {d : Nat} (h : Keeps a s) : Keeps a (State.rearmDomain s d) := by
  unfold State.rearmDomain
  exact (Keeps.upd h)

theorem State.disarmDomains_keeps {a : State} {s : State} {doms : Nat} (h : Keeps a s) : Keeps a (State.disarmDomains
    s doms) := by
  unfold State.disarmDomains
  exact (Keeps.upd h)

theorem State.pscOnRun_keeps {a : State} {s : State} (h : Keeps a s) : Keeps a (State.pscOnRun s) := by
  unfold State.pscOnRun
  exact (Keeps.foldl h (fun _ _ h0 => (State.rearmDomain_keeps h0)))

theorem State.pscOff_keeps {a : State} {s : State} (h : Keeps a s) : Keeps a (State.pscOff s) := by
  unfold State.pscOff
  exact (State.pscShow_keeps (Keeps.upd h))

theorem State.pscReset_keeps {a : State} {s : State} (h : Keeps a s) : Keeps a (State.pscReset s) := by
  unfold State.pscReset
  exact (Keeps.upd h)

theorem State.pscOnWrite_keeps {a : State} {s : State} {o : Nat} {v : Nat} (h : Keeps a s) : KeepsO a
    (State.pscOnWrite s o v) := by
  unfold State.pscOnWrite
  exact (KeepsO.ite (KeepsO.some (State.disarmDomains_keeps h)) KeepsO.none)

end Sys2Proof.Machine
end

