-- ==== Sys2Proof/Laws/KeepsPrint.lean ====
section
/-!
SUPPORT. What the named operations keep: jobs, screening, nozzle tables, firing, head links. One lemma per operation.
-/

set_option Elab.async false

namespace Sys2Proof.Machine

theorem State.setStripe_keeps {a : State} {s : State} {q : Nat} {x : Stripe} (h : Keeps a s) : Keeps a
    (State.setStripe s q x) := by
  unfold State.setStripe
  exact (Keeps.upd h)

theorem State.setBar_keeps {a : State} {s : State} {b : Nat} {x : Bar} (h : Keeps a s) : Keeps a (State.setBar s b x)
    := by
  unfold State.setBar
  exact (Keeps.upd h)

theorem State.recWrite_keeps {a : State} {s : State} {i : Nat} {v : Nat} (h : Keeps a s) : Keeps a (State.recWrite s i
    v) := by
  unfold State.recWrite
  exact (by split; exact (Keeps.upd h); exact (Keeps.upd h))

theorem State.curWrite_keeps {a : State} {s : State} {i : Nat} {v : Nat} (h : Keeps a s) : Keeps a (State.curWrite s i
    v) := by
  unfold State.curWrite
  exact (Keeps.upd h)

theorem State.applyHeld_keeps {a : State} {s : State} {z1 : Held} (h : Keeps a s) : Keeps a (State.applyHeld s z1) := by
  unfold State.applyHeld
  exact (by split; exact (by split; exact (State.recWrite_keeps h); exact (State.sat_keeps h)); exact (Keeps.foldl h (fun _ _ h0 => (Keeps.ite (State.curWrite_keeps h0) (State.recWrite_keeps h0)))))

theorem State.showHeld_keeps {a : State} {s : State} (h : Keeps a s) : Keeps a (State.showHeld s) := by
  unfold State.showHeld
  exact (State.setFl_keeps (State.setFl_keeps h))

theorem State.nctPut_keeps {a : State} {s : State} {z1 : Held} (h : Keeps a s) : Keeps a (State.nctPut s z1) := by
  unfold State.nctPut
  exact (Keeps.ite (State.showHeld_keeps (State.inc_keeps (Keeps.upd h))) (State.applyHeld_keeps h))

theorem State.nozzleWrite_keeps {a : State} {s : State} {off : Nat} {v : Nat} {wide : Bool} (h : Keeps a s) : Keeps a
    (State.nozzleWrite s off v wide) := by
  unfold State.nozzleWrite
  exact (Keeps.ite (State.nctPut_keeps h) (Keeps.ite (State.nctPut_keeps h) (State.nctPut_keeps (State.nctPut_keeps h))))

theorem State.curveWrite_keeps {a : State} {s : State} {off : Nat} {v : Nat} {wide : Bool} (h : Keeps a s) : Keeps a
    (State.curveWrite s off v wide) := by
  unfold State.curveWrite
  exact (State.nctPut_keeps h)

theorem State.dropStalled_keeps {a : State} {s : State} (h : Keeps a s) : Keeps a (State.dropStalled s) := by
  unfold State.dropStalled
  exact (Keeps.upd h)

theorem State.toCopy_keeps {a : State} {s : State} (h : Keeps a s) : Keeps a (State.toCopy s) := by
  unfold State.toCopy
  exact (State.setRg_keeps (Keeps.ite (State.setFl_keeps (State.setFl_keeps h)) (State.setFl_keeps h)))

theorem State.handOver_keeps {a : State} {s : State} {b : Nat} (h : Keeps a s) : Keeps a (State.handOver s b) := by
  unfold State.handOver
  exact (Keeps.ite h (Keeps.ite (State.toCopy_keeps (State.setFl_keeps (State.setFl_keeps h))) (State.setFl_keeps
    (State.setFl_keeps h))))

theorem State.swForce_keeps {a : State} {s : State} (h : Keeps a s) : Keeps a (State.swForce s) := by
  unfold State.swForce
  exact (Keeps.ite h (Keeps.foldl (Keeps.upd h) (fun _ _ h0 => (Keeps.ite (State.handOver_keeps h0) h0))))

theorem State.imgError_keeps {a : State} {s : State} {code : Nat} (h : Keeps a s) : Keeps a (State.imgError s code) := by
  unfold State.imgError
  exact (State.err_keeps (State.setRg_keeps h))

theorem State.imgWrite_keeps {a : State} {s : State} {n : Nat} (h : Keeps a s) : Keeps a (State.imgWrite s n) := by
  unfold State.imgWrite
  exact (by (try dsimp only); split; exact (State.imgError_keeps (Keeps.fst ‹_› (State.dramRead_keeps h))); exact (Keeps.upd (Keeps.foldl (Keeps.fst ‹_› (State.dramRead_keeps h)) (fun _ _ h0 => (Keeps.ite (State.curWrite_keeps h0) (State.recWrite_keeps h0))))))

theorem State.swapLine_keeps {a : State} {s : State} {b : Nat} (h : Keeps a s) : Keeps a (State.swapLine s b) := by
  unfold State.swapLine
  exact (State.setRg64_keeps (State.setRg64_keeps h))

theorem State.swapFollow_keeps {a : State} {s : State} {b : Nat} (h : Keeps a s) : Keeps a (State.swapFollow s b) := by
  unfold State.swapFollow
  exact (Keeps.ite (State.swapLine_keeps h) h)

theorem State.swapAccept_keeps {a : State} {s : State} {mask : Nat} {curves : Bool} {src : Nat} (h : Keeps a s) :
    Keeps a (State.swapAccept s mask curves src) := by
  unfold State.swapAccept
  exact (Keeps.ite (State.toCopy_keeps (Keeps.upd (State.setFl_keeps (State.setFl_keeps (State.setRg_keeps
    (Keeps.foldl (Keeps.ite (State.imgWrite_keeps (State.drawn_keeps h)) h) (fun _ _ h0 => (State.swapLine_keeps
    h0)))))))) (Keeps.foldl (Keeps.upd (State.setFl_keeps (State.setFl_keeps (State.setRg_keeps (Keeps.foldl
    (Keeps.ite (State.imgWrite_keeps (State.drawn_keeps h)) h) (fun _ _ h0 => (State.swapLine_keeps h0))))))) (fun _ _
    h0 => (State.handOver_keeps h0))))

theorem State.swapRequest_keeps {a : State} {s : State} {mask : Nat} {curves : Bool} {src : Nat} (h : Keeps a s) :
    Keeps a (State.swapRequest s mask curves src).1 := by
  unfold State.swapRequest
  exact (Keeps.ite1 h (Keeps.ite1 (Keeps.ite1 (State.sat_keeps h) (State.setIst_keeps (State.sat_keeps
    (State.err_keeps (State.refuseSet_keeps h))))) (Keeps.ite1 (State.err_keeps (Keeps.ite h (State.refuseSet_keeps
    h))) (State.swapAccept_keeps (Keeps.ite h (State.applySet_keeps h))))))

theorem State.nctApply_keeps {a : State} {s : State} {src : Nat} (h : Keeps a s) : Keeps a (State.nctApply s src) := by
  unfold State.nctApply
  exact (Keeps.ite (State.swapRequest_keeps h) h)

theorem State.swapIdle_keeps {a : State} {s : State} (h : Keeps a s) : Keeps a (State.swapIdle s) := by
  unfold State.swapIdle
  exact (State.happen_keeps (Keeps.upd (by split; exact (State.setFl_keeps (Keeps.upd (State.setRg64_keeps (State.inc_keeps (State.setFl_keeps h))))); exact (State.setRg64_keeps (State.inc_keeps (State.setFl_keeps h))))))

theorem State.copyBar_keeps {a : State} {s : State} {b : Nat} (h : Keeps a s) : Keeps a (State.copyBar s b) := by
  unfold State.copyBar
  exact (State.setRg_keeps (Keeps.upd h))

theorem State.copyCurves_keeps {a : State} {s : State} (h : Keeps a s) : Keeps a (State.copyCurves s) := by
  unfold State.copyCurves
  exact (Keeps.upd h)

theorem State.nctReset_keeps {a : State} {s : State} (h : Keeps a s) : Keeps a (State.nctReset s) := by
  unfold State.nctReset
  exact (Keeps.ite (Keeps.upd h) (Keeps.upd (State.err_keeps (State.sat_keeps (State.drawn_keeps h)))))

theorem State.imgLoad_keeps {a : State} {s : State} (h : Keeps a s) : Keeps a (State.imgLoad s) := by
  unfold State.imgLoad
  exact (Keeps.ite (State.setRg_keeps h) h)

theorem State.rangeWrite_keeps {a : State} {s : State} {o : Nat} {lo : Nat} {hi : Nat} (h : Keeps a s) : Keeps a
    (State.rangeWrite s o lo hi) := by
  unfold State.rangeWrite
  exact (Keeps.ite (State.err_keeps h) (State.writeWord_keeps (State.writeWord_keeps h)))

theorem State.nctOnWrite_keeps {a : State} {s : State} {o : Nat} {v : Nat} (h : Keeps a s) : KeepsO a
    (State.nctOnWrite s o v) := by
  unfold State.nctOnWrite
  exact (KeepsO.ite (KeepsO.some (Keeps.ite (State.swForce_keeps h) h)) (KeepsO.ite (KeepsO.some (Keeps.ite
    (State.imgLoad_keeps h) h)) (KeepsO.ite (KeepsO.ite KeepsO.none (KeepsO.some h)) (KeepsO.ite (KeepsO.some
    (State.writeWord_keeps h)) (KeepsO.ite (KeepsO.ite (KeepsO.some (State.err_keeps h)) KeepsO.none) KeepsO.none)))))

theorem State.setBarCur_keeps {a : State} {s : State} {n : Nat} {x : BarCur} (h : Keeps a s) : Keeps a
    (State.setBarCur s n x) := by
  unfold State.setBarCur
  exact (Keeps.upd h)

theorem State.setRefCur_keeps {a : State} {s : State} {n : Nat} {x : RefCur} (h : Keeps a s) : Keeps a
    (State.setRefCur s n x) := by
  unfold State.setRefCur
  exact (Keeps.upd h)

theorem State.showBand_keeps {a : State} {s : State} (h : Keeps a s) : Keeps a (State.showBand s) := by
  unfold State.showBand
  exact (State.setRg_keeps h)

theorem State.checkBar_keeps {a : State} {s : State} {set_ : Bool} {n : Nat} (h : Keeps a s) : Keeps a (State.checkBar
    s set_ n) := by
  unfold State.checkBar
  exact (Keeps.ite (State.err_keeps (State.setBarCur_keeps h)) (State.setBarCur_keeps h))

theorem State.checkRef_keeps {a : State} {s : State} {set_ : Bool} {n : Nat} (h : Keeps a s) : Keeps a (State.checkRef
    s set_ n) := by
  unfold State.checkRef
  exact (Keeps.ite (State.err_keeps (State.setRefCur_keeps h)) (State.setRefCur_keeps h))

theorem State.showRelease_keeps {a : State} {s : State} (h : Keeps a s) : Keeps a (State.showRelease s) := by
  unfold State.showRelease
  exact (Keeps.foldl h (fun _ _ h0 => (by split; exact h0; exact (State.setRgI_keeps h0))))

theorem State.jobFail_keeps {a : State} {s : State} {n : Nat} {bitNo : Nat} {code : Nat} (h : Keeps a s) : Keeps a
    (State.jobFail s n bitNo code) := by
  unfold State.jobFail
  exact (State.err_keeps (State.setRg_keeps h))

theorem State.jobReady_keeps {a : State} {s : State} {n : Nat} {z2 : JobHead} (h : Keeps a s) : Keeps a
    (State.jobReady s n z2) := by
  unfold State.jobReady
  exact (State.happen_keeps (State.showRelease_keeps (Keeps.foldl (Keeps.foldl (State.showBand_keeps
    (State.setRg_keeps (Keeps.upd h))) (fun _ _ h0 => (State.checkBar_keeps h0))) (fun _ _ h0 => (State.checkRef_keeps
    h0)))))

theorem State.jobLoad_keeps {a : State} {s : State} {n : Nat} (h : Keeps a s) : Keeps a (State.jobLoad s n) := by
  unfold State.jobLoad
  exact (Keeps.ite (State.setRg_keeps h) h)

theorem State.jobFetchErr_keeps {a : State} {s : State} {ctx : Nat} (h : Keeps a s) : Keeps a (State.jobFetchErr s
    ctx) := by
  unfold State.jobFetchErr
  exact (State.err_keeps (State.sat_keeps h))

theorem State.jobUnload_keeps {a : State} {s : State} {n : Nat} (h : Keeps a s) : Keeps a (State.jobUnload s n) := by
  unfold State.jobUnload
  exact (Keeps.ite h (Keeps.ite (State.err_keeps h) (State.showRelease_keeps (State.showBand_keeps (State.setRg_keeps
    (Keeps.upd h))))))

theorem State.jobVerify_keeps {a : State} {s : State} {n : Nat} (h : Keeps a s) : Keeps a (State.jobVerify s n) := by
  unfold State.jobVerify
  exact (Keeps.ite (State.setFl_keeps (Keeps.upd h)) h)

theorem State.verdictRead_keeps {a : State} {s : State} {n : Nat} {v : Nat} (h : Keeps a s) : Keeps a
    (State.verdictRead s n v) := by
  unfold State.verdictRead
  exact (State.dramRead_keeps h)

theorem State.passEnd_keeps {a : State} {s : State} {c : Nat} {z2 : Option (Nat × Nat × Nat × Nat)} (h : Keeps a s) :
    Keeps a (State.passEnd s c z2) := by
  unfold State.passEnd
  exact (by split; exact h; exact (Keeps.upd h))

theorem State.verdictCount_keeps {a : State} {s : State} {code : Nat} (h : Keeps a s) : Keeps a (State.verdictCount s
    code) := by
  unfold State.verdictCount
  exact (Keeps.ite (State.sat_keeps h) (Keeps.ite (State.sat_keeps h) h))

theorem State.setVerdict_keeps {a : State} {s : State} {n : Nat} {v : Nat} {code : Nat} (h : Keeps a s) : Keeps a
    (State.setVerdict s n v code) := by
  unfold State.setVerdict
  exact (by (try dsimp only); split; exact (State.verdictCount_keeps (Keeps.fst ‹_› (State.dramWrite_keeps h))); exact (State.jobFetchErr_keeps (Keeps.fst ‹_› (State.dramWrite_keeps h))))

theorem State.dramPrefix_keeps {a : State} {s : State} {z1 : Nat} {n : Nat} (h : Keeps a s) : Keeps a
    (State.dramPrefix s z1 n).1 := by
  unfold State.dramPrefix
  exact (by split; exact (State.dramPass_keeps h); exact (State.dramError_keeps (State.dramPass_keeps h)))

theorem State.tileEntry_keeps {a : State} {s : State} {n : Nat} {z2 : JobHead} {t : TileId} (h : Keeps a s) : Keeps a
    (State.tileEntry s n z2 t).1 := by
  unfold State.tileEntry
  exact (State.dramRead_keeps h)

theorem State.tilePayload_keeps {a : State} {s : State} {n : Nat} {e : List Byte} (h : Keeps a s) : Keeps a
    (State.tilePayload s n e).1 := by
  unfold State.tilePayload
  exact (State.dramPrefix_keeps h)

theorem State.checkVerdict_keeps {a : State} {s : State} {n : Nat} {z2 : JobHead} {t : TileId} (h : Keeps a s) : Keeps
    a (State.checkVerdict s n z2 t).1 := by
  unfold State.checkVerdict
  exact (by split; exact (Keeps.fst ‹_› (State.tileEntry_keeps h)); exact (Keeps.ite1 (Keeps.fst ‹_› (State.tileEntry_keeps h)) (Keeps.ite1 (Keeps.fst ‹_› (State.tileEntry_keeps h)) (by split; exact (Keeps.fst ‹_› (State.tilePayload_keeps (Keeps.fst ‹_› (State.tileEntry_keeps h)))); exact (Keeps.fst ‹_› (State.tilePayload_keeps (Keeps.fst ‹_› (State.tileEntry_keeps h))))))))

theorem State.verdictError_keeps {a : State} {s : State} {v : Nat} {code : Nat} (h : Keeps a s) : Keeps a
    (State.verdictError s v code) := by
  unfold State.verdictError
  exact (Keeps.ite (State.setIst_keeps (State.err_keeps h)) (Keeps.ite (State.setIst_keeps (State.err_keeps h)) h))

theorem State.checkTile_keeps {a : State} {s : State} {asks : List Nat} {n : Nat} {z3 : JobHead} {i : TileId} (h :
    Keeps a s) : Keeps a (State.checkTile s asks n z3 i) := by
  unfold State.checkTile
  exact (Keeps.ite (by split; exact (State.verdictRead_keeps h); exact (State.jobFetchErr_keeps (State.verdictRead_keeps h))) (by split; exact (State.jobFetchErr_keeps (Keeps.fst ‹_› (State.checkVerdict_keeps (by split; exact (State.verdictRead_keeps h); exact (State.jobFetchErr_keeps (State.verdictRead_keeps h)))))); exact (Keeps.ite (State.setVerdict_keeps (State.verdictError_keeps (Keeps.fst ‹_› (State.checkVerdict_keeps (by split; exact (State.verdictRead_keeps h); exact (State.jobFetchErr_keeps (State.verdictRead_keeps h))))))) (Keeps.upd (State.setVerdict_keeps (State.verdictError_keeps (Keeps.fst ‹_› (State.checkVerdict_keeps (by split; exact (State.verdictRead_keeps h); exact (State.jobFetchErr_keeps (State.verdictRead_keeps h)))))))))))

theorem State.tileRead_keeps {a : State} {s : State} {n : Nat} {z2 : JobHead} {t : TileId} (h : Keeps a s) : Keeps a
    (State.tileRead s n z2 t).1 := by
  unfold State.tileRead
  exact (by (try dsimp only); split; exact (State.jobFetchErr_keeps (Keeps.fst ‹_› (State.tileEntry_keeps h))); exact (Keeps.ite1 (State.setVerdict_keeps (State.verdictError_keeps (Keeps.fst ‹_› (State.tileEntry_keeps h)))) (Keeps.ite1 (State.setVerdict_keeps (State.verdictError_keeps (Keeps.fst ‹_› (State.tileEntry_keeps h)))) (Keeps.ite1 (Keeps.fst ‹_› (State.tileEntry_keeps h)) (Keeps.ite1 (State.jobFetchErr_keeps (State.tilePayload_keeps (Keeps.fst ‹_› (State.tileEntry_keeps h)))) (Keeps.ite1 (State.setVerdict_keeps (State.verdictError_keeps (State.drawn_keeps (State.tilePayload_keeps (Keeps.fst ‹_› (State.tileEntry_keeps h)))))) (Keeps.ite1 (State.setVerdict_keeps (State.verdictError_keeps (State.tilePayload_keeps (Keeps.fst ‹_› (State.tileEntry_keeps h))))) (State.tilePayload_keeps (Keeps.fst ‹_› (State.tileEntry_keeps h))))))))))

theorem State.passVerdict_keeps {a : State} {s : State} {c : Nat} {n : Nat} {v : Nat} (h : Keeps a s) : Keeps a
    (State.passVerdict s c n v) := by
  unfold State.passVerdict
  exact (Keeps.ite h (State.verdictRead_keeps h))

theorem State.passTile_keeps {a : State} {s : State} {c : Nat} {o : Nat} {n : Nat} {z4 : JobHead} {t : TileId} (h :
    Keeps a s) : Keeps a (State.passTile s c o n z4 t).1 := by
  unfold State.passTile
  exact (Keeps.ite1 (State.sat_keeps (State.passVerdict_keeps (State.inc_keeps h))) (Keeps.ite (State.tileRead_keeps
    (State.passVerdict_keeps (State.inc_keeps h))) (State.sat_keeps (State.tileRead_keeps (State.passVerdict_keeps
    (State.inc_keeps h))))))

theorem State.barTake_keeps {a : State} {s : State} {n : Nat} {e : Need} (h : Keeps a s) : Keeps a (State.barTake s n
    e) := by
  unfold State.barTake
  exact (Keeps.ite h (State.setBarCur_keeps (State.passTile_keeps h)))

theorem State.refTake_keeps {a : State} {s : State} {n : Nat} {e : Need} (h : Keeps a s) : Keeps a (State.refTake s n
    e) := by
  unfold State.refTake
  exact (Keeps.ite h (State.setRefCur_keeps (State.passTile_keeps h)))

theorem State.jobTake_keeps {a : State} {s : State} {b : Nat} {k : Int} (h : Keeps a s) : Keeps a (State.jobTake s b
    k) := by
  unfold State.jobTake
  exact (Keeps.foldl h (fun _ _ h0 => (State.barTake_keeps h0)))

theorem State.barTileReads_keeps {a : State} {s : State} {b : Nat} {k : Int} (h : Keeps a s) : Keeps a
    (State.barTileReads s b k) := by
  unfold State.barTileReads
  exact (Keeps.ite (State.sramItems_keeps h) (State.setBarCur_keeps (State.sramItems_keeps h)))

theorem State.contoneLate_keeps {a : State} {s : State} {b : Nat} {k : Int} (h : Keeps a s) : Keeps a
    (State.contoneLate s b k) := by
  unfold State.contoneLate
  exact (Keeps.ite (State.err_keeps (State.sat_keeps (State.sat_keeps h))) h)

theorem State.barShed_keeps {a : State} {s : State} {b : Nat} {k : Int} (h : Keeps a s) : Keeps a (State.barShed s b
    k) := by
  unfold State.barShed
  exact (State.setBarCur_keeps h)

theorem State.jobStart_keeps {a : State} {s : State} {b : Nat} {k : Nat} (h : Keeps a s) : Keeps a (State.jobStart s b
    k) := by
  unfold State.jobStart
  exact (Keeps.ite (State.setBarCur_keeps h) (State.showRelease_keeps (State.jobTake_keeps (State.barShed_keeps
    (Keeps.ite (State.passEnd_keeps (Keeps.ite (State.logOnly_keeps (Keeps.ite (State.setBarCur_keeps
    (State.setRgI_keeps (State.setRgI_keeps (State.setBarCur_keeps h)))) (State.happen_keeps (State.setBarCur_keeps
    (State.setRgI_keeps (State.setRgI_keeps (State.setBarCur_keeps h))))))) (Keeps.ite (State.setBarCur_keeps
    (State.setRgI_keeps (State.setRgI_keeps (State.setBarCur_keeps h)))) (State.happen_keeps (State.setBarCur_keeps
    (State.setRgI_keeps (State.setRgI_keeps (State.setBarCur_keeps h)))))))) (Keeps.ite (State.logOnly_keeps
    (Keeps.ite (State.setBarCur_keeps (State.setRgI_keeps (State.setRgI_keeps (State.setBarCur_keeps h))))
    (State.happen_keeps (State.setBarCur_keeps (State.setRgI_keeps (State.setRgI_keeps (State.setBarCur_keeps h)))))))
    (Keeps.ite (State.setBarCur_keeps (State.setRgI_keeps (State.setRgI_keeps (State.setBarCur_keeps h))))
    (State.happen_keeps (State.setBarCur_keeps (State.setRgI_keeps (State.setRgI_keeps (State.setBarCur_keeps
    h))))))))))))

theorem State.cursorEnable_keeps {a : State} {s : State} {n : Nat} {en : Bool} (h : Keeps a s) : Keeps a
    (State.cursorEnable s n en) := by
  unfold State.cursorEnable
  exact (Keeps.ite (Keeps.ite (Keeps.ite (State.err_keeps h) (State.showRelease_keeps (State.showBand_keeps
    (State.setBarCur_keeps (State.setFl_keeps h))))) (State.showRelease_keeps (State.showBand_keeps (State.setFl_keeps
    h)))) h)

theorem State.refTakes_keeps {a : State} {s : State} {n : Nat} {x : RefSet} {k : Nat} (h : Keeps a s) : Keeps a
    (State.refTakes s n x k) := by
  unfold State.refTakes
  exact (Keeps.foldl h (fun _ _ h0 => (State.refTake_keeps h0)))

theorem State.refTileReads_keeps {a : State} {s : State} {n : Nat} {x : RefSet} {k : Nat} (h : Keeps a s) : Keeps a
    (State.refTileReads s n x k) := by
  unfold State.refTileReads
  exact (Keeps.ite (State.sramItems_keeps h) (State.setRefCur_keeps (State.sramItems_keeps h)))

theorem State.refLate_keeps {a : State} {s : State} {n : Nat} (h : Keeps a s) : Keeps a (State.refLate s n) := by
  unfold State.refLate
  exact (State.err_keeps (State.sat_keeps (State.sat_keeps h)))

theorem State.refStart_keeps {a : State} {s : State} {n : Nat} {k : Nat} (h : Keeps a s) : Keeps a (State.refStart s n
    k) := by
  unfold State.refStart
  exact (Keeps.ite h (State.showRelease_keeps (Keeps.ite (State.setRefCur_keeps (Keeps.ite (State.passEnd_keeps
    (Keeps.ite (State.setRefCur_keeps (State.setRgI_keeps h)) (State.happen_keeps (State.setRefCur_keeps
    (State.setRgI_keeps h))))) (Keeps.ite (State.setRefCur_keeps (State.setRgI_keeps h)) (State.happen_keeps
    (State.setRefCur_keeps (State.setRgI_keeps h)))))) (State.refTakes_keeps (State.setRefCur_keeps (Keeps.ite
    (State.passEnd_keeps (Keeps.ite (State.setRefCur_keeps (State.setRgI_keeps h)) (State.happen_keeps
    (State.setRefCur_keeps (State.setRgI_keeps h))))) (Keeps.ite (State.setRefCur_keeps (State.setRgI_keeps h))
    (State.happen_keeps (State.setRefCur_keeps (State.setRgI_keeps h))))))))))

theorem State.slotCtrl_keeps {a : State} {s : State} {n : Nat} {v : Nat} (h : Keeps a s) : Keeps a (State.slotCtrl s n
    v) := by
  unfold State.slotCtrl
  exact (Keeps.ite (State.jobVerify_keeps (Keeps.ite (State.jobLoad_keeps (Keeps.ite (State.jobUnload_keeps (Keeps.ite
    (State.showRelease_keeps (State.setFl_keeps h)) (Keeps.ite (State.setFl_keeps (State.showRelease_keeps
    (State.setFl_keeps h))) (State.err_keeps (State.showRelease_keeps (State.setFl_keeps h)))))) (Keeps.ite
    (State.showRelease_keeps (State.setFl_keeps h)) (Keeps.ite (State.setFl_keeps (State.showRelease_keeps
    (State.setFl_keeps h))) (State.err_keeps (State.showRelease_keeps (State.setFl_keeps h))))))) (Keeps.ite
    (State.jobUnload_keeps (Keeps.ite (State.showRelease_keeps (State.setFl_keeps h)) (Keeps.ite (State.setFl_keeps
    (State.showRelease_keeps (State.setFl_keeps h))) (State.err_keeps (State.showRelease_keeps (State.setFl_keeps
    h)))))) (Keeps.ite (State.showRelease_keeps (State.setFl_keeps h)) (Keeps.ite (State.setFl_keeps
    (State.showRelease_keeps (State.setFl_keeps h))) (State.err_keeps (State.showRelease_keeps (State.setFl_keeps
    h)))))))) (Keeps.ite (State.jobLoad_keeps (Keeps.ite (State.jobUnload_keeps (Keeps.ite (State.showRelease_keeps
    (State.setFl_keeps h)) (Keeps.ite (State.setFl_keeps (State.showRelease_keeps (State.setFl_keeps h)))
    (State.err_keeps (State.showRelease_keeps (State.setFl_keeps h)))))) (Keeps.ite (State.showRelease_keeps
    (State.setFl_keeps h)) (Keeps.ite (State.setFl_keeps (State.showRelease_keeps (State.setFl_keeps h)))
    (State.err_keeps (State.showRelease_keeps (State.setFl_keeps h))))))) (Keeps.ite (State.jobUnload_keeps (Keeps.ite
    (State.showRelease_keeps (State.setFl_keeps h)) (Keeps.ite (State.setFl_keeps (State.showRelease_keeps
    (State.setFl_keeps h))) (State.err_keeps (State.showRelease_keeps (State.setFl_keeps h)))))) (Keeps.ite
    (State.showRelease_keeps (State.setFl_keeps h)) (Keeps.ite (State.setFl_keeps (State.showRelease_keeps
    (State.setFl_keeps h))) (State.err_keeps (State.showRelease_keeps (State.setFl_keeps h))))))))

theorem State.jobOnWrite_keeps {a : State} {s : State} {o : Nat} {v : Nat} (h : Keeps a s) : KeepsO a
    (State.jobOnWrite s o v) := by
  unfold State.jobOnWrite
  exact (KeepsO.ite (KeepsO.ite (KeepsO.some (State.slotCtrl_keeps h)) (KeepsO.ite (KeepsO.some (State.err_keeps h))
    KeepsO.none)) (KeepsO.ite (KeepsO.ite (KeepsO.some h) (KeepsO.ite (KeepsO.some (State.cursorEnable_keeps
    (State.writeB_keeps h))) KeepsO.none)) (KeepsO.ite (KeepsO.some h) (KeepsO.ite (KeepsO.some
    (State.showRelease_keeps (Keeps.ite (State.setRefCur_keeps (State.writeWord_keeps h)) (State.writeWord_keeps h))))
    KeepsO.none))))

theorem State.jobApply_keeps {a : State} {s : State} (h : Keeps a s) : Keeps a (State.jobApply s) := by
  unfold State.jobApply
  exact (Keeps.ite h (by (try dsimp only); split; exact (State.err_keeps (State.refuseSet_keeps h)); exact (State.showRelease_keeps (State.showBand_keeps (Keeps.foldl (Keeps.foldl (Keeps.foldl (Keeps.foldl (State.applySet_keeps h) (fun _ _ h0 => (State.setBarCur_keeps h0))) (fun _ _ h0 => (State.setRefCur_keeps h0))) (fun _ _ h0 => (State.checkBar_keeps h0))) (fun _ _ h0 => (State.checkRef_keeps h0)))))))

theorem State.jobOff_keeps {a : State} {s : State} (h : Keeps a s) : Keeps a (State.jobOff s) := by
  unfold State.jobOff
  exact (Keeps.upd (Keeps.foldl h (fun _ _ h0 => (Keeps.ite (State.setRg_keeps h0) (Keeps.ite (State.setFl_keeps h0)
    h0)))))

theorem State.jobReset_keeps {a : State} {s : State} (h : Keeps a s) : Keeps a (State.jobReset s) := by
  unfold State.jobReset
  exact (Keeps.upd h)

theorem State.nctReads_keeps {a : State} {s : State} {q : Nat} {j : Int} {n : Nat} (h : Keeps a s) : Keeps a
    (State.nctReads s q j n).1 := by
  unfold State.nctReads
  exact (Keeps.ite1 h (Keeps.foldl (State.sramItems_keeps (State.sramItems_keeps h)) (fun _ _ h0 => (State.err_keeps
    h0))))

theorem State.readAndScreen_keeps {a : State} {s : State} {q : Nat} {j : Int} {n : Nat} (h : Keeps a s) : Keeps a
    (State.readAndScreen s q j n).1 := by
  unfold State.readAndScreen
  exact (State.nctReads_keeps (Keeps.ite h (State.barTileReads_keeps h)))

theorem State.settleStripe_keeps {a s : State} {q k : Nat} (h : Keeps a s) : Keeps a (State.settleStripe s q k) := by
  induction k generalizing s with
  | zero => exact h
  | succ k ih =>
    unfold State.settleStripe
    dsimp only
    split
    · exact h
    · exact ih (State.setStripe_keeps (State.readAndScreen_keeps h))

theorem State.showStripe_keeps {a : State} {s : State} {q : Nat} (h : Keeps a s) : Keeps a (State.showStripe s q) := by
  unfold State.showStripe
  exact (State.setFl_keeps (State.setFl_keeps h))

theorem State.dstoreWrite_keeps {a : State} {s : State} {b : Nat} {q : Nat} {k : Nat} {out : List (Int × Nat)} (h :
    Keeps a s) : Keeps a (State.dstoreWrite s b q k out) := by
  unfold State.dstoreWrite
  exact (State.setBar_keeps (by split; exact (State.sramFill_keeps h); exact h))

theorem State.finishLine_keeps {a : State} {s : State} {q : Nat} {j : Int} (h : Keeps a s) : Keeps a (State.finishLine
    s q j) := by
  unfold State.finishLine
  exact (State.showStripe_keeps (State.settleStripe_keeps (Keeps.ite (State.setStripe_keeps (Keeps.upd
    (State.readAndScreen_keeps h))) (State.setRg64_keeps (State.inc64_keeps (State.inc64_keeps (State.inc64_keeps
    (State.inc_keeps (State.dstoreWrite_keeps (State.setStripe_keeps (Keeps.upd (State.readAndScreen_keeps
    h))))))))))))

theorem State.stripeStart_keeps {a : State} {s : State} {q : Nat} {k : Nat} (h : Keeps a s) : Keeps a
    (State.stripeStart s q k) := by
  unfold State.stripeStart
  exact (Keeps.ite (State.showStripe_keeps (State.setStripe_keeps (State.sat_keeps (State.setRg64_keeps h))))
    (State.showStripe_keeps (State.setIst_keeps (State.err_keeps (State.sat_keeps (State.setStripe_keeps (Keeps.upd
    (State.setRg64_keeps h))))))))

theorem State.abandon_keeps {a : State} {s : State} {q : Nat} {k : Nat} (h : Keeps a s) : Keeps a (State.abandon s q
    k) := by
  unfold State.abandon
  exact (State.showStripe_keeps (State.happen_keeps (State.err_keeps (State.sat_keeps (Keeps.ite (Keeps.upd (Keeps.ite
    (State.drawn_keeps h) h)) (State.settleStripe_keeps (State.setStripe_keeps (Keeps.upd (Keeps.ite
    (State.drawn_keeps h) h)))))))))

theorem State.stpApply_keeps {a : State} {s : State} {st : Nat} (h : Keeps a s) : Keeps a (State.stpApply s st) := by
  unfold State.stpApply
  exact (Keeps.ite h (by split; exact (State.err_keeps (State.refuseSet_keeps h)); exact (Keeps.foldl (State.applySet_keeps h) (fun _ _ h0 => (Keeps.ite (State.setStripe_keeps h0) h0)))))

theorem State.stpOnRun_keeps {a : State} {s : State} {st : Nat} (h : Keeps a s) : Keeps a (State.stpOnRun s st) := by
  unfold State.stpOnRun
  exact (Keeps.foldl (Keeps.upd (Keeps.foldl h (fun _ _ h0 => (State.setFl_keeps h0)))) (fun _ _ h0 => (Keeps.ite
    (State.err_keeps (State.setFl_keeps (State.setRg64_keeps (State.setStripe_keeps h0)))) (State.showStripe_keeps
    (State.setRg64_keeps (State.setStripe_keeps h0))))))

theorem State.stpLeft_keeps {a : State} {s : State} (h : Keeps a s) : Keeps a (State.stpLeft s) := by
  unfold State.stpLeft
  exact (Keeps.foldl h (fun _ _ h0 => (Keeps.ite (State.handOver_keeps h0) h0)))

theorem State.stpClear_keeps {a : State} {s : State} {st : Nat} (h : Keeps a s) : Keeps a (State.stpClear s st) := by
  unfold State.stpClear
  exact (Keeps.foldl (Keeps.upd h) (fun _ _ h0 => (State.setStripe_keeps h0)))

theorem State.scrNext_keeps {a : State} {s : State} {st : Nat} {hold : Bool} (h : Keeps a s) : Keeps a (State.scrNext
    s st hold) := by
  unfold State.scrNext
  exact (Keeps.ite (Keeps.upd h) (State.setRg_keeps (Keeps.upd h)))

theorem State.scrSettle_keeps {a : State} {s : State} {st : Nat} {keep : Bool} (h : Keeps a s) : Keeps a
    (State.scrSettle s st keep) := by
  unfold State.scrSettle
  exact (Keeps.upd h)

theorem State.scrWrite_keeps {a : State} {s : State} {st : Nat} {v : Nat} (h : Keeps a s) : Keeps a (State.scrWrite s
    st v) := by
  unfold State.scrWrite
  exact (Keeps.ite (Keeps.ite h (State.err_keeps h)) (Keeps.ite (State.scrNext_keeps (Keeps.upd h))
    (State.scrNext_keeps (Keeps.upd h))))

theorem State.scrRead_keeps {a : State} {s : State} {st : Nat} (h : Keeps a s) : Keeps a (State.scrRead s st) := by
  unfold State.scrRead
  exact (State.scrNext_keeps (Keeps.upd h))

theorem State.readGate_keeps {a : State} {s : State} {p : Nat} {req : Nat} {f : State → State} (h : Keeps a s) (hf : ∀
    t, Keeps a t → Keeps a (f t)) : Keeps a (State.readGate s p req f) := by
  unfold State.readGate
  exact (Keeps.ite (Keeps.upd h) (Keeps.ite (Keeps.upd h) (hf _ h)))

theorem State.stpOnWrite_keeps {a : State} {s : State} {st : Nat} {o : Nat} {v : Nat} (h : Keeps a s) : KeepsO a
    (State.stpOnWrite s st o v) := by
  unfold State.stpOnWrite
  exact (KeepsO.ite (KeepsO.some (State.scrWrite_keeps h)) (KeepsO.ite KeepsO.none (KeepsO.ite (KeepsO.ite
    (KeepsO.some (State.bindError_keeps h)) KeepsO.none) (KeepsO.ite (KeepsO.some (State.err_keeps
    (State.writeWord_keeps h))) KeepsO.none))))

theorem State.showBar_keeps {a : State} {s : State} {b : Nat} (h : Keeps a s) : Keeps a (State.showBar s b) := by
  unfold State.showBar
  exact (State.showBand_keeps (State.setRg_keeps (State.setRg_keeps h)))

theorem State.pbaApply_keeps {a : State} {s : State} {b : Nat} (h : Keeps a s) : Keeps a (State.pbaApply s b) := by
  unfold State.pbaApply
  exact (Keeps.ite h (Keeps.ite (State.err_keeps (State.refuseSet_keeps h)) (State.applySet_keeps h)))

theorem State.voidLine_keeps {a : State} {s : State} {b : Nat} {k : Nat} (h : Keeps a s) : Keeps a (State.voidLine s b
    k) := by
  unfold State.voidLine
  exact (State.setBar_keeps h)

theorem State.abandonAll_keeps {a : State} {s : State} {b : Nat} {k : Nat} (h : Keeps a s) : Keeps a (State.abandonAll
    s b k) := by
  unfold State.abandonAll
  exact (Keeps.foldl h (fun _ _ h0 => (State.abandon_keeps h0)))

theorem State.barIndex_keeps {a : State} {s : State} {b : Nat} {k : Nat} (h : Keeps a s) : Keeps a (State.barIndex s b
    k) := by
  unfold State.barIndex
  exact (by (try dsimp only); split; exact (State.setBar_keeps h); exact (Keeps.ite (State.setBar_keeps (Keeps.foldl h (fun _ _ h0 => (State.voidLine_keeps h0)))) (State.setIst_keeps (State.err_keeps (State.sat_keeps (State.setBar_keeps h))))))

theorem State.noteXorg_keeps {a : State} {s : State} {b : Nat} {k : Nat} (h : Keeps a s) : Keeps a (State.noteXorg s b
    k) := by
  unfold State.noteXorg
  exact (by split; exact (Keeps.upd h); exact h)

theorem State.lineStart_keeps {a : State} {s : State} {b : Nat} {t : Trig} (h : Keeps a s) : Keeps a (State.lineStart
    s b t) := by
  unfold State.lineStart
  exact (State.setBar_keeps (Keeps.ite (Keeps.upd (Keeps.foldl (State.swapFollow_keeps (State.jobStart_keeps
    (Keeps.foldl (State.noteXorg_keeps (State.inc_keeps (State.setRg64_keeps (State.barIndex_keeps
    (State.atBoundary_keeps h (fun _ h0 => (State.pbaApply_keeps h0))))))) (fun _ _ h0 => (State.stripeStart_keeps
    h0))))) (fun _ _ h0 => (State.atBoundary_keeps h0 (fun _ h1 => (State.stpApply_keeps h1)))))) (Keeps.foldl
    (State.swapFollow_keeps (State.jobStart_keeps (Keeps.foldl (State.noteXorg_keeps (State.inc_keeps
    (State.setRg64_keeps (State.barIndex_keeps (State.atBoundary_keeps h (fun _ h0 => (State.pbaApply_keeps h0)))))))
    (fun _ _ h0 => (State.stripeStart_keeps h0))))) (fun _ _ h0 => (State.atBoundary_keeps h0 (fun _ h1 =>
    (State.stpApply_keeps h1)))))))

theorem State.noFire_keeps {a : State} {s : State} {b : Nat} {l : Started} (h : Keeps a s) : Keeps a (State.noFire s b
    l) := by
  unfold State.noFire
  exact (State.setBar_keeps (State.voidLine_keeps (State.abandonAll_keeps h)))

theorem State.showFire_keeps {a : State} {s : State} {b : Nat} {l : Started} {t : Int} (h : Keeps a s) : Keeps a
    (State.showFire s b l t) := by
  unfold State.showFire
  exact (State.setRgI_keeps (State.setRg_keeps (State.setRgI_keeps (State.setRg64_keeps h))))

theorem State.fireDecide_keeps {a : State} {s : State} {b : Nat} {l : Started} (h : Keeps a s) : Keeps a
    (State.fireDecide s b l) := by
  unfold State.fireDecide
  exact (Keeps.ite (State.noFire_keeps (State.err_keeps (State.sat_keeps (State.sat_keeps h)))) (Keeps.ite (State.noFire_keeps (State.happenFrom_keeps (State.err_keeps (State.sat_keeps h)))) (Keeps.ite (State.noFire_keeps (State.err_keeps (State.sat_keeps (State.sat_keeps (State.showFire_keeps (State.drawn_keeps h)))))) (by (try dsimp only); split; exact (State.setBar_keeps (State.showFire_keeps (State.drawn_keeps h))); exact (State.happenFrom_keeps (State.err_keeps (State.sat_keeps (State.setBar_keeps (State.showFire_keeps (State.drawn_keeps h))))))))))

theorem State.deadline_keeps {a : State} {s : State} {b : Nat} {l : Started} (h : Keeps a s) : Keeps a (State.deadline
    s b l) := by
  unfold State.deadline
  exact (Keeps.ite (State.setBar_keeps h) (State.happenFrom_keeps (State.err_keeps (State.sat_keeps
    (State.voidLine_keeps (State.abandonAll_keeps (State.contoneLate_keeps (State.setBar_keeps h))))))))

/-- A refusal of R155 only logs. -/
theorem State.entryBad_keeps {a s : State} {b o m c : Nat} {f : State → State} (e : s.entryBad b o m c = some f) (h :
    Keeps a s) :
    Keeps a (f s) := by
  unfold State.entryBad at e
  dsimp only at e
  split at e
  · cases e; exact State.err_keeps h
  · split at e
    · cases e; exact State.err_keeps h
    · cases e

theorem State.entryWrite_keeps {a s : State} {b o v : Nat} (h : Keeps a s) : Keeps a (State.entryWrite s b o v) := by
  unfold State.entryWrite
  have k : Keeps a ((s.writeWord (pgPBA b) o v).showBar b) := State.showBar_keeps (State.writeWord_keeps h)
  refine Keeps.ite k (Keeps.ite (State.bindError_keeps h) ?_)
  split
  · exact State.entryBad_keeps ‹_› h
  · exact Keeps.ite (State.err_keeps h) k

theorem State.entryPair_keeps {a s : State} {b o lo hi : Nat} (h : Keeps a s) : Keeps a (State.entryPair s b o lo hi)
    := by
  unfold State.entryPair
  refine Keeps.ite (State.bindError_keeps h) ?_
  split
  · exact State.entryBad_keeps ‹_› h
  · exact Keeps.ite (State.err_keeps h) (State.showBar_keeps (State.writeWord_keeps (State.writeWord_keeps h)))

theorem State.barCfg_keeps {a : State} {s : State} {b : Nat} {v : Nat} (h : Keeps a s) : Keeps a (State.barCfg s b v)
    := by
  unfold State.barCfg
  exact (Keeps.ite (State.writeWord_keeps h) (Keeps.ite (State.err_keeps (State.showBar_keeps (State.writeWord_keeps
    h))) (State.showBar_keeps (State.writeWord_keeps h))))

theorem State.pbaOnWrite_keeps {a : State} {s : State} {b : Nat} {o : Nat} {v : Nat} (h : Keeps a s) : KeepsO a
    (State.pbaOnWrite s b o v) := by
  unfold State.pbaOnWrite
  exact (KeepsO.ite (KeepsO.some (State.barCfg_keeps h)) (KeepsO.ite (KeepsO.some (State.entryWrite_keeps h))
    (KeepsO.ite (KeepsO.some (State.showBar_keeps (State.writeWord_keeps h))) KeepsO.none)))

theorem State.fireOnWrite_keeps {a : State} {s : State} {o : Nat} {v : Nat} (h : Keeps a s) : KeepsO a
    (State.fireOnWrite s o v) := by
  unfold State.fireOnWrite
  exact (KeepsO.ite (KeepsO.some (State.err_keeps h)) KeepsO.none)

theorem State.pbaOnRun_keeps {a : State} {s : State} {b : Nat} (h : Keeps a s) : Keeps a (State.pbaOnRun s b) := by
  unfold State.pbaOnRun
  exact (Keeps.ite (State.toFault_keeps (State.err_keeps (State.showBar_keeps (State.setBar_keeps h))))
    (State.showBar_keeps (State.setBar_keeps h)))

theorem State.pbaLeft_keeps {a : State} {s : State} {b : Nat} (h : Keeps a s) : Keeps a (State.pbaLeft s b) := by
  unfold State.pbaLeft
  exact (State.handOver_keeps h)

theorem State.pbaClear_keeps {a : State} {s : State} {b : Nat} (h : Keeps a s) : Keeps a (State.pbaClear s b) := by
  unfold State.pbaClear
  exact (State.setBar_keeps h)

theorem State.setLink_keeps {a : State} {s : State} {n : Nat} {x : Link} (h : Keeps a s) : Keeps a (State.setLink s n
    x) := by
  unfold State.setLink
  exact (Keeps.upd h)

theorem State.setLstate_keeps {a : State} {s : State} {n : Nat} {v : Nat} (h : Keeps a s) : Keeps a (State.setLstate s
    n v) := by
  unfold State.setLstate
  exact (State.setFl_keeps h)

theorem State.setLstep_keeps {a : State} {s : State} {n : Nat} {v : Nat} (h : Keeps a s) : Keeps a (State.setLstep s n
    v) := by
  unfold State.setLstep
  exact (State.setFl_keeps h)

theorem State.hlkSendAt_keeps {a : State} {s : State} {n : Nat} {at_ : Nat} {type : Nat} {ch : Nat} {nr : Nat} {arg :
    Nat} {words : List Nat} (h : Keeps a s) : Keeps a (State.hlkSendAt s n at_ type ch nr arg words) := by
  unfold State.hlkSendAt
  exact (Keeps.ite h (State.setLink_keeps (State.emit_keeps h)))

theorem State.hlkSend_keeps {a : State} {s : State} {n : Nat} {type : Nat} {ch : Nat} {nr : Nat} {arg : Nat} {words :
    List Nat} (h : Keeps a s) : Keeps a (State.hlkSend s n type ch nr arg words) := by
  unfold State.hlkSend
  exact (State.hlkSendAt_keeps h)

theorem State.hlkPumpTo_keeps {a s : State} {n : Nat} {lim : Option Int} {z3 : List (Nat × Nat × List Nat × Nat)}
    (h : Keeps a s) : Keeps a (State.hlkPumpTo s n lim z3) := by
  induction z3 generalizing s with
  | nil => exact State.setLink_keeps h
  | cons f fs ih =>
    unfold State.hlkPumpTo
    exact Keeps.ite (State.setLink_keeps h) (ih (State.hlkSendAt_keeps (State.setLink_keeps h)))

theorem State.hlkPump_keeps {a : State} {s : State} {n : Nat} (h : Keeps a s) : Keeps a (State.hlkPump s n) := by
  unfold State.hlkPump
  exact (Keeps.ite h (State.hlkPumpTo_keeps h))

theorem State.hlkHeard_keeps {a : State} {s : State} {n : Nat} (h : Keeps a s) : Keeps a (State.hlkHeard s n) := by
  unfold State.hlkHeard
  exact (Keeps.ite (State.hlkPump_keeps (State.setFl_keeps h)) h)

theorem State.hlkCtl_keeps {a : State} {s : State} {n : Nat} {type : Nat} {arg : Nat} {words : List Nat} (h : Keeps a
    s) : Keeps a (State.hlkCtl s n type arg words) := by
  unfold State.hlkCtl
  exact (State.hlkPump_keeps (State.setLink_keeps (State.hlkPump_keeps h)))

theorem State.tunEnd_keeps {a : State} {s : State} {n : Nat} {code : Nat} {rsn : Nat} (h : Keeps a s) : Keeps a
    (State.tunEnd s n code rsn) := by
  unfold State.tunEnd
  exact (by (try dsimp only); split; exact h; exact (State.setIst_keeps (State.setRg_keeps (State.setLink_keeps h))))

theorem State.hlkViolate_keeps {a : State} {s : State} {n : Nat} {code : Nat} (h : Keeps a s) : Keeps a
    (State.hlkViolate s n code) := by
  unfold State.hlkViolate
  exact (Keeps.ite (State.tunEnd_keeps (State.setLink_keeps (State.setLstate_keeps (State.violate_keeps h))))
    (State.violate_keeps h))

theorem State.hlkNak_keeps {a : State} {s : State} {n : Nat} {reason : Nat} {seq : Nat} (h : Keeps a s) : Keeps a
    (State.hlkNak s n reason seq) := by
  unfold State.hlkNak
  exact (State.hlkViolate_keeps (State.err_keeps (State.sat_keeps (State.hlkCtl_keeps h))))

theorem State.hlkMalformed_keeps {a : State} {s : State} {n : Nat} {type : Nat} {reason : Nat} {seq : Nat} (h : Keeps
    a s) : Keeps a (State.hlkMalformed s n type reason seq) := by
  unfold State.hlkMalformed
  exact (Keeps.ite (State.hlkViolate_keeps (State.err_keeps h)) (State.hlkNak_keeps h))

theorem State.hlkTrain_keeps {a : State} {s : State} {n : Nat} (h : Keeps a s) : Keeps a (State.hlkTrain s n) := by
  unfold State.hlkTrain
  exact (State.setLink_keeps (State.setLstep_keeps (State.setLstate_keeps h)))

theorem State.hlkDownMark_keeps {a : State} {s : State} {n : Nat} {reason : Nat} (h : Keeps a s) : Keeps a
    (State.hlkDownMark s n reason) := by
  unfold State.hlkDownMark
  exact (State.happen_keeps (State.err_keeps (State.setFl_keeps h)))

theorem State.hlkDown_keeps {a : State} {s : State} {n : Nat} {reason : Nat} (h : Keeps a s) : Keeps a (State.hlkDown
    s n reason) := by
  unfold State.hlkDown
  exact (State.hlkViolate_keeps (State.hlkDownMark_keeps (State.sat_keeps (State.tunEnd_keeps (State.setLink_keeps
    (State.setLstate_keeps h))))))

theorem State.hlkMeasured_keeps {a : State} {s : State} {n : Nat} (h : Keeps a s) : Keeps a (State.hlkMeasured s n) := by
  unfold State.hlkMeasured
  exact (State.setRg_keeps (State.setRg_keeps (State.setRg_keeps (State.drawn_keeps (State.drawn_keeps h)))))

theorem State.hlkUp_keeps {a : State} {s : State} {n : Nat} (h : Keeps a s) : Keeps a (State.hlkUp s n) := by
  unfold State.hlkUp
  exact (State.noteUp_keeps (State.happen_keeps (State.setLink_keeps (State.hlkMeasured_keeps (State.setLstate_keeps
    h)))))

theorem State.hbTemps_keeps {a : State} {s : State} {n : Nat} {temps : List Nat} (h : Keeps a s) : Keeps a
    (State.hbTemps s n temps) := by
  unfold State.hbTemps
  exact (Keeps.foldl (State.setLink_keeps (Keeps.foldl h (fun _ _ h0 => (State.setRg_keeps h0)))) (fun _ _ h0 =>
    (State.happen_keeps (State.err_keeps h0))))

theorem State.hlkRetrain_keeps {a : State} {s : State} {n : Nat} (h : Keeps a s) : Keeps a (State.hlkRetrain s n) := by
  unfold State.hlkRetrain
  exact (Keeps.ite (State.hlkTrain_keeps (State.hlkDownMark_keeps (State.tunEnd_keeps h))) h)

theorem State.hlkTun_keeps {a : State} {s : State} {n : Nat} {wr : Bool} (h : Keeps a s) : Keeps a (State.hlkTun s n
    wr) := by
  unfold State.hlkTun
  exact (Keeps.ite (State.err_keeps h) (Keeps.ite (State.tunEnd_keeps (State.setRg_keeps (State.setLink_keeps h)))
    (State.hlkCtl_keeps (State.setRg_keeps (State.setLink_keeps h)))))

theorem State.rowReads_keeps {a : State} {s : State} {b : Nat} {e : Nat} {l : Started} (h : Keeps a s) : Keeps a
    (State.rowReads s b e l).1 := by
  unfold State.rowReads
  exact (Keeps.ite1 h (Keeps.foldl1 h (fun _ _ h0 => (State.sramRead_keeps h0))))

theorem State.sendFire_keeps {a : State} {s : State} {n : Nat} {b : Nat} {e : Nat} {l : Started} (h : Keeps a s) :
    Keeps a (State.sendFire s n b e l) := by
  unfold State.sendFire
  exact (State.setBar_keeps (State.hlkSend_keeps (State.hlkSend_keeps (State.drawn_keeps (State.drawn_keeps
    (State.drawn_keeps (State.drawn_keeps (State.rowReads_keeps h))))))))

theorem State.sendEntry_keeps {a : State} {s : State} {n : Nat} {b : Nat} {l : Started} {e : Nat} (h : Keeps a s) :
    Keeps a (State.sendEntry s n b l e) := by
  unfold State.sendEntry
  exact (Keeps.ite (State.hlkSend_keeps h) (Keeps.ite (State.err_keeps (State.sat_keeps (State.hlkSend_keeps h)))
    (State.sendFire_keeps h)))

theorem State.lineSet_keeps {a : State} {s : State} {n : Nat} {b : Nat} {l : Started} (h : Keeps a s) : Keeps a
    (State.lineSet s n b l) := by
  unfold State.lineSet
  exact (Keeps.ite (State.sat_keeps (State.setBar_keeps (State.hlkPump_keeps h))) (Keeps.ite (State.setBar_keeps
    (State.hlkPump_keeps h)) (Keeps.ite (Keeps.ite (State.setBar_keeps (State.hlkPump_keeps h)) (State.hlkPump_keeps
    (State.setLink_keeps (Keeps.foldl (State.setBar_keeps (State.hlkPump_keeps h)) (fun _ _ h0 =>
    (State.sendEntry_keeps h0)))))) (State.sat_keeps (State.setBar_keeps (State.hlkPump_keeps h))))))

theorem State.hlkOnWrite_keeps {a : State} {s : State} {n : Nat} {o : Nat} {v : Nat} (h : Keeps a s) : KeepsO a
    (State.hlkOnWrite s n o v) := by
  unfold State.hlkOnWrite
  exact (KeepsO.ite (KeepsO.some (State.err_keeps h)) (KeepsO.ite (KeepsO.some (Keeps.ite (State.hlkTun_keeps h) h))
    (KeepsO.ite (KeepsO.some (Keeps.ite (State.hlkRetrain_keeps h) h)) KeepsO.none)))

theorem State.hlkOff_keeps {a : State} {s : State} {n : Nat} (h : Keeps a s) : Keeps a (State.hlkOff s n) := by
  unfold State.hlkOff
  exact (State.setLink_keeps (State.setRg_keeps (State.tunEnd_keeps h)))

end Sys2Proof.Machine
end

