-- ==== Sys2Proof/Laws/KeepsInspect.lean ====
section
/-!
SUPPORT. What the named operations keep: cameras, inspection, compression, defects, colour loop. One lemma per operation.
-/

set_option Elab.async false

namespace Sys2Proof.Machine

theorem State.setCam_keeps {a : State} {s : State} {n : Nat} {x : Cam} (h : Keeps a s) : Keeps a (State.setCam s n x)
    := by
  unfold State.setCam
  exact (Keeps.upd h)

theorem State.camShow_keeps {a : State} {s : State} {n : Nat} (h : Keeps a s) : Keeps a (State.camShow s n) := by
  unfold State.camShow
  exact (State.setRg64_keeps (State.setFl_keeps h))

theorem State.camPut_keeps {a : State} {s : State} {n : Nat} {o : CamOut} (h : Keeps a s) : Keeps a (State.camPut s n
    o) := by
  unfold State.camPut
  exact (Keeps.ite (State.setCam_keeps h) h)

theorem State.camRecord_keeps {a : State} {s : State} {n : Nat} {k : CamBlk} {e : CamEnd} (h : Keeps a s) : Keeps a
    (State.camRecord s n k e) := by
  unfold State.camRecord
  exact (Keeps.ite (State.sat_keeps h) (by (try dsimp only); split; exact (State.sat_keeps (Keeps.fst ‹_› (State.dramWrite_keeps (State.drawn_keeps h)))); exact (State.post_keeps (State.setCam_keeps (Keeps.fst ‹_› (State.dramWrite_keeps (State.drawn_keeps h)))))))

theorem State.camClose_keeps {a : State} {s : State} {n : Nat} {b : Nat} {short : Bool} (h : Keeps a s) : Keeps a
    (State.camClose s n b short) := by
  unfold State.camClose
  exact (by (try dsimp only); split; exact h; exact (State.camShow_keeps (State.ffClose_keeps (State.happen_keeps (State.camPut_keeps (State.camRecord_keeps (Keeps.ite (State.setIst_keeps (State.err_keeps (State.sat_keeps (Keeps.ite (State.sat_keeps (State.setCam_keeps h)) (State.setCam_keeps h))))) (Keeps.ite (State.sat_keeps (State.setCam_keeps h)) (State.setCam_keeps h)))))))))

theorem State.camDeliver_keeps {a : State} {s : State} {n : Nat} {k : Nat} {pad : Bool} {sensor : List (List Nat)} {t
    : Int} {reached : Nat} (h : Keeps a s) : Keeps a (State.camDeliver s n k pad sensor t reached) := by
  unfold State.camDeliver
  exact (Keeps.ite (State.camClose_keeps (State.camPut_keeps (Keeps.ite (State.sat_keeps (State.setCam_keeps
    (State.inc_keeps (State.drawn_keeps h)))) (State.setCam_keeps (State.inc_keeps (State.drawn_keeps h))))))
    (State.camPut_keeps (Keeps.ite (State.sat_keeps (State.setCam_keeps (State.inc_keeps (State.drawn_keeps h))))
    (State.setCam_keeps (State.inc_keeps (State.drawn_keeps h))))))

theorem State.camAdvance_keeps {a s : State} {n k : Nat} (h : Keeps a s) : Keeps a (State.camAdvance s n k) := by
  induction k generalizing s with
  | zero => exact h
  | succ k ih =>
    unfold State.camAdvance
    split
    · exact h
    · exact ih (State.camDeliver_keeps h)

theorem State.camSettle_keeps {a : State} {s : State} {n : Nat} (h : Keeps a s) : Keeps a (State.camSettle s n) := by
  unfold State.camSettle
  exact (State.camAdvance_keeps h)

theorem State.camDecide_keeps {a : State} {s : State} {n : Nat} {k : Nat} (h : Keeps a s) : Keeps a (State.camDecide s
    n k) := by
  unfold State.camDecide
  exact (State.setCam_keeps h)

theorem State.camApply_keeps {a : State} {s : State} {n : Nat} (h : Keeps a s) : Keeps a (State.camApply s n) := by
  unfold State.camApply
  exact (Keeps.ite h (Keeps.ite (State.err_keeps (State.refuseSet_keeps h)) (State.applySet_keeps h)))

theorem State.camOpen_keeps {a : State} {s : State} {n : Nat} {k : Nat} (h : Keeps a s) : Keeps a (State.camOpen s n
    k) := by
  unfold State.camOpen
  exact (Keeps.ite h (State.camShow_keeps (State.ffOpen_keeps (State.setCam_keeps (State.atBoundary_keeps h (fun _ h0
    => (State.camApply_keeps h0)))))))

theorem State.camFixL_keeps {a : State} {s : State} {n : Nat} {g : Nat} {kw1 : Nat} (h : Keeps a s) : Keeps a
    (State.camFixL s n g kw1) := by
  unfold State.camFixL
  exact (State.happen_keeps (State.setRg_keeps (State.setRg64_keeps (State.setCam_keeps h))))

theorem State.camFire_keeps {a : State} {s : State} {n : Nat} {k : Nat} {t : Int} (h : Keeps a s) : Keeps a
    (State.camFire s n k t) := by
  unfold State.camFire
  exact (Keeps.ite (Keeps.ite h (State.emit_keeps h)) (State.setCam_keeps (State.pin_keeps (State.emit_keeps
    (State.drawn_keeps (Keeps.ite h (State.emit_keeps h)))))))

theorem State.camSend_keeps {a : State} {s : State} {n : Nat} {e : CamTrig} {t : Int} (h : Keeps a s) : Keeps a
    (State.camSend s n e t) := by
  unfold State.camSend
  exact (by (try dsimp only); split; exact (Keeps.ite (State.camFixL_keeps (State.camDecide_keeps (State.setRg64_keeps (State.setCam_keeps (State.camFire_keeps (State.camOpen_keeps h)))))) (State.camDecide_keeps (State.setRg64_keeps (State.setCam_keeps (State.camFire_keeps (State.camOpen_keeps h)))))); exact (State.camDecide_keeps (State.setRg64_keeps (State.setCam_keeps (State.camFire_keeps (State.camOpen_keeps h))))))

theorem State.camDue_keeps {a : State} {s : State} {n : Nat} {e : CamTrig} {t : Int} (h : Keeps a s) : Keeps a
    (State.camDue s n e t) := by
  unfold State.camDue
  exact (State.camSettle_keeps (Keeps.ite (State.camDecide_keeps (State.err_keeps (State.sat_keeps h))) (Keeps.ite
    (State.camDecide_keeps (State.err_keeps (State.sat_keeps h))) (Keeps.ite (State.camDecide_keeps (State.err_keeps
    (State.sat_keeps h))) (Keeps.ite (State.camDecide_keeps h) (State.camSend_keeps h))))))

theorem State.camSendOne_keeps {a : State} {s : State} {n : Nat} (h : Keeps a s) : Keeps a (State.camSendOne s n) := by
  unfold State.camSendOne
  exact (by (try dsimp only); split; exact h; exact (by split; exact h; exact (Keeps.ite (State.camDue_keeps (State.setCam_keeps h)) h)))

theorem State.camSendAll_keeps {a : State} {s : State} {n : Nat} (h : Keeps a s) : Keeps a (State.camSendAll s n) := by
  unfold State.camSendAll
  exact (Keeps.foldl h (fun _ _ h0 => (State.camSendOne_keeps h0)))

theorem State.ccEnd_keeps {a : State} {s : State} {n : Nat} {code : Nat} {ack : Nat} (h : Keeps a s) : Keeps a
    (State.ccEnd s n code ack) := by
  unfold State.ccEnd
  exact (Keeps.ite (State.setIst_keeps (State.setRg_keeps (State.setCam_keeps h))) (State.err_keeps
    (State.setIst_keeps (State.setRg_keeps (State.setCam_keeps h)))))

theorem State.expFail_keeps {a : State} {s : State} {n : Nat} {code : Nat} (h : Keeps a s) : Keeps a (State.expFail s
    n code) := by
  unfold State.expFail
  exact (by (try dsimp only); split; exact h; exact (State.err_keeps (State.setRg_keeps (State.setCam_keeps h))))

theorem State.camLinkDown_keeps {a : State} {s : State} {n : Nat} (h : Keeps a s) : Keeps a (State.camLinkDown s n) := by
  unfold State.camLinkDown
  exact (Keeps.ite (State.ccEnd_keeps (by split; exact (Keeps.ite (State.expFail_keeps (State.setCam_keeps h)) (State.setCam_keeps h)); exact (State.setCam_keeps h))) (by split; exact (Keeps.ite (State.expFail_keeps (State.setCam_keeps h)) (State.setCam_keeps h)); exact (State.setCam_keeps h)))

theorem State.camViolate_keeps {a : State} {s : State} {n : Nat} {code : Nat} (h : Keeps a s) : Keeps a
    (State.camViolate s n code) := by
  unfold State.camViolate
  exact (Keeps.ite (State.camLinkDown_keeps (State.setFl_keeps (State.violate_keeps h))) (State.violate_keeps h))

theorem State.camNextCc_keeps {a : State} {s : State} {n : Nat} (h : Keeps a s) : Keeps a (State.camNextCc s n) := by
  unfold State.camNextCc
  exact (Keeps.ite h (by split; exact (Keeps.ite (State.setCam_keeps (Keeps.ite h (State.emit_keeps h))) (Keeps.ite (State.setCam_keeps (Keeps.ite h (State.emit_keeps h))) h)); exact (Keeps.ite (State.setCam_keeps (Keeps.ite h (State.emit_keeps h))) (Keeps.ite (State.setCam_keeps (Keeps.ite h (State.emit_keeps h))) (State.setCam_keeps (Keeps.ite h (State.emit_keeps h))))); exact (State.setCam_keeps (Keeps.ite h (State.emit_keeps h))); exact h))

theorem State.camHeard_keeps {a : State} {s : State} {n : Nat} (h : Keeps a s) : Keeps a (State.camHeard s n) := by
  unfold State.camHeard
  exact (State.setCam_keeps h)

theorem State.lineLengths_keeps {a : State} {s : State} {n : Nat} {k : Nat} {sensor : List (List Nat)} (h : Keeps a s)
    : Keeps a (State.lineLengths s n k sensor) := by
  unfold State.lineLengths
  exact (Keeps.foldl h (fun _ _ h0 => (Keeps.ite (State.setCam_keeps (State.err_keeps (State.sat_keeps h0)))
    (Keeps.ite (State.setCam_keeps (State.err_keeps (State.sat_keeps h0))) h0))))

theorem State.camLine_keeps {a : State} {s : State} {n : Nat} {e : CamTrig} {es : List CamTrig} {sensor : List (List
    Nat)} (h : Keeps a s) : Keeps a (State.camLine s n e es sensor) := by
  unfold State.camLine
  exact (by (try dsimp only); split; exact (State.camSettle_keeps (State.camDeliver_keeps (Keeps.ite (State.ffTake_keeps (State.setCam_keeps (State.lineLengths_keeps (State.setCam_keeps h)))) (State.setCam_keeps (State.lineLengths_keeps (State.setCam_keeps h)))))); exact (State.camSettle_keeps (State.setCam_keeps h)))

theorem State.ftNext_keeps {a : State} {s : State} {n : Nat} (h : Keeps a s) : Keeps a (State.ftNext s n) := by
  unfold State.ftNext
  exact (State.setFl_keeps h)

theorem State.ftWrite_keeps {a : State} {s : State} {n : Nat} {v : Nat} (h : Keeps a s) : Keeps a (State.ftWrite s n
    v) := by
  unfold State.ftWrite
  exact (State.ftNext_keeps (Keeps.upd (State.setCam_keeps h)))

theorem State.ftRead_keeps {a : State} {s : State} {n : Nat} (h : Keeps a s) : Keeps a (State.ftRead s n) := by
  unfold State.ftRead
  exact (State.ftNext_keeps (Keeps.upd h))

theorem State.expGo_keeps {a : State} {s : State} {n : Nat} {gen : Nat} (h : Keeps a s) : Keeps a (State.expGo s n
    gen) := by
  unfold State.expGo
  exact (Keeps.ite (State.err_keeps h) (Keeps.ite (State.camNextCc_keeps (State.setRg64_keeps (State.setRg_keeps
    (State.setCam_keeps h)))) (State.expFail_keeps (State.setRg64_keeps (State.setRg_keeps (State.setCam_keeps h))))))

theorem State.expDone_keeps {a : State} {s : State} {n : Nat} {c : CamExp} (h : Keeps a s) : Keeps a (State.expDone s
    n c) := by
  unfold State.expDone
  exact (by (try dsimp only); split; exact (State.camFixL_keeps (State.camSendAll_keeps h)); exact (State.setCam_keeps (State.camSendAll_keeps h)))

theorem State.expAck_keeps {a : State} {s : State} {n : Nat} {c : CamExp} (h : Keeps a s) : Keeps a (State.expAck s n
    c) := by
  unfold State.expAck
  exact (Keeps.ite (State.setCam_keeps h) (State.expDone_keeps h))

theorem State.ccGo_keeps {a : State} {s : State} {n : Nat} {wr : Bool} (h : Keeps a s) : Keeps a (State.ccGo s n wr) := by
  unfold State.ccGo
  exact (Keeps.ite (State.errBit_keeps h) (Keeps.ite (State.camNextCc_keeps (State.setRg_keeps (State.setCam_keeps
    h))) (State.ccEnd_keeps (State.setRg_keeps (State.setCam_keeps h)))))

theorem State.camOpEnd_keeps {a : State} {s : State} {n : Nat} {isExp : Bool} {code : Nat} {ack : Nat} (h : Keeps a s)
    : Keeps a (State.camOpEnd s n isExp code ack) := by
  unfold State.camOpEnd
  exact (Keeps.ite (State.expFail_keeps (State.setCam_keeps h)) (State.ccEnd_keeps (State.setCam_keeps h)))

theorem State.ccWait_keeps {a : State} {s : State} {n : Nat} {isExp : Bool} {waits : Nat} (h : Keeps a s) : Keeps a
    (State.ccWait s n isExp waits) := by
  unfold State.ccWait
  exact (Keeps.ite (State.setCam_keeps h) (State.camNextCc_keeps (State.camViolate_keeps (State.camOpEnd_keeps h))))

theorem State.ccOk_keeps {a : State} {s : State} {n : Nat} {isExp : Bool} {data : Nat} (h : Keeps a s) : Keeps a
    (State.ccOk s n isExp data) := by
  unfold State.ccOk
  exact (Keeps.ite (by split; exact (State.expAck_keeps (State.setCam_keeps h)); exact (State.setCam_keeps h)) (by split; exact (State.ccEnd_keeps (Keeps.ite (State.setCam_keeps h) (State.setRg_keeps (State.setCam_keeps h)))); exact (State.setCam_keeps h)))

theorem State.camOnWrite_keeps {a : State} {s : State} {n : Nat} {o : Nat} {v : Nat} (h : Keeps a s) : KeepsO a
    (State.camOnWrite s n o v) := by
  unfold State.camOnWrite
  exact (KeepsO.ite (KeepsO.some (State.err_keeps h)) (KeepsO.ite (KeepsO.some (State.camShow_keeps
    (State.writeWord_keeps h))) (KeepsO.ite (KeepsO.some (State.err_keeps h)) (KeepsO.ite (KeepsO.some (Keeps.ite
    (State.expGo_keeps h) h)) (KeepsO.ite (KeepsO.some (Keeps.ite (State.ccGo_keeps h) h)) (KeepsO.ite (KeepsO.some
    (State.ftWrite_keeps h)) KeepsO.none))))))

theorem State.camOnRun_keeps {a : State} {s : State} {n : Nat} (h : Keeps a s) : Keeps a (State.camOnRun s n) := by
  unfold State.camOnRun
  exact (State.camShow_keeps (State.setCam_keeps h))

theorem State.camOff_keeps {a : State} {s : State} {n : Nat} (h : Keeps a s) : Keeps a (State.camOff s n) := by
  unfold State.camOff
  exact (State.camShow_keeps (State.setCam_keeps (State.setFl_keeps (State.camLinkDown_keeps h))))

theorem State.camReset_keeps {a : State} {s : State} {n : Nat} (h : Keeps a s) : Keeps a (State.camReset s n) := by
  unfold State.camReset
  exact (State.camShow_keeps (State.setCam_keeps h))

theorem State.setCup_keeps {a : State} {s : State} {n : Nat} {x : Cup} (h : Keeps a s) : Keeps a (State.setCup s n x)
    := by
  unfold State.setCup
  exact (Keeps.upd h)

theorem State.cupShow_keeps {a : State} {s : State} {n : Nat} (h : Keeps a s) : Keeps a (State.cupShow s n) := by
  unfold State.cupShow
  exact (State.setRg64_keeps (Keeps.foldl (State.setRg_keeps h) (fun _ _ h0 => (State.setFl_keeps h0))))

theorem State.cupsShow_keeps {a : State} {s : State} (h : Keeps a s) : Keeps a (State.cupsShow s) := by
  unfold State.cupsShow
  exact (Keeps.foldl h (fun _ _ h0 => (State.cupShow_keeps h0)))

theorem State.bgShow_keeps {a : State} {s : State} {n : Nat} {valid : Bool} (h : Keeps a s) : Keeps a (State.bgShow s
    n valid) := by
  unfold State.bgShow
  exact (Keeps.ite (State.setIst_keeps (State.setRg_keeps h)) (State.setRg_keeps h))

theorem State.cupOverrun_keeps {a : State} {s : State} {n : Nat} {b : Nat} {idx : Nat} (h : Keeps a s) : Keeps a
    (State.cupOverrun s n b idx) := by
  unfold State.cupOverrun
  exact (State.happen_keeps (State.err_keeps (State.sat_keeps (State.setCup_keeps h))))

theorem State.ringStore_keeps {a : State} {s : State} {n : Nat} {sl : Nat} {i : Nat} {l : CamLine} (h : Keeps a s) :
    Keeps a (State.ringStore s n sl i l) := by
  unfold State.ringStore
  exact (State.setCup_keeps (State.sramFill_keeps h))

theorem State.ringPut_keeps {a : State} {s : State} {n : Nat} {sl : Nat} {l : CamLine} (h : Keeps a s) : Keeps a
    (State.ringPut s n sl l) := by
  unfold State.ringPut
  exact (Keeps.ite (by (try dsimp only); split; exact (State.dramWrite_keeps (State.setCup_keeps (by split; exact (State.cupOverrun_keeps (State.setCup_keeps h)); exact h))); exact (State.setCup_keeps (by split; exact (State.cupOverrun_keeps (State.setCup_keeps h)); exact h))) (State.ringStore_keeps (by split; exact (State.cupOverrun_keeps (State.setCup_keeps h)); exact h)))

theorem State.dropPassed_keeps {a : State} {s : State} {n : Nat} {sl : Nat} (h : Keeps a s) : Keeps a
    (State.dropPassed s n sl) := by
  unfold State.dropPassed
  exact (State.setCup_keeps h)

theorem State.stagingRead_keeps {a : State} {s : State} {n : Nat} {sl : Nat} (h : Keeps a s) : Keeps a
    (State.stagingRead s n sl) := by
  unfold State.stagingRead
  exact (by (try dsimp only); split; exact (Keeps.ite (State.dropPassed_keeps h) (by (try dsimp only); split; exact (State.err_keeps (State.sat_keeps (State.setCup_keeps (Keeps.fst ‹_› (State.dramRead_keeps (State.setCup_keeps (State.dropPassed_keeps h))))))); exact (State.ringStore_keeps (Keeps.fst ‹_› (State.dramRead_keeps (State.setCup_keeps (State.dropPassed_keeps h))))))); exact (State.dropPassed_keeps h))

theorem State.stageIn_keeps {a : State} {s : State} {n : Nat} {k : Nat} (h : Keeps a s) : Keeps a (State.stageIn s n
    k) := by
  unfold State.stageIn
  exact (Keeps.foldl h (fun _ _ h0 => (Keeps.foldl h0 (fun _ _ h1 => (Keeps.ite (State.stagingRead_keeps h1) h1)))))

theorem State.ringReads_keeps {a : State} {s : State} {n : Nat} {k : Nat} (h : Keeps a s) : Keeps a (State.ringReads s
    n k) := by
  unfold State.ringReads
  exact (Keeps.foldl h (fun _ _ h0 => (by split; exact h0; exact (by (try dsimp only); split; exact (Keeps.fst ‹_› (State.sramSpan_keeps h0)); exact (State.setCup_keeps (Keeps.fst ‹_› (State.sramSpan_keeps h0)))))))

theorem State.refReads_keeps {a : State} {s : State} {n : Nat} {k : CupBlk} {x : RefSet} {i : Nat} (h : Keeps a s) :
    Keeps a (State.refReads s n k x i).1 := by
  unfold State.refReads
  exact (Keeps.ite1 h (State.sramItems_keeps h))

theorem State.bgCompute_keeps {a : State} {s : State} {n : Nat} (h : Keeps a s) : Keeps a (State.bgCompute s n).1 := by
  unfold State.bgCompute
  exact (Keeps.ite1 h (by split; exact (Keeps.fst ‹_› (State.dramRead_keeps h)); exact (Keeps.fst ‹_› (State.dramRead_keeps h))))

theorem State.bgRestart_keeps {a : State} {s : State} {n : Nat} (h : Keeps a s) : Keeps a (State.bgRestart s n) := by
  unfold State.bgRestart
  exact (State.bgShow_keeps (State.setCup_keeps h))

theorem State.bgEnd_keeps {a s : State} {n : Nat} {k : CupBlk} {flags : Nat} (h : Keeps a s) :
    Keeps a (State.bgEnd s n k flags) := by
  unfold State.bgEnd
  refine Keeps.ite h ?_
  have h1 := State.bgCompute_keeps (n := n) h
  generalize s.bgCompute n = g at h1
  obtain ⟨t, bg, bad⟩ := g
  dsimp only at h1 ⊢
  have h2 := Keeps.ite (c := bad = true) (State.bgRestart_keeps (n := n) h1) h1
  generalize (if bad = true then t.bgRestart n else t) = u at h2
  refine Keeps.ite (State.setCup_keeps h2) ?_
  split
  · exact State.bgRestart_keeps (Keeps.fst ‹_› (State.dramWrite_keeps (State.drawn_keeps (State.setCup_keeps h2))))
  · exact State.bgShow_keeps (State.setCup_keeps (Keeps.fst ‹_› (State.dramWrite_keeps (State.drawn_keeps
    (State.setCup_keeps h2)))))

theorem State.bgBegin_keeps {a : State} {s : State} {n : Nat} {b : Nat} (h : Keeps a s) : Keeps a (State.bgBegin s n
    b).1 := by
  unfold State.bgBegin
  exact (Keeps.ite1 h (State.bgShow_keeps (Keeps.ite1 (State.setCup_keeps (Keeps.ite (State.bgRestart_keeps h) h))
    (Keeps.ite (State.bgRestart_keeps (State.bgCompute_keeps (State.setCup_keeps (Keeps.ite (State.bgRestart_keeps h)
    h)))) (State.bgCompute_keeps (State.setCup_keeps (Keeps.ite (State.bgRestart_keeps h) h)))))))

theorem State.setDef_keeps {a : State} {s : State} {n : Nat} {x : Def} (h : Keeps a s) : Keeps a (State.setDef s n x)
    := by
  unfold State.setDef
  exact (Keeps.upd h)

theorem State.defShow_keeps {a : State} {s : State} {n : Nat} (h : Keeps a s) : Keeps a (State.defShow s n) := by
  unfold State.defShow
  exact (State.setRg_keeps (State.setRg_keeps (State.setRg_keeps h)))

theorem State.dropItem_keeps {a : State} {s : State} {n : Nat} {items : List DefItem} {b : Nat} {recs : Nat} {head :
    Option Nat} {grid : Int} (h : Keeps a s) : Keeps a (State.dropItem s n items b recs head grid).1 := by
  unfold State.dropItem
  exact (by (try dsimp only); split; exact (Keeps.ite1 (State.happen_keeps (State.err_keeps (State.sat_keeps (by split; exact (State.setRg_keeps h); exact h)))) (State.happen_keeps (State.err_keeps (State.sat_keeps (by split; exact (State.setRg_keeps h); exact h))))); exact (State.happen_keeps (State.err_keeps (State.sat_keeps (by split; exact (State.setRg_keeps h); exact h)))))

theorem State.defPublish_keeps {a s : State} {n : Nat} (h : Keeps a s) : Keeps a (State.defPublish s n) := by
  unfold State.defPublish
  extract_lets p
  split
  · refine Keeps.ite h ?_
    rename_i recs _ _ _ _
    have h1 := State.sramItems_keeps (part := 2) (unit := p) (key := fun (i : Nat) => i) (xs := List.range recs.length) h
    generalize s.sramItems 2 p (fun (i : Nat) => i) (List.range recs.length) = g at h1
    obtain ⟨t, bad⟩ := g
    dsimp only at h1 ⊢
    have h2 : Keeps a (if bad ≠ [] then (t, false) else if recs = [] then (t, true) else t.publish p n recs).1 :=
      Keeps.ite1 h1 (Keeps.ite1 h1 (State.publish_keeps h1))
    split
    · exact State.defShow_keeps (State.happen_keeps (State.setRg64_keeps (State.inc_keeps (State.inc_keeps
    (State.setDef_keeps
        (Keeps.fst ‹_› h2))))))
    · exact Keeps.ite (Keeps.fst ‹_› h2) (State.defShow_keeps (State.setDef_keeps (State.err_keeps (State.dropItem_keeps
        (Keeps.fst ‹_› h2)))))
  · exact h

theorem State.publishFirst_keeps {a : State} {s : State} {n : Nat} {b : Nat} (h : Keeps a s) : Keeps a
    (State.publishFirst s n b) := by
  unfold State.publishFirst
  exact (Keeps.foldl h (fun _ _ h0 => (by split; exact (Keeps.ite (State.defPublish_keeps h0) h0); exact h0)))

theorem State.dropLate_keeps {a : State} {s : State} {n : Nat} {b : Nat} (h : Keeps a s) : Keeps a (State.dropLate s n
    b) := by
  unfold State.dropLate
  exact (State.defShow_keeps (State.setDef_keeps (Keeps.foldl1 (State.publishFirst_keeps h) (fun _ _ h0 => (by split; exact (Keeps.ite1 (State.dropItem_keeps h0) h0); exact h0)))))

theorem State.cupEndBlk_keeps {a : State} {s : State} {n : Nat} {k : CupBlk} {e : CamEnd} (h : Keeps a s) : Keeps a
    (State.cupEndBlk s n k e) := by
  unfold State.cupEndBlk
  exact (State.cupShow_keeps (State.happen_keeps (Keeps.ite (Keeps.ite (State.sat_keeps (State.setCup_keeps
    (State.drawn_keeps (State.bgEnd_keeps (State.setCup_keeps h))))) (State.dropLate_keeps (State.setCup_keeps
    (State.drawn_keeps (State.bgEnd_keeps (State.setCup_keeps h)))))) (State.drawn_keeps (State.bgEnd_keeps
    (State.setCup_keeps h))))))

theorem State.cupApply_keeps {a : State} {s : State} {n : Nat} (h : Keeps a s) : Keeps a (State.cupApply s n) := by
  unfold State.cupApply
  exact (Keeps.ite h (by split; exact (State.err_keeps (State.refuseSet_keeps h)); exact (State.applySet_keeps h)))

theorem State.cupBegin_keeps {a : State} {s : State} {n : Nat} {b : Nat} (h : Keeps a s) : Keeps a (State.cupBegin s n
    b) := by
  unfold State.cupBegin
  exact (State.cupShow_keeps (State.setCup_keeps (State.bgBegin_keeps (Keeps.ite (State.atBoundary_keeps
    (State.atBoundary_keeps h (fun _ h0 => (State.cupApply_keeps h0))) (fun _ h0 => (Keeps.ite (State.applySet_keeps
    h0) h0))) (State.sat_keeps (State.atBoundary_keeps h (fun _ h0 => (State.cupApply_keeps h0))))))))

theorem State.cupMissing_keeps {a : State} {s : State} {n : Nat} {k : CupBlk} {idx : Nat} (h : Keeps a s) : Keeps a
    (State.cupMissing s n k idx).1 := by
  unfold State.cupMissing
  exact (by (try dsimp only); split; exact (Keeps.foldl h (fun _ _ h0 => (State.setFl_keeps h0))); exact (Keeps.ite (State.sat_keeps (Keeps.foldl h (fun _ _ h0 => (State.setFl_keeps h0)))) (State.err_keeps (State.sat_keeps (Keeps.foldl h (fun _ _ h0 => (State.setFl_keeps h0)))))))

theorem State.cupTake_keeps {a : State} {s : State} {n : Nat} {k : CupBlk} {idx : Nat} (h : Keeps a s) : Keeps a
    (State.cupTake s n k idx).1 := by
  unfold State.cupTake
  exact (Keeps.foldl1 h (fun _ _ h0 => (by split; exact (State.setRg64_keeps (State.setCup_keeps h0)); exact h0)))

theorem State.clpExport_keeps {a : State} {s : State} {n : Nat} {l : ClpLine} (h : Keeps a s) : Keeps a
    (State.clpExport s n l) := by
  unfold State.clpExport
  exact (Keeps.ite h (by split; exact (State.tlkPut_keeps (State.setTport_keeps h)); exact (Keeps.ite (State.err_keeps (State.sat_keeps (Keeps.upd h))) (State.sat_keeps (Keeps.upd h)))))

theorem State.cupToClp_keeps {a : State} {s : State} {n : Nat} {k : CupBlk} {o : CupLine} (h : Keeps a s) : Keeps a
    (State.cupToClp s n k o) := by
  unfold State.cupToClp
  exact (Keeps.ite (State.clpExport_keeps h) (State.sat_keeps (State.setCup_keeps (State.clpExport_keeps h))))

theorem State.cupSend_keeps {a : State} {s : State} {n : Nat} {k : CupBlk} {o : CupLine} (h : Keeps a s) : Keeps a
    (State.cupSend s n k o) := by
  unfold State.cupSend
  exact (State.cupToClp_keeps (Keeps.ite (State.setCup_keeps h) h))

theorem State.cupProcess_keeps {a : State} {s : State} {n : Nat} {k : CupBlk} {l : CamLine} (h : Keeps a s) : Keeps a
    (State.cupProcess s n k l) := by
  unfold State.cupProcess
  exact (State.cupSend_keeps (State.setCup_keeps (Keeps.ite (Keeps.ite (State.sat_keeps (State.inc64_keeps
    (State.inc_keeps (State.setRg64_keeps (State.drawn_keeps (State.cupTake_keeps (Keeps.ite1 (State.refReads_keeps
    (State.refTileReads_keeps (State.refTakes_keeps (Keeps.ite (State.err_keeps (State.sat_keeps (Keeps.ite
    (State.refLate_keeps (State.cupMissing_keeps (State.ringReads_keeps (State.stageIn_keeps h))))
    (State.cupMissing_keeps (State.ringReads_keeps (State.stageIn_keeps h)))))) (Keeps.ite (State.refLate_keeps
    (State.cupMissing_keeps (State.ringReads_keeps (State.stageIn_keeps h)))) (State.cupMissing_keeps
    (State.ringReads_keeps (State.stageIn_keeps h)))))))) (Keeps.ite (State.err_keeps (State.sat_keeps (Keeps.ite
    (State.refLate_keeps (State.cupMissing_keeps (State.ringReads_keeps (State.stageIn_keeps h))))
    (State.cupMissing_keeps (State.ringReads_keeps (State.stageIn_keeps h)))))) (Keeps.ite (State.refLate_keeps
    (State.cupMissing_keeps (State.ringReads_keeps (State.stageIn_keeps h)))) (State.cupMissing_keeps
    (State.ringReads_keeps (State.stageIn_keeps h)))))))))))) (State.inc64_keeps (State.inc_keeps (State.setRg64_keeps
    (State.drawn_keeps (State.cupTake_keeps (Keeps.ite1 (State.refReads_keeps (State.refTileReads_keeps
    (State.refTakes_keeps (Keeps.ite (State.err_keeps (State.sat_keeps (Keeps.ite (State.refLate_keeps
    (State.cupMissing_keeps (State.ringReads_keeps (State.stageIn_keeps h)))) (State.cupMissing_keeps
    (State.ringReads_keeps (State.stageIn_keeps h)))))) (Keeps.ite (State.refLate_keeps (State.cupMissing_keeps
    (State.ringReads_keeps (State.stageIn_keeps h)))) (State.cupMissing_keeps (State.ringReads_keeps
    (State.stageIn_keeps h)))))))) (Keeps.ite (State.err_keeps (State.sat_keeps (Keeps.ite (State.refLate_keeps
    (State.cupMissing_keeps (State.ringReads_keeps (State.stageIn_keeps h)))) (State.cupMissing_keeps
    (State.ringReads_keeps (State.stageIn_keeps h)))))) (Keeps.ite (State.refLate_keeps (State.cupMissing_keeps
    (State.ringReads_keeps (State.stageIn_keeps h)))) (State.cupMissing_keeps (State.ringReads_keeps
    (State.stageIn_keeps h)))))))))))) (State.ffMark_keeps (Keeps.ite (State.sat_keeps (State.inc64_keeps
    (State.inc_keeps (State.setRg64_keeps (State.drawn_keeps (State.cupTake_keeps (Keeps.ite1 (State.refReads_keeps
    (State.refTileReads_keeps (State.refTakes_keeps (Keeps.ite (State.err_keeps (State.sat_keeps (Keeps.ite
    (State.refLate_keeps (State.cupMissing_keeps (State.ringReads_keeps (State.stageIn_keeps h))))
    (State.cupMissing_keeps (State.ringReads_keeps (State.stageIn_keeps h)))))) (Keeps.ite (State.refLate_keeps
    (State.cupMissing_keeps (State.ringReads_keeps (State.stageIn_keeps h)))) (State.cupMissing_keeps
    (State.ringReads_keeps (State.stageIn_keeps h)))))))) (Keeps.ite (State.err_keeps (State.sat_keeps (Keeps.ite
    (State.refLate_keeps (State.cupMissing_keeps (State.ringReads_keeps (State.stageIn_keeps h))))
    (State.cupMissing_keeps (State.ringReads_keeps (State.stageIn_keeps h)))))) (Keeps.ite (State.refLate_keeps
    (State.cupMissing_keeps (State.ringReads_keeps (State.stageIn_keeps h)))) (State.cupMissing_keeps
    (State.ringReads_keeps (State.stageIn_keeps h)))))))))))) (State.inc64_keeps (State.inc_keeps (State.setRg64_keeps
    (State.drawn_keeps (State.cupTake_keeps (Keeps.ite1 (State.refReads_keeps (State.refTileReads_keeps
    (State.refTakes_keeps (Keeps.ite (State.err_keeps (State.sat_keeps (Keeps.ite (State.refLate_keeps
    (State.cupMissing_keeps (State.ringReads_keeps (State.stageIn_keeps h)))) (State.cupMissing_keeps
    (State.ringReads_keeps (State.stageIn_keeps h)))))) (Keeps.ite (State.refLate_keeps (State.cupMissing_keeps
    (State.ringReads_keeps (State.stageIn_keeps h)))) (State.cupMissing_keeps (State.ringReads_keeps
    (State.stageIn_keeps h)))))))) (Keeps.ite (State.err_keeps (State.sat_keeps (Keeps.ite (State.refLate_keeps
    (State.cupMissing_keeps (State.ringReads_keeps (State.stageIn_keeps h)))) (State.cupMissing_keeps
    (State.ringReads_keeps (State.stageIn_keeps h)))))) (Keeps.ite (State.refLate_keeps (State.cupMissing_keeps
    (State.ringReads_keeps (State.stageIn_keeps h)))) (State.cupMissing_keeps (State.ringReads_keeps
    (State.stageIn_keeps h))))))))))))))))

theorem State.cupDone_keeps {a : State} {s : State} {n : Nat} (h : Keeps a s) : Keeps a (State.cupDone s n) := by
  unfold State.cupDone
  exact (by (try dsimp only); split; exact (by (try dsimp only); split; exact (Keeps.ite (State.cupEndBlk_keeps (State.setCup_keeps (State.setCup_keeps h))) (State.setCup_keeps h)); exact (State.setCup_keeps h)); exact (State.setCup_keeps h))

theorem State.cupEnter_keeps {a : State} {s : State} {n : Nat} (h : Keeps a s) : Keeps a (State.cupEnter s n) := by
  unfold State.cupEnter
  exact (by split; exact h; exact (by (try dsimp only); split; exact (Keeps.ite (State.cupProcess_keeps (by split; exact (Keeps.ite (State.setCup_keeps h) (State.cupDone_keeps (State.setCup_keeps h))); exact (State.setCup_keeps h))) (by split; exact (Keeps.ite (State.setCup_keeps h) (State.cupDone_keeps (State.setCup_keeps h))); exact (State.setCup_keeps h))); exact (Keeps.ite (by split; exact (Keeps.ite (State.setCup_keeps h) (State.cupDone_keeps (State.setCup_keeps h))); exact (State.setCup_keeps h)) (by (try dsimp only); split; exact (State.cupProcess_keeps (State.cupBegin_keeps (by split; exact (Keeps.ite (State.setCup_keeps h) (State.cupDone_keeps (State.setCup_keeps h))); exact (State.setCup_keeps h)))); exact (State.cupBegin_keeps (by split; exact (Keeps.ite (State.setCup_keeps h) (State.cupDone_keeps (State.setCup_keeps h))); exact (State.setCup_keeps h)))))))

theorem State.holdMake_keeps {a s : State} {n k : Nat} (h : Keeps a s) : Keeps a (State.holdMake s n k) := by
  induction k generalizing s with
  | zero => exact h
  | succ k ih =>
    unfold State.holdMake
    split
    · exact Keeps.ite (ih (State.cupEnter_keeps h)) h
    · exact h

theorem State.homeLine_keeps {a : State} {s : State} {n : Nat} {l : CamLine} (h : Keeps a s) : Keeps a (State.homeLine
    s n l) := by
  unfold State.homeLine
  exact (Keeps.ite (State.setCup_keeps (State.holdMake_keeps h)) (State.setCup_keeps (State.cupOverrun_keeps
    (State.holdMake_keeps h))))

theorem State.cupHomeLeft_keeps {a : State} {s : State} {cam : Nat} (h : Keeps a s) : Keeps a (State.cupHomeLeft s
    cam) := by
  unfold State.cupHomeLeft
  exact (Keeps.ite h (State.setCup_keeps (by split; exact (State.cupEndBlk_keeps (State.dropPassed_keeps (State.dropPassed_keeps (State.setCup_keeps h)))); exact (State.dropPassed_keeps (State.dropPassed_keeps (State.setCup_keeps h))))))

theorem State.addrNext_keeps {a : State} {s : State} {n : Nat} {o : Nat} (h : Keeps a s) : Keeps a (State.addrNext s n
    o) := by
  unfold State.addrNext
  exact (State.setFl_keeps h)

theorem State.tcWrite_keeps {a : State} {s : State} {n : Nat} {v : Nat} (h : Keeps a s) : Keeps a (State.tcWrite s n
    v) := by
  unfold State.tcWrite
  exact (Keeps.ite (State.addrNext_keeps (Keeps.upd (State.setCup_keeps h))) h)

theorem State.tcRead_keeps {a : State} {s : State} {n : Nat} (h : Keeps a s) : Keeps a (State.tcRead s n) := by
  unfold State.tcRead
  exact (Keeps.ite (State.addrNext_keeps (Keeps.upd h)) (Keeps.upd h))

theorem State.icWrite_keeps {a : State} {s : State} {n : Nat} {v : Nat} (h : Keeps a s) : Keeps a (State.icWrite s n
    v) := by
  unfold State.icWrite
  exact (State.addrNext_keeps (Keeps.upd (State.setCup_keeps h)))

theorem State.icRead_keeps {a : State} {s : State} {n : Nat} (h : Keeps a s) : Keeps a (State.icRead s n) := by
  unfold State.icRead
  exact (State.addrNext_keeps (Keeps.upd h))

theorem State.cupOnWrite_keeps {a : State} {s : State} {n : Nat} {o : Nat} {v : Nat} (h : Keeps a s) : KeepsO a
    (State.cupOnWrite s n o v) := by
  unfold State.cupOnWrite
  exact (KeepsO.ite (KeepsO.some h) (KeepsO.ite (KeepsO.some (State.err_keeps h)) (KeepsO.ite (KeepsO.some (State.tcWrite_keeps h)) (KeepsO.ite (KeepsO.some (State.icWrite_keeps h)) (KeepsO.ite (KeepsO.some (State.writeWord_keeps h)) (KeepsO.ite (by split; exact (KeepsO.some (State.bindError_keeps h)); exact (KeepsO.some (State.cupShow_keeps (State.writeWord_keeps h)))) (KeepsO.ite (KeepsO.some (State.cupShow_keeps (State.writeWord_keeps h))) KeepsO.none)))))))

theorem State.cupOnRun_keeps {a : State} {s : State} {n : Nat} (h : Keeps a s) : Keeps a (State.cupOnRun s n) := by
  unfold State.cupOnRun
  exact (by (try dsimp only); split; exact (State.toFault_keeps (State.setIst_keeps (State.err_keeps (State.bgShow_keeps (State.cupShow_keeps (State.setCup_keeps h)))))); exact (State.bgShow_keeps (State.cupShow_keeps (State.setCup_keeps h))))

theorem State.cupOff_keeps {a : State} {s : State} {n : Nat} (h : Keeps a s) : Keeps a (State.cupOff s n) := by
  unfold State.cupOff
  exact (State.cupShow_keeps (State.setCup_keeps h))

theorem State.cupReset_keeps {a : State} {s : State} {n : Nat} (h : Keeps a s) : Keeps a (State.cupReset s n) := by
  unfold State.cupReset
  exact (Keeps.upd (State.cupOff_keeps h))

theorem State.setCmp_keeps {a : State} {s : State} {n : Nat} {x : Cmp} (h : Keeps a s) : Keeps a (State.setCmp s n x)
    := by
  unfold State.setCmp
  exact (Keeps.upd h)

theorem State.cmpWrite_keeps {a s : State} {p more chain : Nat} {buf : Nat × Nat} {bs : List Byte} {x : CmpOut}
    (h : Keeps a s) : Keeps a (State.cmpWrite s p more buf chain bs x).1 := by
  induction more generalizing s buf chain bs x with
  | zero =>
    unfold State.cmpWrite
    dsimp only
    split
    · rename_i e
      split at e
      · cases e
      · exact Keeps.fst e (State.dramWrite_keeps h)
    · rename_i e
      refine Keeps.ite1 ?_ ?_ <;>
      · split at e
        · cases e; exact h
        · exact Keeps.fst e (State.dramWrite_keeps h)
  | succ m ih =>
    unfold State.cmpWrite
    dsimp only
    split
    · rename_i e
      split at e
      · cases e
      · exact Keeps.fst e (State.dramWrite_keeps h)
    · rename_i t e
      have k : Keeps a t := by
        split at e
        · cases e; exact h
        · exact Keeps.fst e (State.dramWrite_keeps h)
      refine Keeps.ite1 k ?_
      split
      · exact Keeps.fst ‹_› (State.dramRead_keeps k)
      · exact ih (Keeps.fst ‹_› (State.dramRead_keeps k))

theorem State.cmpStore_keeps {a : State} {s : State} {p : Nat} {c : List Byte} {bs : List Byte} (h : Keeps a s) :
    Keeps a (State.cmpStore s p c bs).1 := by
  unfold State.cmpStore
  exact (State.cmpWrite_keeps h)

theorem State.cmpShow_keeps {a : State} {s : State} {n : Nat} (h : Keeps a s) : Keeps a (State.cmpShow s n) := by
  unfold State.cmpShow
  exact (State.setRg_keeps (State.setRg_keeps h))

theorem State.cmpEnd_keeps {a : State} {s : State} {n : Nat} {st : Option CmpStream} {j : CmpJob} (h : Keeps a s) :
    Keeps a (State.cmpEnd s n st j) := by
  unfold State.cmpEnd
  exact (State.cmpShow_keeps (State.setCmp_keeps h))

theorem State.cmpTake_keeps {a s : State} {n : Nat} {mine : Nat → Bool} {f : State → List Byte → State} (h : Keeps a s)
    (hf : ∀ t c, Keeps a t → Keeps a (f t c)) : Keeps a (State.cmpTake s n mine f) := by
  unfold State.cmpTake
  refine Keeps.ite h ?_
  split
  · exact Keeps.fst ‹_› (State.peek_keeps h)
  · have k := State.consume_keeps (u := pgCMP n) (port := 0) (Keeps.fst ‹_› (State.peek_keeps h))
    exact Keeps.ite h (Keeps.ite (State.cmpEnd_keeps k) (hf _ _ k))

theorem State.cmpCompress_keeps {a : State} {s : State} {n : Nat} {c : List Byte} (h : Keeps a s) : Keeps a
    (State.cmpCompress s n c) := by
  unfold State.cmpCompress
  exact (Keeps.ite (State.cmpEnd_keeps h) (by split; exact (State.cmpEnd_keeps (Keeps.fst ‹_› (State.dramRead_keeps h))); exact (Keeps.ite (State.cmpEnd_keeps (Keeps.fst ‹_› (State.dramRead_keeps h))) (Keeps.ite (State.cmpEnd_keeps (State.cmpStore_keeps (Keeps.fst ‹_› (State.dramRead_keeps h)))) (State.cmpEnd_keeps (by split; exact (State.dramWrite_keeps (State.cmpStore_keeps (Keeps.fst ‹_› (State.dramRead_keeps h)))); exact (State.cmpStore_keeps (Keeps.fst ‹_› (State.dramRead_keeps h)))))))))

theorem State.cmpInflate_keeps {a : State} {s : State} {n : Nat} {c : List Byte} (h : Keeps a s) : Keeps a
    (State.cmpInflate s n c) := by
  unfold State.cmpInflate
  exact (by (try dsimp only); split; exact (State.cmpEnd_keeps (Keeps.fst ‹_› (State.dramRead_keeps h))); exact (Keeps.ite (State.cmpEnd_keeps (Keeps.fst ‹_› (State.dramRead_keeps h))) (Keeps.ite (State.cmpEnd_keeps (Keeps.fst ‹_› (State.dramRead_keeps h))) (State.cmpEnd_keeps (State.cmpStore_keeps (Keeps.fst ‹_› (State.dramRead_keeps h)))))))

theorem State.cmpCount_keeps {a : State} {s : State} {n : Nat} {ctx : Nat} {code : Nat} {i : Nat} {o : Nat} (h : Keeps
    a s) : Keeps a (State.cmpCount s n ctx code i o) := by
  unfold State.cmpCount
  exact (Keeps.ite (State.inc64_keeps (State.inc64_keeps (State.inc_keeps h))) (State.happen_keeps (Keeps.ite
    (State.sat_keeps (State.err_keeps (State.sat_keeps (State.inc64_keeps (State.inc64_keeps (State.inc_keeps h))))))
    (State.err_keeps (State.sat_keeps (State.inc64_keeps (State.inc64_keeps (State.inc_keeps h))))))))

theorem State.cmpSnippet_keeps {a s : State} {n level at_ : Nat} {data : List Byte} (h : Keeps a s) :
    Keeps a (State.cmpSnippet s n level data at_).1 := by
  unfold State.cmpSnippet
  refine Keeps.ite1 ?_ h
  dsimp only
  split
  · dsimp only; exact State.cmpCount_keeps (Keeps.fst ‹_› (State.dramWrite_keeps h))
  · dsimp only; exact State.cmpCount_keeps (Keeps.fst ‹_› (State.dramWrite_keeps h))

theorem State.cmpOnRun_keeps {a : State} {s : State} {n : Nat} (h : Keeps a s) : Keeps a (State.cmpOnRun s n) := by
  unfold State.cmpOnRun
  exact (Keeps.ite (State.toFault_keeps (State.err_keeps h)) h)

theorem State.cmpOff_keeps {a : State} {s : State} {n : Nat} (h : Keeps a s) : Keeps a (State.cmpOff s n) := by
  unfold State.cmpOff
  exact (State.cmpShow_keeps (State.setCmp_keeps h))

theorem State.ringWrite_keeps {a : State} {s : State} {n : Nat} {b : Nat} {l : CupLine} (h : Keeps a s) : Keeps a
    (State.ringWrite s n b l) := by
  unfold State.ringWrite
  exact (Keeps.ite (State.dramWrite_keeps h) h)

theorem State.defCounts_keeps {a : State} {s : State} {n : Nat} {old : DefBlk} {new : DefBlk} (h : Keeps a s) : Keeps
    a (State.defCounts s n old new) := by
  unfold State.defCounts
  exact (Keeps.ite (State.err_keeps (State.sat_keeps (Keeps.ite (State.happen_keeps (State.err_keeps (State.sat_keeps
    (State.sat_keeps h)))) (State.sat_keeps (State.sat_keeps h))))) (State.sat_keeps (Keeps.ite (State.happen_keeps
    (State.err_keeps (State.sat_keeps (State.sat_keeps h)))) (State.sat_keeps (State.sat_keeps h)))))

theorem State.defLine_keeps {a : State} {s : State} {n : Nat} {l : CupLine} (h : Keeps a s) : Keeps a (State.defLine s
    n l) := by
  unfold State.defLine
  exact (by split; exact h; exact (State.ringWrite_keeps (State.defCounts_keeps (State.defShow_keeps (State.setDef_keeps h)))))

theorem State.defClose_keeps {a : State} {s : State} {n : Nat} {e : CupEnd} (h : Keeps a s) : Keeps a (State.defClose
    s n e) := by
  unfold State.defClose
  exact (by split; exact h; exact (State.defShow_keeps (by split; exact (State.dropLate_keeps (State.setDef_keeps (State.sat_keeps (State.defCounts_keeps (State.setDef_keeps h))))); exact (State.setDef_keeps (State.sat_keeps (State.defCounts_keeps (State.setDef_keeps h)))))))

theorem State.defTake_keeps {a : State} {s : State} {n : Nat} {z2 : CupOut} (h : Keeps a s) : Keeps a (State.defTake s
    n z2) := by
  unfold State.defTake
  exact (by split; exact (State.defShow_keeps (State.setDef_keeps h)); exact (State.defLine_keeps h); exact (State.defClose_keeps h); exact (State.defShow_keeps (State.setDef_keeps h)))

theorem State.cropBytes_keeps {a : State} {s : State} {n : Nat} {b : Nat} {jo : Nat} {ko : Nat} {w : Nat} {vw : Nat}
    {vh : Nat} {z8 : Nat} (h : Keeps a s) : Keeps a (State.cropBytes s n b jo ko w vw vh z8).1 := by
  unfold State.cropBytes
  exact (Keeps.foldl1 h (fun _ _ h0 => (by split; exact h0; exact (by split; exact (Keeps.fst ‹_› (State.dramRead_keeps h0)); exact (Keeps.fst ‹_› (State.dramRead_keeps h0))))))

theorem State.noSnip_keeps {a : State} {s : State} {n : Nat} {recs : List (List Byte)} {x : Snip} {bad : Bool} (h :
    Keeps a s) : Keeps a (State.noSnip s n recs x bad).1 := by
  unfold State.noSnip
  exact (Keeps.ite (State.err_keeps (State.sat_keeps h)) (State.sat_keeps h))

theorem State.snippet_keeps {a s : State} {n b lines : Nat} {recs : List (List Byte)} {x : Snip} (h : Keeps a s) :
    Keeps a (State.snippet s n b lines recs x).1 := by
  unfold State.snippet
  refine Keeps.ite1 (State.noSnip_keeps h) ?_
  generalize s.crop n lines x = g
  obtain ⟨jo, ko, w, hh, vw, vh⟩ := g
  dsimp only
  split
  · exact State.noSnip_keeps (Keeps.fst ‹_› (State.cropBytes_keeps h))
  · rename_i t raw e1
    have k : Keeps a t := Keeps.fst e1 (State.cropBytes_keeps h)
    clear e1
    split
    · exact State.noSnip_keeps (Keeps.fst ‹_› (State.cmpSnippet_keeps k))
    · rename_i u f e2
      have k2 : Keeps a u := Keeps.fst e2 (State.cmpSnippet_keeps k)
      clear e2
      split
      · exact State.noSnip_keeps (Keeps.fst ‹_› (State.dramWrite_keeps k2))
      · exact State.inc_keeps (State.setRg_keeps (Keeps.fst ‹_› (State.dramWrite_keeps k2)))

theorem State.defOnWrite_keeps {a : State} {s : State} {n : Nat} {o : Nat} {v : Nat} (h : Keeps a s) : KeepsO a
    (State.defOnWrite s n o v) := by
  unfold State.defOnWrite
  exact (KeepsO.ite (KeepsO.some (State.err_keeps h)) KeepsO.none)

theorem State.defOnRun_keeps {a : State} {s : State} {n : Nat} (h : Keeps a s) : Keeps a (State.defOnRun s n) := by
  unfold State.defOnRun
  exact (by (try dsimp only); split; exact (State.toFault_keeps (State.setIst_keeps (State.err_keeps (State.setRg_keeps h)))); exact (State.setDef_keeps (State.setRg_keeps h)))

theorem State.defOff_keeps {a : State} {s : State} {n : Nat} (h : Keeps a s) : Keeps a (State.defOff s n) := by
  unfold State.defOff
  exact (State.defShow_keeps (State.setCup_keeps (State.setDef_keeps h)))

theorem State.lastNone_keeps {a : State} {s : State} {n : Nat} (h : Keeps a s) : Keeps a (State.lastNone s n) := by
  unfold State.lastNone
  exact (Keeps.ite (State.setRg64_keeps h) h)

theorem State.setClpBar_keeps {a : State} {s : State} {b : Nat} {x : ClpBar} (h : Keeps a s) : Keeps a
    (State.setClpBar s b x) := by
  unfold State.setClpBar
  exact (Keeps.upd h)

theorem State.setClpGrp_keeps {a : State} {s : State} {g : Nat} {x : ClpGrp} (h : Keeps a s) : Keeps a
    (State.setClpGrp s g x) := by
  unfold State.setClpGrp
  exact (Keeps.upd h)

theorem State.clpAcc_keeps {a : State} {s : State} {b : Nat} {solo : Nat} {sel : Bool} {l : ClpLine} (h : Keeps a s) :
    Keeps a (State.clpAcc s b solo sel l) := by
  unfold State.clpAcc
  exact (Keeps.ite h (by (try dsimp only); split; exact (State.setClpBar_keeps h); exact (Keeps.ite (State.sat_keeps (State.setClpBar_keeps h)) (State.err_keeps (State.sat_keeps (State.setClpBar_keeps h))))))

theorem State.clpFirst_keeps {a : State} {s : State} {g : Nat} {n : Nat} {l : ClpLine} (h : Keeps a s) : Keeps a
    (State.clpFirst s g n l) := by
  unfold State.clpFirst
  exact (Keeps.ite h (Keeps.ite (Keeps.ite (State.setClpGrp_keeps h) h) (Keeps.ite (State.setClpGrp_keeps h) h)))

theorem State.clpOpen_keeps {a : State} {s : State} {g : Nat} (h : Keeps a s) : Keeps a (State.clpOpen s g) := by
  unfold State.clpOpen
  exact (Keeps.ite h (State.setClpGrp_keeps h))

theorem State.clpSkip_keeps {a : State} {s : State} {b : Nat} {sel : Bool} (h : Keeps a s) : Keeps a (State.clpSkip s
    b sel) := by
  unfold State.clpSkip
  exact (State.setClpBar_keeps h)

theorem State.clpTake_keeps {a : State} {s : State} {n : Nat} {l : ClpLine} (h : Keeps a s) : Keeps a (State.clpTake s
    n l) := by
  unfold State.clpTake
  exact (Keeps.upd (Keeps.foldl (Keeps.foldl h (fun _ _ h0 => (Keeps.ite (State.clpOpen_keeps (Keeps.ite h0
    (State.clpFirst_keeps h0))) h0))) (fun _ _ h0 => (Keeps.ite (Keeps.ite (State.clpSkip_keeps h0)
    (State.clpAcc_keeps h0)) h0))))

theorem State.clpApply_keeps {a : State} {s : State} (h : Keeps a s) : Keeps a (State.clpApply s) := by
  unfold State.clpApply
  exact (Keeps.ite (Keeps.ite (State.err_keeps (State.refuseSet_keeps h)) (State.applySet_keeps h)) h)

theorem State.clpInvalidate_keeps {a : State} {s : State} {g : Nat} {c : ClpClose} (h : Keeps a s) : Keeps a
    (State.clpInvalidate s g c) := by
  unfold State.clpInvalidate
  exact (State.happen_keeps (State.err_keeps (State.sat_keeps (State.setClpGrp_keeps (Keeps.foldl h (fun _ _ h0 =>
    (Keeps.ite (State.setClpBar_keeps h0) (State.setClpBar_keeps h0))))))))

theorem State.clpWin_keeps {a : State} {s : State} {g : Nat} {t : Trig} (h : Keeps a s) : Keeps a (State.clpWin s g t)
    := by
  unfold State.clpWin
  exact (State.setClpGrp_keeps (by split; exact (State.clpInvalidate_keeps (State.atBoundary_keeps h (fun _ h0 => (State.clpApply_keeps h0)))); exact (State.atBoundary_keeps h (fun _ h0 => (State.clpApply_keeps h0)))))

theorem State.clpWords_keeps {a : State} {s : State} {g : Nat} {slot : Nat} {x : ClpSum} (h : Keeps a s) : Keeps a
    (State.clpWords s g slot x).1 := by
  unfold State.clpWords
  exact (Keeps.ite1 h (State.dramWrite_keeps h))

theorem State.clpPost_keeps {a : State} {s : State} {g : Nat} {slot : Nat} {c : ClpClose} {posf : Int} {x : ClpSum} (h
    : Keeps a s) : Keeps a (State.clpPost s g slot c posf x) := by
  unfold State.clpPost
  exact (State.setRg64_keeps (State.setRg_keeps (State.setRg_keeps (State.setRg_keeps (by split; exact (Keeps.fst ‹_› (State.post_keeps (State.drawn_keeps h))); exact (State.sat_keeps (Keeps.fst ‹_› (State.post_keeps (State.drawn_keeps h)))))))))

theorem State.clpWrites_keeps {a : State} {s : State} {x : ClpSum} (h : Keeps a s) : Keeps a (State.clpWrites s x) := by
  unfold State.clpWrites
  exact (Keeps.foldl h (fun _ _ h0 => (by split; exact (State.inc_keeps (State.nctPut_keeps h0)); exact h0)))

theorem State.clpClose_keeps {a s : State} {g : Nat} {c : ClpClose} (h : Keeps a s) : Keeps a (State.clpClose s g c) := by
  unfold State.clpClose
  extract_lets slot bs sums s1
  have k1 : Keeps a s1 := Keeps.upd h
  clear_value s1 sums bs
  have k2 : Keeps a (sums.foldl (fun (a : State × Bool) x =>
    let r := a.1.clpWords g slot x
    (r.1, a.2 && r.2)) (s1, true)).1 := Keeps.foldl1 k1 (fun _ _ h0 => State.clpWords_keeps h0)
  generalize (sums.foldl (fun (a : State × Bool) x =>
    let r := a.1.clpWords g slot x
    (r.1, a.2 && r.2)) (s1, true)) = q at k2
  obtain ⟨t, ok⟩ := q
  dsimp -zeta only
  extract_lets s2 sums2 s3 posf s4 s5 next s6 src s7 s8 s9 written
  have k3 : Keeps a s2 := Keeps.ite k2 (State.err_keeps k2)
  clear_value s2 sums2
  have k4 : Keeps a s3 := Keeps.foldl k3 (fun _ _ h0 => State.setClpBar_keeps h0)
  clear_value s3 posf
  have k5 : Keeps a s4 := Keeps.ite (State.drawn_keeps k4) k4
  clear_value s4
  have k6 : Keeps a s5 := Keeps.foldl k5 (fun _ _ h0 => State.clpPost_keeps h0)
  clear_value s5 next
  have k7 : Keeps a s7 := State.setClpGrp_keeps (State.setRg64_keeps k6)
  clear_value s7
  have k8 : Keeps a s8 := State.happenFrom_keeps k7
  clear_value s8
  have k9 : Keeps a s9 := Keeps.foldl k8 (fun _ _ h0 => State.clpWrites_keeps h0)
  clear_value s9
  exact Keeps.ite k9 (State.setRg_keeps (Keeps.upd k9))

theorem State.clpNoReq_keeps {a : State} {s : State} (h : Keeps a s) : Keeps a (State.clpNoReq s) := by
  unfold State.clpNoReq
  exact (State.setFl_keeps (Keeps.upd h))

theorem State.clpLeft_keeps {a : State} {s : State} (h : Keeps a s) : Keeps a (State.clpLeft s) := by
  unfold State.clpLeft
  exact (by split; exact (State.clpNoReq_keeps h); exact h)

theorem State.bindWrite_keeps {a : State} {s : State} {b : Nat} {v : Nat} (h : Keeps a s) : Keeps a (State.bindWrite s
    b v) := by
  unfold State.bindWrite
  exact (Keeps.ite (State.err_keeps h) (Keeps.ite (State.bindError_keeps h) (Keeps.ite (State.bindError_keeps h)
    (State.writeWord_keeps h))))

theorem State.clpOnWrite_keeps {a : State} {s : State} {o : Nat} {v : Nat} (h : Keeps a s) : KeepsO a
    (State.clpOnWrite s o v) := by
  unfold State.clpOnWrite
  exact (KeepsO.ite (KeepsO.ite (KeepsO.some h) (KeepsO.ite (KeepsO.some (State.bindWrite_keeps h)) KeepsO.none))
    (KeepsO.ite (KeepsO.some (State.err_keeps h)) KeepsO.none))

theorem State.clpOnRun_keeps {a : State} {s : State} (h : Keeps a s) : Keeps a (State.clpOnRun s) := by
  unfold State.clpOnRun
  exact (by (try dsimp only); split; exact (State.toFault_keeps (State.setIst_keeps (State.err_keeps (Keeps.upd h)))); exact (Keeps.upd h))

theorem State.clpOff_keeps {a : State} {s : State} (h : Keeps a s) : Keeps a (State.clpOff s) := by
  unfold State.clpOff
  exact (State.setRg_keeps (Keeps.upd (State.dropStalled_keeps h)))

end Sys2Proof.Machine
end

