-- ==== Sys2Proof/Laws/KeepsFabric.lean ====
section
/-!
SUPPORT. What the named operations keep: interrupts, queues, events, network, calibration, Lantern. One lemma per operation.
-/

set_option Elab.async false

namespace Sys2Proof.Machine

theorem State.setSrc_keeps {a : State} {s : State} {i : Nat} {x : Src} (h : Keeps a s) : Keeps a (State.setSrc s i x)
    := by
  unfold State.setSrc
  exact (Keeps.upd h)

theorem State.msix_keeps {a : State} {s : State} {fn : Nat} {v : Nat} (h : Keeps a s) : Keeps a (State.msix s fn v) := by
  unfold State.msix
  exact (Keeps.ite (State.emit_keeps h) (Keeps.ite h (Keeps.upd h)))

theorem State.pbaServed_keeps {a : State} {s : State} {i : Nat} {x : Src} (h : Keeps a s) : Keeps a (State.pbaServed s
    i x) := by
  unfold State.pbaServed
  exact (Keeps.ite h (Keeps.upd h))

theorem State.pbaFlush_keeps {a : State} {s : State} (h : Keeps a s) : Keeps a (State.pbaFlush s) := by
  unfold State.pbaFlush
  exact (Keeps.foldl (Keeps.upd h) (fun _ _ h0 => (State.emit_keeps h0)))

theorem State.drivePins_keeps {a : State} {s : State} {old : State} (h : Keeps a s) : Keeps a (State.drivePins s old)
    := by
  unfold State.drivePins
  exact (Keeps.foldl h (fun _ _ h0 => (Keeps.ite h0 (State.pin_keeps h0))))

theorem State.srcPend_keeps {a : State} {s : State} {i : Nat} (h : Keeps a s) : Keeps a (State.srcPend s i) := by
  unfold State.srcPend
  exact (Keeps.ite (State.msix_keeps (State.setSrc_keeps h)) (State.drivePins_keeps (State.setSrc_keeps h)))

theorem State.srcSample_keeps {a : State} {s : State} {i : Nat} (h : Keeps a s) : Keeps a (State.srcSample s i) := by
  unfold State.srcSample
  exact (Keeps.ite h (Keeps.ite (State.srcPend_keeps (State.setSrc_keeps h)) (Keeps.ite (State.drivePins_keeps
    (State.setSrc_keeps (State.setSrc_keeps h))) (State.setSrc_keeps h))))

theorem State.srcEdge_keeps {a : State} {s : State} {i : Nat} (h : Keeps a s) : Keeps a (State.srcEdge s i) := by
  unfold State.srcEdge
  exact (Keeps.ite h (Keeps.ite (Keeps.ite (State.sat_keeps h) (State.setSrc_keeps h)) (Keeps.ite (State.srcPend_keeps
    h) h)))

theorem State.claim_keeps {a : State} {s : State} {kind : Nat} {idx : Nat} {req : Nat} {act : Bool} (h : Keeps a s) :
    Keeps a (State.claim s kind idx req act) := by
  unfold State.claim
  exact (by (try dsimp only); split; exact (Keeps.upd h); exact (Keeps.ite (State.drivePins_keeps (State.setSrc_keeps (Keeps.upd h))) (Keeps.upd h)))

theorem State.complete_keeps {a : State} {s : State} {i : Nat} {lo : Nat} {hi : Nat} (h : Keeps a s) : Keeps a
    (State.complete s i lo hi) := by
  unfold State.complete
  exact (Keeps.ite h (Keeps.ite (State.setIst_keeps (State.err_keeps (State.sat_keeps h))) (Keeps.ite (Keeps.ite
    (State.srcPend_keeps (State.pbaServed_keeps h)) (State.setSrc_keeps (State.pbaServed_keeps h))) (Keeps.ite
    (State.srcPend_keeps (State.setSrc_keeps (State.pbaServed_keeps h))) (State.setSrc_keeps (State.pbaServed_keeps
    h))))))

theorem State.srcWrite_keeps {a : State} {s : State} {i : Nat} {o : Nat} {v : Nat} {req : Nat} (h : Keeps a s) : Keeps
    a (State.srcWrite s i o v req) := by
  unfold State.srcWrite
  exact (Keeps.ite h (Keeps.ite (State.ownerError_keeps h) (Keeps.ite (State.setSrc_keeps h) (Keeps.ite h (Keeps.ite
    (State.err_keeps h) (Keeps.ite (State.drivePins_keeps (State.setSrc_keeps (State.setSrc_keeps h))) (Keeps.ite
    (State.drivePins_keeps (State.srcPend_keeps (State.setSrc_keeps h))) (State.srcSample_keeps (State.drivePins_keeps
    (State.setSrc_keeps h))))))))))

theorem State.srcWide_keeps {a : State} {s : State} {i : Nat} {o : Nat} {v : Nat} {req : Nat} (h : Keeps a s) : Keeps
    a (State.srcWide s i o v req) := by
  unfold State.srcWide
  exact (Keeps.ite (State.srcWrite_keeps h) (State.srcWrite_keeps (State.srcWrite_keeps h)))

theorem State.latchHand_keeps {a : State} {s : State} {n : Nat} (h : Keeps a s) : Keeps a (State.latchHand s n) := by
  unfold State.latchHand
  exact (Keeps.ite (State.srcEdge_keeps (State.setFl_keeps h)) h)

theorem State.latchesHand_keeps {a : State} {s : State} {gpio : Bool} {idx : Nat} (h : Keeps a s) : Keeps a
    (State.latchesHand s gpio idx) := by
  unfold State.latchesHand
  exact (Keeps.foldl h (fun _ _ h0 => (Keeps.ite (State.latchHand_keeps h0) h0)))

theorem State.bicOnWrite_keeps {a : State} {s : State} {o : Nat} {v : Nat} (h : Keeps a s) : KeepsO a
    (State.bicOnWrite s o v) := by
  unfold State.bicOnWrite
  exact (by split; exact (KeepsO.some (State.complete_keeps h)); exact (KeepsO.ite (KeepsO.some (State.complete_keeps h)) (KeepsO.ite (KeepsO.some (State.complete_keeps h)) (KeepsO.ite (KeepsO.some (State.complete_keeps h)) (KeepsO.ite (KeepsO.some (State.srcEdge_keeps h)) (KeepsO.ite (KeepsO.some (Keeps.foldl (State.writeWord_keeps h) (fun _ _ h0 => (Keeps.ite h0 (Keeps.ite (State.emit_keeps h0) (State.pin_keeps h0)))))) KeepsO.none))))))

theorem State.bicShow_keeps {a : State} {s : State} {old : State} (h : Keeps a s) : Keeps a (State.bicShow s old) := by
  unfold State.bicShow
  exact (State.drivePins_keeps (Keeps.ite (Keeps.foldl h (fun _ _ h0 => (Keeps.ite (State.srcPend_keeps
    (State.srcSample_keeps h0)) (State.srcSample_keeps h0)))) h))

theorem State.bicReset_keeps {a : State} {s : State} (h : Keeps a s) : Keeps a (State.bicReset s) := by
  unfold State.bicReset
  exact (State.drivePins_keeps (Keeps.upd h))

theorem State.qcfgError_keeps {a : State} {s : State} {q : Nat} (h : Keeps a s) : Keeps a (State.qcfgError s q) := by
  unfold State.qcfgError
  exact (State.err_keeps h)

theorem State.queueBind_keeps {a : State} {s : State} {q : Nat} {v : Nat} (h : Keeps a s) : Keeps a (State.queueBind s
    q v) := by
  unfold State.queueBind
  exact (Keeps.ite h (Keeps.ite (State.qcfgError_keeps h) (Keeps.ite (State.setQueue_keeps h) (by split; exact (State.bindError_keeps h); exact (Keeps.ite (State.bindError_keeps h) (State.setQueue_keeps h))))))

theorem State.queueEnable_keeps {a : State} {s : State} {q : Nat} {v : Nat} (h : Keeps a s) : Keeps a
    (State.queueEnable s q v) := by
  unfold State.queueEnable
  exact (Keeps.ite (State.qcfgError_keeps h) (State.setQueue_keeps h))

theorem State.queueOff_keeps {a : State} {s : State} {q : Nat} (h : Keeps a s) : Keeps a (State.queueOff s q) := by
  unfold State.queueOff
  exact (Keeps.ite (State.setQueue_keeps h) (State.setQueue_keeps (State.hostForget_keeps h)))

theorem State.queueDisable_keeps {a : State} {s : State} {q : Nat} {v : Nat} (h : Keeps a s) : Keeps a
    (State.queueDisable s q v) := by
  unfold State.queueDisable
  exact (Keeps.ite (State.queueOff_keeps h) (State.qcfgError_keeps (State.queueOff_keeps h)))

theorem State.transferEnded_keeps {a : State} {s : State} {r : HostRead} (h : Keeps a s) : Keeps a
    (State.transferEnded s r) := by
  unfold State.transferEnded
  exact (Keeps.ite (State.queueOff_keeps h) h)

theorem State.queueCfg_keeps {a : State} {s : State} {q : Nat} {v : Nat} (h : Keeps a s) : Keeps a (State.queueCfg s q
    v) := by
  unfold State.queueCfg
  exact (Keeps.ite (Keeps.ite (Keeps.ite h (State.qcfgError_keeps h)) (State.queueDisable_keeps h)) (Keeps.ite
    (State.queueEnable_keeps h) (State.setQueue_keeps h)))

theorem State.queueField_keeps {a : State} {s : State} {q : Nat} {y : Queue} (h : Keeps a s) : Keeps a
    (State.queueField s q y) := by
  unfold State.queueField
  exact (Keeps.ite h (Keeps.ite (State.qcfgError_keeps h) (State.setQueue_keeps h)))

theorem State.doorbellBad_keeps {a : State} {s : State} {q : Nat} {req : Nat} (h : Keeps a s) : Keeps a
    (State.doorbellBad s q req) := by
  unfold State.doorbellBad
  exact (Keeps.ite (State.violate_keeps (State.err_keeps (State.sat_keeps h))) (State.err_keeps (State.sat_keeps h)))

theorem State.bellP_keeps {a : State} {s : State} {q : Nat} {v : Nat} {req : Nat} (h : Keeps a s) : Keeps a
    (State.bellP s q v req) := by
  unfold State.bellP
  exact (Keeps.ite (State.doorbellBad_keeps h) (State.setQueue_keeps h))

theorem State.bellC_keeps {a : State} {s : State} {q : Nat} {v : Nat} {req : Nat} (h : Keeps a s) : Keeps a
    (State.bellC s q v req) := by
  unfold State.bellC
  exact (Keeps.ite (State.doorbellBad_keeps h) (State.setQueue_keeps h))

theorem State.queueWrite_keeps {a : State} {s : State} {q : Nat} {o : Nat} {v : Nat} {req : Nat} (h : Keeps a s) :
    Keeps a (State.queueWrite s q o v req) := by
  unfold State.queueWrite
  exact (Keeps.ite (State.queueField_keeps h) (Keeps.ite (State.queueField_keeps h) (Keeps.ite (State.queueCfg_keeps
    h) (Keeps.ite (State.queueBind_keeps h) (Keeps.ite (State.bellP_keeps h) (Keeps.ite (State.bellC_keeps h)
    (Keeps.ite (State.queueField_keeps h) (Keeps.ite (State.queueField_keeps h) (Keeps.ite (State.queueField_keeps h)
    h)))))))))

theorem State.queueWide_keeps {a : State} {s : State} {q : Nat} {o : Nat} {v : Nat} {req : Nat} (h : Keeps a s) :
    Keeps a (State.queueWide s q o v req) := by
  unfold State.queueWide
  exact (Keeps.ite (State.queueField_keeps h) (Keeps.ite (State.queueField_keeps h) (State.queueWrite_keeps
    (State.queueWrite_keeps h))))

theorem State.bell_keeps {a : State} {s : State} {q : Nat} {req : Nat} {array : Bool} {o : Nat} {v : Nat} {f : State →
    State} (h : Keeps a s) (hf : ∀ t, Keeps a t → Keeps a (f t)) : Keeps a (State.bell s q req array o v f) := by
  unfold State.bell
  exact (Keeps.ite h (Keeps.ite (Keeps.ite (hf _ h) h) (State.gate_keeps (State.mirror_keeps h) (fun _ h0 => (hf _ h0)))))

theorem State.hqfReset_keeps {a : State} {s : State} (h : Keeps a s) : Keeps a (State.hqfReset s) := by
  unfold State.hqfReset
  exact (Keeps.upd h)

theorem State.setDma_keeps {a : State} {s : State} {c : Nat} {x : DmaCh} (h : Keeps a s) : Keeps a (State.setDma s c
    x) := by
  unfold State.setDma
  exact (Keeps.upd h)

theorem State.setDmaState_keeps {a : State} {s : State} {c : Nat} {v : Nat} (h : Keeps a s) : Keeps a
    (State.setDmaState s c v) := by
  unfold State.setDmaState
  exact (State.setFl_keeps h)

theorem State.dmaShow_keeps {a : State} {s : State} (h : Keeps a s) : Keeps a (State.dmaShow s) := by
  unfold State.dmaShow
  exact (State.setRg_keeps h)

theorem State.dmaCpl_keeps {a : State} {s : State} {c : Nat} {code : Nat} (h : Keeps a s) : Keeps a (State.dmaCpl s c
    code) := by
  unfold State.dmaCpl
  exact (Keeps.ite h (by (try dsimp only); split; exact (Keeps.fst ‹_› (State.post_keeps h)); exact (State.sat_keeps (Keeps.fst ‹_› (State.post_keeps h)))))

theorem State.dmaEnd_keeps {a : State} {s : State} {c : Nat} {code : Nat} {st : Nat} (h : Keeps a s) : Keeps a
    (State.dmaEnd s c code st) := by
  unfold State.dmaEnd
  exact (State.dmaShow_keeps (State.happenFrom_keeps (State.dmaCpl_keeps (Keeps.ite (State.setIst_keeps
    (State.err_keeps (State.setDma_keeps (State.hostForget_keeps (State.setRg_keeps h))))) (Keeps.ite (State.err_keeps
    (State.setDma_keeps (State.hostForget_keeps (State.setRg_keeps h)))) (State.setDma_keeps (State.hostForget_keeps
    (State.setRg_keeps h))))))))

theorem State.hostReadError_keeps {a : State} {s : State} {r : HostRead} {code : Nat} (h : Keeps a s) : Keeps a
    (State.hostReadError s r code) := by
  unfold State.hostReadError
  exact (by (try dsimp only); split; exact (State.transferEnded_keeps (Keeps.ite (Keeps.upd h) (State.queueError_keeps (Keeps.upd h)))); exact (Keeps.ite (State.dmaEnd_keeps (Keeps.upd h)) (Keeps.upd h)); exact (Keeps.upd (Keeps.upd h)); exact (Keeps.upd h))

theorem State.pcieBad_keeps {a : State} {s : State} {bit_ : Nat} {cnt : Nat} {code : Nat} (h : Keeps a s) : Keeps a
    (State.pcieBad s bit_ cnt code) := by
  unfold State.pcieBad
  exact (State.violate_keeps (State.err_keeps (State.sat_keeps (Keeps.upd h))))

theorem State.hostDeliver_keeps {a : State} {s : State} {r : HostRead} {d : List Byte} (h : Keeps a s) : Keeps a
    (State.hostDeliver s r d) := by
  unfold State.hostDeliver
  exact (State.transferEnded_keeps (State.setHostBytes_keeps (Keeps.upd h)))

theorem State.hostDram_keeps {a : State} {s : State} {write : Bool} {z2 : Nat} {n : Nat} {data : List Byte} {ep :
    Bool} (h : Keeps a s) : Keeps a (State.hostDram s write z2 n data ep) := by
  unfold State.hostDram
  exact (Keeps.ite (State.emit_keeps h) (Keeps.ite (State.emit_keeps (State.pcieBad_keeps h)) (Keeps.ite (Keeps.ite (State.pcieBad_keeps h) (State.dramWrite_keeps h)) (by split; exact (State.emit_keeps (Keeps.upd (Keeps.fst ‹_› (State.dramRead_keeps h)))); exact (State.emit_keeps (Keeps.fst ‹_› (State.dramRead_keeps h)))))))

theorem State.flrQueues_keeps {a : State} {s : State} {fn : Nat} (h : Keeps a s) : Keeps a (State.flrQueues s fn) := by
  unfold State.flrQueues
  exact (Keeps.upd h)

theorem State.pcieShow_keeps {a : State} {s : State} (h : Keeps a s) : Keeps a (State.pcieShow s) := by
  unfold State.pcieShow
  exact (State.pbaFlush_keeps h)

theorem State.config_keeps {a : State} {s : State} {fn : Nat} {kind : Nat} {vec : Nat} {value : Nat} {data : Nat} (h :
    Keeps a s) : Keeps a (State.config s fn kind vec value data) := by
  unfold State.config
  exact (by (try dsimp only); split; exact (State.pbaFlush_keeps (Keeps.upd h)); exact (State.pbaFlush_keeps (Keeps.upd h)); exact (State.pbaFlush_keeps (Keeps.upd h)); exact (Keeps.ite (Keeps.upd h) h); exact (Keeps.ite (State.pbaFlush_keeps (Keeps.upd h)) h); exact (Keeps.ite (State.setFl_keeps (Keeps.upd h)) h); exact (State.pbaFlush_keeps (Keeps.upd h)); exact (Keeps.ite (Keeps.upd h) h); exact (Keeps.ite (Keeps.upd h) h); exact (Keeps.upd h); exact (State.pcieBad_keeps h); exact (Keeps.ite (Keeps.upd h) h); exact h)

theorem State.applyPage_keeps {a : State} {s : State} {p : Nat} {now : Bool} (h : Keeps a s) : Keeps a
    (State.applyPage s p now) := by
  unfold State.applyPage
  exact (by (try dsimp only); split; exact (State.axApply_keeps h); exact (State.sdApply_keeps h); exact (State.camApply_keeps h); exact (State.cupApply_keeps h); exact (State.clpApply_keeps h); exact (State.jobApply_keeps h); exact (State.stpApply_keeps h); exact (State.nctApply_keeps h); exact (State.pbaApply_keeps h); exact (Keeps.ite (State.applySet_keeps h) h))

theorem State.applyBy_keeps {a : State} {s : State} {ch : Nat} (h : Keeps a s) : Keeps a (State.applyBy s ch) := by
  unfold State.applyBy
  exact (Keeps.foldl h (fun _ _ h0 => (State.applyPage_keeps h0)))

theorem State.gpioOutWrite_keeps {a : State} {s : State} {hi : Bool} {v : Nat} (h : Keeps a s) : Keeps a
    (State.gpioOutWrite s hi v) := by
  unfold State.gpioOutWrite
  exact (Keeps.foldl h (fun _ _ h0 => (State.gpioSet_keeps h0)))

theorem State.gpioStart_keeps {a : State} {s : State} (h : Keeps a s) : Keeps a (State.gpioStart s) := by
  unfold State.gpioStart
  exact (Keeps.upd h)

theorem State.gpioTurned_keeps {a : State} {s : State} {old : State} (h : Keeps a s) : Keeps a (State.gpioTurned s
    old) := by
  unfold State.gpioTurned
  exact (Keeps.upd h)

theorem State.gpioSampled_keeps {a : State} {s : State} {pin : Nat} {level : Bool} {held : Nat} (h : Keeps a s) :
    Keeps a (State.gpioSampled s pin level held) := by
  unfold State.gpioSampled
  exact (Keeps.ite h (Keeps.ite (State.setRg64_keeps h) (Keeps.ite h (Keeps.ite (Keeps.foldl (State.setRg64_keeps h)
    (fun _ _ h0 => (State.enterNew_keeps h0))) (State.setRg64_keeps h)))))

theorem State.trigger_keeps {a : State} {s : State} {t : Trig} (h : Keeps a s) : Keeps a (State.trigger s t) := by
  unfold State.trigger
  exact (by split; exact (Keeps.ite (Keeps.upd (State.inc_keeps h)) (State.inc_keeps h)); exact (Keeps.upd h))

theorem State.deliverTask_keeps {a : State} {s : State} {e : Ev} {slot : Nat} {v : Nat} (h : Keeps a s) : Keeps a
    (State.deliverTask s e slot v) := by
  unfold State.deliverTask
  exact (Keeps.ite h (Keeps.ite (State.happen_keeps (State.sat_keeps (State.err_keeps h))) (Keeps.ite h (Keeps.ite
    (State.hit_keeps h (fun _ h0 => (State.gpioTask_keeps h0))) (State.trigger_keeps h)))))

theorem State.chanPut_keeps {a : State} {s : State} {ch : Nat} {o : Nat} {v : Nat} (h : Keeps a s) : Keeps a
    (State.chanPut s ch o v) := by
  unfold State.chanPut
  exact (Keeps.ite h (Keeps.ite (State.err_keeps h) (by split; exact (State.bindError_keeps h); exact (Keeps.upd h))))

theorem State.chanWrite_keeps {a : State} {s : State} {ch : Nat} {o : Nat} {v : Nat} {req : Nat} (h : Keeps a s) :
    Keeps a (State.chanWrite s ch o v req) := by
  unfold State.chanWrite
  exact (Keeps.ite (State.ownerError_keeps h) (State.chanPut_keeps h))

theorem State.chanPair_keeps {a : State} {s : State} {ch : Nat} {o : Nat} {lo : Nat} {hi : Nat} {req : Nat} (h : Keeps
    a s) : Keeps a (State.chanPair s ch o lo hi req) := by
  unfold State.chanPair
  exact (Keeps.ite (State.ownerError_keeps h) (State.chanPut_keeps (State.chanPut_keeps h)))

theorem State.swfire_keeps {a : State} {s : State} {ch : Nat} {arg : Nat} {req : Nat} (h : Keeps a s) : Keeps a
    (State.swfire s ch arg req) := by
  unfold State.swfire
  exact (Keeps.ite (State.ownerError_keeps h) (State.enterNew_keeps h))

theorem State.swfireBoth_keeps {a : State} {s : State} {ch : Nat} {arg : Nat} {req : Nat} (h : Keeps a s) : Keeps a
    (State.swfireBoth s ch arg req) := by
  unfold State.swfireBoth
  exact (Keeps.ite (State.ownerError_keeps h) (State.swfire_keeps (Keeps.upd h)))

theorem State.evfOnWrite_keeps {a : State} {s : State} {o : Nat} {v : Nat} {req : Nat} (h : Keeps a s) : KeepsO a
    (State.evfOnWrite s o v req) := by
  unfold State.evfOnWrite
  exact (KeepsO.ite (KeepsO.some (State.chanWrite_keeps h)) (KeepsO.ite (KeepsO.some (Keeps.upd h)) (KeepsO.ite
    (KeepsO.some (State.swfire_keeps h)) (KeepsO.ite (KeepsO.some (Keeps.upd h)) (KeepsO.ite (KeepsO.some
    (State.gpioOutWrite_keeps h)) (KeepsO.ite (KeepsO.some (State.gpioOutWrite_keeps h)) (KeepsO.ite (KeepsO.some
    (State.err_keeps h)) (KeepsO.ite (KeepsO.some (Keeps.ite (State.pin_keeps (State.gpioTurned_keeps
    (State.writeWord_keeps h))) (State.gpioTurned_keeps (State.writeWord_keeps h)))) KeepsO.none))))))))

theorem State.evfReset_keeps {a : State} {s : State} (h : Keeps a s) : Keeps a (State.evfReset s) := by
  unfold State.evfReset
  exact (Keeps.upd h)

theorem State.ptpPend_keeps {a : State} {s : State} {kind : Nat} {v : Int} (h : Keeps a s) : Keeps a (State.ptpPend s
    kind v) := by
  unfold State.ptpPend
  exact (Keeps.upd h)

theorem State.incWrite_keeps {a : State} {s : State} {v : Nat} (h : Keeps a s) : Keeps a (State.incWrite s v) := by
  unfold State.incWrite
  exact (Keeps.ite (State.err_keeps h) (State.ptpPend_keeps (State.setRg64_keeps h)))

theorem State.ofsWrite_keeps {a : State} {s : State} {v : Nat} (h : Keeps a s) : Keeps a (State.ofsWrite s v) := by
  unfold State.ofsWrite
  exact (State.ptpPend_keeps (State.setFl_keeps h))

theorem State.tsetWrite_keeps {a : State} {s : State} {frac : Nat} (h : Keeps a s) : Keeps a (State.tsetWrite s frac)
    := by
  unfold State.tsetWrite
  exact (State.ptpPend_keeps (State.setFl_keeps h))

theorem State.timeCapture_keeps {a : State} {s : State} {req : Nat} (h : Keeps a s) : Keeps a (State.timeCapture s
    req) := by
  unfold State.timeCapture
  exact (Keeps.upd h)

theorem State.ptpOnWrite_keeps {a : State} {s : State} {o : Nat} {v : Nat} (h : Keeps a s) : KeepsO a
    (State.ptpOnWrite s o v) := by
  unfold State.ptpOnWrite
  exact (KeepsO.ite (KeepsO.some (State.incWrite_keeps h)) (KeepsO.ite (KeepsO.some (State.incWrite_keeps h))
    (KeepsO.ite (KeepsO.some (Keeps.upd h)) (KeepsO.ite (KeepsO.some (State.ofsWrite_keeps h)) (KeepsO.ite
    (KeepsO.some (State.tsetWrite_keeps h)) KeepsO.none)))))

theorem State.setEth_keeps {a : State} {s : State} {n : Nat} {x : Eth} (h : Keeps a s) : Keeps a (State.setEth s n x)
    := by
  unfold State.setEth
  exact (Keeps.upd h)

theorem State.showTsq_keeps {a : State} {s : State} {n : Nat} (h : Keeps a s) : Keeps a (State.showTsq s n) := by
  unfold State.showTsq
  exact (by (try dsimp only); split; exact (State.setRg64_keeps (State.setRg64_keeps (State.setRg_keeps h))); exact (State.setRg64_keeps (State.setRg64_keeps (State.setRg_keeps h))))

theorem State.pushTs_keeps {a : State} {s : State} {n : Nat} {t : Nat} {id : Nat} (h : Keeps a s) : Keeps a
    (State.pushTs s n t id) := by
  unfold State.pushTs
  exact (Keeps.ite (State.err_keeps (State.sat_keeps h)) (State.setIst_keeps (State.showTsq_keeps (State.setEth_keeps
    h))))

theorem State.txRefuse_keeps {a : State} {s : State} {n : Nat} (h : Keeps a s) : Keeps a (State.txRefuse s n) := by
  unfold State.txRefuse
  exact (State.consume_keeps (State.err_keeps (State.sat_keeps h)))

theorem State.txSend_keeps {a : State} {s : State} {n : Nat} {e : List Byte} {d : List Byte} (h : Keeps a s) : Keeps a
    (State.txSend s n e d) := by
  unfold State.txSend
  exact (State.consume_keeps (Keeps.ite (State.pushTs_keeps (State.drawn_keeps (State.drawn_keeps (State.inc_keeps
    (State.emit_keeps h))))) (State.inc_keeps (State.emit_keeps h))))

theorem State.tsPop_keeps {a : State} {s : State} {n : Nat} (h : Keeps a s) : Keeps a (State.tsPop s n) := by
  unfold State.tsPop
  exact (State.showTsq_keeps (State.setEth_keeps (Keeps.upd h)))

theorem State.rxStore_keeps {a : State} {s : State} {n : Nat} {d : List Byte} (h : Keeps a s) : Keeps a (State.rxStore
    s n d).1 := by
  unfold State.rxStore
  exact (by (try dsimp only); split; exact h; exact (Keeps.ite1 h (by (try dsimp only); split; exact (Keeps.ite (State.queueError_keeps (Keeps.fst ‹_› (State.put_keeps h))) (Keeps.fst ‹_› (State.put_keeps h))); exact (State.post_keeps (State.drawn_keeps (State.drawn_keeps (Keeps.fst ‹_› (State.put_keeps h))))))))

theorem State.ethBad_keeps {a : State} {s : State} {n : Nat} {kind : Nat} {len : Nat} (h : Keeps a s) : Keeps a
    (State.ethBad s n kind len) := by
  unfold State.ethBad
  exact (Keeps.ite (State.setFl_keeps (State.violate_keeps (State.err_keeps (State.sat_keeps h))))
    (State.violate_keeps (State.err_keeps (State.sat_keeps h))))

theorem State.ethOnWrite_keeps {a : State} {s : State} {n : Nat} {o : Nat} {v : Nat} (h : Keeps a s) : KeepsO a
    (State.ethOnWrite s n o v) := by
  unfold State.ethOnWrite
  exact (KeepsO.ite (KeepsO.some (State.err_keeps h)) KeepsO.none)

theorem State.ethOnRun_keeps {a : State} {s : State} {n : Nat} (h : Keeps a s) : Keeps a (State.ethOnRun s n) := by
  unfold State.ethOnRun
  exact (Keeps.ite (State.toFault_keeps (State.err_keeps h)) h)

theorem State.ethOff_keeps {a : State} {s : State} {n : Nat} (h : Keeps a s) : Keeps a (State.ethOff s n) := by
  unfold State.ethOff
  exact (State.showTsq_keeps (State.setEth_keeps (State.setRg_keeps (State.hostForget_keeps (Keeps.upd h)))))

theorem State.dmcCycle_keeps {a : State} {s : State} {n : Nat} (h : Keeps a s) : Keeps a (State.dmcCycle s n) := by
  unfold State.dmcCycle
  exact (Keeps.ite (State.setDmc_keeps (State.dmcAdmit_keeps h)) (State.inc_keeps (State.setDmc_keeps
    (State.dmcAdmit_keeps h))))

theorem State.dmcAllBank_keeps {a : State} {s : State} {n : Nat} (h : Keeps a s) : Keeps a (State.dmcAllBank s n) := by
  unfold State.dmcAllBank
  exact (State.inc_keeps (State.setDmc_keeps h))

theorem State.dmcOnRun_keeps {a : State} {s : State} {n : Nat} (h : Keeps a s) : Keeps a (State.dmcOnRun s n) := by
  unfold State.dmcOnRun
  exact (Keeps.ite h (State.toFault_keeps (State.err_keeps h)))

theorem State.dmcOnWrite_keeps {a : State} {s : State} {n : Nat} {o : Nat} {v : Nat} (h : Keeps a s) : KeepsO a
    (State.dmcOnWrite s n o v) := by
  unfold State.dmcOnWrite
  exact (KeepsO.ite (KeepsO.some (State.err_keeps h)) (KeepsO.ite (KeepsO.some (State.err_keeps h)) (KeepsO.ite
    (KeepsO.some h) KeepsO.none)))

theorem State.calHist_keeps {a : State} {s : State} {dom : Nat} {inst : Nat} {code : Nat} {qual : Nat} (h : Keeps a s)
    : Keeps a (State.calHist s dom inst code qual) := by
  unfold State.calHist
  exact (Keeps.upd h)

theorem State.calFail_keeps {a : State} {s : State} {dom : Nat} {inst : Nat} {code : Nat} (h : Keeps a s) : Keeps a
    (State.calFail s dom inst code) := by
  unfold State.calFail
  exact (State.calHist_keeps (State.happen_keeps (State.err_keeps (State.setFl_keeps (State.setFl_keeps
    (State.sat_keeps (Keeps.upd h)))))))

theorem State.calPass_keeps {a : State} {s : State} {dom : Nat} {inst : Nat} {qual : Bool} {q : Nat} (h : Keeps a s) :
    Keeps a (State.calPass s dom inst qual q) := by
  unfold State.calPass
  exact (State.calHist_keeps (State.happen_keeps (Keeps.ite (State.setFl_keeps (State.setFl_keeps (State.setRg64_keeps
    (State.inc_keeps h)))) (State.setFl_keeps (State.setRg64_keeps (State.inc_keeps h))))))

theorem State.calGo_keeps {a : State} {s : State} {dom : Nat} {inst : Nat} {force : Bool} (h : Keeps a s) : Keeps a
    (State.calGo s dom inst force) := by
  unfold State.calGo
  exact (Keeps.ite (State.err_keeps h) (State.calRequest_keeps h))

theorem State.trained_keeps {a : State} {s : State} {ch : Nat} {width : Nat} {converged : Bool} (h : Keeps a s) :
    Keeps a (State.trained s ch width converged) := by
  unfold State.trained
  exact (Keeps.ite (State.calPass_keeps (State.setFl_keeps (Keeps.upd h))) (State.calFail_keeps (State.setFl_keeps
    (Keeps.upd h))))

theorem State.ffWrite_keeps {a : State} {s : State} {n : Nat} {ws : List (Nat × Nat)} (h : Keeps a s) : Keeps a
    (State.ffWrite s n ws) := by
  unfold State.ffWrite
  exact (Keeps.upd h)

theorem State.calResult_keeps {a : State} {s : State} {j : CalJob} {width : Nat} {converged : Bool} (h : Keeps a s) :
    Keeps a (State.calResult s j width converged) := by
  unfold State.calResult
  exact (by (try dsimp only); split; exact (Keeps.ite (State.calFail_keeps h) (Keeps.ite (State.calFail_keeps h) (State.calPass_keeps (State.hlkMeasured_keeps h)))); exact (Keeps.ite (State.calFail_keeps h) (Keeps.ite (State.calFail_keeps h) (State.calPass_keeps h))); exact (by split; exact (State.calFail_keeps (State.drawn_keeps (State.drawn_keeps h))); exact (State.calPass_keeps (State.drawn_keeps (State.drawn_keeps (State.ffWrite_keeps h))))); exact (by split; exact (State.calFail_keeps (State.drawn_keeps (State.drawn_keeps h))); exact (State.calPass_keeps (State.drawn_keeps (State.drawn_keeps (State.setRg_keeps h))))); exact (Keeps.ite (State.calFail_keeps h) (State.calPass_keeps h)))

theorem State.calRelease_keeps {a : State} {s : State} {j : CalJob} (h : Keeps a s) : Keeps a (State.calRelease s j) := by
  unfold State.calRelease
  exact (by (try dsimp only); split; exact (State.setLink_keeps (Keeps.upd (Keeps.upd h))); exact (State.setFl_keeps (Keeps.upd h)); exact (Keeps.upd h))

theorem State.calcOnWrite_keeps {a : State} {s : State} {o : Nat} {v : Nat} (h : Keeps a s) : KeepsO a
    (State.calcOnWrite s o v) := by
  unfold State.calcOnWrite
  exact (KeepsO.ite (KeepsO.some (Keeps.ite (State.calGo_keeps h) h)) (KeepsO.ite (KeepsO.some (State.err_keeps h))
    KeepsO.none))

theorem State.setVout_keeps {a : State} {s : State} {v : Nat} (h : Keeps a s) : Keeps a (State.setVout s v) := by
  unfold State.setVout
  exact (State.setFl_keeps h)

theorem State.slackShow_keeps {a : State} {s : State} (h : Keeps a s) : Keeps a (State.slackShow s) := by
  unfold State.slackShow
  exact (by split; exact (State.setRg_keeps h); exact h)

theorem State.setPx_keeps {a : State} {s : State} {f : Nat} (h : Keeps a s) : Keeps a (State.setPx s f) := by
  unfold State.setPx
  exact (State.slackShow_keeps (State.setRg_keeps (State.setFl_keeps h)))

theorem State.lantLeft_keeps {a : State} {s : State} (h : Keeps a s) : Keeps a (State.lantLeft s) := by
  unfold State.lantLeft
  exact (Keeps.upd h)

theorem State.pmb_keeps {a : State} {s : State} {kind : Nat} {v : Nat} (h : Keeps a s) : Keeps a (State.pmb s kind v)
    := by
  unfold State.pmb
  exact (State.emit_keeps h)

theorem State.pmbViolate_keeps {a : State} {s : State} {cnt : Nat} {code : Nat} {ctx : Nat} (h : Keeps a s) : Keeps a
    (State.pmbViolate s cnt code ctx) := by
  unfold State.pmbViolate
  exact (Keeps.ite (State.setFl_keeps (Keeps.upd (State.lantLeft_keeps (State.violate_keeps (State.err_keeps
    (State.sat_keeps h)))))) (State.violate_keeps (State.err_keeps (State.sat_keeps h))))

theorem State.planStart_keeps {a : State} {s : State} {cause : Nat} (h : Keeps a s) : Keeps a (State.planStart s
    cause) := by
  unfold State.planStart
  exact (Keeps.ite h (Keeps.ite (State.pmb_keeps (State.setFl_keeps (Keeps.upd h))) (State.setFl_keeps (Keeps.upd h))))

theorem State.setPlan_keeps {a : State} {s : State} {x : Plan} (h : Keeps a s) : Keeps a (State.setPlan s x) := by
  unfold State.setPlan
  exact (Keeps.upd h)

theorem State.planVolt_keeps {a : State} {s : State} {x : Plan} {v : Nat} {phase : Nat} {lowered : Bool} (h : Keeps a
    s) : Keeps a (State.planVolt s x v phase lowered) := by
  unfold State.planVolt
  exact (State.pmb_keeps (State.pmb_keeps (State.setPlan_keeps (Keeps.ite (State.setPx_keeps h) h))))

theorem State.planLog_keeps {a : State} {s : State} {x : Plan} (h : Keeps a s) : Keeps a (State.planLog s x) := by
  unfold State.planLog
  exact (Keeps.upd (State.setRg_keeps (State.setRg_keeps (State.setRg_keeps (State.drawn_keeps (State.drawn_keeps h))))))

theorem State.planCalibrate_keeps {a : State} {s : State} (h : Keeps a s) : Keeps a (State.planCalibrate s) := by
  unfold State.planCalibrate
  exact (Keeps.foldl h (fun _ _ h0 => (Keeps.ite (Keeps.foldl h0 (fun _ _ h1 => (State.calRequest_keeps h1))) h0)))

theorem State.planFinish_keeps {a : State} {s : State} {x : Plan} (h : Keeps a s) : Keeps a (State.planFinish s x) := by
  unfold State.planFinish
  exact (State.setRg64_keeps (State.inc_keeps (State.planLog_keeps (State.happen_keeps (State.planCalibrate_keeps
    (Keeps.ite (State.happen_keeps (State.err_keeps (State.setFl_keeps (State.setPx_keeps h)))) (State.setFl_keeps
    (State.setPx_keeps h))))))))

theorem State.planMove_keeps {a : State} {s : State} {x : Plan} (h : Keeps a s) : Keeps a (State.planMove s x) := by
  unfold State.planMove
  exact (Keeps.ite (State.planFinish_keeps (State.drawn_keeps h)) (Keeps.ite (Keeps.ite (State.planVolt_keeps
    (State.drawn_keeps h)) (Keeps.ite (State.setPlan_keeps (State.drawn_keeps h)) (State.planFinish_keeps
    (State.drawn_keeps h)))) (Keeps.ite (State.planFinish_keeps (State.drawn_keeps h)) (Keeps.ite
    (State.planVolt_keeps (State.drawn_keeps h)) (Keeps.ite (State.planVolt_keeps (State.drawn_keeps h))
    (State.planFinish_keeps (State.drawn_keeps h)))))))

theorem State.thermal_keeps {a : State} {s : State} {i : Nat} {v : Int} (h : Keeps a s) : Keeps a (State.thermal s i
    v) := by
  unfold State.thermal
  exact (Keeps.ite (Keeps.ite h (State.happen_keeps (State.err_keeps (Keeps.upd h)))) (Keeps.upd h))

theorem State.planMode_keeps {a : State} {s : State} (h : Keeps a s) : Keeps a (State.planMode s) := by
  unfold State.planMode
  exact (by split; exact (Keeps.ite h (Keeps.ite (State.setPlan_keeps h) (State.pmb_keeps h))); exact h)

theorem State.voutMiss_keeps {a : State} {s : State} {x : Plan} (h : Keeps a s) : Keeps a (State.voutMiss s x) := by
  unfold State.voutMiss
  exact (Keeps.ite (State.planLog_keeps (State.setFl_keeps (State.setPx_keeps (State.setVout_keeps
    (State.pmbViolate_keeps (State.pmb_keeps (State.pmb_keeps h))))))) (State.pmbViolate_keeps (State.pmb_keeps
    (State.pmb_keeps h))))

theorem State.voutRead_keeps {a : State} {s : State} {v : Nat} (h : Keeps a s) : Keeps a (State.voutRead s v) := by
  unfold State.voutRead
  exact (by split; exact (State.setVout_keeps h); exact (Keeps.ite (State.setPlan_keeps (State.setVout_keeps h)) (by split; exact h; exact (Keeps.ite (State.setPlan_keeps (State.setVout_keeps h)) (Keeps.ite (State.voutMiss_keeps h) (State.pmb_keeps h))))))

theorem State.pmbNack_keeps {a : State} {s : State} {cmd : Nat} (h : Keeps a s) : Keeps a (State.pmbNack s cmd) := by
  unfold State.pmbNack
  exact (by (try dsimp only); split; exact (State.pmbViolate_keeps h); exact (Keeps.ite (State.setPlan_keeps (State.pmbViolate_keeps h)) (Keeps.ite (State.setPlan_keeps (State.pmbViolate_keeps h)) (State.pmbViolate_keeps h))))

theorem State.pmbPec_keeps {a : State} {s : State} {cmd : Nat} (h : Keeps a s) : Keeps a (State.pmbPec s cmd) := by
  unfold State.pmbPec
  exact (Keeps.ite (State.planMode_keeps (State.pmbViolate_keeps h)) (by split; exact (Keeps.ite (State.pmbViolate_keeps h) (Keeps.ite (State.setPlan_keeps (State.pmbViolate_keeps h)) (Keeps.ite (State.pmb_keeps (State.pmbViolate_keeps h)) (State.pmbViolate_keeps h)))); exact (State.pmbViolate_keeps h)))

theorem State.lantOnRun_keeps {a : State} {s : State} (h : Keeps a s) : Keeps a (State.lantOnRun s) := by
  unfold State.lantOnRun
  exact (State.pmb_keeps (Keeps.upd h))

theorem State.lantOff_keeps {a : State} {s : State} (h : Keeps a s) : Keeps a (State.lantOff s) := by
  unfold State.lantOff
  exact (State.setFl_keeps (Keeps.upd (State.lantLeft_keeps h)))

theorem State.lantOnWrite_keeps {a : State} {s : State} {o : Nat} {v : Nat} (h : Keeps a s) : KeepsO a
    (State.lantOnWrite s o v) := by
  unfold State.lantOnWrite
  exact (KeepsO.ite (KeepsO.some (State.err_keeps h)) (KeepsO.ite (KeepsO.some (Keeps.ite (State.planStart_keeps h)
    h)) KeepsO.none))

theorem State.bootClock_keeps {a : State} {s : State} {answered : Bool} (h : Keeps a s) : Keeps a (State.bootClock s
    answered) := by
  unfold State.bootClock
  exact (by split; exact (State.setPx_keeps (State.setVout_keeps (State.pmb_keeps h))); exact (State.setPx_keeps h))

end Sys2Proof.Machine
end

