-- ==== Sys2Proof/Laws/KeepsSystem.lean ====
section
/-!
SUPPORT. What the named operations keep: Keep, debug, power, resets, DMA, the worker link, register access. One lemma per operation.
-/

set_option Elab.async false

namespace Sys2Proof.Machine

theorem State.setStage_keeps {a : State} {s : State} {v : Nat} (h : Keeps a s) : Keeps a (State.setStage s v) := by
  unfold State.setStage
  exact (State.setFl_keeps h)

theorem State.newNonce_keeps {a : State} {s : State} {p : Nat} {o : Nat} (h : Keeps a s) : Keeps a (State.newNonce s p
    o) := by
  unfold State.newNonce
  exact (Keeps.foldl h (fun _ _ h0 => (State.drawn_keeps (State.setRg_keeps h0))))

theorem State.bootNonces_keeps {a : State} {s : State} (h : Keeps a s) : Keeps a (State.bootNonces s) := by
  unfold State.bootNonces
  exact (State.newNonce_keeps (State.newNonce_keeps h))

theorem State.bootRom_keeps {a : State} {s : State} (h : Keeps a s) : Keeps a (State.bootRom s) := by
  unfold State.bootRom
  exact (Keeps.ite h (State.setStage_keeps (Keeps.upd (State.bootNonces_keeps h))))

theorem State.bootLoad_keeps {a : State} {s : State} (h : Keeps a s) : Keeps a (State.bootLoad s) := by
  unfold State.bootLoad
  exact (Keeps.ite (State.setFl_keeps (State.setStage_keeps h)) h)

theorem State.keepStart_keeps {a : State} {s : State} (h : Keeps a s) : Keeps a (State.keepStart s) := by
  unfold State.keepStart
  exact (State.bootLoad_keeps (State.bootRom_keeps h))

theorem State.keepLate_keeps {a : State} {s : State} (h : Keeps a s) : Keeps a (State.keepLate s) := by
  unfold State.keepLate
  exact (Keeps.ite h (State.keepStart_keeps h))

theorem State.subtree_keeps {a : State} {s : State} (h : Keeps a s) : Keeps a (State.subtree s) := by
  unfold State.subtree
  exact (Keeps.ite (Keeps.upd (State.drawn_keeps (State.drawn_keeps h))) h)

theorem State.recordBoot_keeps {a : State} {s : State} (h : Keeps a s) : Keeps a (State.recordBoot s) := by
  unfold State.recordBoot
  exact (Keeps.upd h)

theorem State.releaseCores_keeps {a : State} {s : State} {o : List Byte} {pmbus : Bool} (h : Keeps a s) : Keeps a
    (State.releaseCores s o pmbus) := by
  unfold State.releaseCores
  exact (State.recordBoot_keeps (Keeps.ite (State.setStage_keeps (Keeps.upd (State.setRg64_keeps (State.setFl_keeps
    (State.setRg_keeps (State.setRg_keeps (State.bootClock_keeps h))))))) (Keeps.ite (State.setStage_keeps (Keeps.upd
    (State.setRg64_keeps (State.setFl_keeps (State.setRg_keeps (State.setRg_keeps (State.bootClock_keeps h)))))))
    (State.subtree_keeps (State.setStage_keeps (Keeps.upd (State.setRg64_keeps (State.setFl_keeps (State.setRg_keeps
    (State.setRg_keeps (State.bootClock_keeps h)))))))))))

theorem State.bootFirmware_keeps {a : State} {s : State} {o : List Byte} (h : Keeps a s) : Keeps a (State.bootFirmware
    s o) := by
  unfold State.bootFirmware
  exact (State.setStage_keeps (Keeps.ite (Keeps.upd (State.setRg_keeps (State.setStage_keeps h))) (State.setPage_keeps
    (Keeps.upd (State.setRg_keeps (State.setStage_keeps h))))))

theorem State.bootAccept_keeps {a : State} {s : State} {o : List Byte} {pmbus : Bool} (h : Keeps a s) : Keeps a
    (State.bootAccept s o pmbus) := by
  unfold State.bootAccept
  exact (Keeps.ite (State.bootFirmware_keeps (Keeps.upd h)) (State.releaseCores_keeps (Keeps.upd h)))

theorem State.bootReject_keeps {a : State} {s : State} {src : Nat} {code : Nat} (h : Keeps a s) : Keeps a
    (State.bootReject s src code) := by
  unfold State.bootReject
  exact (Keeps.ite (State.setFl_keeps (State.setFl_keeps (Keeps.upd h))) (Keeps.ite (State.setFl_keeps
    (State.setFl_keeps (Keeps.upd h))) (State.err_keeps (State.recordBoot_keeps (State.setFl_keeps (State.setFl_keeps
    (Keeps.upd h)))))))

theorem State.sfdpRead_keeps {a : State} {s : State} (h : Keeps a s) : Keeps a (State.sfdpRead s) := by
  unfold State.sfdpRead
  exact (Keeps.upd h)

theorem State.bldStart_keeps {a : State} {s : State} (h : Keeps a s) : Keeps a (State.bldStart s) := by
  unfold State.bldStart
  exact (Keeps.ite (State.setFl_keeps (State.setFl_keeps (Keeps.upd h))) h)

theorem State.bldWord_keeps {a : State} {s : State} {v : Nat} (h : Keeps a s) : Keeps a (State.bldWord s v) := by
  unfold State.bldWord
  exact (Keeps.ite h (Keeps.ite (State.bootReject_keeps h) (Keeps.upd h)))

theorem State.bldEnd_keeps {a : State} {s : State} {n : Nat} (h : Keeps a s) : Keeps a (State.bldEnd s n) := by
  unfold State.bldEnd
  exact (Keeps.ite (State.setRg_keeps h) (Keeps.ite (State.bootReject_keeps (State.setRg_keeps h)) (Keeps.upd
    (State.setRg_keeps h))))

theorem State.keepOnWrite_keeps {a : State} {s : State} {o : Nat} {v : Nat} (h : Keeps a s) : KeepsO a
    (State.keepOnWrite s o v) := by
  unfold State.keepOnWrite
  exact (KeepsO.ite (KeepsO.some (Keeps.ite (State.bldStart_keeps (State.keepLate_keeps h)) h)) (KeepsO.ite
    (KeepsO.some (State.bldEnd_keeps h)) (KeepsO.ite (KeepsO.some (Keeps.upd h)) (KeepsO.ite (KeepsO.some
    (State.bldWord_keeps h)) KeepsO.none))))

theorem State.wdPause_keeps {a : State} {s : State} (h : Keeps a s) : Keeps a (State.wdPause s) := by
  unfold State.wdPause
  exact (by (try dsimp only); split; exact (Keeps.upd h); exact (Keeps.upd h); exact h)

theorem State.showFrozen_keeps {a : State} {s : State} {p : Nat} (h : Keeps a s) : Keeps a (State.showFrozen s p) := by
  unfold State.showFrozen
  exact (Keeps.ite (by split; exact (State.pscOnRun_keeps (State.setPage_keeps h)); exact (State.sdRestart_keeps (State.setPage_keeps h)); exact (State.setPage_keeps h)) (State.setPage_keeps h))

theorem State.freezeSet_keeps {a : State} {s : State} (h : Keeps a s) : Keeps a (State.freezeSet s) := by
  unfold State.freezeSet
  exact (Keeps.foldl h (fun _ _ h0 => (Keeps.ite (State.showFrozen_keeps (Keeps.upd h0)) (State.logOnly_keeps h0))))

theorem State.freezeRelease_keeps {a : State} {s : State} (h : Keeps a s) : Keeps a (State.freezeRelease s) := by
  unfold State.freezeRelease
  exact (Keeps.foldl h (fun _ _ h0 => (Keeps.ite (State.showFrozen_keeps (Keeps.upd h0)) (State.logOnly_keeps h0))))

theorem State.dbgReset_keeps {a : State} {s : State} (h : Keeps a s) : Keeps a (State.dbgReset s) := by
  unfold State.dbgReset
  exact (State.newNonce_keeps (State.wdPause_keeps (Keeps.foldl (Keeps.upd h) (fun _ _ h0 => (State.showFrozen_keeps
    h0)))))

theorem State.forgetCore_keeps {a : State} {s : State} {c : Nat} (h : Keeps a s) : Keeps a (State.forgetCore s c) := by
  unfold State.forgetCore
  exact (State.setRg64_keeps (State.drawn_keeps (Keeps.upd h)))

theorem State.haltCore_keeps {a : State} {s : State} {c : Nat} {cause : Nat} {chain : Option (Nat × Nat)} (h : Keeps a
    s) : Keeps a (State.haltCore s c cause chain) := by
  unfold State.haltCore
  exact (Keeps.ite h (Keeps.ite (State.freezeSet_keeps (State.wdPause_keeps (State.happenFrom_keeps (State.setRg_keeps
    (State.forgetCore_keeps h))))) (State.wdPause_keeps (State.happenFrom_keeps (State.setRg_keeps
    (State.forgetCore_keeps h))))))

theorem State.resumeCore_keeps {a : State} {s : State} {c : Nat} (h : Keeps a s) : Keeps a (State.resumeCore s c) := by
  unfold State.resumeCore
  exact (Keeps.ite h (Keeps.ite (State.haltCore_keeps (State.wdPause_keeps (State.setRg_keeps h)))
    (State.wdPause_keeps (State.setRg_keeps h))))

theorem State.haltReq_keeps {a : State} {s : State} {c : Nat} (h : Keeps a s) : Keeps a (State.haltReq s c) := by
  unfold State.haltReq
  exact (Keeps.ite (State.haltCore_keeps h) (State.err_keeps h))

theorem State.regselGo_keeps {a : State} {s : State} {c : Nat} {v : Nat} (h : Keeps a s) : Keeps a (State.regselGo s c
    v) := by
  unfold State.regselGo
  exact (Keeps.ite (State.setRg_keeps h) (Keeps.ite (State.setFl_keeps (State.setRg_keeps h)) (Keeps.ite (Keeps.ite
    (Keeps.upd (State.setRg_keeps h)) (State.setRg_keeps h)) (Keeps.ite (State.setRg64_keeps (State.setRg_keeps h))
    (Keeps.ite (State.setRg64_keeps (State.drawn_keeps (State.setRg_keeps h))) (Keeps.upd (State.setRg64_keeps
    (State.drawn_keeps (State.setRg_keeps h)))))))))

theorem State.coreMatch_keeps {a : State} {s : State} {c : Nat} {act : Nat} {cause : Nat} {index : Nat} (h : Keeps a
    s) : Keeps a (State.coreMatch s c act cause index) := by
  unfold State.coreMatch
  exact (by split; exact (State.haltCore_keeps h); exact (State.happen_keeps h); exact (Keeps.ite (State.haltCore_keeps h) (State.freezeSet_keeps (State.haltCore_keeps h))); exact h)

theorem State.levelDrop_keeps {a : State} {s : State} {core : Nat → Bool} {page : Page → Bool} (h : Keeps a s) : Keeps
    a (State.levelDrop s core page) := by
  unfold State.levelDrop
  exact (Keeps.foldl (Keeps.upd (Keeps.foldl h (fun _ _ h0 => (Keeps.foldl (Keeps.foldl (State.wdPause_keeps
    (State.setRg_keeps h0)) (fun _ _ h1 => (State.setFl_keeps h1))) (fun _ _ h1 => (State.setFl_keeps h1)))))) (fun _
    _ h0 => (State.showFrozen_keeps (State.setPage_keeps h0))))

theorem State.setLevel_keeps {a : State} {s : State} {v : Nat} (h : Keeps a s) : Keeps a (State.setLevel s v) := by
  unfold State.setLevel
  exact (Keeps.ite h (Keeps.ite (State.levelDrop_keeps (State.happen_keeps (State.logOnly_keeps (State.setFl_keeps
    h)))) (Keeps.ite (State.levelDrop_keeps (State.happen_keeps (State.logOnly_keeps (State.setFl_keeps h))))
    (State.happen_keeps (State.logOnly_keeps (State.setFl_keeps h))))))

theorem State.tkStart_keeps {a : State} {s : State} (h : Keeps a s) : Keeps a (State.tkStart s) := by
  unfold State.tkStart
  exact (Keeps.ite (State.errBit_keeps h) (Keeps.upd h))

theorem State.tkWord_keeps {a : State} {s : State} {v : Nat} (h : Keeps a s) : Keeps a (State.tkWord s v) := by
  unfold State.tkWord
  exact (Keeps.ite (State.errBit_keeps h) (Keeps.ite h (Keeps.ite (Keeps.upd h) (Keeps.upd h))))

theorem State.tkEnd_keeps {a : State} {s : State} {n : Nat} (h : Keeps a s) : Keeps a (State.tkEnd s n) := by
  unfold State.tkEnd
  exact (Keeps.ite (State.errBit_keeps h) (Keeps.ite (State.setRg_keeps h) (State.setFl_keeps (Keeps.upd
    (State.setRg_keeps h)))))

theorem State.tapIr_keeps {a : State} {s : State} {ir : Nat} (h : Keeps a s) : Keeps a (State.tapIr s ir) := by
  unfold State.tapIr
  exact (Keeps.upd h)

theorem State.tapBypass_keeps {a : State} {s : State} (h : Keeps a s) : Keeps a (State.tapBypass s) := by
  unfold State.tapBypass
  exact (Keeps.upd (State.tapIr_keeps h))

theorem State.tapBoundary_keeps {a : State} {s : State} {ir : Nat} {f : State → State} (h : Keeps a s) (hf : ∀ t,
    Keeps a t → Keeps a (f t)) : Keeps a (State.tapBoundary s ir f) := by
  unfold State.tapBoundary
  exact (Keeps.ite h (Keeps.ite (hf _ (State.tapIr_keeps h)) (State.tapBypass_keeps h)))

theorem State.tapPins_keeps {a : State} {s : State} {kind : Nat} {l : List Bool} (h : Keeps a s) : Keeps a
    (State.tapPins s kind l) := by
  unfold State.tapPins
  exact (State.emit_keeps h)

theorem State.dbgcOnWrite_keeps {a : State} {s : State} {o : Nat} {v : Nat} (h : Keeps a s) : KeepsO a
    (State.dbgcOnWrite s o v) := by
  unfold State.dbgcOnWrite
  exact (KeepsO.ite (KeepsO.some (State.setLevel_keeps h)) (KeepsO.ite (KeepsO.some (Keeps.ite (State.tkStart_keeps h) h)) (KeepsO.ite (KeepsO.some (State.tkEnd_keeps h)) (KeepsO.ite (KeepsO.some (Keeps.ite (State.errBit_keeps h) (Keeps.upd h))) (KeepsO.ite (KeepsO.some (State.tkWord_keeps h)) (KeepsO.ite (KeepsO.some (Keeps.ite (State.freezeRelease_keeps (Keeps.ite (State.freezeSet_keeps h) h)) (Keeps.ite (State.freezeSet_keeps h) h))) (by split; exact (KeepsO.ite (KeepsO.some (Keeps.ite (State.resumeCore_keeps (Keeps.ite (State.haltReq_keeps (State.writeWord_keeps h)) (State.writeWord_keeps h))) (Keeps.ite (State.haltReq_keeps (State.writeWord_keeps h)) (State.writeWord_keeps h)))) (KeepsO.ite (KeepsO.some (Keeps.ite (State.regselGo_keeps h) (State.setRg_keeps h))) (KeepsO.ite (KeepsO.some h) KeepsO.none))); exact KeepsO.none)))))))

theorem State.resetCause_keeps {a : State} {s : State} {b : Nat} (h : Keeps a s) : Keeps a (State.resetCause s b) := by
  unfold State.resetCause
  exact (State.setRg_keeps h)

theorem State.rstout_keeps {a : State} {s : State} {lvl : Nat} (h : Keeps a s) : Keeps a (State.rstout s lvl) := by
  unfold State.rstout
  exact (State.emit_keeps h)

/-- `bare` lists no header and only DBGC.LEVEL. -/
theorem State.bare_tblWf {s : State} : s.bare.tblWf := ⟨rfl, rfl⟩

theorem State.bare_keeps {a s : State} (h : Keeps a s) : Keeps a (State.bare s) :=
  ⟨h.variant, h.pending, fun i => ⟨(h.inv i).1, State.bare_tblWf⟩⟩

theorem State.sleptBare_keeps {a s : State} (h : Keeps a s) : Keeps a (State.sleptBare s) :=
  ⟨h.variant, h.pending, fun i => ⟨(h.inv i).1, Tbl.wf_filter (h.inv i).2.1, Tbl.wf_filter (h.inv i).2.2⟩⟩

theorem State.slept_keeps {a : State} {s : State} (h : Keeps a s) : Keeps a (State.slept s) := by
  unfold State.slept
  exact (Keeps.foldl (State.sleptBare_keeps h) (fun _ _ h0 => (Keeps.ite (State.pinsRest_keeps h0) h0)))

theorem State.defaultLevel_keeps {a : State} {s : State} (h : Keeps a s) : Keeps a (State.defaultLevel s) := by
  unfold State.defaultLevel
  exact (State.setRg_keeps h)

theorem State.loseDram_keeps {a s : State} (h : Keeps a s) : Keeps a (State.loseDram s) :=
  ⟨h.variant, h.pending, fun i => ⟨⟨rfl, (h.inv i).1.2⟩, (h.inv i).2⟩⟩

theorem State.powerOn_keeps {a : State} {s : State} {bootsel : Nat} (h : Keeps a s) : Keeps a (State.powerOn s
    bootsel) := by
  unfold State.powerOn
  exact (State.rstout_keeps (State.pinsAllRest_keeps (State.setFl_keeps (State.defaultLevel_keeps
    (State.loseDram_keeps (Keeps.upd (State.bare_keeps h)))))))

/-- Words kept over a reset enter the register table. -/
theorem Tbl.wf_foldl_put {α : Type} {l : List (Nat × α)} : ∀ {t : Tbl α}, Tbl.wf t = true →
    Tbl.wf (l.foldl (fun r (e : Nat × α) => Tbl.put r e.1 e.2) t) = true := by
  induction l with
  | nil => intro t h; exact h
  | cons e r ih => intro t h; exact ih (Tbl.wf_put h)

theorem State.warm_keeps {a s : State} {orderly clk : Bool} (h : Keeps a s) : Keeps a (State.warm s orderly clk) := by
  unfold State.warm
  have k : Keeps a (if s.inLow 3 = true then s.slept else s) := Keeps.ite (State.slept_keeps h) h
  refine State.rstout_keeps (State.pinsAllRest_keeps (State.setFl_keeps (State.setFl_keeps (State.defaultLevel_keeps
    (Keeps.ite ?_ (State.loseDram_keeps ?_)))))) <;>
    exact ⟨k.variant, k.pending, fun i => ⟨(k.inv i).1, Tbl.wf_foldl_put rfl, Tbl.wf_filter (k.inv i).2.2⟩⟩

theorem State.resetBy_keeps {a : State} {s : State} {cause : Nat} {strength : Nat} {f : State → State} (h : Keeps a s)
    (hf : ∀ t, Keeps a t → Keeps a (f t)) : Keeps a (State.resetBy s cause strength f) := by
  unfold State.resetBy
  exact (Keeps.ite h (Keeps.ite (State.resetCause_keeps h) (State.sat_keeps (State.resetCause_keeps (hf _ h)))))

theorem State.coreReset_keeps {a : State} {s : State} (h : Keeps a s) : Keeps a (State.coreReset s) := by
  unfold State.coreReset
  exact (Keeps.ite (State.err_keeps h) (State.sat_keeps (State.resetCause_keeps (State.setFl_keeps (State.setRg_keeps
    (State.setStage_keeps (State.setFl_keeps (Keeps.foldl h (fun _ _ h0 => (State.wdPause_keeps (State.setRg_keeps
    h0)))))))))))

theorem State.rstcCmd_keeps {a : State} {s : State} {v : Nat} (h : Keeps a s) : Keeps a (State.rstcCmd s v) := by
  unfold State.rstcCmd
  exact (Keeps.ite (State.err_keeps h) (Keeps.ite (Keeps.ite (State.resetCause_keeps (State.resetBy_keeps h (fun _ h0
    => (State.warm_keeps h0)))) (State.resetBy_keeps h (fun _ h0 => (State.warm_keeps h0)))) (Keeps.ite
    (State.coreReset_keeps h) h)))

theorem State.pcieReset_keeps {a s : State} (h : Keeps a s) : Keeps a (State.pcieReset s) := by
  unfold State.pcieReset
  refine State.sat_keeps (State.resetCause_keeps ?_)
  have k := State.clearRegs_keeps (p := pgPCIE) (k := fun _ => false)
    (State.flrQueues_keeps (fn := 1) (State.flrQueues_keeps (fn := 0) h))
  exact ⟨k.variant, k.pending, fun i => ⟨(k.inv i).1, (k.inv i).2.1, Tbl.wf_del (k.inv i).2.2⟩⟩

theorem State.wdKick_keeps {a : State} {s : State} {v : Nat} (h : Keeps a s) : Keeps a (State.wdKick s v) := by
  unfold State.wdKick
  exact (Keeps.ite (Keeps.upd h) (State.logOnly_keeps h))

theorem State.outctl_keeps {a : State} {s : State} {v : Nat} (h : Keeps a s) : Keeps a (State.outctl s v) := by
  unfold State.outctl
  exact (Keeps.ite (State.setRg_keeps h) (State.rstout_keeps (State.setRg_keeps h)))

theorem State.powerReq_keeps {a : State} {s : State} {target : Nat} (h : Keeps a s) : Keeps a (State.powerReq s
    target) := by
  unfold State.powerReq
  exact (Keeps.ite h (Keeps.ite (Keeps.ite (State.wakeBy_keeps h) h) (Keeps.ite h (by split; exact (State.happen_keeps (State.err_keeps (by split; exact (State.setFl_keeps (State.setFl_keeps (State.sat_keeps h))); exact (State.setFl_keeps (State.sat_keeps h))))); exact (State.showPwr_keeps (Keeps.upd (Keeps.ite (Keeps.upd h) h)))))))

theorem State.selfRefresh_keeps {a : State} {s : State} {on : Bool} (h : Keeps a s) : Keeps a (State.selfRefresh s on)
    := by
  unfold State.selfRefresh
  exact (Keeps.foldl h (fun _ _ h0 => (Keeps.ite (State.setFl_keeps (State.dmcAllBank_keeps h0)) h0)))

theorem State.pinsOff_keeps {a : State} {s : State} (h : Keeps a s) : Keeps a (State.pinsOff s) := by
  unfold State.pinsOff
  exact (State.emit_keeps (State.rstout_keeps (Keeps.foldl (State.pinsAllRest_keeps h) (fun _ _ h0 =>
    (State.emit_keeps h0)))))

theorem State.reclocked_keeps {a : State} {s : State} (h : Keeps a s) : Keeps a (State.reclocked s) := by
  unfold State.reclocked
  exact (Keeps.foldl (State.setFl_keeps h) (fun _ _ h0 => (State.latchHand_keeps h0)))

theorem State.pwrcOnWrite_keeps {a : State} {s : State} {o : Nat} {v : Nat} (h : Keeps a s) : KeepsO a
    (State.pwrcOnWrite s o v) := by
  unfold State.pwrcOnWrite
  exact (KeepsO.ite (KeepsO.some (State.powerReq_keeps h)) KeepsO.none)

theorem State.rstcOnWrite_keeps {a : State} {s : State} {o : Nat} {v : Nat} (h : Keeps a s) : KeepsO a
    (State.rstcOnWrite s o v) := by
  unfold State.rstcOnWrite
  exact (KeepsO.ite (KeepsO.some (State.setRg_keeps h)) (KeepsO.ite (KeepsO.some (State.rstcCmd_keeps h)) (KeepsO.ite
    (KeepsO.some (State.wdPause_keeps (Keeps.ite (Keeps.upd (State.setRg_keeps h)) (State.setRg_keeps h))))
    (KeepsO.ite (KeepsO.some (State.wdKick_keeps h)) (KeepsO.ite (KeepsO.some (State.outctl_keeps h)) KeepsO.none)))))

theorem State.dmaStart_keeps {a : State} {s : State} {c : Nat} {req : Nat} {chain : Option (Nat × Nat)} (h : Keeps a
    s) : Keeps a (State.dmaStart s c req chain) := by
  unfold State.dmaStart
  exact (Keeps.ite h (State.setRg64_keeps (State.setDmaState_keeps (State.setDma_keeps h))))

theorem State.dmaResume_keeps {a : State} {s : State} {c : Nat} {req : Nat} (h : Keeps a s) : Keeps a (State.dmaResume
    s c req) := by
  unfold State.dmaResume
  exact (Keeps.ite h (State.setDmaState_keeps (State.setDma_keeps h)))

theorem State.dmaStop_keeps {a : State} {s : State} {c : Nat} (h : Keeps a s) : Keeps a (State.dmaStop s c) := by
  unfold State.dmaStop
  exact (Keeps.ite h (by split; exact (State.dmaEnd_keeps h); exact (State.setDmaState_keeps h); exact h))

theorem State.dmaAbort_keeps {a : State} {s : State} {c : Nat} {code : Nat} (h : Keeps a s) : Keeps a (State.dmaAbort
    s c code) := by
  unfold State.dmaAbort
  exact (Keeps.ite (State.dmaEnd_keeps h) (Keeps.ite h (State.setRg_keeps h)))

theorem State.dmaOff_keeps {a : State} {s : State} (h : Keeps a s) : Keeps a (State.dmaOff s) := by
  unfold State.dmaOff
  exact (Keeps.foldl h (fun _ _ h0 => (State.dmaAbort_keeps h0)))

theorem State.dmaOnRun_keeps {a : State} {s : State} (h : Keeps a s) : Keeps a (State.dmaOnRun s) := by
  unfold State.dmaOnRun
  exact (Keeps.ite (State.toFault_keeps (State.err_keeps h)) h)

theorem State.dmaOnWrite_keeps {a : State} {s : State} {o : Nat} {v : Nat} {req : Nat} (h : Keeps a s) : KeepsO a
    (State.dmaOnWrite s o v req) := by
  unfold State.dmaOnWrite
  exact (KeepsO.ite KeepsO.none (KeepsO.ite (KeepsO.some (Keeps.ite (State.setRg_keeps h) h)) (KeepsO.ite (KeepsO.some
    (Keeps.ite (State.setRg_keeps h) h)) (KeepsO.ite (KeepsO.some (Keeps.ite (State.dmaStop_keeps (Keeps.ite
    (State.dmaStart_keeps (State.writeWord_keeps h)) (Keeps.ite (State.dmaResume_keeps (State.writeWord_keeps h))
    (State.writeWord_keeps h)))) (Keeps.ite (State.dmaStart_keeps (State.writeWord_keeps h)) (Keeps.ite
    (State.dmaResume_keeps (State.writeWord_keeps h)) (State.writeWord_keeps h))))) KeepsO.none))))

theorem State.setPortLock_keeps {a : State} {s : State} {b : Bool} {v : Nat} (h : Keeps a s) : Keeps a
    (State.setPortLock s b v) := by
  unfold State.setPortLock
  exact (Keeps.ite (State.setFl_keeps h) (State.setFl_keeps h))

theorem State.portStop_keeps {a : State} {s : State} {b : Bool} {v : Nat} (h : Keeps a s) : Keeps a (State.portStop s
    b v) := by
  unfold State.portStop
  exact (Keeps.ite (State.happen_keeps (State.setTport_keeps (State.setPortLock_keeps (State.setPortState_keeps h))))
    (State.setTport_keeps (State.setPortLock_keeps (State.setPortState_keeps h))))

theorem State.laneLost_keeps {a : State} {s : State} {b : Bool} {lane : Nat} (h : Keeps a s) : Keeps a (State.laneLost
    s b lane) := by
  unfold State.laneLost
  exact (State.setPortLock_keeps (State.portStop_keeps h))

theorem State.tlkViolate_keeps {a : State} {s : State} {b : Bool} {code : Nat} (h : Keeps a s) : Keeps a
    (State.tlkViolate s b code) := by
  unfold State.tlkViolate
  exact (Keeps.ite (State.portStop_keeps (State.quarantine_keeps (Keeps.upd (State.setTport_keeps h))))
    (State.setTport_keeps h))

theorem State.tlkMalf_keeps {a : State} {s : State} {b : Bool} (h : Keeps a s) : Keeps a (State.tlkMalf s b) := by
  unfold State.tlkMalf
  exact (State.tlkViolate_keeps (State.sat_keeps (State.err_keeps h)))

theorem State.portSet_keeps {a : State} {s : State} {b : Bool} (h : Keeps a s) : Keeps a (State.portSet s b) := by
  unfold State.portSet
  exact (Keeps.ite h (Keeps.ite (Keeps.ite (State.portStop_keeps h) h) (Keeps.ite h (State.portStop_keeps h))))

theorem State.tlkEnable_keeps {a : State} {s : State} (h : Keeps a s) : Keeps a (State.tlkEnable s) := by
  unfold State.tlkEnable
  exact (State.portSet_keeps (State.portSet_keeps h))

theorem State.tlkOff_keeps {a : State} {s : State} (h : Keeps a s) : Keeps a (State.tlkOff s) := by
  unfold State.tlkOff
  exact (Keeps.upd (State.portStop_keeps (State.portStop_keeps h)))

theorem State.pingPut_keeps {a : State} {s : State} {b : Bool} {words : List Nat} (h : Keeps a s) : Keeps a
    (State.pingPut s b words) := by
  unfold State.pingPut
  exact (State.tlkOwn_keeps h)

theorem State.pingSend_keeps {a : State} {s : State} {b : Bool} (h : Keeps a s) : Keeps a (State.pingSend s b) := by
  unfold State.pingSend
  exact (State.pingPut_keeps (State.setTport_keeps (State.drawn_keeps h)))

theorem State.portTrained_keeps {a : State} {s : State} {b : Bool} (h : Keeps a s) : Keeps a (State.portTrained s b) := by
  unfold State.portTrained
  exact (Keeps.foldl (State.happen_keeps (State.setRg_keeps (State.setPortState_keeps (State.drawn_keeps h)))) (fun _
    _ h0 => (State.noteUp_keeps h0)))

theorem State.tlkNote_keeps {a : State} {s : State} {b : Bool} {type : Nat} {src : Nat} {ident : Nat} (h : Keeps a s)
    : Keeps a (State.tlkNote s b type src ident) := by
  unfold State.tlkNote
  exact (Keeps.upd h)

theorem State.tlkForward_keeps {a : State} {s : State} {b : Bool} {type : Nat} {src : Nat} {dst : Nat} {shadow : Nat}
    {hops : Nat} {pfault : Nat} {arg : Nat} {words : List Nat} (h : Keeps a s) : Keeps a (State.tlkForward s b type
    src dst shadow hops pfault arg words) := by
  unfold State.tlkForward
  exact (Keeps.ite (State.tlkFrame_keeps h) h)

theorem State.tlkRepeat_keeps {a : State} {s : State} {b : Bool} {type : Nat} {src : Nat} {shadow : Nat} {hops : Nat}
    {pfault : Nat} {arg : Nat} {words : List Nat} (h : Keeps a s) : Keeps a (State.tlkRepeat s b type src shadow hops
    pfault arg words) := by
  unfold State.tlkRepeat
  exact (Keeps.ite (State.tlkForward_keeps h) h)

theorem State.tlkTake_keeps {a : State} {s : State} {b : Bool} {type : Nat} {src : Nat} {dst : Nat} {b3 : Nat} {arg :
    Nat} {words : List Nat} {f : State → State} (h : Keeps a s) (hf : ∀ t, Keeps a t → Keeps a (f t)) : Keeps a
    (State.tlkTake s b type src dst b3 arg words f) := by
  unfold State.tlkTake
  exact (Keeps.ite h (Keeps.ite (State.tlkMalf_keeps h) (Keeps.ite (hf _ h) (by split; exact (State.tlkForward_keeps h); exact h))))

theorem State.setMgr_keeps {a : State} {s : State} {m : Nat} {e : Nat} (h : Keeps a s) : Keeps a (State.setMgr s m e)
    := by
  unfold State.setMgr
  exact (State.setFl_keeps (State.setFl_keeps (State.setFl_keeps h)))

theorem State.setRed_keeps {a : State} {s : State} {v : Nat} (h : Keeps a s) : Keeps a (State.setRed s v) := by
  unfold State.setRed
  exact (State.setFl_keeps (State.setFl_keeps h))

theorem State.redAlign_keeps {a : State} {s : State} (h : Keeps a s) : Keeps a (State.redAlign s) := by
  unfold State.redAlign
  exact (Keeps.upd h)

theorem State.redOnRun_keeps {a : State} {s : State} (h : Keeps a s) : Keeps a (State.redOnRun s) := by
  unfold State.redOnRun
  exact (by (try dsimp only); split; exact (State.setMgr_keeps (State.setRed_keeps (Keeps.upd h))); exact (State.redAlign_keeps (State.setRed_keeps (Keeps.upd h))); exact (State.setRed_keeps (Keeps.upd h)))

theorem State.pinsShow_keeps {a : State} {s : State} {p : Nat} (h : Keeps a s) : Keeps a (State.pinsShow s p) := by
  unfold State.pinsShow
  exact (by (try dsimp only); split; exact (State.emuShowAll_keeps h); exact (Keeps.foldl h (fun _ _ h0 => (Keeps.ite (State.pin_keeps h0) h0))); exact (State.pin_keeps (State.pin_keeps (State.pin_keeps h))); exact (State.pin_keeps h); exact (Keeps.foldl h (fun _ _ h0 => (State.pin_keeps h0))); exact h)

theorem State.outputsShow_keeps {a : State} {s : State} (h : Keeps a s) : Keeps a (State.outputsShow s) := by
  unfold State.outputsShow
  exact (Keeps.foldl h (fun _ _ h0 => (State.pinsShow_keeps h0)))

theorem State.outputsHold_keeps {a : State} {s : State} (h : Keeps a s) : Keeps a (State.outputsHold s) := by
  unfold State.outputsHold
  exact (Keeps.foldl h (fun _ _ h0 => (Keeps.ite (State.pinsRest_keeps h0) h0)))

theorem State.outputsFollow_keeps {a : State} {s : State} {old : State} (h : Keeps a s) : Keeps a (State.outputsFollow
    s old) := by
  unfold State.outputsFollow
  exact (Keeps.ite (State.outputsHold_keeps h) (Keeps.ite (State.outputsShow_keeps h) h))

theorem State.redLeft_keeps {a : State} {s : State} (h : Keeps a s) : Keeps a (State.redLeft s) := by
  unfold State.redLeft
  exact (State.outputsFollow_keeps (Keeps.upd (State.setFl_keeps (State.setRed_keeps h))))

theorem State.alignDom_keeps {a : State} {s : State} {d : Nat} (h : Keeps a s) : Keeps a (State.alignDom s d) := by
  unfold State.alignDom
  exact (Keeps.upd h)

theorem State.takeOver_keeps {a : State} {s : State} {cause : Nat} (h : Keeps a s) : Keeps a (State.takeOver s cause)
    := by
  unfold State.takeOver
  exact (State.happen_keeps (State.logOnly_keeps (State.sat_keeps (State.setRg64_keeps (State.setMgr_keeps
    (State.setFl_keeps (State.setRed_keeps h)))))))

theorem State.diverge_keeps {a : State} {s : State} (h : Keeps a s) : Keeps a (State.diverge s) := by
  unfold State.diverge
  exact (Keeps.ite (State.happen_keeps (State.err_keeps (State.sat_keeps (State.setRed_keeps h)))) h)

theorem State.tbDir_keeps {a : State} {s : State} {d : Nat} {rev : Bool} (h : Keeps a s) : Keeps a (State.tbDir s d
    rev) := by
  unfold State.tbDir
  exact (Keeps.ite h (Keeps.ite (State.happen_keeps (State.sat_keeps (State.setFl_keeps h))) (State.happen_keeps
    (State.setFl_keeps h))))

theorem State.tbApply_keeps {a : State} {s : State} {d : Nat} {dly : Nat} {f : TbDom} (h : Keeps a s) : Keeps a
    (State.tbApply s d dly f) := by
  unfold State.tbApply
  exact (Keeps.ite h (Keeps.ite (State.showSpeed_keeps (State.setObs_keeps (Keeps.upd (by split; exact (Keeps.ite h (State.gearLost_keeps (State.setEpoch_keeps h))); exact h)))) (State.tbDir_keeps (State.setRgI_keeps (State.setRgI_keeps (State.showSpeed_keeps (State.setObs_keeps (Keeps.upd (by split; exact (Keeps.ite h (State.gearLost_keeps (State.setEpoch_keeps h))); exact h)))))))))

theorem State.tbAlign_keeps {a : State} {s : State} {d : Nat} {dly : Nat} {f : TbDom} (h : Keeps a s) : Keeps a
    (State.tbAlign s d dly f) := by
  unfold State.tbAlign
  exact (Keeps.ite h (Keeps.ite (Keeps.upd h) (State.gearLost_keeps (Keeps.ite (State.setFl_keeps (State.setRgI_keeps
    (State.setRgI_keeps (Keeps.ite (State.renewPair_keeps (Keeps.ite (State.rebase_keeps (Keeps.ite
    (State.rebase_keeps (State.setObs_keeps (Keeps.upd h))) (State.setObs_keeps (Keeps.upd h)))) (Keeps.ite
    (State.rebase_keeps (State.setObs_keeps (Keeps.upd h))) (State.setObs_keeps (Keeps.upd h))))) (Keeps.ite
    (State.rebase_keeps (Keeps.ite (State.rebase_keeps (State.setObs_keeps (Keeps.upd h))) (State.setObs_keeps
    (Keeps.upd h)))) (Keeps.ite (State.rebase_keeps (State.setObs_keeps (Keeps.upd h))) (State.setObs_keeps (Keeps.upd
    h)))))))) (State.setEpoch_keeps (State.setFl_keeps (State.setRgI_keeps (State.setRgI_keeps (Keeps.ite
    (State.renewPair_keeps (Keeps.ite (State.rebase_keeps (Keeps.ite (State.rebase_keeps (State.setObs_keeps
    (Keeps.upd h))) (State.setObs_keeps (Keeps.upd h)))) (Keeps.ite (State.rebase_keeps (State.setObs_keeps (Keeps.upd
    h))) (State.setObs_keeps (Keeps.upd h))))) (Keeps.ite (State.rebase_keeps (Keeps.ite (State.rebase_keeps
    (State.setObs_keeps (Keeps.upd h))) (State.setObs_keeps (Keeps.upd h)))) (Keeps.ite (State.rebase_keeps
    (State.setObs_keeps (Keeps.upd h))) (State.setObs_keeps (Keeps.upd h)))))))))))))

theorem State.tbCompare_keeps {a : State} {s : State} {d : Nat} {dly : Nat} {f : TbDom} (h : Keeps a s) : Keeps a
    (State.tbCompare s d dly f) := by
  unfold State.tbCompare
  exact (Keeps.ite h (Keeps.ite (State.diverge_keeps (Keeps.upd (State.setRgI_keeps h))) (Keeps.upd
    (State.setRgI_keeps h))))

theorem State.tbStandby_keeps {a : State} {s : State} {dly : Nat} {words : List Nat} {pfault : Bool} (h : Keeps a s) :
    Keeps a (State.tbStandby s dly words pfault) := by
  unfold State.tbStandby
  exact (Keeps.ite h (Keeps.ite (State.takeOver_keeps (Keeps.ite (State.happen_keeps (Keeps.upd (Keeps.ite
    (State.setRed_keeps (Keeps.foldl h (fun _ _ h0 => (Keeps.ite (State.tbAlign_keeps h0) (State.tbCompare_keeps
    h0))))) (Keeps.foldl h (fun _ _ h0 => (Keeps.ite (State.tbAlign_keeps h0) (State.tbCompare_keeps h0)))))))
    (Keeps.upd (Keeps.ite (State.setRed_keeps (Keeps.foldl h (fun _ _ h0 => (Keeps.ite (State.tbAlign_keeps h0)
    (State.tbCompare_keeps h0))))) (Keeps.foldl h (fun _ _ h0 => (Keeps.ite (State.tbAlign_keeps h0)
    (State.tbCompare_keeps h0)))))))) (Keeps.ite (State.happen_keeps (Keeps.upd (Keeps.ite (State.setRed_keeps
    (Keeps.foldl h (fun _ _ h0 => (Keeps.ite (State.tbAlign_keeps h0) (State.tbCompare_keeps h0))))) (Keeps.foldl h
    (fun _ _ h0 => (Keeps.ite (State.tbAlign_keeps h0) (State.tbCompare_keeps h0))))))) (Keeps.upd (Keeps.ite
    (State.setRed_keeps (Keeps.foldl h (fun _ _ h0 => (Keeps.ite (State.tbAlign_keeps h0) (State.tbCompare_keeps
    h0))))) (Keeps.foldl h (fun _ _ h0 => (Keeps.ite (State.tbAlign_keeps h0) (State.tbCompare_keeps h0)))))))))

theorem State.fwdResend_keeps {a : State} {s : State} {l : List FwdFrame} (h : Keeps a s) : Keeps a (State.fwdResend s
    l) := by
  unfold State.fwdResend
  exact (Keeps.upd (State.sat_keeps (Keeps.foldl h (fun _ _ h0 => (State.tlkSend_keeps h0)))))

theorem State.fwdRestart_keeps {a : State} {s : State} (h : Keeps a s) : Keeps a (State.fwdRestart s) := by
  unfold State.fwdRestart
  exact (by split; exact h; exact (State.showFwd_keeps (State.fwdResend_keeps (Keeps.upd h))))

theorem State.tbAccept_keeps {a : State} {s : State} {src : Nat} {dly : Nat} {mep : Nat} {ncyc : Nat} {pfault : Bool}
    {words : List Nat} (h : Keeps a s) : Keeps a (State.tbAccept s src dly mep ncyc pfault words) := by
  unfold State.tbAccept
  exact (Keeps.upd (State.tbStandby_keeps (Keeps.foldl (Keeps.ite (State.outputsFollow_keeps (Keeps.upd
    (State.happen_keeps (State.logOnly_keeps (State.setRed_keeps (Keeps.upd (State.setFl_keeps (State.setRg_keeps
    (Keeps.ite (State.fwdRestart_keeps (State.happen_keeps (State.setMgr_keeps h))) h))))))))) (Keeps.upd
    (State.setFl_keeps (State.setRg_keeps (Keeps.ite (State.fwdRestart_keeps (State.happen_keeps (State.setMgr_keeps
    h))) h))))) (fun _ _ h0 => (State.tbApply_keeps h0)))))

theorem State.redTakeover_keeps {a : State} {s : State} (h : Keeps a s) : Keeps a (State.redTakeover s) := by
  unfold State.redTakeover
  exact (Keeps.ite (State.takeOver_keeps h) h)

theorem State.redDeclfail_keeps {a : State} {s : State} (h : Keeps a s) : Keeps a (State.redDeclfail s) := by
  unfold State.redDeclfail
  exact (Keeps.ite (State.happen_keeps (State.setFl_keeps h)) h)

theorem State.redRealign_keeps {a : State} {s : State} (h : Keeps a s) : Keeps a (State.redRealign s) := by
  unfold State.redRealign
  exact (Keeps.ite (Keeps.upd (State.redAlign_keeps h)) h)

theorem State.enterRemote_keeps {a : State} {s : State} {ch : Nat} {arg : Nat} {depth : Nat} (h : Keeps a s) : Keeps a
    (State.enterRemote s ch arg depth) := by
  unfold State.enterRemote
  exact (Keeps.ite h (Keeps.ite (State.sat_keeps (State.err_keeps h)) (Keeps.ite (State.loopDrop_keeps h)
    (State.merge_keeps h))))

theorem State.ringTunEnd_keeps {a : State} {s : State} {code : Nat} (h : Keeps a s) : Keeps a (State.ringTunEnd s
    code) := by
  unfold State.ringTunEnd
  exact (State.setIst_keeps (State.setRg_keeps (Keeps.upd h)))

theorem State.ringTun_keeps {a : State} {s : State} {wr : Bool} {wide : Bool} (h : Keeps a s) : Keeps a (State.ringTun
    s wr wide) := by
  unfold State.ringTun
  exact (Keeps.ite (State.errBit_keeps h) (by (try dsimp only); split; exact (State.ringTunEnd_keeps (State.setRg_keeps h)); exact (State.tlkPut_keeps (Keeps.upd (State.setRg_keeps h)))))

theorem State.setFwdRx_keeps {a : State} {s : State} {src : Nat} {x : FwdRx} (h : Keeps a s) : Keeps a (State.setFwdRx
    s src x) := by
  unfold State.setFwdRx
  exact (Keeps.upd h)

theorem State.fackSend_keeps {a : State} {s : State} {src : Nat} {nak : Bool} (h : Keeps a s) : Keeps a
    (State.fackSend s src nak) := by
  unfold State.fackSend
  exact (State.tlkSend_keeps (State.setFwdRx_keeps h))

theorem State.fwdAccept_keeps {a : State} {s : State} {src : Nat} {w : Nat} {recs : List Nat} {x : FwdRx} (h : Keeps a
    s) : Keeps a (State.fwdAccept s src w recs x) := by
  unfold State.fwdAccept
  exact (Keeps.ite h (Keeps.ite (Keeps.ite1 (State.post_keeps h) h) (Keeps.ite (State.fackSend_keeps
    (State.setFwdRx_keeps (Keeps.ite1 (State.post_keeps h) h))) (State.setFwdRx_keeps (Keeps.ite1 (State.post_keeps h)
    h)))))

theorem State.clpImport_keeps {a : State} {s : State} {n : Nat} {l : ClpLine} (h : Keeps a s) : Keeps a
    (State.clpImport s n l) := by
  unfold State.clpImport
  exact (Keeps.ite h (State.sat_keeps (State.setCup_keeps (Keeps.upd h))))

theorem State.tlkOnRun_keeps {a : State} {s : State} (h : Keeps a s) : Keeps a (State.tlkOnRun s) := by
  unfold State.tlkOnRun
  exact (Keeps.ite (State.toFault_keeps (State.err_keeps (Keeps.upd h))) (Keeps.upd h))

theorem State.tlkRange_keeps {a : State} {s : State} {o : Nat} {v : Nat} (h : Keeps a s) : KeepsO a (State.tlkRange s
    o v) := by
  unfold State.tlkRange
  exact (by (try dsimp only); split; exact (KeepsO.some (State.bindError_keeps h)); exact (KeepsO.ite (KeepsO.some (State.err_keeps h)) KeepsO.none))

theorem State.tlkOnWrite_keeps {a : State} {s : State} {o : Nat} {v : Nat} (h : Keeps a s) : KeepsO a
    (State.tlkOnWrite s o v) := by
  unfold State.tlkOnWrite
  exact (KeepsO.ite (KeepsO.some (Keeps.ite (State.ringTun_keeps h) h)) (KeepsO.ite (KeepsO.some (Keeps.ite
    (State.writeWord_keeps h) (State.tlkEnable_keeps (State.writeWord_keeps h)))) (State.tlkRange_keeps h)))

theorem State.tlkWindow_keeps {a : State} {s : State} (h : Keeps a s) : Keeps a (State.tlkWindow s) := by
  unfold State.tlkWindow
  exact (State.setTport_keeps (State.setTport_keeps h))

theorem State.redOnWrite_keeps {a : State} {s : State} {o : Nat} {v : Nat} (h : Keeps a s) : KeepsO a
    (State.redOnWrite s o v) := by
  unfold State.redOnWrite
  exact (KeepsO.ite (KeepsO.some (State.err_keeps h)) (KeepsO.ite (KeepsO.some (State.outputsFollow_keeps
    (State.writeWord_keeps h))) (KeepsO.ite (KeepsO.some (State.err_keeps h)) (KeepsO.ite (KeepsO.some (Keeps.ite
    (State.redRealign_keeps (Keeps.ite (State.redDeclfail_keeps (Keeps.ite (State.redTakeover_keeps h) h)) (Keeps.ite
    (State.redTakeover_keeps h) h))) (Keeps.ite (State.redDeclfail_keeps (Keeps.ite (State.redTakeover_keeps h) h))
    (Keeps.ite (State.redTakeover_keeps h) h)))) KeepsO.none))))

theorem State.pageOnRun_keeps {a : State} {s : State} {p : Nat} (h : Keeps a s) : Keeps a (State.pageOnRun s p) := by
  unfold State.pageOnRun
  exact (by (try dsimp only); split; exact (State.encOnRun_keeps h); exact (State.alignDom_keeps (State.obsOnRun_keeps h)); exact (State.pscOnRun_keeps h); exact (State.axOnRun_keeps h); exact (State.calLost_keeps (State.sdOnRun_keeps h)); exact (State.calLost_keeps (State.camOnRun_keeps h)); exact (State.cupOnRun_keeps h); exact (State.defOnRun_keeps h); exact (State.clpOnRun_keeps h); exact (State.stpOnRun_keeps h); exact (State.pbaOnRun_keeps h); exact (State.cmpOnRun_keeps h); exact (State.dmaOnRun_keeps h); exact (State.ethOnRun_keeps h); exact (State.tlkOnRun_keeps h); exact (State.redOnRun_keeps h); exact (State.calLost_keeps (State.dmcOnRun_keeps h)); exact (State.lantOnRun_keeps h); exact (State.pcieShow_keeps h); exact h)

theorem State.pageLeft_keeps {a : State} {s : State} {p : Nat} (h : Keeps a s) : Keeps a (State.pageLeft s p) := by
  unfold State.pageLeft
  exact (by (try dsimp only); split; exact (State.stpLeft_keeps h); exact (State.pbaLeft_keeps h); exact (Keeps.ite (State.pscOff_keeps h) h); exact (State.cupHomeLeft_keeps h); exact (State.clpLeft_keeps h); exact (State.redLeft_keeps h); exact (State.lantLeft_keeps h); exact h)

theorem State.pageOn_keeps {a : State} {s : State} {p : Nat} (h : Keeps a s) : Keeps a (State.pageOn s p) := by
  unfold State.pageOn
  exact (by (try dsimp only); split; exact (State.hlkTrain_keeps h); exact (State.gpioStart_keeps h); exact (State.camShow_keeps h); exact (State.cupShow_keeps h); exact (State.lastNone_keeps h); exact (State.tlkEnable_keeps h); exact (State.pcieShow_keeps h); exact h)

theorem State.axOff_keeps {a : State} {s : State} {n : Nat} (h : Keeps a s) : Keeps a (State.axOff s n) := by
  unfold State.axOff
  exact (State.setCoil_keeps (State.setGeared_keeps (State.setPstate_keeps (State.setAx_keeps h))))

theorem State.pageOff_keeps {a : State} {s : State} {p : Nat} (h : Keeps a s) : Keeps a (State.pageOff s p) := by
  unfold State.pageOff
  exact (by (try dsimp only); split; exact (State.encOff_keeps h); exact (State.axOff_keeps h); exact (State.sdHalt_keeps h); exact (State.camOff_keeps h); exact (State.cupOff_keeps h); exact (State.defOff_keeps h); exact (State.clpOff_keeps h); exact (State.jobOff_keeps h); exact (State.stpClear_keeps h); exact (State.pbaClear_keeps h); exact (State.hlkOff_keeps h); exact (State.cmpOff_keeps h); exact (State.dmaOff_keeps h); exact (State.ethOff_keeps h); exact (State.tlkOff_keeps h); exact (State.lantOff_keeps h); exact (Keeps.upd h); exact h)

theorem State.setPstateOf_keeps {a : State} {s : State} {p : Nat} {st : PState} (h : Keeps a s) : Keeps a
    (State.setPstateOf s p st) := by
  unfold State.setPstateOf
  exact (State.setPage_keeps h)

theorem State.enterIdle_keeps {a : State} {s : State} {p : Nat} (h : Keeps a s) : Keeps a (State.enterIdle s p) := by
  unfold State.enterIdle
  exact (by (try dsimp only); split; exact (State.showBar_keeps (State.commitStored_keeps (State.setPstateOf_keeps h))); exact (State.scrSettle_keeps (State.commitStored_keeps (State.setPstateOf_keeps h))); exact (State.emuShowAll_keeps (State.commitStored_keeps (State.setPstateOf_keeps h))); exact (State.pinsShow_keeps (State.gpioTurned_keeps (State.commitStored_keeps (State.setPstateOf_keeps h)))); exact (State.sdClkShow_keeps (Keeps.ite (State.sdHalt_keeps (State.commitStored_keeps (State.setPstateOf_keeps h))) (State.commitStored_keeps (State.setPstateOf_keeps h)))); exact (State.tlkEnable_keeps (State.commitStored_keeps (State.setPstateOf_keeps h))); exact (State.outputsFollow_keeps (State.commitStored_keeps (State.setPstateOf_keeps h))); exact (State.cupShow_keeps (State.commitStored_keeps (State.setPstateOf_keeps h))); exact (State.cupsShow_keeps (State.camShow_keeps (State.commitStored_keeps (State.setPstateOf_keeps h)))); exact (State.commitStored_keeps (State.setPstateOf_keeps h)))

theorem State.enterRun_keeps {a : State} {s : State} {p : Nat} (h : Keeps a s) : Keeps a (State.enterRun s p) := by
  unfold State.enterRun
  exact (State.pageOnRun_keeps (State.setPstateOf_keeps h))

theorem State.settlePage_keeps {a : State} {s : State} {p : Nat} (h : Keeps a s) : Keeps a (State.settlePage s p) := by
  unfold State.settlePage
  exact (Keeps.ite (by split; exact h; exact (State.pageOff_keeps (Keeps.ite (State.pageLeft_keeps (State.setPstateOf_keeps h)) (Keeps.ite (State.calReturn_keeps (State.setPstateOf_keeps h)) (State.setPstateOf_keeps h))))) (by split; exact (Keeps.ite (State.enterRun_keeps (State.pageOn_keeps (State.enterIdle_keeps h))) (State.pageOn_keeps (State.enterIdle_keeps h))); exact (Keeps.ite (State.enterRun_keeps h) h); exact (Keeps.ite h (State.pageLeft_keeps (State.setPstateOf_keeps h))); exact h))

theorem State.setRunEn_keeps {a : State} {s : State} {p : Nat} {en : Bool} {run : Bool} (h : Keeps a s) : Keeps a
    (State.setRunEn s p en run) := by
  unfold State.setRunEn
  exact (Keeps.ite h (by (try dsimp only); split; exact (Keeps.ite (Keeps.ite (Keeps.ite (State.pinsShow_keeps (State.setPage_keeps h)) (State.setPage_keeps h)) (Keeps.upd (Keeps.ite (State.pinsShow_keeps (State.setPage_keeps h)) (State.setPage_keeps h)))) (Keeps.ite (State.pageOff_keeps (Keeps.ite (State.pinsShow_keeps (State.setPage_keeps h)) (State.setPage_keeps h))) (State.settlePage_keeps (Keeps.ite (State.pinsShow_keeps (State.setPage_keeps h)) (State.setPage_keeps h))))); exact (State.bicShow_keeps (State.settlePage_keeps (Keeps.ite (State.pinsShow_keeps (State.setPage_keeps h)) (State.setPage_keeps h)))); exact (State.sdClkShow_keeps (State.settlePage_keeps (Keeps.ite (State.pinsShow_keeps (State.setPage_keeps h)) (State.setPage_keeps h)))); exact (State.settlePage_keeps (Keeps.ite (State.pinsShow_keeps (State.setPage_keeps h)) (State.setPage_keeps h)))))

theorem State.pageReset_keeps {a : State} {s : State} {p : Nat} (h : Keeps a s) : Keeps a (State.pageReset s p) := by
  unfold State.pageReset
  exact (by (try dsimp only); split; exact (State.setEnc_keeps h); exact (State.gearLost_keeps (State.setObs_keeps h)); exact (State.pscReset_keeps h); exact (Keeps.upd h); exact (State.setAx_keeps h); exact (State.setSd_keeps h); exact (State.cupsShow_keeps (State.camReset_keeps h)); exact (State.cupReset_keeps h); exact (State.scrSettle_keeps h); exact (State.setBar_keeps h); exact (State.jobReset_keeps h); exact (State.hqfReset_keeps h); exact (State.bicReset_keeps h); exact (State.dbgReset_keeps h); exact (State.evfReset_keeps h); exact (Keeps.upd h); exact (State.pcieShow_keeps h); exact (Keeps.upd h); exact (Keeps.upd h); exact (State.outputsShow_keeps h); exact (Keeps.upd (Keeps.foldl h (fun _ _ h0 => (State.calRelease_keeps h0)))); exact (State.setDmc_keeps h); exact (Keeps.upd h); exact h)

theorem State.softReset_keeps {a : State} {s : State} {p : Nat} (h : Keeps a s) : Keeps a (State.softReset s p) := by
  unfold State.softReset
  exact (Keeps.ite h (State.showPwr_keeps (State.pinsRest_keeps (State.pageReset_keeps (State.clearRegs_keeps
    (Keeps.ite (Keeps.ite (State.pageLeft_keeps (State.drawn_keeps (State.setPage_keeps (Keeps.ite
    (State.nctReset_keeps h) h)))) (Keeps.ite (State.calReturn_keeps (State.drawn_keeps (State.setPage_keeps
    (Keeps.ite (State.nctReset_keeps h) h)))) (State.drawn_keeps (State.setPage_keeps (Keeps.ite (State.nctReset_keeps
    h) h))))) (State.pageOff_keeps (Keeps.ite (State.pageLeft_keeps (State.drawn_keeps (State.setPage_keeps (Keeps.ite
    (State.nctReset_keeps h) h)))) (Keeps.ite (State.calReturn_keeps (State.drawn_keeps (State.setPage_keeps
    (Keeps.ite (State.nctReset_keeps h) h)))) (State.drawn_keeps (State.setPage_keeps (Keeps.ite (State.nctReset_keeps
    h) h))))))))))))

theorem State.setFreeze_keeps {a : State} {s : State} {p : Nat} {b : Bool} (h : Keeps a s) : Keeps a (State.setFreeze
    s p b) := by
  unfold State.setFreeze
  exact (Keeps.ite (State.showFrozen_keeps (State.setPage_keeps h)) h)

theorem State.ctrlWrite_keeps {a : State} {s : State} {p : Nat} {v : Nat} (h : Keeps a s) : Keeps a (State.ctrlWrite s
    p v) := by
  unfold State.ctrlWrite
  exact (Keeps.ite (State.softReset_keeps (State.setFreeze_keeps h)) (State.setRunEn_keeps (State.setFreeze_keeps h)))

theorem State.ownerWrite_keeps {a : State} {s : State} {p : Nat} {v : Nat} (h : Keeps a s) : Keeps a (State.ownerWrite
    s p v) := by
  unfold State.ownerWrite
  exact (Keeps.ite h (State.setPage_keeps h))

theorem State.logClear_keeps {a : State} {s : State} {p : Nat} (h : Keeps a s) : Keeps a (State.logClear s p) := by
  unfold State.logClear
  exact (State.setPage_keeps h)

theorem State.logPop_keeps {a : State} {s : State} {p : Nat} (h : Keeps a s) : Keeps a (State.logPop s p) := by
  unfold State.logPop
  exact (State.setPage_keeps h)

theorem State.headWrite_keeps {a : State} {s : State} {p : Nat} {o : Nat} {v : Nat} (h : Keeps a s) : Keeps a
    (State.headWrite s p o v) := by
  unfold State.headWrite
  exact (Keeps.ite (State.ctrlWrite_keeps h) (Keeps.ite (State.setPage_keeps h) (Keeps.ite (State.setPage_keeps h)
    (Keeps.ite (State.setPage_keeps h) (Keeps.ite (State.setPage_keeps h) (Keeps.ite (State.ownerWrite_keeps h)
    (Keeps.ite (Keeps.ite (State.logClear_keeps (State.setPage_keeps h)) (State.setPage_keeps h)) (Keeps.ite
    (Keeps.ite (State.applyPage_keeps (State.setPage_keeps h)) (State.setPage_keeps h)) h))))))))

theorem State.ruleWrite_keeps {a s : State} {p o v req : Nat} (h : Keeps a s) : KeepsO a (State.ruleWrite s p o v req)
    := by
  unfold State.ruleWrite
  dsimp only
  split
  · exact State.encOnWrite_keeps h
  · exact State.obsOnWrite_keeps h
  · exact State.pscOnWrite_keeps h
  · exact State.emuOnWrite_keeps h
  · exact State.axOnWrite_keeps h
  · exact State.sdOnWrite_keeps h
  · intro u e
    obtain ⟨t, ht, rfl⟩ := Option.map_eq_some_iff.mp e
    exact State.cupsShow_keeps (State.camOnWrite_keeps h t ht)
  · exact State.cupOnWrite_keeps h
  · exact State.defOnWrite_keeps h
  · exact State.clpOnWrite_keeps h
  · exact State.jobOnWrite_keeps h
  · exact State.stpOnWrite_keeps h
  · exact State.nctOnWrite_keeps h
  · exact State.pbaOnWrite_keeps h
  · exact State.fireOnWrite_keeps h
  · exact State.hlkOnWrite_keeps h
  · exact State.dmaOnWrite_keeps h
  · exact State.bicOnWrite_keeps h
  · exact State.evfOnWrite_keeps h
  · exact State.ptpOnWrite_keeps h
  · exact State.ethOnWrite_keeps h
  · exact State.tlkOnWrite_keeps h
  · exact State.redOnWrite_keeps h
  · exact State.dmcOnWrite_keeps h
  · exact State.sramOnWrite_keeps h
  · exact State.lantOnWrite_keeps h
  · exact State.calcOnWrite_keeps h
  · exact State.keepOnWrite_keeps h
  · exact State.dbgcOnWrite_keeps h
  · exact State.pwrcOnWrite_keeps h
  · exact State.rstcOnWrite_keeps h
  · exact KeepsO.none

theorem State.wordWrite_keeps {a s : State} {p o v req : Nat} (h : Keeps a s) : Keeps a (State.wordWrite s p o v req)
    := by
  unfold State.wordWrite
  refine Keeps.ite (State.headWrite_keeps h) ?_
  cases hx : s.ruleWrite p o v req with
  | none => exact State.writeWord_keeps h
  | some u => exact State.ruleWrite_keeps h u hx

theorem State.pairWrite_keeps {a : State} {s : State} {p : Nat} {o : Nat} {v : Nat} {req : Nat} (h : Keeps a s) :
    Keeps a (State.pairWrite s p o v req) := by
  unfold State.pairWrite
  exact (Keeps.ite (State.incWrite_keeps h) (Keeps.ite (State.swfireBoth_keeps h) (Keeps.ite (State.chanPair_keeps h)
    (Keeps.ite (State.rangeWrite_keeps h) (Keeps.ite (State.entryPair_keeps h) (Keeps.ite (State.wordWrite_keeps h)
    (Keeps.ite (State.wordWrite_keeps (State.wordWrite_keeps h)) (State.wordWrite_keeps (State.wordWrite_keeps
    h)))))))))

theorem State.readEffect_keeps {a : State} {s : State} {p : Nat} {o : Nat} {req : Nat} {wide : Bool} (h : Keeps a s) :
    Keeps a (State.readEffect s p o req wide) := by
  unfold State.readEffect
  exact (Keeps.ite (State.logPop_keeps h) (by split; exact (by split; exact (State.claim_keeps h); exact (Keeps.ite (Keeps.ite (State.claim_keeps (State.claim_keeps h)) (State.claim_keeps h)) h)); exact (Keeps.ite (State.timeCapture_keeps h) h); exact (Keeps.ite (State.tsPop_keeps h) h); exact (Keeps.ite (State.peakRead_keeps (Keeps.ite (State.peakRead_keeps h) h)) (Keeps.ite (State.peakRead_keeps h) h)); exact (Keeps.ite (State.scrRead_keeps h) h); exact (Keeps.ite (State.ftRead_keeps h) h); exact (Keeps.ite (State.tcRead_keeps h) (Keeps.ite (State.icRead_keeps h) h)); exact h))

theorem State.windowWrite_keeps {a : State} {s : State} {off : Nat} {v : Nat} {wide : Bool} {req : Nat} (h : Keeps a
    s) : Keeps a (State.windowWrite s off v wide req) := by
  unfold State.windowWrite
  exact (Keeps.ite (State.markWrite_keeps h) (Keeps.ite (State.curveWrite_keeps h) (Keeps.ite (State.nozzleWrite_keeps
    h) (Keeps.ite (Keeps.ite (State.queueWide_keeps h) (State.queueWrite_keeps h)) (Keeps.ite (State.srcWide_keeps h)
    (State.srcWrite_keeps h))))))

theorem State.busError_keeps {a : State} {s : State} {p : Nat} {off : Nat} (h : Keeps a s) : Keeps a (State.busError s
    p off) := by
  unfold State.busError
  exact (Keeps.ite (State.accessError_keeps h) h)

theorem State.busWrite_keeps {a : State} {s : State} {off : Nat} {size : Nat} {v : Nat} {req : Nat} (h : Keeps a s) :
    Keeps a (State.busWrite s off size v req) := by
  unfold State.busWrite
  exact (by split; exact h; exact (Keeps.ite h (Keeps.ite (State.busError_keeps h) (State.gate_keeps h (fun _ h0 => (Keeps.ite (State.windowWrite_keeps h0) (Keeps.ite (State.accessError_keeps h0) (Keeps.ite (State.pairWrite_keeps h0) (State.wordWrite_keeps h0)))))))))

theorem State.busRead_keeps {a : State} {s : State} {off : Nat} {size : Nat} {req : Nat} (h : Keeps a s) : Keeps a
    (State.busRead s off size req) := by
  unfold State.busRead
  exact (by (try dsimp only); split; exact (Keeps.upd h); exact (Keeps.ite (Keeps.upd h) (Keeps.ite (State.busError_keeps (Keeps.upd h)) (Keeps.ite (Keeps.upd h) (Keeps.ite (Keeps.upd h) (Keeps.upd (Keeps.ite h (State.readEffect_keeps h))))))))

theorem State.ctrlGate_keeps {a : State} {s : State} {p : Nat} {req : Nat} {v : Nat} (h : Keeps a s) : Keeps a
    (State.ctrlGate s p req v) := by
  unfold State.ctrlGate
  exact (State.gateH_keeps h (fun _ h0 => (State.ctrlWrite_keeps h0)))

theorem State.sbErr_keeps {a : State} {s : State} {c : Nat} (h : Keeps a s) : Keeps a (State.sbErr s c) := by
  unfold State.sbErr
  exact (State.err_keeps (State.setFl_keeps h))

theorem State.sbNext_keeps {a : State} {s : State} {size : Nat} (h : Keeps a s) : Keeps a (State.sbNext s size) := by
  unfold State.sbNext
  exact (Keeps.ite (State.setRg64_keeps h) h)

theorem State.sbAccess_keeps {a : State} {s : State} {wr : Bool} (h : Keeps a s) : Keeps a (State.sbAccess s wr) := by
  unfold State.sbAccess
  exact (Keeps.ite h (Keeps.ite (State.sbErr_keeps h) (Keeps.ite (State.sbNext_keeps (Keeps.ite (State.sbErr_keeps (Keeps.ite (State.busWrite_keeps h) (State.setRg64_keeps (Keeps.upd (State.busRead_keeps h))))) (Keeps.ite (State.busWrite_keeps h) (State.setRg64_keeps (Keeps.upd (State.busRead_keeps h)))))) (State.sbNext_keeps (Keeps.ite (Keeps.ite (State.dramWrite_keeps h) (by split; exact (State.setRg64_keeps (Keeps.fst ‹_› (State.dramRead_keeps h))); exact (Keeps.fst ‹_› (State.dramRead_keeps h)))) (State.sbErr_keeps (Keeps.ite (State.dramWrite_keeps h) (by split; exact (State.setRg64_keeps (Keeps.fst ‹_› (State.dramRead_keeps h))); exact (Keeps.fst ‹_› (State.dramRead_keeps h))))))))))

theorem State.sbWrite_keeps {a : State} {s : State} {o : Nat} {v : Nat} {wide : Bool} (h : Keeps a s) : Keeps a
    (State.sbWrite s o v wide) := by
  unfold State.sbWrite
  exact (Keeps.ite (Keeps.ite (State.sbAccess_keeps (Keeps.ite (State.setRg64_keeps h) (State.setRg_keeps h)))
    (Keeps.ite (State.setRg64_keeps h) (State.setRg_keeps h))) (Keeps.ite (State.sbAccess_keeps (Keeps.ite
    (State.setRg64_keeps h) (State.setRg_keeps h))) (Keeps.ite (State.setRg64_keeps h) (State.setRg_keeps h))))

theorem State.sbRead_keeps {a : State} {s : State} {wide : Bool} (h : Keeps a s) : Keeps a (State.sbRead s wide) := by
  unfold State.sbRead
  exact (Keeps.upd (Keeps.ite (State.sbAccess_keeps h) h))

theorem State.regWrite_keeps {a : State} {s : State} {off : Nat} {size : Nat} {v : Nat} {req : Nat} (h : Keeps a s) :
    Keeps a (State.regWrite s off size v req) := by
  unfold State.regWrite
  exact (by split; exact (State.gate_keeps h (fun _ h0 => (State.sbWrite_keeps h0))); exact (State.busWrite_keeps h))

theorem State.regRead_keeps {a : State} {s : State} {off : Nat} {size : Nat} {req : Nat} (h : Keeps a s) : Keeps a
    (State.regRead s off size req) := by
  unfold State.regRead
  exact (Keeps.ite (State.readGate_keeps h (fun _ h0 => (State.sbRead_keeps h0))) (State.busRead_keeps h))

theorem State.windowBytes_keeps {a : State} {s : State} {req : Nat} {off : Nat} {k : Nat} {down : Bool} (h : Keeps a
    s) : Keeps a (State.windowBytes s req off k down).1 := by
  unfold State.windowBytes
  exact (Keeps.foldl1 h (fun _ _ h0 => (Keeps.upd (State.regRead_keeps h0))))

theorem State.windowPut_keeps {a : State} {s : State} {req : Nat} {off : Nat} {bs : List Byte} {down : Bool} (h :
    Keeps a s) : Keeps a (State.windowPut s req off bs down) := by
  unfold State.windowPut
  exact (Keeps.foldl h (fun _ _ h0 => (State.regWrite_keeps h0)))

theorem State.devRead_keeps {a : State} {s : State} {w : Who} {req : Nat} {z3 : Nat} {n : Nat} (h : Keeps a s) : Keeps
    a (State.devRead s w req z3 n).1 := by
  unfold State.devRead
  exact (Keeps.ite1 (State.windowBytes_keeps h) (State.dramRead_keeps h))

theorem State.devWrite_keeps {a : State} {s : State} {w : Who} {req : Nat} {z3 : Nat} {bs : List Byte} (h : Keeps a s)
    : Keeps a (State.devWrite s w req z3 bs).1 := by
  unfold State.devWrite
  exact (Keeps.ite1 (State.windowPut_keeps h) (State.dramWrite_keeps h))

theorem State.txData_keeps {a : State} {s : State} {n : Nat} {e : List Byte} (h : Keeps a s) : Keeps a (State.txData s
    n e).1 := by
  unfold State.txData
  exact (Keeps.ite1 (Keeps.upd h) (Keeps.ite1 (by split; exact (Keeps.fst ‹_› (State.hostFetch_keeps h)); exact (State.hostForget_keeps (Keeps.fst ‹_› (State.hostFetch_keeps h))); exact (Keeps.fst ‹_› (State.hostFetch_keeps h))) (by split; exact (Keeps.fst ‹_› (State.devRead_keeps h)); exact (Keeps.fst ‹_› (State.devRead_keeps h)))))

theorem State.txDiscard_keeps {a : State} {s : State} {n : Nat} (h : Keeps a s) : Keeps a (State.txDiscard s n) := by
  unfold State.txDiscard
  exact (State.consume_keeps (State.sat_keeps (State.hostForget_keeps (Keeps.upd h))))

theorem State.sideRead_keeps {a : State} {s : State} {c : Nat} {x : Side} {len : Nat} {down : Bool} (h : Keeps a s) :
    Keeps a (State.sideRead s c x len down).1 := by
  unfold State.sideRead
  exact (Keeps.foldl1 h (fun _ _ h0 => (by split; exact (Keeps.ite1 (by split; exact (Keeps.fst ‹_› (State.hostFetch_keeps h0)); exact (Keeps.fst ‹_› (State.hostFetch_keeps h0)); exact (Keeps.fst ‹_› (State.hostFetch_keeps h0))) (Keeps.ite1 (State.windowBytes_keeps h0) (State.countBytes_keeps h0))); exact h0)))

theorem State.sideWrite_keeps {a : State} {s : State} {c : Nat} {x : Side} {len : Nat} {bs : List Byte} {first : Nat}
    {n : Nat} {down : Bool} (h : Keeps a s) : Keeps a (State.sideWrite s c x len bs first n down) := by
  unfold State.sideWrite
  exact (Keeps.foldl1 h (fun _ _ h0 => (Keeps.ite h0 (Keeps.ite (State.setHostBytes_keeps h0) (Keeps.ite
    (State.windowPut_keeps h0) (State.dramWrite_keeps h0))))))

theorem State.descMove_keeps {a : State} {s : State} {c : Nat} {d : Desc} (h : Keeps a s) : Keeps a (State.descMove s
    c d).1 := by
  unfold State.descMove
  exact (Keeps.ite1 h (by split; exact (Keeps.fst ‹_› (State.sideRead_keeps h)); exact (Keeps.fst ‹_› (State.sideRead_keeps h)); exact (by (try dsimp only); split; exact (State.dramError_keeps (State.sideWrite_keeps (State.drawn_keeps (Keeps.fst ‹_› (State.sideRead_keeps h))))); exact (State.inc64_keeps (State.sideWrite_keeps (Keeps.fst ‹_› (State.sideRead_keeps h)))))))

theorem State.descFetch_keeps {a s : State} {c : Nat} (h : Keeps a s) : Keeps a (State.descFetch s c).1 := by
  unfold State.descFetch
  extract_lets cur b check
  have hc : ∀ (t : State) (bs : List Byte), Keeps a t → Keeps a (check t bs).1 := by
    intro t bs k
    show Keeps a (match t.descBad (descOf bs) with
      | some e => ((t, Sum.inl e) : State × (Nat ⊕ Option Desc))
      | none => (t.setDma c { t.dma c with desc := some bs }, Sum.inr (some (descOf bs)))).1
    split
    · exact k
    · exact State.setDma_keeps k
  clear_value cur b check
  split
  · exact h
  · split
    · split
      · exact Keeps.fst ‹_› (State.hostFetch_keeps h)
      · exact Keeps.fst ‹_› (State.hostFetch_keeps h)
      · exact hc _ _ (Keeps.fst ‹_› (State.hostFetch_keeps h))
    · split
      · split
        exact hc _ _ (Keeps.fst ‹_› (State.windowBytes_keeps h))
      · split
        · exact Keeps.fst ‹_› (State.dramRead_keeps h)
        · exact hc _ _ (Keeps.fst ‹_› (State.dramRead_keeps h))

theorem State.descDone_keeps {a : State} {s : State} {c : Nat} {d : Desc} (h : Keeps a s) : Keeps a (State.descDone s
    c d) := by
  unfold State.descDone
  exact (Keeps.ite (State.dmaEnd_keeps (State.hostForget_keeps (State.setDma_keeps h))) (Keeps.ite (State.dmaEnd_keeps
    (State.setRg64_keeps (State.hostForget_keeps (State.setDma_keeps h)))) (State.setRg64_keeps
    (State.hostForget_keeps (State.setDma_keeps h)))))

theorem State.keepGet_keeps {a : State} {s : State} {z1 : Nat} {n : Nat} (h : Keeps a s) : Keeps a (State.keepGet s z1
    n).1 := by
  unfold State.keepGet
  exact (State.devRead_keeps h)

theorem State.keepPut_keeps {a : State} {s : State} {z1 : Nat} {bs : List Byte} (h : Keeps a s) : Keeps a
    (State.keepPut s z1 bs).1 := by
  unfold State.keepPut
  exact (State.devWrite_keeps h)

theorem State.keepEnd_keeps {a : State} {s : State} {e : List Byte} {code : Nat} {outlen : Nat} (h : Keeps a s) :
    Keeps a (State.keepEnd s e code outlen) := by
  unfold State.keepEnd
  exact (Keeps.ite (State.inc_keeps (State.post_keeps (State.consume_keeps h))) (State.happen_keeps (by split; exact (State.err_keeps (State.sat_keeps (State.inc_keeps (State.post_keeps (State.consume_keeps h))))); exact (State.logOnly_keeps (State.sat_keeps (State.inc_keeps (State.post_keeps (State.consume_keeps h))))))))

theorem State.attest_keeps {a : State} {s : State} {e : List Byte} (h : Keeps a s) : KeepsO a (State.attest s e) := by
  unfold State.attest
  exact (KeepsO.ite KeepsO.none (KeepsO.ite (KeepsO.some (State.keepEnd_keeps h)) (KeepsO.ite (KeepsO.some (State.keepEnd_keeps h)) (KeepsO.ite (KeepsO.ite (KeepsO.some (State.keepEnd_keeps h)) (KeepsO.some (State.subtree_keeps h))) (KeepsO.ite KeepsO.none (by (try dsimp only); split; exact (KeepsO.some (State.keepEnd_keeps (Keeps.fst ‹_› (State.keepPut_keeps (State.setRg_keeps (State.drawn_keeps h)))))); exact (KeepsO.some (State.keepEnd_keeps (Keeps.fst ‹_› (State.keepPut_keeps (State.setRg_keeps (State.drawn_keeps h))))))))))))

theorem State.loadKey_keeps {a : State} {s : State} {e : List Byte} (h : Keeps a s) : Keeps a (State.loadKey s e) := by
  unfold State.loadKey
  exact (Keeps.ite (State.keepEnd_keeps h) (Keeps.ite (State.keepEnd_keeps h) (Keeps.ite (State.keepEnd_keeps h) (by split; exact (State.keepEnd_keeps (Keeps.fst ‹_› (State.keepGet_keeps h))); exact (Keeps.ite (State.keepEnd_keeps (Keeps.fst ‹_› (State.keepGet_keeps h))) (by split; exact (State.keepEnd_keeps (Keeps.fst ‹_› (State.keepGet_keeps h))); exact (State.keepEnd_keeps (Keeps.upd (Keeps.fst ‹_› (State.keepGet_keeps h))))))))))

theorem State.clearKey_keeps {a : State} {s : State} {e : List Byte} (h : Keeps a s) : Keeps a (State.clearKey s e) := by
  unfold State.clearKey
  exact (Keeps.ite (State.keepEnd_keeps h) (Keeps.ite (State.keepEnd_keeps h) (State.keepEnd_keeps (Keeps.upd h))))

theorem State.getPub_keeps {a : State} {s : State} {e : List Byte} (h : Keeps a s) : Keeps a (State.getPub s e) := by
  unfold State.getPub
  exact (Keeps.ite (State.keepEnd_keeps h) (by (try dsimp only); split; exact (State.keepEnd_keeps (Keeps.fst ‹_› (State.keepPut_keeps h))); exact (State.keepEnd_keeps (Keeps.fst ‹_› (State.keepPut_keeps h)))))

theorem State.commitCtrs_keeps {a : State} {s : State} {e : List Byte} (h : Keeps a s) : Keeps a (State.commitCtrs s
    e) := by
  unfold State.commitCtrs
  exact (State.keepEnd_keeps (Keeps.upd h))

theorem State.provision_keeps {a : State} {s : State} (h : Keeps a s) : Keeps a (State.provision s) := by
  unfold State.provision
  exact (Keeps.ite (Keeps.upd (State.drawn_keeps h)) (State.setRg_keeps (Keeps.upd (State.drawn_keeps h))))

theorem State.signedEffect_keeps {a : State} {s : State} {op : Nat} {index : Nat} {anchor : List Byte} (h : Keeps a s)
    : Keeps a (State.signedEffect s op index anchor) := by
  unfold State.signedEffect
  exact (by (try dsimp only); split; exact (State.happen_keeps (Keeps.upd (State.provision_keeps h))); exact (Keeps.upd h); exact (Keeps.upd h); exact (State.happen_keeps (Keeps.upd h)); exact (State.happen_keeps (Keeps.upd (Keeps.upd h))); exact (Keeps.upd h); exact h)

theorem State.signed_keeps {a : State} {s : State} {e : List Byte} (h : Keeps a s) : Keeps a (State.signed s e) := by
  unfold State.signed
  exact (by split; exact (State.newNonce_keeps (State.keepEnd_keeps (Keeps.fst ‹_› (State.keepGet_keeps h)))); exact (by (try dsimp only); split; exact (Keeps.ite (State.newNonce_keeps (State.keepEnd_keeps (Keeps.upd (Keeps.fst ‹_› (State.keepGet_keeps h))))) (Keeps.ite (State.newNonce_keeps (State.keepEnd_keeps (Keeps.upd (Keeps.fst ‹_› (State.keepGet_keeps h))))) (by split; exact (State.newNonce_keeps (State.keepEnd_keeps (State.signedEffect_keeps (Keeps.upd (Keeps.fst ‹_› (State.keepGet_keeps h)))))); exact (State.newNonce_keeps (State.keepEnd_keeps (Keeps.upd (Keeps.fst ‹_› (State.keepGet_keeps h)))))))); exact (State.newNonce_keeps (State.keepEnd_keeps (Keeps.fst ‹_› (State.keepGet_keeps h))))))

theorem State.keepRow_keeps {a s : State} {mine : State → List Byte → Bool} {f : State → List Byte → Option State}
    (h : Keeps a s) (hf : ∀ t e, Keeps a t → KeepsO a (f t e)) : Keeps a (State.keepRow s mine f) := by
  unfold State.keepRow
  refine Keeps.ite h ?_
  split
  · exact Keeps.fst ‹_› (State.peek_keeps h)
  · rename_i t e _
    have k : Keeps a t := Keeps.fst ‹_› (State.peek_keeps h)
    refine Keeps.ite k (Keeps.ite (Keeps.ite (State.newNonce_keeps (State.keepEnd_keeps k)) (State.keepEnd_keeps k)) ?_)
    cases hx : f t e with
    | none => exact k
    | some u => exact hf t e k u hx

end Sys2Proof.Machine
end

