-- ==== Sys2Proof/Laws/Memory.lean ====
section
/-!
SUPPORT. Memory: a byte read after a write to it is the byte written, every other byte reads as before, for DRAM and for the
two host memories. (That every memory operation keeps the canonical form is in Keeps.lean.) An MRAM record
reads as the value put last.
-/

namespace Sys2Proof.Machine

theorem Memory.byte_setByte_self {d : Nat → Byte} {m : List Host.Cell} (h : Tbl.wf m = true) (a : Nat) (b : Byte) :
    Memory.byte d (Memory.setByte d m a b) a = b :=
  Tbl.getD_putD_self h

theorem Memory.byte_setByte_ne {d : Nat → Byte} {m : List Host.Cell} (h : Tbl.wf m = true) {a c : Nat} (b : Byte) (hc : c ≠ a) :
    Memory.byte d (Memory.setByte d m a b) c = Memory.byte d m c :=
  Tbl.getD_putD_ne h hc

/-- Outside the bytes written nothing changes. -/
theorem Memory.byte_setBytes_out {d : Nat → Byte} : ∀ (bs : List Byte) {m : List Host.Cell} {a c : Nat}, Tbl.wf m = true →
    c < a ∨ a + bs.length ≤ c → Memory.byte d (Memory.setBytes d m a bs) c = Memory.byte d m c := by
  intro bs
  induction bs with
  | nil => intros; rfl
  | cons b r ih =>
    intro m a c h hc
    simp only [List.length_cons] at hc
    exact (ih (Tbl.wf_putD h) (by omega)).trans (Memory.byte_setByte_ne h b (by omega))

/-- The bytes written are what the addresses from `a` on then read. -/
theorem Memory.byte_setBytes_in {d : Nat → Byte} : ∀ (bs : List Byte) {m : List Host.Cell} {a i : Nat}, Tbl.wf m = true →
    i < bs.length → some (Memory.byte d (Memory.setBytes d m a bs) (a + i)) = bs[i]? := by
  intro bs
  induction bs with
  | nil => intro m a i _ hi; simp at hi
  | cons b r ih =>
    intro m a i h hi
    cases i with
    | zero =>
      simp only [Memory.setBytes, Nat.add_zero, List.getElem?_cons_zero]
      rw [Memory.byte_setBytes_out (m := Memory.setByte d m a b) (a := a + 1) (c := a) r (Tbl.wf_putD h) (by omega),
        Memory.byte_setByte_self h]
    | succ j =>
      simp only [List.length_cons] at hi
      have := ih (m := Memory.setByte d m a b) (a := a + 1) (i := j) (Tbl.wf_putD h) (by omega)
      simpa [Memory.setBytes, Nat.add_comm, Nat.add_left_comm, Nat.add_assoc] using this

/-- A record of the MRAM reads as the value put last, whatever its copies held (R450). -/
@[simp] theorem Twin.cur_put {α : Type} (x : Twin α) (v d : α) : (x.put v).cur d = v := by
  obtain ⟨a, b⟩ := x
  rcases a with _ | ⟨n, p⟩ <;> rcases b with _ | ⟨m, q⟩ <;> simp only [Twin.put, Twin.cur]
  · rw [if_neg (by omega)]
  · rw [if_pos (by omega)]
  · by_cases hn : n < m
    · simp only [if_pos hn]; rw [if_neg (by omega)]
    · simp only [if_neg hn]; rw [if_pos (by omega)]

end Sys2Proof.Machine
end

