-- ==== Sys2Proof/Laws/PerInstr.lean ====
section
/-!
SUPPORT. The family WellFormed, one lemma per command: a well-formed command that is an access names a requester of R41.
-/

set_option Elab.async false

namespace Sys2Proof.Laws.WellFormed

/-- A well-formed access names one of the 16 requester numbers of OWNER (R41, R43). -/
def Statement (i : Instr) : Prop := i.wf = true → ∀ r, i.req? = some r → r < 16

theorem registerWrite (off : Nat) (size : Nat) (value : Nat) (req : Nat) : Statement (.registerWrite off size value req) := by
  intro h r e
  simp [Instr.wf, Instr.req?] at h e; omega
theorem ctrlEnable (page : Nat) (req : Nat) : Statement (.ctrlEnable page req) := by
  intro h r e
  simp [Instr.wf, Instr.req?] at h e; omega
theorem ctrlDisable (page : Nat) (req : Nat) : Statement (.ctrlDisable page req) := by
  intro h r e
  simp [Instr.wf, Instr.req?] at h e; omega
theorem ctrlRun (page : Nat) (req : Nat) : Statement (.ctrlRun page req) := by
  intro h r e
  simp [Instr.wf, Instr.req?] at h e; omega
theorem ctrlStop (page : Nat) (req : Nat) : Statement (.ctrlStop page req) := by
  intro h r e
  simp [Instr.wf, Instr.req?] at h e; omega
theorem drainComplete (page : Nat) : Statement (.drainComplete page) := by
  intro _ r e; simp [Instr.req?] at e
theorem softReset (page : Nat) (req : Nat) : Statement (.softReset page req) := by
  intro h r e
  simp [Instr.wf, Instr.req?] at h e; omega
theorem freeze (page : Nat) (on : Bool) (req : Nat) : Statement (.freeze page on req) := by
  intro h r e
  simp [Instr.wf, Instr.req?] at h e; omega
theorem logdataPop (page : Nat) (req : Nat) : Statement (.logdataPop page req) := by
  intro h r e
  simp [Instr.wf, Instr.req?] at h e; omega
theorem logClr (page : Nat) (req : Nat) : Statement (.logClr page req) := by
  intro h r e
  simp [Instr.wf, Instr.req?] at h e; omega
theorem ownerLock (page : Nat) (req : Nat) : Statement (.ownerLock page req) := by
  intro h r e
  simp [Instr.wf, Instr.req?] at h e; omega
theorem applynow (page : Nat) (req : Nat) : Statement (.applynow page req) := by
  intro h r e
  simp [Instr.wf, Instr.req?] at h e; omega
theorem violationWindowEnd (page : Nat) : Statement (.violationWindowEnd page) := by
  intro _ r e; simp [Instr.req?] at e
theorem filteredLevelChange (enc : Nat) (a : Bool) (b : Bool) (z : Bool) (held : Nat) : Statement (.filteredLevelChange enc a b z held) := by
  intro _ r e; simp [Instr.req?] at e
theorem serialRequest (enc : Nat) (dataLow : Bool) : Statement (.serialRequest enc dataLow) := by
  intro _ r e; simp [Instr.req?] at e
theorem serialWord (enc : Nat) (position : Nat) (crc : Nat) (nE : Bool) (nW : Bool) (parity : Bool) (delay : Nat) : Statement (.serialWord enc position crc nE nW parity delay) := by
  intro _ r e; simp [Instr.req?] at e
theorem startBitTimeout (enc : Nat) : Statement (.startBitTimeout enc) := by
  intro _ r e; simp [Instr.req?] at e
theorem observerUpdate (dom : Nat) : Statement (.observerUpdate dom) := by
  intro _ r e; simp [Instr.req?] at e
theorem coastmaxExpiry (dom : Nat) : Statement (.coastmaxExpiry dom) := by
  intro _ r e; simp [Instr.req?] at e
theorem repair (dom : Nat) (req : Nat) : Statement (.repair dom req) := by
  intro h r e
  simp [Instr.wf, Instr.req?] at h e; omega
theorem snap (dom : Nat) (byTask : Bool) (req : Nat) : Statement (.snap dom byTask req) := by
  intro h r e
  simp [Instr.wf, Instr.req?] at h e; omega
theorem emuEnable (ch : Nat) (req : Nat) : Statement (.emuEnable ch req) := by
  intro h r e
  simp [Instr.wf, Instr.req?] at h e; omega
theorem emuStep (ch : Nat) : Statement (.emuStep ch) := by
  intro _ r e; simp [Instr.req?] at e
theorem markWrite (mark : Nat) (off : Nat) (value : Nat) (wide : Bool) (req : Nat) : Statement (.markWrite mark off value wide req) := by
  intro h r e
  simp [Instr.wf, Instr.req?] at h e; omega
theorem markWriteEffect : Statement (.markWriteEffect) := by
  intro _ r e; simp [Instr.req?] at e
theorem markEvaluation : Statement (.markEvaluation) := by
  intro _ r e; simp [Instr.req?] at e
theorem deferredFire (dom : Nat) : Statement (.deferredFire dom) := by
  intro _ r e; simp [Instr.req?] at e
theorem disarm (doms : Nat) (req : Nat) : Statement (.disarm doms req) := by
  intro h r e
  simp [Instr.wf, Instr.req?] at h e; omega
theorem load (slot : Nat) (req : Nat) : Statement (.load slot req) := by
  intro h r e
  simp [Instr.wf, Instr.req?] at h e; omega
theorem loaddone (slot : Nat) : Statement (.loaddone slot) := by
  intro _ r e; simp [Instr.req?] at e
theorem unload (slot : Nat) (req : Nat) : Statement (.unload slot req) := by
  intro h r e
  simp [Instr.wf, Instr.req?] at h e; omega
theorem verify (slot : Nat) (req : Nat) : Statement (.verify slot req) := by
  intro h r e
  simp [Instr.wf, Instr.req?] at h e; omega
theorem vdone (slot : Nat) : Statement (.vdone slot) := by
  intro _ r e; simp [Instr.req?] at e
theorem tileCheck (slot : Nat) (verdict : Nat) : Statement (.tileCheck slot verdict) := by
  intro _ r e; simp [Instr.req?] at e
theorem cursorEnable (bar : Nat) (en : Bool) (req : Nat) : Statement (.cursorEnable bar en req) := by
  intro h r e
  simp [Instr.wf, Instr.req?] at h e; omega
theorem laneStart (stp : Nat) : Statement (.laneStart stp) := by
  intro _ r e; simp [Instr.req?] at e
theorem lineScreened (stp : Nat) (slot : Nat) : Statement (.lineScreened stp slot) := by
  intro _ r e; simp [Instr.req?] at e
theorem scrdataAccess (stp : Nat) (write : Bool) (value : Nat) (req : Nat) : Statement (.scrdataAccess stp write value req) := by
  intro h r e
  simp [Instr.wf, Instr.req?] at h e; omega
theorem handover (bar : Nat) : Statement (.handover bar) := by
  intro _ r e; simp [Instr.req?] at e
theorem swcmdForce (req : Nat) : Statement (.swcmdForce req) := by
  intro h r e
  simp [Instr.wf, Instr.req?] at h e; omega
theorem copyForwardDone : Statement (.copyForwardDone) := by
  intro _ r e; simp [Instr.req?] at e
theorem heldQueueDrained : Statement (.heldQueueDrained) := by
  intro _ r e; simp [Instr.req?] at e
theorem nozzleWindowWrite (off : Nat) (value : Nat) (wide : Bool) (req : Nat) : Statement (.nozzleWindowWrite off value wide req) := by
  intro h r e
  simp [Instr.wf, Instr.req?] at h e; omega
theorem curveWindowWrite (off : Nat) (value : Nat) (wide : Bool) (req : Nat) : Statement (.curveWindowWrite off value wide req) := by
  intro h r e
  simp [Instr.wf, Instr.req?] at h e; omega
theorem imageLoad (req : Nat) : Statement (.imageLoad req) := by
  intro h r e
  simp [Instr.wf, Instr.req?] at h e; omega
theorem imageCheckDone : Statement (.imageCheckDone) := by
  intro _ r e; simp [Instr.req?] at e
theorem imgdone : Statement (.imgdone) := by
  intro _ r e; simp [Instr.req?] at e
theorem line (bar : Nat) : Statement (.line bar) := by
  intro _ r e; simp [Instr.req?] at e
theorem fireInstant (bar : Nat) : Statement (.fireInstant bar) := by
  intro _ r e; simp [Instr.req?] at e
theorem lineDeadline (bar : Nat) : Statement (.lineDeadline bar) := by
  intro _ r e; simp [Instr.req?] at e
theorem entryWrite (bar : Nat) (entry : Nat) (map : Bool) (value : Nat) (req : Nat) : Statement (.entryWrite bar entry map value req) := by
  intro h r e
  simp [Instr.wf, Instr.req?] at h e; omega
theorem lineSet (link : Nat) : Statement (.lineSet link) := by
  intro _ r e; simp [Instr.req?] at e
theorem lockDone (link : Nat) : Statement (.lockDone link) := by
  intro _ r e; simp [Instr.req?] at e
theorem statIdent (link : Nat) (boardid : Nat) (pver : Nat) (chmask : Nat) (intake : Nat) (nnozmax : Nat) (minper : Nat) : Statement (.statIdent link boardid pver chmask intake nnozmax minper) := by
  intro _ r e; simp [Instr.req?] at e
theorem syncSend (link : Nat) : Statement (.syncSend link) := by
  intro _ r e; simp [Instr.req?] at e
theorem syncAnswer (link : Nat) (t1 : Nat) (t2 : Nat) (t3 : Nat) (seq : Nat) : Statement (.syncAnswer link t1 t2 t3 seq) := by
  intro _ r e; simp [Instr.req?] at e
theorem trntmo (link : Nat) : Statement (.trntmo link) := by
  intro _ r e; simp [Instr.req?] at e
theorem statHb (link : Nat) (hbcnt : Nat) (flags : Nat) (rxerr : Nat) (latefire : Nat) (temps : List Nat) (alignres : Nat) : Statement (.statHb link hbcnt flags rxerr latefire temps alignres) := by
  intro _ r e; simp [Instr.req?] at e
theorem hbTimeout (link : Nat) : Statement (.hbTimeout link) := by
  intro _ r e; simp [Instr.req?] at e
theorem blockLockLoss (link : Nat) : Statement (.blockLockLoss link) := by
  intro _ r e; simp [Instr.req?] at e
theorem retrain (link : Nat) (req : Nat) : Statement (.retrain link req) := by
  intro h r e
  simp [Instr.wf, Instr.req?] at h e; omega
theorem autort (link : Nat) : Statement (.autort link) := by
  intro _ r e; simp [Instr.req?] at e
theorem tuncmd (link : Nat) (wr : Bool) (req : Nat) : Statement (.tuncmd link wr req) := by
  intro h r e
  simp [Instr.wf, Instr.req?] at h e; omega
theorem ack (link : Nat) (cmdSeq : Nat) (data : Nat) (seq : Nat) : Statement (.ack link cmdSeq data seq) := by
  intro _ r e; simp [Instr.req?] at e
theorem nak (link : Nat) (reason : Nat) (cmdSeq : Nat) : Statement (.nak link reason cmdSeq) := by
  intro _ r e; simp [Instr.req?] at e
theorem tuntmo (link : Nat) : Statement (.tuntmo link) := by
  intro _ r e; simp [Instr.req?] at e
theorem statNchk (link : Nat) (ch : Nat) (payload : List (BitVec 8)) : Statement (.statNchk link ch payload) := by
  intro _ r e; simp [Instr.req?] at e
theorem hlkFrameError (link : Nat) (reason : Nat) (type : Nat) (seq : Nat) : Statement (.hlkFrameError link reason type seq) := by
  intro _ r e; simp [Instr.req?] at e
theorem camDown (port : Nat) (lock : Nat) : Statement (.camDown port lock) := by
  intro _ r e; simp [Instr.req?] at e
theorem camUp (port : Nat) (lock : Nat) : Statement (.camUp port lock) := by
  intro _ r e; simp [Instr.req?] at e
theorem trig (port : Nat) : Statement (.trig port) := by
  intro _ r e; simp [Instr.req?] at e
theorem triggerInstant (port : Nat) : Statement (.triggerInstant port) := by
  intro _ r e; simp [Instr.req?] at e
theorem triggerSend (port : Nat) : Statement (.triggerSend port) := by
  intro _ r e; simp [Instr.req?] at e
theorem camLine (port : Nat) (sensor : List (List Nat)) : Statement (.camLine port sensor) := by
  intro _ r e; simp [Instr.req?] at e
theorem triggerExpiry (port : Nat) : Statement (.triggerExpiry port) := by
  intro _ r e; simp [Instr.req?] at e
theorem blktmo (port : Nat) : Statement (.blktmo port) := by
  intro _ r e; simp [Instr.req?] at e
theorem ftdataAccess (port : Nat) (write : Bool) (value : Nat) (req : Nat) : Statement (.ftdataAccess port write value req) := by
  intro h r e
  simp [Instr.wf, Instr.req?] at h e; omega
theorem expcmd (port : Nat) (gen : Nat) (req : Nat) : Statement (.expcmd port gen req) := by
  intro h r e
  simp [Instr.wf, Instr.req?] at h e; omega
theorem expdone (port : Nat) : Statement (.expdone port) := by
  intro _ r e; simp [Instr.req?] at e
theorem cccmd (port : Nat) (wr : Bool) (req : Nat) : Statement (.cccmd port wr req) := by
  intro h r e
  simp [Instr.wf, Instr.req?] at h e; omega
theorem ccAck (port : Nat) (kind : Nat) (code : Nat) (data : Nat) : Statement (.ccAck port kind code data) := by
  intro _ r e; simp [Instr.req?] at e
theorem cctmo (port : Nat) : Statement (.cctmo port) := by
  intro _ r e; simp [Instr.req?] at e
theorem eventPacket (port : Nat) (payload : List (BitVec 8)) : Statement (.eventPacket port payload) := by
  intro _ r e; simp [Instr.req?] at e
theorem camHeartbeat (port : Nat) : Statement (.camHeartbeat port) := by
  intro _ r e; simp [Instr.req?] at e
theorem malformedPacket (port : Nat) (kind : Nat) (lane : Nat) : Statement (.malformedPacket port kind lane) := by
  intro _ r e; simp [Instr.req?] at e
theorem homeLine (cup : Nat) : Statement (.homeLine cup) := by
  intro _ r e; simp [Instr.req?] at e
theorem furtherLine (cup : Nat) (slot : Nat) : Statement (.furtherLine cup slot) := by
  intro _ r e; simp [Instr.req?] at e
theorem stagingRead (cup : Nat) (slot : Nat) : Statement (.stagingRead cup slot) := by
  intro _ r e; simp [Instr.req?] at e
theorem fwaitExpiry (cup : Nat) : Statement (.fwaitExpiry cup) := by
  intro _ r e; simp [Instr.req?] at e
theorem stage2Entry (cup : Nat) : Statement (.stage2Entry cup) := by
  intro _ r e; simp [Instr.req?] at e
theorem blkdone (cup : Nat) : Statement (.blkdone cup) := by
  intro _ r e; simp [Instr.req?] at e
theorem tcdataAccess (cup : Nat) (write : Bool) (value : Nat) (req : Nat) : Statement (.tcdataAccess cup write value req) := by
  intro h r e
  simp [Instr.wf, Instr.req?] at h e; omega
theorem icdataAccess (cup : Nat) (write : Bool) (value : Nat) (req : Nat) : Statement (.icdataAccess cup write value req) := by
  intro h r e
  simp [Instr.wf, Instr.req?] at h e; omega
theorem defLine (unit : Nat) : Statement (.defLine unit) := by
  intro _ r e; simp [Instr.req?] at e
theorem snippetDone (unit : Nat) : Statement (.snippetDone unit) := by
  intro _ r e; simp [Instr.req?] at e
theorem blkpost (unit : Nat) : Statement (.blkpost unit) := by
  intro _ r e; simp [Instr.req?] at e
theorem droppedPost (unit : Nat) : Statement (.droppedPost unit) := by
  intro _ r e; simp [Instr.req?] at e
theorem clpLine (cup : Nat) : Statement (.clpLine cup) := by
  intro _ r e; simp [Instr.req?] at e
theorem win (group : Nat) : Statement (.win group) := by
  intro _ r e; simp [Instr.req?] at e
theorem bankChange (group : Nat) : Statement (.bankChange group) := by
  intro _ r e; simp [Instr.req?] at e
theorem correctionRecord (group : Nat) : Statement (.correctionRecord group) := by
  intro _ r e; simp [Instr.req?] at e
theorem clpSwapRequest : Statement (.clpSwapRequest) := by
  intro _ r e; simp [Instr.req?] at e
theorem compress (eng : Nat) : Statement (.compress eng) := by
  intro _ r e; simp [Instr.req?] at e
theorem decompress (eng : Nat) : Statement (.decompress eng) := by
  intro _ r e; simp [Instr.req?] at e
theorem abort (eng : Nat) : Statement (.abort eng) := by
  intro _ r e; simp [Instr.req?] at e
theorem cmpJobEnd (eng : Nat) : Statement (.cmpJobEnd eng) := by
  intro _ r e; simp [Instr.req?] at e
theorem queueEnable (queue : Nat) (value : Nat) (req : Nat) : Statement (.queueEnable queue value req) := by
  intro h r e
  simp [Instr.wf, Instr.req?] at h e; omega
theorem queueDisable (queue : Nat) (value : Nat) (req : Nat) : Statement (.queueDisable queue value req) := by
  intro h r e
  simp [Instr.wf, Instr.req?] at h e; omega
theorem queueBind (queue : Nat) (value : Nat) (req : Nat) : Statement (.queueBind queue value req) := by
  intro h r e
  simp [Instr.wf, Instr.req?] at h e; omega
theorem producerDoorbell (queue : Nat) (value : Nat) (req : Nat) (array : Bool) : Statement (.producerDoorbell queue value req array) := by
  intro h r e
  simp [Instr.wf, Instr.req?] at h e; omega
theorem consumerDoorbell (queue : Nat) (value : Nat) (req : Nat) (array : Bool) : Statement (.consumerDoorbell queue value req array) := by
  intro h r e
  simp [Instr.wf, Instr.req?] at h e; omega
theorem itmoExpiry (queue : Nat) : Statement (.itmoExpiry queue) := by
  intro _ r e; simp [Instr.req?] at e
theorem hostCompletion (tag : Nat) (status : Nat) (ep : Bool) (data : List (BitVec 8)) : Statement (.hostCompletion tag status ep data) := by
  intro _ r e; simp [Instr.req?] at e
theorem completionTimeout (tag : Nat) : Statement (.completionTimeout tag) := by
  intro _ r e; simp [Instr.req?] at e
theorem malformedTlp : Statement (.malformedTlp) := by
  intro _ r e; simp [Instr.req?] at e
theorem deviceMemoryAccess (write : Bool) (addr : Nat) (len : Nat) (data : List (BitVec 8)) (ep : Bool) : Statement (.deviceMemoryAccess write addr len data ep) := by
  intro _ r e; simp [Instr.req?] at e
theorem flr (fn : Nat) : Statement (.flr fn) := by
  intro _ r e; simp [Instr.req?] at e
theorem dmaStart (ch : Nat) (req : Nat) (byTask : Bool) : Statement (.dmaStart ch req byTask) := by
  intro h r e
  simp [Instr.wf, Instr.req?] at h e; omega
theorem dmaStop (ch : Nat) (req : Nat) : Statement (.dmaStop ch req) := by
  intro h r e
  simp [Instr.wf, Instr.req?] at h e; omega
theorem dmaResume (ch : Nat) (req : Nat) : Statement (.dmaResume ch req) := by
  intro h r e
  simp [Instr.wf, Instr.req?] at h e; omega
theorem dmaTake : Statement (.dmaTake) := by
  intro _ r e; simp [Instr.req?] at e
theorem descriptorDone : Statement (.descriptorDone) := by
  intro _ r e; simp [Instr.req?] at e
theorem sourceInput (source : Nat) : Statement (.sourceInput source) := by
  intro _ r e; simp [Instr.req?] at e
theorem claim (core : Nat) (req : Nat) : Statement (.claim core req) := by
  intro h r e
  simp [Instr.wf, Instr.req?] at h e; omega
theorem complete (core : Nat) (source : Nat) (req : Nat) : Statement (.complete core source req) := by
  intro h r e
  simp [Instr.wf, Instr.req?] at h e; omega
theorem pclaim (pin : Nat) (req : Nat) : Statement (.pclaim pin req) := by
  intro h r e
  simp [Instr.wf, Instr.req?] at h e; omega
theorem pcomplete (source : Nat) (req : Nat) : Statement (.pcomplete source req) := by
  intro h r e
  simp [Instr.wf, Instr.req?] at h e; omega
theorem hcmp (fn : Nat) (source : Nat) (req : Nat) : Statement (.hcmp fn source req) := by
  intro h r e
  simp [Instr.wf, Instr.req?] at h e; omega
theorem swset (swi : Nat) (req : Nat) : Statement (.swset swi req) := by
  intro h r e
  simp [Instr.wf, Instr.req?] at h e; omega
theorem latchCatch (latch : Nat) (rising : Bool) : Statement (.latchCatch latch rising) := by
  intro _ r e; simp [Instr.req?] at e
theorem swfire (ch : Nat) (arg : Nat) (req : Nat) : Statement (.swfire ch arg req) := by
  intro h r e
  simp [Instr.wf, Instr.req?] at h e; omega
theorem swfireArg (value : Nat) (req : Nat) : Statement (.swfireArg value req) := by
  intro h r e
  simp [Instr.wf, Instr.req?] at h e; omega
theorem swfireCh (ch : Nat) (req : Nat) : Statement (.swfireCh ch req) := by
  intro h r e
  simp [Instr.wf, Instr.req?] at h e; omega
theorem eventDelivery (ch : Nat) : Statement (.eventDelivery ch) := by
  intro _ r e; simp [Instr.req?] at e
theorem channelWrite (off : Nat) (value : Nat) (req : Nat) : Statement (.channelWrite off value req) := by
  intro h r e
  simp [Instr.wf, Instr.req?] at h e; omega
theorem channelWriteEffect : Statement (.channelWriteEffect) := by
  intro _ r e; simp [Instr.req?] at e
theorem gpioInputEdge (pin : Nat) (level : Bool) (held : Nat) : Statement (.gpioInputEdge pin level held) := by
  intro _ r e; simp [Instr.req?] at e
theorem pulseEnd (pin : Nat) : Statement (.pulseEnd pin) := by
  intro _ r e; simp [Instr.req?] at e
theorem gpioout (value : Nat) (req : Nat) : Statement (.gpioout value req) := by
  intro h r e
  simp [Instr.wf, Instr.req?] at h e; omega
theorem axisStart (axis : Nat) (byTask : Bool) (req : Nat) : Statement (.axisStart axis byTask req) := by
  intro h r e
  simp [Instr.wf, Instr.req?] at h e; omega
theorem axisStop (axis : Nat) (byTask : Bool) (req : Nat) : Statement (.axisStop axis byTask req) := by
  intro h r e
  simp [Instr.wf, Instr.req?] at h e; omega
theorem axisAbort (axis : Nat) (req : Nat) : Statement (.axisAbort axis req) := by
  intro h r e
  simp [Instr.wf, Instr.req?] at h e; omega
theorem seghead (axis : Nat) (value : Nat) (req : Nat) : Statement (.seghead axis value req) := by
  intro h r e
  simp [Instr.wf, Instr.req?] at h e; omega
theorem axisCycle (axis : Nat) : Statement (.axisCycle axis) := by
  intro _ r e; simp [Instr.req?] at e
theorem segmentEnd (axis : Nat) : Statement (.segmentEnd axis) := by
  intro _ r e; simp [Instr.req?] at e
theorem step (axis : Nat) : Statement (.step axis) := by
  intro _ r e; simp [Instr.req?] at e
theorem standstill (axis : Nat) : Statement (.standstill axis) := by
  intro _ r e; simp [Instr.req?] at e
theorem coilWakeEnd (axis : Nat) : Statement (.coilWakeEnd axis) := by
  intro _ r e; simp [Instr.req?] at e
theorem setpointFrame (axis : Nat) : Statement (.setpointFrame axis) := by
  intro _ r e; simp [Instr.req?] at e
theorem sdfOutput (ch : Nat) (bits : List Bool) : Statement (.sdfOutput ch bits) := by
  intro _ r e; simp [Instr.req?] at e
theorem stuck (ch : Nat) (level : Bool) (clocks : Nat) : Statement (.stuck ch level clocks) := by
  intro _ r e; simp [Instr.req?] at e
theorem peakRead (ch : Nat) (max : Bool) (req : Nat) : Statement (.peakRead ch max req) := by
  intro h r e
  simp [Instr.wf, Instr.req?] at h e; omega
theorem incWrite (value : Nat) (req : Nat) : Statement (.incWrite value req) := by
  intro h r e
  simp [Instr.wf, Instr.req?] at h e; omega
theorem ofsadj (value : Nat) (req : Nat) : Statement (.ofsadj value req) := by
  intro h r e
  simp [Instr.wf, Instr.req?] at h e; omega
theorem tset (frac : Nat) (req : Nat) : Statement (.tset frac req) := by
  intro h r e
  simp [Instr.wf, Instr.req?] at h e; omega
theorem timeParametersApply : Statement (.timeParametersApply) := by
  intro _ r e; simp [Instr.req?] at e
theorem timensCapture (req : Nat) : Statement (.timensCapture req) := by
  intro h r e
  simp [Instr.wf, Instr.req?] at h e; omega
theorem stamp : Statement (.stamp) := by
  intro _ r e; simp [Instr.req?] at e
theorem txEntry (port : Nat) : Statement (.txEntry port) := by
  intro _ r e; simp [Instr.req?] at e
theorem txtsq1Pop (port : Nat) (req : Nat) : Statement (.txtsq1Pop port req) := by
  intro h r e
  simp [Instr.wf, Instr.req?] at h e; omega
theorem rxFrame (port : Nat) (data : List (BitVec 8)) : Statement (.rxFrame port data) := by
  intro _ r e; simp [Instr.req?] at e
theorem ethFrameError (port : Nat) (kind : Nat) (len : Nat) : Statement (.ethFrameError port kind len) := by
  intro _ r e; simp [Instr.req?] at e
theorem ethLinkDown (port : Nat) : Statement (.ethLinkDown port) := by
  intro _ r e; simp [Instr.req?] at e
theorem ethLinkUp (port : Nat) : Statement (.ethLinkUp port) := by
  intro _ r e; simp [Instr.req?] at e
theorem tlkLaneLockLoss (portB : Bool) (lane : Nat) : Statement (.tlkLaneLockLoss portB lane) := by
  intro _ r e; simp [Instr.req?] at e
theorem ping (portB : Bool) (answer : Bool) (src : Nat) (hops : Nat) (t1 : Nat) (t2 : Nat) (t3 : Nat) : Statement (.ping portB answer src hops t1 t2 t3) := by
  intro _ r e; simp [Instr.req?] at e
theorem ringSend : Statement (.ringSend) := by
  intro _ r e; simp [Instr.req?] at e
theorem ringFrame (portB : Bool) (src : Nat) (hops : Nat) (seq : Nat) (role : Nat) (rsize : Nat) : Statement (.ringFrame portB src hops seq role rsize) := by
  intro _ r e; simp [Instr.req?] at e
theorem tbSend : Statement (.tbSend) := by
  intro _ r e; simp [Instr.req?] at e
theorem tbFrame (portB : Bool) (shadow : Bool) (pfault : Bool) (src : Nat) (hops : Nat) (dly : Nat) (words : List Nat) : Statement (.tbFrame portB shadow pfault src hops dly words) := by
  intro _ r e; simp [Instr.req?] at e
theorem tblost : Statement (.tblost) := by
  intro _ r e; simp [Instr.req?] at e
theorem tbhalt : Statement (.tbhalt) := by
  intro _ r e; simp [Instr.req?] at e
theorem rsend : Statement (.rsend) := by
  intro _ r e; simp [Instr.req?] at e
theorem evtFrame (portB : Bool) (shadow : Bool) (pfault : Bool) (src : Nat) (hops : Nat) (seq : Nat) (words : List Nat) : Statement (.evtFrame portB shadow pfault src hops seq words) := by
  intro _ r e; simp [Instr.req?] at e
theorem tlkTuncmd (wr : Bool) (wide : Bool) (req : Nat) : Statement (.tlkTuncmd wr wide req) := by
  intro h r e
  simp [Instr.wf, Instr.req?] at h e; omega
theorem treq (portB : Bool) (src : Nat) (dst : Nat) (hops : Nat) (seq : Nat) (off : Nat) (wide : Bool) (wr : Bool) (data : Nat) : Statement (.treq portB src dst hops seq off wide wr data) := by
  intro _ r e; simp [Instr.req?] at e
theorem trsp (portB : Bool) (src : Nat) (dst : Nat) (hops : Nat) (seq : Nat) (code : Nat) (data : Nat) : Statement (.trsp portB src dst hops seq code data) := by
  intro _ r e; simp [Instr.req?] at e
theorem tlkTuntmo : Statement (.tlkTuntmo) := by
  intro _ r e; simp [Instr.req?] at e
theorem fwdFrame (portB : Bool) (src : Nat) (dst : Nat) (hops : Nat) (words : List Nat) : Statement (.fwdFrame portB src dst hops words) := by
  intro _ r e; simp [Instr.req?] at e
theorem fack (portB : Bool) (src : Nat) (dst : Nat) (hops : Nat) (ackseq : Nat) (nak : Bool) : Statement (.fack portB src dst hops ackseq nak) := by
  intro _ r e; simp [Instr.req?] at e
theorem fackSend (worker : Nat) : Statement (.fackSend worker) := by
  intro _ r e; simp [Instr.req?] at e
theorem fwtmo : Statement (.fwtmo) := by
  intro _ r e; simp [Instr.req?] at e
theorem clpdFrame (portB : Bool) (src : Nat) (dst : Nat) (hops : Nat) (cup : Nat) (words : List Nat) : Statement (.clpdFrame portB src dst hops cup words) := by
  intro _ r e; simp [Instr.req?] at e
theorem mirFrame (portB : Bool) (src : Nat) (dst : Nat) (hops : Nat) (words : List Nat) : Statement (.mirFrame portB src dst hops words) := by
  intro _ r e; simp [Instr.req?] at e
theorem tbLoss : Statement (.tbLoss) := by
  intro _ r e; simp [Instr.req?] at e
theorem takeover (req : Nat) : Statement (.takeover req) := by
  intro h r e
  simp [Instr.wf, Instr.req?] at h e; omega
theorem declfail (req : Nat) : Statement (.declfail req) := by
  intro h r e
  simp [Instr.wf, Instr.req?] at h e; omega
theorem align (req : Nat) : Statement (.align req) := by
  intro h r e
  simp [Instr.wf, Instr.req?] at h e; omega
theorem eccWriteback (part : Nat) (word : Nat) : Statement (.eccWriteback part word) := by
  intro _ r e; simp [Instr.req?] at e
theorem scrub (flips : Nat) : Statement (.scrub flips) := by
  intro _ r e; simp [Instr.req?] at e
theorem inject (value : Nat) (req : Nat) : Statement (.inject value req) := by
  intro h r e
  simp [Instr.wf, Instr.req?] at h e; omega
theorem dramRequest (who : Nat) (write : Bool) (addr : Nat) (len : Nat) (data : List (BitVec 8)) (ce : List Nat) (ue : List Nat) : Statement (.dramRequest who write addr len data ce ue) := by
  intro _ r e; simp [Instr.req?] at e
theorem dramCommand (ch : Nat) (ready : Nat) : Statement (.dramCommand ch ready) := by
  intro _ r e; simp [Instr.req?] at e
theorem refresh (ch : Nat) (bank : Nat) (intervals : Nat) : Statement (.refresh ch bank intervals) := by
  intro _ r e; simp [Instr.req?] at e
theorem rowClose (ch : Nat) (bank : Nat) : Statement (.rowClose ch bank) := by
  intro _ r e; simp [Instr.req?] at e
theorem dmcScrub (ch : Nat) (ce : List Nat) (ue : List Nat) : Statement (.dmcScrub ch ce ue) := by
  intro _ r e; simp [Instr.req?] at e
theorem calGo (dom : Nat) (inst : Nat) (force : Bool) (req : Nat) : Statement (.calGo dom inst force req) := by
  intro h r e
  simp [Instr.wf, Instr.req?] at h e; omega
theorem calDrift (dom : Nat) (inst : Nat) (width : Nat) : Statement (.calDrift dom inst width) := by
  intro _ r e; simp [Instr.req?] at e
theorem calEnd (dom : Nat) (width : Nat) (converged : Bool) : Statement (.calEnd dom width converged) := by
  intro _ r e; simp [Instr.req?] at e
theorem recalStart : Statement (.recalStart) := by
  intro _ r e; simp [Instr.req?] at e
theorem gapwaitExpiry : Statement (.gapwaitExpiry) := by
  intro _ r e; simp [Instr.req?] at e
theorem dramRetrain : Statement (.dramRetrain) := by
  intro _ r e; simp [Instr.req?] at e
theorem monitorRead (kind : Nat) (idx : Nat) (value : Nat) : Statement (.monitorRead kind idx value) := by
  intro _ r e; simp [Instr.req?] at e
theorem planInterval : Statement (.planInterval) := by
  intro _ r e; simp [Instr.req?] at e
theorem plan (req : Nat) : Statement (.plan req) := by
  intro h r e
  simp [Instr.wf, Instr.req?] at h e; omega
theorem planStep : Statement (.planStep) := by
  intro _ r e; simp [Instr.req?] at e
theorem pmbusTransaction (cmd : Nat) (outcome : Nat) (value : Nat) : Statement (.pmbusTransaction cmd outcome value) := by
  intro _ r e; simp [Instr.req?] at e
theorem busStuck : Statement (.busStuck) := by
  intro _ r e; simp [Instr.req?] at e
theorem objectVerify (src : Nat) (data : List (BitVec 8)) (pmbus : Bool) : Statement (.objectVerify src data pmbus) := by
  intro _ r e; simp [Instr.req?] at e
theorem dqsTimeout (kind : Nat) : Statement (.dqsTimeout kind) := by
  intro _ r e; simp [Instr.req?] at e
theorem bldctlStart (req : Nat) : Statement (.bldctlStart req) := by
  intro h r e
  simp [Instr.wf, Instr.req?] at h e; omega
theorem blddata (value : Nat) (req : Nat) : Statement (.blddata value req) := by
  intro h r e
  simp [Instr.wf, Instr.req?] at h e; omega
theorem bldlen (value : Nat) (req : Nat) : Statement (.bldlen value req) := by
  intro h r e
  simp [Instr.wf, Instr.req?] at h e; omega
theorem attready : Statement (.attready) := by
  intro _ r e; simp [Instr.req?] at e
theorem attest : Statement (.attest) := by
  intro _ r e; simp [Instr.req?] at e
theorem loadkey : Statement (.loadkey) := by
  intro _ r e; simp [Instr.req?] at e
theorem clearkey : Statement (.clearkey) := by
  intro _ r e; simp [Instr.req?] at e
theorem getpub : Statement (.getpub) := by
  intro _ r e; simp [Instr.req?] at e
theorem commit : Statement (.commit) := by
  intro _ r e; simp [Instr.req?] at e
theorem provision : Statement (.provision) := by
  intro _ r e; simp [Instr.req?] at e
theorem enroll : Statement (.enroll) := by
  intro _ r e; simp [Instr.req?] at e
theorem revoke : Statement (.revoke) := by
  intro _ r e; simp [Instr.req?] at e
theorem toprod : Statement (.toprod) := by
  intro _ r e; simp [Instr.req?] at e
theorem torma : Statement (.torma) := by
  intro _ r e; simp [Instr.req?] at e
theorem rootrev : Statement (.rootrev) := by
  intro _ r e; simp [Instr.req?] at e
theorem relock (value : Nat) (req : Nat) : Statement (.relock value req) := by
  intro h r e
  simp [Instr.wf, Instr.req?] at h e; omega
theorem tkctlStart (req : Nat) : Statement (.tkctlStart req) := by
  intro h r e
  simp [Instr.wf, Instr.req?] at h e; omega
theorem tkdata (value : Nat) (req : Nat) : Statement (.tkdata value req) := by
  intro h r e
  simp [Instr.wf, Instr.req?] at h e; omega
theorem tklen (value : Nat) (req : Nat) : Statement (.tklen value req) := by
  intro h r e
  simp [Instr.wf, Instr.req?] at h e; omega
theorem token : Statement (.token) := by
  intro _ r e; simp [Instr.req?] at e
theorem idcode : Statement (.idcode) := by
  intro _ r e; simp [Instr.req?] at e
theorem bypass : Statement (.bypass) := by
  intro _ r e; simp [Instr.req?] at e
theorem extest (shift : List Bool) : Statement (.extest shift) := by
  intro _ r e; simp [Instr.req?] at e
theorem samplePreload (pins : List Bool) (shift : List Bool) : Statement (.samplePreload pins shift) := by
  intro _ r e; simp [Instr.req?] at e
theorem highz : Statement (.highz) := by
  intro _ r e; simp [Instr.req?] at e
theorem clamp : Statement (.clamp) := by
  intro _ r e; simp [Instr.req?] at e
theorem dmi (op : Nat) (addr : Nat) (data : Nat) : Statement (.dmi op addr data) := by
  intro _ r e; simp [Instr.req?] at e
theorem wakeInstruction (dr : Bool) : Statement (.wakeInstruction dr) := by
  intro _ r e; simp [Instr.req?] at e
theorem haltreq (core : Nat) (req : Nat) : Statement (.haltreq core req) := by
  intro h r e
  simp [Instr.wf, Instr.req?] at h e; omega
theorem resumereq (core : Nat) (req : Nat) : Statement (.resumereq core req) := by
  intro h r e
  simp [Instr.wf, Instr.req?] at h e; omega
theorem regselGo (core : Nat) (value : Nat) (req : Nat) : Statement (.regselGo core value req) := by
  intro h r e
  simp [Instr.wf, Instr.req?] at h e; omega
theorem breakpoint (core : Nat) (addr : Nat) : Statement (.breakpoint core addr) := by
  intro _ r e; simp [Instr.req?] at e
theorem watchpoint (core : Nat) (addr : Nat) (len : Nat) (store : Bool) : Statement (.watchpoint core addr len store) := by
  intro _ r e; simp [Instr.req?] at e
theorem halt : Statement (.halt) := by
  intro _ r e; simp [Instr.req?] at e
theorem resume : Statement (.resume) := by
  intro _ r e; simp [Instr.req?] at e
theorem frzcmdFreeze (req : Nat) : Statement (.frzcmdFreeze req) := by
  intro h r e
  simp [Instr.wf, Instr.req?] at h e; omega
theorem frzcmdRelease (req : Nat) : Statement (.frzcmdRelease req) := by
  intro h r e
  simp [Instr.wf, Instr.req?] at h e; omega
theorem sbaddrWrite (value : Nat) (req : Nat) : Statement (.sbaddrWrite value req) := by
  intro h r e
  simp [Instr.wf, Instr.req?] at h e; omega
theorem sbdataWrite (value : Nat) (req : Nat) : Statement (.sbdataWrite value req) := by
  intro h r e
  simp [Instr.wf, Instr.req?] at h e; omega
theorem sbdataRead (req : Nat) : Statement (.sbdataRead req) := by
  intro h r e
  simp [Instr.wf, Instr.req?] at h e; omega
theorem reqIdle (req : Nat) : Statement (.reqIdle req) := by
  intro h r e
  simp [Instr.wf, Instr.req?] at h e; omega
theorem reqHold (req : Nat) : Statement (.reqHold req) := by
  intro h r e
  simp [Instr.wf, Instr.req?] at h e; omega
theorem reqSleep (req : Nat) : Statement (.reqSleep req) := by
  intro h r e
  simp [Instr.wf, Instr.req?] at h e; omega
theorem reqOff (req : Nat) : Statement (.reqOff req) := by
  intro h r e
  simp [Instr.wf, Instr.req?] at h e; omega
theorem reqRun (req : Nat) : Statement (.reqRun req) := by
  intro h r e
  simp [Instr.wf, Instr.req?] at h e; omega
theorem powerEntryDone : Statement (.powerEntryDone) := by
  intro _ r e; simp [Instr.req?] at e
theorem wake : Statement (.wake) := by
  intro _ r e; simp [Instr.req?] at e
theorem hostWake : Statement (.hostWake) := by
  intro _ r e; simp [Instr.req?] at e
theorem aonTimer (ticks : Nat) : Statement (.aonTimer ticks) := by
  intro _ r e; simp [Instr.req?] at e
theorem wakeComplete (ticks : Nat) : Statement (.wakeComplete ticks) := by
  intro _ r e; simp [Instr.req?] at e
theorem por (bootsel : Nat) : Statement (.por bootsel) := by
  intro _ r e; simp [Instr.req?] at e
theorem pinReset : Statement (.pinReset) := by
  intro _ r e; simp [Instr.req?] at e
theorem swReset (value : Nat) (req : Nat) : Statement (.swReset value req) := by
  intro h r e
  simp [Instr.wf, Instr.req?] at h e; omega
theorem coreReset (value : Nat) (req : Nat) : Statement (.coreReset value req) := by
  intro h r e
  simp [Instr.wf, Instr.req?] at h e; omega
theorem clkLoss (pll : Bool) (long : Bool) : Statement (.clkLoss pll long) := by
  intro _ r e; simp [Instr.req?] at e
theorem perst : Statement (.perst) := by
  intro _ r e; simp [Instr.req?] at e
theorem watchdogExpiry : Statement (.watchdogExpiry) := by
  intro _ r e; simp [Instr.req?] at e
theorem wdkick (value : Nat) (req : Nat) : Statement (.wdkick value req) := by
  intro h r e
  simp [Instr.wf, Instr.req?] at h e; omega
theorem outctlRel (value : Nat) (req : Nat) : Statement (.outctlRel value req) := by
  intro h r e
  simp [Instr.wf, Instr.req?] at h e; omega
theorem winopen : Statement (.winopen) := by
  intro _ r e; simp [Instr.req?] at e
theorem dramTraining (ch : Nat) (width : Nat) (converged : Bool) : Statement (.dramTraining ch width converged) := by
  intro _ r e; simp [Instr.req?] at e
theorem pcieLinkUp (speed : Nat) (width : Nat) : Statement (.pcieLinkUp speed width) := by
  intro _ r e; simp [Instr.req?] at e
theorem pcieLinkDown : Statement (.pcieLinkDown) := by
  intro _ r e; simp [Instr.req?] at e
theorem pcieConfigRequest (fn : Nat) (kind : Nat) (vec : Nat) (value : Nat) (data : Nat) : Statement (.pcieConfigRequest fn kind vec value data) := by
  intro _ r e; simp [Instr.req?] at e
theorem asyncChannelEdge (ch : Nat) (pin : Nat) (rising : Bool) : Statement (.asyncChannelEdge ch pin rising) := by
  intro _ r e; simp [Instr.req?] at e
theorem tolturFrameError (portB : Bool) (crc : Bool) : Statement (.tolturFrameError portB crc) := by
  intro _ r e; simp [Instr.req?] at e
theorem tolturLockDone (portB : Bool) : Statement (.tolturLockDone portB) := by
  intro _ r e; simp [Instr.req?] at e
theorem hlkAlignRate (link : Nat) (rate : Nat) : Statement (.hlkAlignRate link rate) := by
  intro _ r e; simp [Instr.req?] at e
theorem derateChange (ch : Nat) (rate : Nat) : Statement (.derateChange ch rate) := by
  intro _ r e; simp [Instr.req?] at e
theorem trigPulseEnd (port : Nat) : Statement (.trigPulseEnd port) := by
  intro _ r e; simp [Instr.req?] at e
theorem tapReset : Statement (.tapReset) := by
  intro _ r e; simp [Instr.req?] at e

end Sys2Proof.Laws.WellFormed
end

