-- ==== Sys2Proof/Laws/Pins.lean ====
section
/-!
SUPPORT. What driving the pins can do: it adds to the record of outputs; nothing else changes (R397, R500).
-/

namespace Sys2Proof.Machine

/-- State `b` is `a` with more outputs. -/
def OutOnly (a b : State) : Prop := ∃ l, b = { a with out := l }

theorem OutOnly.refl (a : State) : OutOnly a a := ⟨a.out, rfl⟩

theorem OutOnly.trans {a b c : State} (h : OutOnly a b) (k : OutOnly b c) : OutOnly a c := by
  obtain ⟨l, rfl⟩ := h
  obtain ⟨m, rfl⟩ := k
  exact ⟨m, rfl⟩

theorem OutOnly.emit (s : State) (o : Out) : OutOnly s (s.emit o) := ⟨_, rfl⟩

theorem OutOnly.ite {c : Prop} [Decidable c] {s a b : State} (h : OutOnly s a) (k : OutOnly s b) :
    OutOnly s (if c then a else b) := by
  split
  · exact h
  · exact k

theorem OutOnly.foldl {α : Type} {f : State → α → State} (hf : ∀ t x, OutOnly t (f t x)) :
    ∀ (l : List α) (s : State), OutOnly s (l.foldl f s)
  | [], s => OutOnly.refl s
  | x :: l, s => (hf s x).trans (OutOnly.foldl hf l (f s x))

/-- What the outputs leave: the headers, and a register of any page. -/
theorem OutOnly.page {a b : State} (h : OutOnly a b) (q : Nat) : b.page q = a.page q := by
  obtain ⟨l, rfl⟩ := h
  rfl
theorem OutOnly.rg {a b : State} (h : OutOnly a b) (q o : Nat) : b.rg q o = a.rg q o := by
  obtain ⟨l, rfl⟩ := h
  rfl

theorem State.pin_out (s : State) (p k lvl : Nat) : OutOnly s (s.pin p k lvl) :=
  OutOnly.ite (OutOnly.refl s) (OutOnly.emit s _)

theorem State.pinsRest_out (s : State) (p : Nat) : OutOnly s (s.pinsRest p) := by
  unfold State.pinsRest
  split
  iterate 4 exact OutOnly.foldl (fun t _ => OutOnly.emit t _) _ _
  · exact OutOnly.emit s _
  · exact OutOnly.emit s _
  · exact OutOnly.emit s _
  · exact OutOnly.refl s

theorem State.pinsAllRest_out (s : State) : OutOnly s s.pinsAllRest :=
  OutOnly.foldl (fun t p => OutOnly.ite (State.pinsRest_out t p) (OutOnly.refl t)) _ _

theorem State.rstout_out (s : State) (lvl : Nat) : OutOnly s (s.rstout lvl) := OutOnly.emit s _

theorem State.emuPins_out (s : State) (n ph : Nat) (c : Int) : OutOnly s (s.emuPins n ph c) :=
  ((State.pin_out s _ _ _).trans (State.pin_out _ _ _ _)).trans (State.pin_out _ _ _ _)

theorem State.emuShow_out (s : State) (n : Nat) : OutOnly s (s.emuShow n) :=
  OutOnly.ite (State.emuPins_out s _ _ _) (OutOnly.refl s)

/-- EMU's channels are checked too when their pins are shown; of every other page the pins alone change. -/
theorem State.pinsShow_out (s : State) (p : Nat) (h : blkOf p ≠ some .emu) : OutOnly s (s.pinsShow p) := by
  unfold State.pinsShow
  dsimp only
  split
  · exact absurd ‹_› h
  · exact OutOnly.foldl (fun t _ => OutOnly.ite (State.pin_out t _ _ _) (OutOnly.refl t)) _ _
  · exact ((State.pin_out s _ _ _).trans (State.pin_out _ _ _ _)).trans (State.pin_out _ _ _ _)
  · exact State.pin_out s _ _ _
  · exact OutOnly.foldl (fun t _ => State.pin_out t _ _ _) _ _
  · exact OutOnly.refl s

/-- SLEEP's wake: the pins of the blocks that were off go to rest, the rest is `sleptBare`. -/
theorem State.slept_out (s : State) : OutOnly s.sleptBare s.slept :=
  OutOnly.foldl (fun t p => OutOnly.ite (State.pinsRest_out t p) (OutOnly.refl t)) _ _

end Sys2Proof.Machine
end

