-- ==== Sys2Proof/Tests/Slice0.lean ====
section
/-!
SUPPORT. Tests: the ill-formed terms that WellFormed refuses, worked examples of the spec, and one witness theorem for each
obligation that has hypotheses: a concrete state and operands that meet all of them, clause by clause.
-/

namespace Sys2Proof.Tests
open Sys2Proof.Machine
set_option maxRecDepth 20000
set_option Elab.async false

/-! ## Well-formedness: one ill-formed term for each check, beside the same term with the operand in range -/

theorem test_wf_refuses_bad_operands :
    ([.registerWrite (2 ^ 22) 4 0 0, .registerWrite 0 3 0 0, .registerWrite 0 4 (2 ^ 32) 0, .registerWrite 0 4 0 16,
   .ctrlEnable 225 0, .filteredLevelChange 16 false false false 0, .serialWord 0 (2 ^ 64) 0 false false false 0,
   .serialWord 0 0 65536 false false false 0, .observerUpdate 4, .emuEnable 8 0, .markWrite 2048 0 0 false 0,
   .markWrite 0 32 0 false 0, .markWrite 0 0 (2 ^ 32) false 0, .disarm 16 0, .load 8 0, .tileCheck 0 (2 ^ 30),
   .cursorEnable 16 false 0, .laneStart 32, .lineScreened 0 4, .scrdataAccess 0 false (2 ^ 32) 0,
   .nozzleWindowWrite (2 ^ 20) 0 false 0, .curveWindowWrite (2 ^ 19) 0 false 0, .entryWrite 0 64 false 0 0,
   .lineSet 64, .statIdent 0 (2 ^ 32) 0 0 0 0 0, .statIdent 0 0 65536 0 0 0 0, .statIdent 0 0 0 256 0 0 0,
   .statIdent 0 0 0 0 65536 0 0, .statIdent 0 0 0 0 0 65536 0, .statIdent 0 0 0 0 0 0 (2 ^ 32),
   .syncAnswer 0 0 0 0 256, .statHb 0 (2 ^ 32) 0 0 0 [] 0, .statHb 0 0 65536 0 0 [] 0, .statHb 0 0 0 65536 0 [] 0,
   .statHb 0 0 0 0 65536 [] 0, .statHb 0 0 0 0 0 [] (2 ^ 32), .statHb 0 0 0 0 0 (List.replicate 9 0) 0,
   .ack 0 256 0 0, .ack 0 0 (2 ^ 32) 0, .nak 0 16 0, .hlkFrameError 0 0 256 0, .camDown 12 0, .camDown 0 16,
   .expcmd 0 65536 0, .ccAck 0 3 0 0, .ccAck 0 0 65536 0, .malformedPacket 0 0 4, .homeLine 4, .furtherLine 0 3,
   .defLine 4, .win 4, .compress 8, .queueEnable 4096 0 0, .hostCompletion 256 0 false [],
   .hostCompletion 0 8 false []] : List Instr).all (fun i => i.wf == false) = true := by decide

theorem test_wf_refuses_more_bad_operands :
    ([.deviceMemoryAccess false (2 ^ 64) 0 [] false, .flr 2, .dmaStart 16 0 false, .sourceInput 4992, .claim 4 0,
   .pclaim 16 0, .swset 256 0, .latchCatch 32 false, .swfire 256 0 0, .swfire 0 (2 ^ 32) 0, .channelWrite 4096 0 0,
   .gpioInputEdge 64 false 0, .gpioout (2 ^ 64) 0, .axisStart 16 false 0, .tset (2 ^ 32) 0, .txEntry 2,
   .ping false false 16 0 0 0 0, .ping false false 0 16 0 0 0, .ringFrame false 0 64 0 0 0,
   .ringFrame false 0 0 65536 0 0, .ringFrame false 0 0 0 4 0, .ringFrame false 0 0 0 0 16,
   .tbFrame false false false 0 0 (2 ^ 32) [], .treq false 0 16 0 0 0 false false 0,
   .treq false 0 0 0 0 0 false false (2 ^ 64), .trsp false 0 0 0 0 256 0, .fack false 0 0 0 (2 ^ 32) false,
   .fackSend 16, .eccWriteback 4 0, .eccWriteback 0 (2 ^ 25), .scrub 3, .dramRequest 256 false 0 0 [] [] [],
   .dramRequest 0 false (2 ^ 40) 0 [] [] [], .refresh 0 32 0, .calGo 7 0 false 0, .calGo 0 256 false 0,
   .calDrift 5 0 0, .calDrift 0 0 256, .monitorRead 5 0 0, .monitorRead 0 256 0, .pmbusTransaction 256 0 0,
   .pmbusTransaction 0 3 0, .pmbusTransaction 0 0 65536, .objectVerify 3 [] false, .dqsTimeout 2, .dmi 4 0 0,
   .dmi 0 4096 0, .por 16, .pcieLinkUp 8 0, .pcieLinkUp 0 33, .pcieConfigRequest 0 16 0 0 0,
   .pcieConfigRequest 0 0 2048 0 0, .asyncChannelEdge 247 0 false, .hlkAlignRate 0 65536, .derateChange 0 4] : List Instr).all (fun i => i.wf == false) = true := by decide

theorem test_wf_accepts_operands_in_range :
    ([.ack 0 0 0 0, .asyncChannelEdge 248 0 false, .axisStart 0 false 0, .calDrift 0 0 0, .calGo 0 0 false 0,
   .camDown 0 0, .ccAck 0 0 0 0, .channelWrite 0 0 0, .claim 0 0, .compress 0, .ctrlEnable 0 0,
   .cursorEnable 0 false 0, .curveWindowWrite 0 0 false 0, .defLine 0, .derateChange 0 0,
   .deviceMemoryAccess false 0 0 [] false, .disarm 0 0, .dmaStart 0 0 false, .dmi 0 0 0, .dqsTimeout 0,
   .dramRequest 0 false 0 0 [] [] [], .eccWriteback 0 0, .emuEnable 0 0, .entryWrite 0 0 false 0 0, .expcmd 0 0 0,
   .fack false 0 0 0 0 false, .fackSend 0, .filteredLevelChange 0 false false false 0, .flr 0, .furtherLine 0 1,
   .gpioInputEdge 0 false 0, .gpioout 0 0, .hlkAlignRate 0 0, .hlkFrameError 0 0 0 0, .homeLine 0,
   .hostCompletion 0 0 false [], .laneStart 0, .latchCatch 0 false, .lineScreened 0 0, .lineSet 0, .load 0 0,
   .malformedPacket 0 0 0, .markWrite 0 0 0 false 0, .monitorRead 0 0 0, .nak 0 0 0,
   .nozzleWindowWrite 0 0 false 0, .objectVerify 0 [] false, .observerUpdate 0, .pcieConfigRequest 0 0 0 0 0,
   .pcieLinkUp 0 0, .pclaim 0 0, .ping false false 0 0 0 0 0, .pmbusTransaction 0 0 0, .por 0, .queueEnable 0 0 0,
   .refresh 0 0 0, .registerWrite 0 4 0 0, .ringFrame false 0 0 0 0 0, .scrdataAccess 0 false 0 0, .scrub 0,
   .serialWord 0 0 0 false false false 0, .sourceInput 0, .statHb 0 0 0 0 0 [] 0, .statIdent 0 0 0 0 0 0 0,
   .swfire 0 0 0, .swset 0 0, .syncAnswer 0 0 0 0 0, .tbFrame false false false 0 0 0 [], .tileCheck 0 0,
   .treq false 0 0 0 0 0 false false 0, .trsp false 0 0 0 0 0 0, .tset 0 0, .txEntry 0, .win 0] : List Instr).all (·.wf) = true := by decide

/-! ## Worked examples of the spec -/

/-- 06, "one nozzle, corrected and diffused": curve 17 gives 30,000, gain 538 and offset -3 give 31,331. -/
theorem test_corrected_value :
    ({ State.reset with nct := { State.reset.nct with cur0 := [(17 * 256 + 128, 30000)] } } : State).corrected false
      0x0FD86811 32896 = 31331 := by decide

/-- The B set of that example: Stucki kernel, reset levels and thresholds. -/
def stucki : List Nat := [2, 0x180C1831, 0x060C1831, 0x060C180C, 0xAAAA5555, 0x2AABFFFF, 0xD5558000]

/-- 06, steps 5 and 6: w = 50,131 fires a medium drop and diffuses 1,232, 603, 301 and 150. -/
theorem test_error_diffusion :
    Rows.pixel ⟨[(164, -1200)], [], []⟩ stucki 0 1000 100 ⟨false, false, 51331⟩ =
      (⟨[(164, -1200), (165, 1232), (166, 603)], [(162, 301), (163, 603), (164, 1232), (165, 603), (166, 301)],
        [(162, 150), (163, 301), (164, 603), (165, 301), (166, 150)]⟩, 2) := by decide

/-- 06 R122: U = 51,331 fires a large drop where t < 22,923. -/
theorem test_threshold_array : (thresholdCode stucki 51331 22922, thresholdCode stucki 51331 22923) = (3, 2) := by decide

/-- 655.36 WU per cycle in 2^-32 WU. -/
def pressSpeed : Int := 65536 * 2 ^ 32 / 100

/-- A line of the reference press with overshoot `o` in 2^-24 WU. -/
def pressLine (o : Nat) : Started := ⟨1, 0, pressSpeed, o, 0, 2000000, [], false, [], false, 0, 0, 0, [], [], (0, 0)⟩

/-- 08, "line 1 of PBA0": T(0) = n + 3,051 + 19,664 / 65,536 and T(1) = n1 + 3,050 + 63,367 / 65,536. -/
theorem test_fire_instant :
    fireTime (pressLine (300 * 2 ^ 24)) 2000000 false 0 = 3051 * 65536 + 19664 ∧
    fireTime (pressLine (518 * 2 ^ 24 + 5592405)) 2000000 false 0 = 3050 * 65536 + 63367 := by decide

/-- 10, "trigger instants": T_trig(0) = n + 599 + 35,536 / 65,536, T_trig(1) = n + 4,832 + 57,469 / 65,536. -/
theorem test_trigger_instant :
    trigTime ⟨0, 0, pressSpeed, 300 * 2 ^ 24, 0, 0, none⟩ 600 false = 599 * 65536 + 35536 ∧
    trigTime ⟨1, 4233, pressSpeed, 80 * 2 ^ 24 + 11184811, 0, 0, none⟩ 600 false = 4832 * 65536 + 57469 := by decide

/-- 03, "a roller rocking at standstill": GATE = 2 on the 12.5 µm encoder. -/
def rocking (turn : Int) (rev : Bool) : State :=
  (((State.reset.setRg64 (pgENC 0) Reg.ENC.C2WU 0xC800000000000).setRg (pgOBS 0) Reg.OBS.GATE 2).setFl (pgOBS 0)
    Reg.OBS.OSTAT 2 2 (b2n rev)).setObs 0 { Obs.reset with turn := turn }

/-- 03, steps 3, 4, 6 and 7: the value equal to HIGH - width stays, one count more reverses, and back. -/
theorem test_backlash_gate :
    [((rocking 5000000000 false).backlash 0 4998361600).rgI (pgOBS 0) Reg.OBS.WPOS_S,
      ((rocking 5000000000 false).backlash 0 4997542400).rgI (pgOBS 0) Reg.OBS.WPOS_S,
      ((rocking 4997542400 true).backlash 0 4999180800).rgI (pgOBS 0) Reg.OBS.WPOS_S,
      ((rocking 4997542400 true).backlash 0 5000000000).rgI (pgOBS 0) Reg.OBS.WPOS_S] =
    [5000000000, 4997542400, 4997542400, 5000000000] := by decide

/-- 09, "HLK0 of the reference press": INTAKE 27, FLIGHT 10, seven channels of 4,096 nozzles give LLAT = 1,290. -/
theorem test_link_latency :
    (((((List.range 7).foldl (fun s c => s.setFl (pgHLK 0) (Reg.HLK.CHCFG c) 12 0 4096) State.reset).setRg (pgHLK 0)
      Reg.HLK.BIDENT (27 * 65536)).setRg (pgHLK 0) Reg.HLK.FLIGHT (10 * 65536)).setFl (pgHLK 0) Reg.HLK.CFG 15 8 0x7F).llat 0 =
        1290 := by decide

/-- 12, the scuff: a crop of 64 for extents of 12 and of 40; 256 above 112. -/
theorem test_crop_size : [cropSize 12, cropSize 40, cropSize 48, cropSize 49, cropSize 113] = [64, 64, 64, 128, 256] := by
  decide

/-- 13, "a weak nozzle": RATIO 12,288, WEAK, written and CLAMPED, gain 548. -/
theorem test_gain_entry :
    (clpEntry ⟨0, [], [], false, 520, 13107 + 3277 * 65536, 0, 0, 0, 0, none⟩ true 0x0FD86811 141732000 188976000 0).word =
      12288 + 26 * 65536 ∧
    (clpEntry ⟨0, [], [], false, 520, 13107 + 3277 * 65536, 0, 0, 0, 0, none⟩ true 0x0FD86811 141732000 188976000 0).write =
      some (548, true) := by decide

/-- 18, "steering the rate": with INC = 0x4000_346D_C5D6 T advances by 1,000,012,500 ns in a second (less the rounding of
INC). -/
theorem test_rate_steering : (⟨0, 0, 0x4000346DC5D6, [], [], []⟩ : Ptp).timeAt 250000000 / 2 ^ 32 = 1000012499 := by decide

/-- 16: source 4,174 is the page with PRESENT index 78 (DEF0), 4,422 is ECH70. -/
theorem test_source_numbers : 4096 + pgDEF 0 = 4174 ∧ srcIsEdge 4422 = true ∧ 4352 + 70 = 4422 := by decide

/-! ## Witnesses -/

/-- The machine at cycle `n` with the register window open, the pages of `ps` in RUN and register words set. -/
def at_ (ps : List Nat) (rs : List (Nat × Nat × Nat)) (n : Nat) : State :=
  rs.foldl (fun s r => s.setRg r.1 r.2.1 r.2.2) (ps.foldl (fun s p => s.setPage p { s.page p with en := true, run := true, state := .run })
    ({ State.reset with cycle := n }.setRg pgRSTC Reg.RSTC.BOOT (2 ^ 16)))

/-- The machine at cycle 0 with the window open. -/
def W : State := at_ [] [] 0

/-- A mirrored or plain write that its page takes. -/
theorem meetsW {s : State} {p req off d : Nat} {w : Bool} (hr : req ≠ 0) (h : s.admits p req = true) :
    s.meets p req off w d s := meets_unmirrored (Or.inl hr) h _ _ _

/-- A trigger of task `k` of page `p`. -/
def tg (p k : Nat) : Trig := ⟨p, k, 0, 0, 0, 0, 0, 0, 1, [], none⟩

/-- The machine with the trigger of task `k` of page `p` waiting. -/
def trigAt (p k : Nat) : State := { at_ [p] [] 0 with trigs := [tg p k] }

/-- The machine with the channels of DRAM in RUN and bytes at an address. -/
def dram (ps : List Nat) (rs : List (Nat × Nat × Nat)) (a : Nat) (bs : List Byte) : State :=
  let s := at_ (ps ++ (List.range 8).map (fun n => Blk.dmc.page n)) rs 0
  { s with dram := Memory.setBytes (dramEmpty 0) [] a bs }

/-- Queue 0 serves a unit's port and holds `n` entries at address 4,096. -/
def withQ (u port n : Nat) (s : State) : State :=
  s.setQueue 0 { Queue.reset with en := true, unit := u, port := port, pidx := n, base := 4096, esz := 2 }

/-- RTT and the link's hidden state leave LSTATE and STEP. -/
theorem lstate_rtt {s : State} (hw : Tbl.wf s.regs = true) (n : Nat) (v : Nat) (x : Link) :
    ((s.setRg (pgHLK n) Reg.HLK.RTT v).setLink n x).lstate n = s.lstate n ∧
    ((s.setRg (pgHLK n) Reg.HLK.RTT v).setLink n x).lstep n = s.lstep n := by
  have h : ((s.setRg (pgHLK n) Reg.HLK.RTT v).setLink n x).rg (pgHLK n) Reg.HLK.LSTAT = s.rg (pgHLK n) Reg.HLK.LSTAT :=
    State.rg_setRg_ne hw _ (by simp [regKey, Reg.HLK.LSTAT, Reg.HLK.RTT])
  exact ⟨by simp only [State.lstate, State.fl, h], by simp only [State.lstep, State.fl, h]⟩

/-- RTT leaves the answers counted. -/
theorem answers_rtt {s : State} {n v : Nat} {x : Link} {p : Nat → Prop} (h : p x.answers) :
    p (((s.setRg (pgHLK n) Reg.HLK.RTT v).setLink n x).link n).answers := by
  simpa using h

/-- The state a command leads to. -/
def nextOf (c : Instr) (s : State) : State :=
  match exec c s with
  | .next u => u
  | _ => s

theorem witness_StepRunsTheFrontCommand :
    ∃ (c : Instr) (rest : List Instr) (s : State), s.pending = c :: rest :=
  ⟨.idcode, [], { W with pending := [.idcode] }, rfl⟩

theorem witness_IdleStepCountsOneCycle :
    (∃ (s : State), s.pending = [] ∧ s.clocked = true) ∧
    (∃ (s : State), s.pending = [] ∧ s.clocked = false) :=
  ⟨⟨W, by decide, by decide⟩,
    ⟨{ W with pwr := { Pwr.reset with state := 4 } }, by decide, by decide⟩⟩

theorem witness_StepTakesTheFrontCommandAndKeepsThePart :
    ∃ (s s' : State), step s = .next s' :=
  ⟨W, _, rfl⟩

theorem witness_OwnerResetValues :
    ∃ p < 225, p ≠ pgKEEP ∧ p ≠ pgDBGC :=
  ⟨0, by decide, by decide, by decide⟩

theorem witness_PageControlWritesComplete :
    (∃ (s t : State) (p req : Nat), s.meets32 p req 8 (s.ctrlWord p 1 0) t) ∧
    (∃ (s t : State) (p req : Nat), s.meets32 p req 8 (s.ctrlWord p 0 1) t) ∧
    (∃ (s t : State) (p req : Nat), s.meets32 p req 8 (s.ctrlWord p 2 0) t) ∧
    (∃ (s t : State) (p req : Nat), s.meets32 p req 8 (s.ctrlWord p 0 2) t) ∧
    (∃ (s t : State) (p req : Nat), s.meets32 p req 8 (s.ctrlWord p 4 0) t) ∧
    (∃ (s t : State) (p req : Nat), s.meets32 p req 8 (s.ctrlWord p 8 0) t) ∧
    (∃ (s t : State) (p req : Nat), s.meets32 p req 8 (s.ctrlWord p 0 8) t) :=
  ⟨⟨W, _, 0, 6, meetsW (by decide) (by decide)⟩,
    ⟨W, _, 0, 6, meetsW (by decide) (by decide)⟩,
    ⟨W, _, 0, 6, meetsW (by decide) (by decide)⟩,
    ⟨W, _, 0, 6, meetsW (by decide) (by decide)⟩,
    ⟨W, _, 0, 6, meetsW (by decide) (by decide)⟩,
    ⟨W, _, 0, 6, meetsW (by decide) (by decide)⟩,
    ⟨W, _, 0, 6, meetsW (by decide) (by decide)⟩⟩

theorem witness_ControlMovesTheStateOfPlainPages :
    (∃ (s : State) (p req : Nat), p ∈ plainPages ∧ s.admits p req = true ∧ s.unmirrored req ∧ (s.page p).state = .off ∧
      (s.page p).run = false) ∧
    (∃ (s : State) (p req : Nat), p ∈ plainPages ∧ s.admits p req = true ∧ s.unmirrored req ∧
      (s.page p).state = .idle ∧ (s.page p).en = true) ∧
    (∃ (s : State) (p req : Nat), p ∈ plainPages ∧ s.admits p req = true ∧ s.unmirrored req ∧ (s.page p).state = .run ∧
      (s.page p).en = true) :=
  ⟨⟨W, pgEVF, 6, by decide, by decide, Or.inl (by decide), by decide, by decide⟩,
    ⟨W.setPage pgEVF { W.page pgEVF with en := true, state := .idle }, pgEVF, 6, by decide,
      by decide, Or.inl (by decide), by decide, by decide⟩,
    ⟨at_ [pgEVF] [] 0, pgEVF, 6, by decide, by decide, Or.inl (by decide), by decide, by decide⟩⟩

theorem witness_PageHeaderCommandsComplete :
    (∃ (s : State) (p : Nat), (s.page p).state = .drain ∧ s.pageDrained p = true ∧ (s.page p).run = false) ∧
    (∃ (s : State) (p : Nat), (s.page p).state = .drain ∧ s.pageDrained p = true ∧ (s.page p).run = true) ∧
    (∃ (s : State) (p req : Nat) (e : LogEntry) (es : List LogEntry), s.readable p req ∧ (s.page p).log = e :: es) ∧
    (∃ (s : State) (p req : Nat), s.readable p req ∧ (s.page p).log = []) ∧
    (∃ (s t : State) (p req : Nat), s.meets32 p req 0x24 (0x200 + 0x100 * b2n (s.page p).logMode) t) ∧
    (∃ (s t : State) (p req : Nat), s.meets32 p req 0x20 (s.headRead p 0x20 ||| 2 ^ 31) t ∧ (t.page p).lock = false) ∧
    (∃ (s t : State) (p req : Nat), s.meets32 p req 0x30 ((s.headRead p 0x30 &&& 0xFFFF) ||| 2 ^ 16) t) ∧
    (∃ (s : State) (p : Nat), p ≠ pgTLK ∧ (s.page p).violStart + s.violWindow p ≤ s.cycle) ∧
    (∃ (s : State), (s.page pgTLK).violStart + s.violWindow pgTLK ≤ s.cycle) :=
  ⟨⟨(at_ [pgEVF] [] 0).setPage pgEVF { W.page pgEVF with state := .drain, run := false }, pgEVF, by decide,
      by decide, by decide⟩,
    ⟨(at_ [pgEVF] [] 0).setPage pgEVF { W.page pgEVF with state := .drain, run := true }, pgEVF, by decide, by decide,
      by decide⟩,
    ⟨W.err 1 0 0 0, 1, 6, ⟨0, 0, 0⟩, [], ⟨by decide, by decide, by decide⟩, rfl⟩,
    ⟨W, 0, 6, ⟨by decide, by decide, by decide⟩, by decide⟩,
    ⟨W, _, 0, 6, meetsW (by decide) (by decide)⟩,
    ⟨W, _, 0, 6, meetsW (by decide) (by decide), by decide⟩,
    ⟨W, _, 0, 6, meetsW (by decide) (by decide)⟩,
    ⟨at_ [] [] 250000, 1, by decide, by decide⟩,
    ⟨at_ [] [] 250000, by decide⟩⟩

theorem witness_RegisterWriteComplete :
    ∃ (s t : State) (p off v req : Nat), off < 0x200000 ∧ off % 4 = 0 ∧ pageAt off = some p ∧ 0x100 ≤ off % 4096 ∧
      off % 4096 < 0x800 ∧ s.meets p req off false v t ∧ t.ruleWrite p (off % 4096) (v % 2 ^ 32) req = none ∧
      sbOffset off = none :=
  ⟨W, _, 1, 0x1100, 0, 6, by decide, by decide, rfl, by decide, by decide, meetsW (by decide) (by decide),
      by decide, by decide⟩

theorem witness_ChangeClassesGovernAWord :
    (∃ (s : State) (p o v : Nat), s.Inv ∧ v < 2 ^ 32 ∧ classMask p o (·.s) = 0 ∧ classMask p o (·.b) = 0 ∧
      classMask p o (·.l) ≠ 0) ∧
    (∃ (s : State) (p o v : Nat), s.Inv ∧ v < 2 ^ 32 ∧ classMask p o (·.s) = 0 ∧ classMask p o (·.l) = 0 ∧
      classMask p o (·.b) ≠ 0 ∧ v &&& classMask p o (·.b) ≠ s.normal p o &&& classMask p o (·.b)) ∧
    (∃ (s : State) (p o v : Nat), s.Inv ∧ v < 2 ^ 32 ∧ classMask p o (·.b) = 0 ∧ classMask p o (·.l) = 0 ∧
      classMask p o (·.s) ≠ 0 ∧ v &&& classMask p o (·.s) ≠ s.normal p o &&& classMask p o (·.s) ∧ (s.page p).run = true) :=
  ⟨⟨W, pgCAM 0, 0x130, 255, ⟨⟨rfl, rfl, rfl⟩, rfl, rfl⟩, by decide, by decide, by decide, by decide⟩,
    ⟨W, pgCAM 0, 0x134, 15, ⟨⟨rfl, rfl, rfl⟩, rfl, rfl⟩, by decide, by decide, by decide, by decide, by decide⟩,
    ⟨at_ [pgCAM 0] [] 0, pgCAM 0, 0x104, 1, ⟨⟨rfl, rfl, rfl⟩, rfl, rfl⟩, by decide, by decide, by decide, by decide,
      by decide, by decide⟩⟩

theorem witness_DrainStoresSWritesUntilIdle :
    ∃ (s : State) (p o v : Nat), s.Inv ∧ v < 2 ^ 32 ∧ o < 4096 ∧ (s.page p).state = .drain ∧ (s.page p).run = false ∧
      s.stored.filter (fun e => e.1 / 4096 == p) = [] ∧ classMask p o (·.b) = 0 ∧ classMask p o (·.l) = 0 ∧
      classMask p o (·.s) ≠ 0 ∧ v &&& classMask p o (·.s) ≠ s.normal p o &&& classMask p o (·.s) :=
  ⟨(at_ [(pgENC 0)] [] 0).setPage (pgENC 0) { W.page (pgENC 0) with state := .drain, run := false }, pgENC 0, 0x100, 1, ⟨⟨rfl,
      rfl, rfl⟩, rfl, rfl⟩, by decide, by decide, by decide, by decide, by decide, by decide, by decide, by decide,
      by decide⟩

theorem witness_AbsentPagesReadZeroAndIgnoreWrites :
    ∃ (s : State) (off size v req : Nat), off < 0x200000 ∧ (∀ p, pageAt off = some p → s.present p = false) :=
  ⟨W, 0x1FFFFC, 0, 0, 6, by decide, by intro p h; revert h; simp [show pageAt 0x1FFFFC = none from by decide]⟩

theorem witness_UnsupportedAccessesAreLogged :
    ∃ (s : State) (p off size v req : Nat), pageAt off = some p ∧ off < 0x200000 ∧ accessOk off size = false ∧
      s.present p = true ∧ s.reaches req = true :=
  ⟨W, 0, 0, 0, 0, 6, rfl, by decide, by decide, by decide, by decide⟩

theorem witness_OwnerAndSecGuardThePage :
    (∃ (s : State) (p off size req : Nat), pageAt off = some p ∧ off < 0x200000 ∧ accessOk off size = true ∧
      s.present p = true ∧ s.reaches req = true ∧ (s.page p).sec = true ∧ s.secure req = false) ∧
    (∃ (s : State) (p off size v req : Nat), pageAt off = some p ∧ off < 0x200000 ∧ accessOk off size = true ∧
      s.present p = true ∧ s.reaches req = true ∧ ((s.page p).sec = true ∧ s.secure req = false ∨ (s.page p).own ≠ 0xF ∧
      (s.page p).own ≠ req ∧ req ≠ 6)) ∧
    (∃ (s : State) (p req : Nat), (s.page p).sec = false ∧ ((s.page p).own = 0xF ∨ (s.page p).own = req ∨ req = 6)) :=
  ⟨⟨W.setPage 1 { W.page 1 with sec := true }, 1, 0x1008, 4, 0, rfl, by decide, by decide, by decide, by decide,
      by decide, by decide⟩,
    ⟨W.setPage 1 { W.page 1 with own := 2 }, 1, 0x1008, 8, 0, 0, rfl, by decide, by decide, by decide, by decide,
      by decide⟩,
    ⟨W, 0, 6, by decide, by decide⟩⟩

theorem witness_ErrorEventsAreLogged :
    ∃ (s : State) (p b code ctx : Nat), b < 32 :=
  ⟨W, 0, 0, 0, 0, by decide⟩

theorem witness_EncoderCommandsComplete :
    (∃ (s : State) (n held : Nat) (a b z : Bool), n < 16 ∧ s.running (pgENC n) = true ∧ (s.page (pgENC n)).en = true ∧
      (s.encOf n).sampling = true ∧ s.fl (pgENC n) Reg.ENC.CFG 7 4 < held ∧ s.encMode n = 0) ∧
    (∃ (s t : State) (n : Nat) (low : Bool), s.unitRuns .enc n = true ∧ s.encMode n ≠ 0 ∧
      (s.encOf n).lastReq + s.fl (pgENC n) Reg.ENC.SERPER 19 0 ≤ s.cycle ∧
      t = s.setEnc n { s.encOf n with lastReq := s.cycle } ∧ t.encBusy n = false ∧ ¬ (t.encMode n = 1 ∧ low = true)) ∧
    (∃ (s t : State) (n : Nat) (low : Bool), s.unitRuns .enc n = true ∧ s.encMode n ≠ 0 ∧
      (s.encOf n).lastReq + s.fl (pgENC n) Reg.ENC.SERPER 19 0 ≤ s.cycle ∧
      t = s.setEnc n { s.encOf n with lastReq := s.cycle } ∧ t.encBusy n = true) ∧
    (∃ (s t : State) (n : Nat) (low : Bool), s.unitRuns .enc n = true ∧ s.encMode n ≠ 0 ∧
      (s.encOf n).lastReq + s.fl (pgENC n) Reg.ENC.SERPER 19 0 ≤ s.cycle ∧
      t = s.setEnc n { s.encOf n with lastReq := s.cycle } ∧ t.encBusy n = false ∧ t.encMode n = 1 ∧ low = true) ∧
    (∃ (s t : State) (n pos crc delay w : Nat) (nE nW par : Bool), s.unitRuns .enc n = true ∧ s.encAwaits n = true ∧
      w = pos % 2 ^ s.encBits n ∧ t = (s.encEnds n).setRg64 (pgENC n) Reg.ENC.LASTWORD w ∧ t.encMode n ≠ 2 ∧
      (t.fl (pgENC n) Reg.ENC.CFG 13 12 = 1 → oddOnes (s.encBits n) w = par) ∧
      (t.fl (pgENC n) Reg.ENC.CFG 13 12 = 2 → oddOnes (s.encBits n) w ≠ par)) ∧
    (∃ (s t u : State) (n pos crc delay w : Nat) (nE nW par : Bool), s.unitRuns .enc n = true ∧ s.encAwaits n = true ∧
      w = pos % 2 ^ s.encBits n ∧ u = (s.encEnds n).setRg64 (pgENC n) Reg.ENC.LASTWORD w ∧ u.encMode n = 2 ∧
      t = u.setRg (pgENC n) Reg.ENC.DELAY delay ∧ (t.fl (pgENC n) Reg.ENC.SERCFG 11 8 ≠ 0 → crc = t.encCrc n w nE nW) ∧
      (t.fb (pgENC n) Reg.ENC.SERCFG 24 = true → nE = true)) ∧
    (∃ (s : State) (n : Nat), s.unitRuns .enc n = true ∧ s.encMode n = 2 ∧ s.encAwaits n = true ∧
      (s.encOf n).reqLatch + s.fl (pgENC n) Reg.ENC.SWTMO 15 0 ≤ s.cycle) :=
  ⟨⟨(at_ [pgENC 15] [] 0).setEnc 15 { W.encOf 15 with sampling := true }, 15, 16, false, false, false, by decide,
      by decide, by decide, by decide, by decide, by decide⟩,
    ⟨(at_ [pgENC 0] [(pgENC 0, Reg.ENC.CFG, 1)] 5000), _, 0, false, by decide, by decide, by decide, rfl, by decide,
      by decide⟩,
    ⟨(at_ [pgENC 0] [(pgENC 0, Reg.ENC.CFG, 1), (pgENC 0, Reg.ENC.INSTAT, 8)] 5000), _, 0, false, by decide,
      by decide, by decide, rfl, by decide⟩,
    ⟨(at_ [pgENC 0] [(pgENC 0, Reg.ENC.CFG, 1)] 5000), _, 0, true, by decide, by decide, by decide, rfl, by decide,
      by decide, by decide⟩,
    ⟨(at_ [pgENC 0] [(pgENC 0, Reg.ENC.CFG, 1), (pgENC 0, Reg.ENC.INSTAT, 8)] 5), _, 0, 0, 0, 0, 0, false, false, false,
      by decide, by decide, rfl, rfl, by decide, by decide, by decide⟩,
    ⟨(at_ [pgENC 0] [(pgENC 0, Reg.ENC.CFG, 2), (pgENC 0, Reg.ENC.INSTAT, 8), (pgENC 0, Reg.ENC.SERCFG, 0)] 5), _, _, 0, 0, 0, 0, 0, false, false, false,
      by decide, by decide, rfl, rfl, by decide, rfl, by decide, by decide⟩,
    ⟨(at_ [pgENC 0] [(pgENC 0, Reg.ENC.CFG, 2), (pgENC 0, Reg.ENC.INSTAT, 8)] 65535), 0, by decide, by decide,
      by decide, by decide⟩⟩

theorem witness_EmulatorOverrunSetsTheCount :
    ∃ (s : State) (ch : Nat), s.Inv ∧ ch < 8 ∧ s.running pgEMU = true ∧ s.fb pgEMU (Reg.EMU.chCFG ch) 0 = true ∧
      s.fl pgEMU (Reg.EMU.chLAGMAX ch) 7 0 < (s.emuTarget ch - sgn 32 (s.rg pgEMU (Reg.EMU.chOUTCNT ch))).natAbs :=
  ⟨at_ [pgEMU] [(pgEMU, Reg.EMU.chCFG 7, 1), (pgEMU, Reg.EMU.chOUTCNT 7, 300)] 0, 7, ⟨⟨rfl, rfl, rfl⟩, rfl, rfl⟩,
      by decide, by decide, by decide, by decide⟩

theorem witness_ObserverAndEmulatorCommandsComplete :
    (∃ (s : State) (d : Nat) (pr ps : Int), s.unitRuns .obs d = true ∧ s.obsMode d = 3 ∧
      pr = fix96 ((s.obsOf d).p + (s.obsOf d).v) ∧ ps = (if (s.obsOf d).v < 0 ∧
      s.fb (pgOBS d) Reg.OBS.OSTAT 2 = false then (s.obsOf d).ps
      else fix96 ((s.obsOf d).ps + (s.obsOf d).v))) ∧
    (∃ (s t u : State) (d : Nat), s.unitRuns .obs d = true ∧ s.obsMode d = 0 ∧ t = (s.trackSources d).noteSources d ∧
      t.obsMode d = 0 ∧ u = t.trackLoop d (t.trackMeas d)) ∧
    (∃ (s t u : State) (d : Nat), s.unitRuns .obs d = true ∧ s.obsMode d = 1 ∧ s.usableSrc d false = false ∧
      s.usableSrc d true = false ∧ t = s.noteSources d ∧ t.obsMode d = 1 ∧ (t.obsOf d).v ≠ 0 ∧
      u = t.setObs d { t.obsOf d with
      p := fix96 ((t.obsOf d).p + (t.obsOf d).v)
      coast := (t.obsOf d).coast + 1 }) ∧
    (∃ (s : State) (d : Nat), s.unitRuns .obs d = true ∧ s.obsMode d = 1 ∧ (s.obsOf d).v ≠ 0 ∧
      s.rg (pgOBS d) Reg.OBS.COASTMAX ≤ (s.obsOf d).coast) ∧
    (∃ (s t : State) (d req : Nat), d < 4 ∧ s.meets32 (pgOBS d) req Reg.OBS.CMD 2 t) ∧
    (∃ (s t : State) (d req : Nat), d < 4 ∧ s.meets32 (pgOBS d) req Reg.OBS.CMD 1 t) ∧
    (∃ (s t : State) (d req : Nat) (g : Trig), d < 4 ∧ s.takeTrig (pgOBS d) 0 = some (g, t)) ∧
    (∃ (s t : State) (ch req : Nat), ch < 8 ∧
      s.meets32 pgEMU req (Reg.EMU.chCFG ch) (s.rg pgEMU (Reg.EMU.chCFG ch) ||| 1) t) ∧
    (∃ (s : State) (ch : Nat) (c : Int), ch < 8 ∧ s.running pgEMU = true ∧ s.fb pgEMU (Reg.EMU.chCFG ch) 0 = true ∧
      c = sgn 32 (s.rg pgEMU (Reg.EMU.chOUTCNT ch)) ∧
      (s.emuTarget ch - c).natAbs ≤ s.fl pgEMU (Reg.EMU.chLAGMAX ch) 7 0 ∧ c < s.emuTarget ch ∧
      (s.emuOf ch).lastEdge + s.fl pgEMU (Reg.EMU.chMINEDGE ch) 15 0 ≤ s.cycle) ∧
    (∃ (s : State) (ch : Nat) (c : Int), ch < 8 ∧ s.running pgEMU = true ∧ s.fb pgEMU (Reg.EMU.chCFG ch) 0 = true ∧
      c = sgn 32 (s.rg pgEMU (Reg.EMU.chOUTCNT ch)) ∧
      (s.emuTarget ch - c).natAbs ≤ s.fl pgEMU (Reg.EMU.chLAGMAX ch) 7 0 ∧ s.emuTarget ch < c ∧
      (s.emuOf ch).lastEdge + s.fl pgEMU (Reg.EMU.chMINEDGE ch) 15 0 ≤ s.cycle) :=
  ⟨⟨at_ [pgOBS 0, pgENC 0] [(pgOBS 0, Reg.OBS.OSTAT, 3)] 0, 0, 0, 0, by decide, by decide, rfl, rfl⟩,
    ⟨at_ [pgOBS 0, pgENC 0] [(pgOBS 0, Reg.OBS.OSTAT, 0)] 0, _, _, 0, by decide, by decide, rfl, by decide, rfl⟩,
    ⟨(at_ [pgOBS 0] [(pgOBS 0, Reg.OBS.OSTAT, 1)] 0).setObs 0 { W.obsOf 0 with v := 1 }, _, _, 0, by decide,
      by decide, by decide, by decide, rfl, by decide, by decide, rfl⟩,
    ⟨(at_ [pgOBS 0, pgENC 0] [(pgOBS 0, Reg.OBS.OSTAT, 1)] 0).setObs 0 { W.obsOf 0 with v := 1, coast := 250000 }, 0,
      by decide, by decide, by decide, by decide⟩,
    ⟨W, _, 0, 6, by decide, meetsW (by decide) (by decide)⟩,
    ⟨W, _, 0, 6, by decide, meetsW (by decide) (by decide)⟩,
    ⟨trigAt (pgOBS 0) 0, _, 0, 6, _, by decide, rfl⟩,
    ⟨W, _, 0, 6, by decide, meetsW (by decide) (by decide)⟩,
    ⟨at_ [pgEMU] [(pgEMU, Reg.EMU.chCFG 0, 1), (pgEMU, Reg.EMU.chOUTCNT 0, 0xFFFFFFFF), (pgEMU, Reg.EMU.chLAGMAX 0, 255)] 70000, 0, _,
      by decide, by decide, by decide, rfl, by decide, by decide, by decide⟩,
    ⟨at_ [pgEMU] [(pgEMU, Reg.EMU.chCFG 0, 1), (pgEMU, Reg.EMU.chOUTCNT 0, 1), (pgEMU, Reg.EMU.chLAGMAX 0, 255)] 70000, 0, _,
      by decide, by decide, by decide, rfl, by decide, by decide, by decide⟩⟩

theorem witness_MarkCommandsComplete :
    (∃ (s t : State) (m off v req : Nat) (wide : Bool), m < 2048 ∧ off < 32 ∧
      s.meets pgPSC req (0x260000 + m * 32 + off) wide v t) ∧
    (∃ (s t : State), t = (s.markWrites.filter (fun w => decide (w.at_ + 2 ≤ s.cycle))).foldl State.markEffect s) ∧
    (∃ (s t u : State), s.running pgPSC = true ∧
      t = [0, 1, 2, 3].foldl (fun x d => if Tbl.getD x.markEpochs d 0 ≠ 0 then
      { x.rearmDomain d with markEpochs := Tbl.put x.markEpochs d 0 } else x) s ∧
      u = (t.marks.filter (fun e => !(e.2.mstate == 1 && !e.2.arming &&
      (e.2.deferred || decide (e.2.tInt ≤ t.wposS e.2.dom))))).foldl (fun x e => x.markEval e.1) t) ∧
    (∃ (s : State) (d : Nat), s.running pgPSC = true ∧ Tbl.getD s.markEpochs d 0 = 0) ∧
    (∃ (s t : State) (doms req : Nat), s.meets32 pgPSC req Reg.PSC.DISARM doms t) :=
  ⟨⟨W, _, 0, 0, 0, 6, false, by decide, by decide, meetsW (by decide) (by decide)⟩,
    ⟨W, _, rfl⟩,
    ⟨at_ [pgPSC] [] 0, _, _, by decide, rfl, rfl⟩,
    ⟨at_ [pgPSC] [] 0, 0, by decide, by decide⟩,
    ⟨W, _, 0, 6, meetsW (by decide) (by decide)⟩⟩

theorem witness_JobCommandsComplete :
    (∃ (s t : State) (k req : Nat), k < 8 ∧
      s.meets32 pgJOB req (Reg.JOB.slotCTRL k) (s.rg pgJOB (Reg.JOB.slotCTRL k) &&& 0xFF0 ||| 1) t) ∧
    (∃ (s t u : State) (k : Nat) (h tab : List Byte) (x : JobHead) (n rt : Nat) (reps : List Rep), k < 8 ∧
      s.awake pgJOB = true ∧ s.jobState k = 1 ∧
      s.dramRead (unitWho pgJOB) (s.rg64 pgJOB (Reg.JOB.slotBASE k)) 128 = (t, some h) ∧ parseHead h = some (x, n, rt) ∧
      t.dramRead (unitWho pgJOB) (s.rg64 pgJOB (Reg.JOB.slotBASE k) + rt) (n * 32) = (u, some tab) ∧
      parseReps x.width n tab = some reps ∧ x.enc = false) ∧
    (∃ (s t : State) (k : Nat) (h : List Byte), k < 8 ∧ s.awake pgJOB = true ∧ s.jobState k = 1 ∧
      s.dramRead (unitWho pgJOB) (s.rg64 pgJOB (Reg.JOB.slotBASE k)) 128 = (t, some h) ∧ parseHead h = none) ∧
    (∃ (s t : State) (k req : Nat), k < 8 ∧
      s.meets32 pgJOB req (Reg.JOB.slotCTRL k) (s.rg pgJOB (Reg.JOB.slotCTRL k) &&& 0xFF0 ||| 2) t) ∧
    (∃ (s t : State) (k req : Nat), k < 8 ∧
      s.meets32 pgJOB req (Reg.JOB.slotCTRL k) (s.rg pgJOB (Reg.JOB.slotCTRL k) &&& 0xFF0 ||| 4) t) ∧
    (∃ (s t : State) (k : Nat) (h : JobHead), s.awake pgJOB = true ∧ k ∈ s.verifying ∧ s.jobHead k = some h ∧
      t = h.allTiles.foldl (fun x i => x.checkTile [] k h i) s) ∧
    (∃ (s : State) (k v : Nat) (h : JobHead) (i : TileId), k < 8 ∧ s.awake pgJOB = true ∧ s.jobHead k = some h ∧
      h.tileOf v = some i ∧ (s.askers k i ≠ [] ∨ k ∈ s.verifying)) ∧
    (∃ (s t : State) (b req : Nat) (en : Bool), b < s.nBarCur ∧
      s.meets32 pgJOB req (Reg.JOB.bcurCFG b) (setBits (s.normal pgJOB (Reg.JOB.bcurCFG b)) 0 0 (b2n en)) t) :=
  ⟨⟨W, _, 0, 6, by decide, meetsW (by decide) (by decide)⟩,
    ⟨dram [pgJOB] [(pgJOB, Reg.JOB.slotSTAT 0, 1)] 0 (leBytes 4 0x424F4A4B ++ leBytes 2 1 ++ leBytes 2 128 ++ leBytes 4 0 ++ leBytes 2 1 ++ leBytes 2 1 ++ leBytes 4 1 ++ leBytes 12 0 ++ leBytes 8 128 ++ leBytes 88 0 ++ leBytes 4 1 ++ leBytes 4 1 ++ leBytes 8 0 ++ leBytes 4 0 ++ leBytes 2 1 ++ leBytes 2 1 ++ leBytes 8 0), _, _, 0, _, _, _, _, _, _,
      by decide, by decide, by decide, rfl, rfl, rfl, rfl, by decide⟩,
    ⟨dram [pgJOB] [(pgJOB, Reg.JOB.slotSTAT 0, 1)] 0 [], _, 0, _, by decide, by decide, by decide, rfl, by decide⟩,
    ⟨W, _, 0, 6, by decide, meetsW (by decide) (by decide)⟩,
    ⟨W, _, 0, 6, by decide, meetsW (by decide) (by decide)⟩,
    ⟨{ at_ [pgJOB] [(pgJOB, Reg.JOB.slotSTAT 0, 2)] 0 with verifying := [0], jobs := [(0, (⟨false, false, 0, 1, 1, 0, [⟨1, 1, 0, 0, 1, 1⟩]⟩ : JobHead))] }, _, 0, (⟨false, false, 0, 1, 1, 0, [⟨1, 1, 0, 0, 1, 1⟩]⟩ : JobHead),
      by decide, by decide, rfl, rfl⟩,
    ⟨{ at_ [pgJOB] [(pgJOB, Reg.JOB.slotSTAT 7, 2)] 0 with jobs := [(7, (⟨false, false, 0, 1, 1, 0, [⟨1, 1, 0, 0, 1, 1⟩]⟩ : JobHead))], verifying := [7] }, 7, 0, (⟨false, false, 0, 1, 1, 0, [⟨1, 1, 0, 0, 1, 1⟩]⟩ : JobHead), ⟨0, 0, 0, 0⟩,
      by decide, by decide, rfl, rfl, Or.inr (by decide)⟩,
    ⟨W, _, 0, 6, false, by decide, meetsW (by decide) (by decide)⟩⟩

theorem witness_ScreeningCommandsComplete :
    (∃ (s : State) (p : Nat) (c : Nat × Nat) (cs : List (Nat × Nat)), s.unitRuns .stp p = true ∧
      (s.laneList p).length < 4 ∧ s.eligible p = c :: cs) ∧
    (∃ (s : State) (p k : Nat) (l : Int) (ls : List Int), k < 4 ∧ p < unitCount s.variant .stp ∧
      s.works (pgSTP p) = true ∧ ((s.page (pgSTP p)).state = .run ∨ (s.page (pgSTP p)).state = .drain) ∧ ((s.laneList p).filter (fun e => e.1 == k)).map (·.2) = l :: ls) ∧
    (∃ (s t : State) (p v req : Nat), p < 32 ∧ s.meets32 (pgSTP p) req Reg.STP.SCRDATA v t) ∧
    (∃ (s : State) (p v req : Nat), p < 32 ∧ s.readable (pgSTP p) req) :=
  ⟨⟨at_ [pgSTP 0] [(pgSTP 0, Reg.STP.slotBIND 0, 1)] 0, 0, _, _, by decide, by decide, rfl⟩,
    ⟨{ at_ [pgSTP 31] [] 0 with lanes := [(31, [(3, 7)])] }, 31, 3, 7, [], by decide, by decide, by decide, by decide,
      rfl⟩,
    ⟨W, _, 0, 0, 6, by decide, meetsW (by decide) (by decide)⟩,
    ⟨W, 0, 0, 6, by decide, ⟨by decide, by decide, by decide⟩⟩⟩

theorem witness_NozzleCommandsComplete :
    (∃ (s : State) (b : Nat), s.enabled pgNCT = true ∧ s.mayHandOver b = true) ∧
    (∃ (s t : State) (req : Nat), 0 < unitCount s.variant .nct ∧ s.meets32 pgNCT req Reg.NCT.SWCMD 1 t) ∧
    (∃ (s t u : State), s.swapState = 2 ∧ s.awake pgNCT = true ∧
      t = ((List.range 16).filter (bit s.nct.mask)).foldl State.copyBar s ∧
      u = (if t.nct.curves then t.copyCurves else t) ∧ u.nct.held = []) ∧
    (∃ (s t u : State), s.swapState = 2 ∧ s.awake pgNCT = true ∧
      t = ((List.range 16).filter (bit s.nct.mask)).foldl State.copyBar s ∧
      u = (if t.nct.curves then t.copyCurves else t) ∧ u.nct.held ≠ []) ∧
    (∃ (s t : State), s.swapState = 3 ∧ s.awake pgNCT = true ∧
      t = s.nct.held.foldl State.applyHeld { s with nct := { s.nct with held := [] } }) ∧
    (∃ (s t : State) (off v req : Nat) (wide : Bool), s.meets pgNCT req (0x300000 + off) wide v t ∧
      t.nctShut (0x300000 + off) = false) ∧
    (∃ (s t : State) (off v req : Nat) (wide : Bool), s.meets pgNCT req (0x280000 + off) wide v t ∧
      t.nctShut (0x280000 + off) = false) ∧
    (∃ (s t : State) (req : Nat), 0 < unitCount s.variant .nct ∧ s.meets32 pgNCT req Reg.NCT.IMGCMD 1 t) ∧
    (∃ (s t u : State) (h pl : List Byte), s.fl pgNCT Reg.NCT.IMGSTAT 1 0 = 1 ∧ s.awake pgNCT = true ∧
      s.dramRead (unitWho pgNCT) (s.rg64 pgNCT Reg.NCT.IMGBASE) 64 = (t, some h) ∧ (imgCode t.nrec h [] = 0 ∨ imgCode t.nrec h [] = 5) ∧
      t.dramRead (unitWho pgNCT) (s.rg64 pgNCT Reg.NCT.IMGBASE + 64) (leAt h 20 4) = (u, some pl) ∧
      imgCode u.nrec h pl = 0) ∧
    (∃ (s t : State) (h : List Byte) (c : Nat), s.fl pgNCT Reg.NCT.IMGSTAT 1 0 = 1 ∧ s.awake pgNCT = true ∧
      s.dramRead (unitWho pgNCT) (s.rg64 pgNCT Reg.NCT.IMGBASE) 64 = (t, some h) ∧ imgCode t.nrec h [] = c ∧ c ≠ 0 ∧
      c ≠ 5) ∧
    (∃ (s t : State), s.fl pgNCT Reg.NCT.IMGSTAT 1 0 = 2 ∧ s.swapState = 0 ∧ s.awake pgNCT = true ∧
      t = s.imgWrite s.nct.imgCount ∧ t.fl pgNCT Reg.NCT.IMGSTAT 1 0 ≠ 3) :=
  ⟨⟨(fun s : State => { s with nct := { s.nct with reached := 1 } }) (at_ [pgNCT] [(pgNCT, Reg.NCT.HSTAT, 1)] 0), 0,
      by decide, by decide⟩,
    ⟨W, _, 6, by decide, meetsW (by decide) (by decide)⟩,
    ⟨at_ [pgNCT] [(pgNCT, Reg.NCT.SWSTAT, 2)] 0, _, _, by decide, by decide, rfl, rfl, by decide⟩,
    ⟨(fun s : State => { s with nct := { s.nct with held := [⟨false, 0, [], none⟩] } }) (at_ [pgNCT] [(pgNCT, Reg.NCT.SWSTAT, 2)] 0), _, _,
      by decide, by decide, rfl, rfl, by decide⟩,
    ⟨at_ [pgNCT] [(pgNCT, Reg.NCT.SWSTAT, 3)] 0, _, by decide, by decide, rfl⟩,
    ⟨at_ [pgNCT] [] 0, _, 0, 0, 6, false, meetsW (by decide) (by decide), by decide⟩,
    ⟨at_ [pgNCT] [] 0, _, 0, 0, 6, false, meetsW (by decide) (by decide), by decide⟩,
    ⟨W, _, 6, by decide, meetsW (by decide) (by decide)⟩,
    ⟨dram [pgNCT] [(pgNCT, Reg.NCT.IMGSTAT, 1)] 0 (leBytes 4 0x54434E4B ++ leBytes 2 1 ++ leBytes 2 64 ++ leBytes 4 0 ++ leBytes 4 0 ++ leBytes 4 1 ++ leBytes 4 4 ++ leBytes 8 0 ++ leBytes 4 1214729159 ++ leBytes 28 0), _, _, _, _,
      by decide, by decide, rfl, by decide, rfl, by decide⟩,
    ⟨dram [pgNCT] [(pgNCT, Reg.NCT.IMGSTAT, 1)] 0 [], _, _, 1, by decide, by decide, rfl, by decide, by decide,
      by decide⟩,
    ⟨at_ [pgNCT] [(pgNCT, Reg.NCT.IMGSTAT, 2)] 0, _, by decide, by decide, by decide, rfl, by decide⟩⟩

theorem witness_BarCommandsComplete :
    (∃ (s t : State) (b : Nat) (g : Trig), s.takeTrig (pgPBA b) 0 = some (g, t) ∧ t.unitRuns .pba b = true) ∧
    (∃ (s : State) (b : Nat) (l : Started), (s.bar b).started.find? (fun e => e.stage == 0) = some l ∧
      s.barLive b = true ∧ l.n + 4 ≤ s.cycle) ∧
    (∃ (s : State) (b : Nat) (l : Started),
      (s.bar b).started.find? (fun e =>
    e.stage == 1 && decide (shr e.d 16 ≤ (s.cycle : Int))) = some l ∧
      s.barLive b = true) ∧
    (∃ (s t : State) (b e v req : Nat), e < 64 ∧ b < unitCount s.variant .pba ∧
      s.meets32 (pgPBA b) req (Reg.PBA.entryMAP e) v t) ∧
    (∃ (s t : State) (b e v req : Nat), e < 64 ∧ b < unitCount s.variant .pba ∧
      s.meets32 (pgPBA b) req (Reg.PBA.entryCNT e) v t) :=
  ⟨⟨trigAt (pgPBA 0) 0, _, 0, _, rfl, by decide⟩,
    ⟨(at_ [pgPBA 0] [] 4).setBar 0 { W.bar 0 with started := [(⟨0, 0, 0, 0, 0, 0, [], false, [], false, 0, 0, 0, [], [], (0, 0)⟩ : Started)] }, 0, (⟨0, 0, 0, 0, 0, 0, [], false, [], false, 0, 0, 0, [], [], (0, 0)⟩ : Started),
      rfl, by decide, by decide⟩,
    ⟨(at_ [pgPBA 15] [] 0).setBar 15 { W.bar 0 with started := [(⟨0, 0, 0, 0, 0, 0, [], false, [], false, 1, 0, 0, [], [], (0, 0)⟩ : Started)] }, 15, (⟨0, 0, 0, 0, 0, 0, [], false, [], false, 1, 0, 0, [], [], (0, 0)⟩ : Started),
      rfl, by decide⟩,
    ⟨W, _, 0, 0, 0, 6, by decide, by decide, meetsW (by decide) (by decide)⟩,
    ⟨W, _, 0, 0, 0, 6, by decide, by decide, meetsW (by decide) (by decide)⟩⟩

theorem witness_LinkTrainingCommandsComplete :
    (∃ (s : State) (n : Nat), s.linkIn n [1] = true ∧ s.lstep n = 0) ∧
    (∃ (s h t : State) (n board pver mask intake noz minper : Nat), h = s.hlkHeard n ∧ h.hears n [1] = true ∧
      h.lstep n = 1 ∧
      t = ((h.setRg (pgHLK n) Reg.HLK.BOARDID board).setRg (pgHLK n) Reg.HLK.BIDENT
      (pver % 256 + mask % 256 * 256 + intake % 65536 * 65536)).setRg (pgHLK n) Reg.HLK.BLIMIT
      (noz % 8192 + minper % 65536 * 65536) ∧
      t.identCheck n pver mask noz = 0) ∧
    (∃ (s h : State) (n st : Nat), h = s.hlkPump n ∧ h.syncDue n = true ∧ st = h.stamp16 % 2 ^ 64) ∧
    (∃ (s h t : State) (n t1 t2 t3 t4 : Nat) (rtt : Int), h = s.hlkHeard n ∧
      h.hears n [1, 2] = true ∧ (h.link n).t1 = some t1 ∧ t4 = h.stamp16 % 2 ^ 64 ∧
      rtt = sgn 64 (enc2 64 (((t4 : Int) - t1) - ((t3 : Int) - t2))) ∧
      t = (h.drawn.setRg (pgHLK n) Reg.HLK.RTT (enc2 32 rtt)).setLink n { h.link n with t4 := t4 } ∧ t.lstate n = 1 ∧
      t.lstep n = 2 ∧ (t.link n).answers + 1 < 8) ∧
    (∃ (s h t : State) (n t1 t2 t3 t4 : Nat) (rtt : Int), h = s.hlkHeard n ∧
      h.hears n [1, 2] = true ∧ (h.link n).t1 = some t1 ∧ t4 = h.stamp16 % 2 ^ 64 ∧
      rtt = sgn 64 (enc2 64 (((t4 : Int) - t1) - ((t3 : Int) - t2))) ∧
      t = (h.drawn.setRg (pgHLK n) Reg.HLK.RTT (enc2 32 rtt)).setLink n { h.link n with t4 := t4 } ∧ t.lstate n = 1 ∧
      t.lstep n = 2 ∧ 8 ≤ (t.link n).answers + 1) ∧
    (∃ (s h t : State) (n t1 t2 t3 t4 : Nat) (rtt : Int), h = s.hlkHeard n ∧
      h.hears n [1, 2] = true ∧ (h.link n).t1 = some t1 ∧ t4 = h.stamp16 % 2 ^ 64 ∧
      rtt = sgn 64 (enc2 64 (((t4 : Int) - t1) - ((t3 : Int) - t2))) ∧
      t = (h.drawn.setRg (pgHLK n) Reg.HLK.RTT (enc2 32 rtt)).setLink n { h.link n with t4 := t4 } ∧ t.lstate n = 2 ∧
      t.recalOn n = false) ∧
    (∃ (s : State) (n : Nat), s.linkIn n [1] = true ∧ (s.link n).trainAt + s.rg (pgHLK n) Reg.HLK.TRNTMO ≤ s.cycle) ∧
    (∃ (s : State) (n : Nat), s.linkIn n [2] = true ∧ s.recalOn n = false ∧ (s.link n).hbAt + 16000 ≤ s.cycle) ∧
    (∃ (s t : State) (n : Nat), s.linkIn n [1, 2, 3, 4] = true ∧ t = s.setFl (pgHLK n) Reg.HLK.LSTAT 3 3 0 ∧
      t.lstate n = 2) ∧
    (∃ (s t : State) (n : Nat), s.linkIn n [1, 2, 3, 4] = true ∧ t = s.setFl (pgHLK n) Reg.HLK.LSTAT 3 3 0 ∧
      t.lstate n ≠ 2) ∧
    (∃ (s t : State) (n req : Nat), n < unitCount s.variant .hlk ∧ s.meets32 (pgHLK n) req Reg.HLK.LCMD 1 t) ∧
    (∃ (s : State) (n : Nat), s.linkIn n [3] = true ∧ s.fb (pgHLK n) Reg.HLK.CFG 4 = true ∧
      (s.link n).downAt + 250000 ≤ s.cycle) ∧
    (∃ (s h : State) (n rate : Nat), h = s.hlkHeard n ∧ h.linkIn n [1] = true ∧ h.lstep n = 0 ∧
      rate ≠ h.fl (pgHLK n) Reg.HLK.CFG 1 0) :=
  ⟨⟨at_ [pgHLK 0] [(pgHLK 0, Reg.HLK.LSTAT, 1)] 0, 0, by decide, by decide⟩,
    ⟨at_ [pgHLK 0] [(pgHLK 0, Reg.HLK.LSTAT, 17)] 0, _, _, 0, 0, 1, 255, 0, 4096, 0, rfl, by decide, by decide, rfl,
      by decide⟩,
    ⟨at_ [pgHLK 0] [(pgHLK 0, Reg.HLK.LSTAT, 2)] 20000, _, 0, _, rfl, by decide, rfl⟩,
    ⟨(at_ [pgHLK 0] [(pgHLK 0, Reg.HLK.LSTAT, 33)] 0).setLink 0 { W.link 0 with t1 := some 0, answers := 0 }, _, _, 0, 0, 0, 0, _, _,
      rfl, by decide, by decide, rfl, rfl,
      rfl, (lstate_rtt (by decide) _ _ _).1.trans (by decide), (lstate_rtt (by decide) _ _ _).2.trans (by decide), answers_rtt (p := (· + 1 < 8)) (by decide)⟩,
    ⟨(at_ [pgHLK 0] [(pgHLK 0, Reg.HLK.LSTAT, 33)] 0).setLink 0 { W.link 0 with t1 := some 0, answers := 7 }, _, _, 0, 0, 0, 0, _, _,
      rfl, by decide, by decide, rfl, rfl,
      rfl, (lstate_rtt (by decide) _ _ _).1.trans (by decide), (lstate_rtt (by decide) _ _ _).2.trans (by decide), answers_rtt (p := (8 ≤ · + 1)) (by decide)⟩,
    ⟨(at_ [pgHLK 0] [(pgHLK 0, Reg.HLK.LSTAT, 2)] 0).setLink 0 { W.link 0 with t1 := some 0, answers := 0 }, _, _, 0, 0, 0, 0, _, _,
      rfl, by decide, by decide, rfl, rfl, rfl, (lstate_rtt (by decide) _ _ _).1.trans (by decide), by decide⟩,
    ⟨at_ [pgHLK 0] [(pgHLK 0, Reg.HLK.LSTAT, 1)] 25000000, 0, by decide, by decide⟩,
    ⟨at_ [pgHLK 0] [(pgHLK 0, Reg.HLK.LSTAT, 2)] 16000, 0, by decide, by decide, by decide⟩,
    ⟨at_ [pgHLK 0] [(pgHLK 0, Reg.HLK.LSTAT, 2)] 0, _, 0, by decide, rfl, by decide⟩,
    ⟨at_ [pgHLK 0] [(pgHLK 0, Reg.HLK.LSTAT, 1)] 0, _, 0, by decide, rfl, by decide⟩,
    ⟨W, _, 0, 6, by decide, meetsW (by decide) (by decide)⟩,
    ⟨at_ [pgHLK 0] [(pgHLK 0, Reg.HLK.LSTAT, 3), (pgHLK 0, Reg.HLK.CFG, 16)] 250000, 0, by decide, by decide,
      by decide⟩,
    ⟨at_ [pgHLK 0] [(pgHLK 0, Reg.HLK.LSTAT, 1)] 0, _, 0, 1, rfl, by decide, by decide, by decide⟩⟩

theorem witness_LinkTrafficCommandsComplete :
    (∃ (s : State) (n : Nat) (c : Int × Nat × Started) (cs : List (Int × Nat × Started)),
      n < unitCount s.variant .hlk ∧ s.dueSets n = c :: cs) ∧
    (∃ (s h t u : State) (n hb fl rx late align : Nat) (temps : List Nat), h = s.hlkHeard n ∧ h.hears n [2] = true ∧
      t = ((((h.setLink n { h.link n with
        hbAt := h.cycle
        fault := bit fl 0 }).setRg (pgHLK n) Reg.HLK.HBSTAT (hb % 65536 + fl % 65536 * 65536)).setRg (pgHLK n)
        Reg.HLK.BRXERR (rx % 65536 + late % 65536 * 65536)).setRg (pgHLK n) Reg.HLK.ALIGNRES align).hbTemps n temps ∧
      u = (if bit fl 0 && !(h.link n).fault then (t.err (pgHLK n) 7 0x1A7 (fl % 65536)).happen (pgHLK n) 5 n else t)) ∧
    (∃ (s t : State) (n req : Nat) (wr : Bool), n < unitCount s.variant .hlk ∧
      s.meets32 (pgHLK n) req Reg.HLK.TUNCMD (1 + 2 * b2n wr) t) ∧
    (∃ (s h : State) (n q data seq at_ : Nat), h = s.hlkHeard n ∧
      h.hears n [2] = true ∧ (h.link n).tun = some (some q, false, at_)) ∧
    (∃ (s h : State) (n q data seq at_ : Nat), h = s.hlkHeard n ∧
      h.hears n [2] = true ∧ (h.link n).tun = some (some q, true, at_)) ∧
    (∃ (s h : State) (n q data seq : Nat), h = s.hlkHeard n ∧
      h.hears n [2] = true ∧ (∀ x, (h.link n).tun = some x → x.1 ≠ some q)) ∧
    (∃ (s h t : State) (n reason q : Nat), h = s.hlkHeard n ∧ h.hears n [2] = true ∧
      t = (h.sat (pgHLK n) Reg.HLK.NAKRXCNT 1).err (pgHLK n) 4 0x1A3 (reason % 256 + q % 256 * 256) ∧ (∀ x, (t.link n).tun = some x → x.1 ≠ some q)) ∧
    (∃ (s h t : State) (n reason q at_ : Nat) (wr : Bool), h = s.hlkHeard n ∧ h.hears n [2] = true ∧
      t = (h.sat (pgHLK n) Reg.HLK.NAKRXCNT 1).err (pgHLK n) 4 0x1A3 (reason % 256 + q % 256 * 256) ∧
      (t.link n).tun = some (some q, wr, at_)) ∧
    (∃ (s h : State) (n q at_ : Nat) (wr : Bool), h = s.hlkPump n ∧ (h.link n).tun = some (some q, wr, at_) ∧
      h.linkIn n [2] = true ∧ at_ + h.rg (pgHLK n) Reg.HLK.TUNTMO ≤ h.cycle) ∧
    (∃ (s h t : State) (n ch : Nat) (bs : List Byte), h = s.hlkHeard n ∧ h.hears n [2] = true ∧
      s.rg64 (pgHLK n) Reg.HLK.NCHKBASE ≠ 0 ∧
      h.dramWrite (unitWho (pgHLK n)) (s.rg64 (pgHLK n) Reg.HLK.NCHKBASE + ch % 8 * 512) (bs.take 512) = (t, true)) ∧
    (∃ (s h : State) (n type seq : Nat), h = s.hlkHeard n ∧ h.hears n [2] = true) ∧
    (∃ (s h : State) (n reason type seq : Nat), h = s.hlkHeard n ∧ h.hears n [2] = true ∧ reason ≠ 1) :=
  ⟨⟨((at_ [pgPBA 0] [(pgPBA 0, Reg.PBA.entryMAP 0, 0x80000000), (pgPBA 0, Reg.PBA.CFG, 256)] 100).setBar 0 { W.bar 0 with started := [(⟨0, 0, 0, 0, 0, 0, [], false, [], false, 2, 0, 0, [], [], (0, 0)⟩ : Started)] }), 0, _, _,
      by decide, rfl⟩,
    ⟨at_ [pgHLK 0] [(pgHLK 0, Reg.HLK.LSTAT, 2)] 0, _, _, _, 0, 0, 0, 0, 0, 0, [], rfl, by decide, rfl, rfl⟩,
    ⟨W, _, 0, 6, false, by decide, meetsW (by decide) (by decide)⟩,
    ⟨(at_ [pgHLK 0] [(pgHLK 0, Reg.HLK.LSTAT, 2)] 0).setLink 0 { W.link 0 with tun := some (some 0, false, 0) }, _, 0, 0, 0, 0, 0,
      rfl, by decide, rfl⟩,
    ⟨(at_ [pgHLK 0] [(pgHLK 0, Reg.HLK.LSTAT, 2)] 0).setLink 0 { W.link 0 with tun := some (some 0, true, 0) }, _, 0, 0, 0, 0, 0,
      rfl, by decide, rfl⟩,
    ⟨(at_ [pgHLK 0] [(pgHLK 0, Reg.HLK.LSTAT, 2)] 0).setLink 0 { W.link 0 with tun := some (some 0, false, 0) }, _, 0, 1, 0, 0,
      rfl, by decide, by intro x h; cases h; decide⟩,
    ⟨(at_ [pgHLK 0] [(pgHLK 0, Reg.HLK.LSTAT, 2)] 0).setLink 0 { W.link 0 with tun := some (some 0, false, 0) }, _, _, 0, 0, 1,
      rfl, by decide, rfl, by intro x h; cases h; decide⟩,
    ⟨(at_ [pgHLK 0] [(pgHLK 0, Reg.HLK.LSTAT, 2)] 0).setLink 0 { W.link 0 with tun := some (some 0, false, 0) }, _, _, 0, 0, 0, 0, false,
      rfl, by decide, rfl, rfl⟩,
    ⟨(at_ [pgHLK 0] [(pgHLK 0, Reg.HLK.LSTAT, 2)] 1250000).setLink 0 { W.link 0 with tun := some (some 0, false, 0) }, _, 0, 0, 0, false,
      rfl, rfl, by decide, by decide⟩,
    ⟨dram [pgHLK 0] [(pgHLK 0, Reg.HLK.LSTAT, 2), (pgHLK 0, Reg.HLK.NCHKBASE, 4096)] 0 [], _, _, 0, 0, [1], rfl,
      by decide, by decide, rfl⟩,
    ⟨at_ [pgHLK 0] [(pgHLK 0, Reg.HLK.LSTAT, 2)] 0, _, 0, 0, 0, rfl, by decide⟩,
    ⟨at_ [pgHLK 0] [(pgHLK 0, Reg.HLK.LSTAT, 2)] 0, _, 0, 2, 0, 0, rfl, by decide, by decide⟩⟩

theorem witness_CameraTriggerCommandsComplete :
    (∃ (s t : State) (n lock : Nat), s.camOn n = true ∧ lock &&& s.camLanes n = s.camLanes n ∧ s.camUp n = false ∧
      s.fl (pgCAM n) Reg.CAM.LSTAT 1 0 < 2 ∧ t = s.setCam n { s.cam n with hbAt := s.cycle } ∧ t.camUp n = false) ∧
    (∃ (s t : State) (n lock : Nat), s.camOn n = true ∧ s.camUp n = true ∧ lock &&& s.camLanes n ≠ s.camLanes n ∧
      t = (s.setFl (pgCAM n) Reg.CAM.LSTAT 1 0 0).setFl (pgCAM n) Reg.CAM.LSTAT 7 4 lock) ∧
    (∃ (s t u : State) (n : Nat) (g : Trig), s.takeTrig (pgCAM n) 0 = some (g, t) ∧ t.unitRuns .cam n = true ∧
      u = t.setCam n { t.cam n with
      grid := (g.mark.map (fun m => ((t.mark m).target - ((t.mark m).index * (t.mark m).e : Nat),
      (t.mark m).e))).or
        (t.cam n).grid
      trigs := (t.cam n).trigs ++
        [⟨g.index, g.cycle, g.speeds.getD (t.fl (pgCAM n) Reg.CAM.CFG 17 16) 0, g.ovs, g.ch, t.cycle, none⟩] }) ∧
    (∃ (s : State) (n : Nat) (g : CamTrig), (s.cam n).trigs.find? (fun e => e.t == none) = some g ∧
      s.camLive n = true ∧ g.n + 4 ≤ s.cycle) ∧
    (∃ (s : State) (n : Nat) (e : CamTrig) (es : List CamTrig) (z : Int), (s.cam n).trigs = e :: es ∧ e.t = some z ∧
      s.camLive n = true ∧ shr z 16 ≤ (s.cycle : Int)) ∧
    (∃ (s : State) (n : Nat) (r : Int), (s.cam n).pulse = some r ∧ r ≤ (s.cycle : Int) * 16) ∧
    (∃ (s t : State) (n : Nat) (px : List (List Nat)) (e : CamTrig) (es : List CamTrig), s.camOn n = true ∧
      s.camUp n = true ∧ t = s.camHeard n ∧ (t.cam n).pend = e :: es) ∧
    (∃ (s t : State) (n : Nat) (px : List (List Nat)), s.camOn n = true ∧ s.camUp n = true ∧ t = s.camHeard n ∧
      (t.cam n).pend = []) ∧
    (∃ (s : State) (n : Nat) (e : CamTrig) (es : List CamTrig), (s.cam n).pend = e :: es ∧ s.camLive n = true ∧
      shr (e.t.getD 0) 16 + (s.rg (pgCAM n) Reg.CAM.LTMO : Int) < (s.cycle : Int)) ∧
    (∃ (s : State) (n : Nat) (k : CamBlk), s.camStale n = some k ∧ s.camLive n = true ∧ s.camPads n = none) :=
  ⟨⟨(at_ [pgCAM 0, pgPSC, pgCUP 0] [(pgCAM 0, Reg.CAM.LSTAT, 0)] 0), _, 0, 15, by decide, by decide, by decide,
      by decide, rfl, by decide⟩,
    ⟨(at_ [pgCAM 0, pgPSC, pgCUP 0] [(pgCAM 0, Reg.CAM.LSTAT, 1)] 0), _, 0, 0, by decide, by decide, by decide, rfl⟩,
    ⟨trigAt (pgCAM 1) 0, _, _, 1, _, rfl, rfl, rfl⟩,
    ⟨((at_ [pgCAM 0, pgPSC, pgCUP 0] [(pgCAM 0, Reg.CAM.LSTAT, 1)] 4).setCam 0 { W.cam 0 with trigs := [(⟨0, 0, 0, 0, 0, 0, none⟩ : CamTrig)] }), 0, (⟨0, 0, 0, 0, 0, 0, none⟩ : CamTrig),
      rfl, by decide, by decide⟩,
    ⟨((at_ [pgCAM 0, pgPSC, pgCUP 0] [(pgCAM 0, Reg.CAM.LSTAT, 1)] 0).setCam 0 { W.cam 0 with trigs := [(⟨0, 0, 0, 0, 0, 0, some 0⟩ : CamTrig)] }), 0, (⟨0, 0, 0, 0, 0, 0, some 0⟩ : CamTrig), [], 0,
      rfl, rfl, by decide, by decide⟩,
    ⟨((at_ [pgCAM 0, pgPSC, pgCUP 0] [(pgCAM 0, Reg.CAM.LSTAT, 1)] 0).setCam 0 { W.cam 0 with pulse := some 0 }), 0, 0,
      rfl, by decide⟩,
    ⟨((at_ [pgCAM 0, pgPSC, pgCUP 0] [(pgCAM 0, Reg.CAM.LSTAT, 1)] 0).setCam 0 { W.cam 0 with pend := [(⟨0, 0, 0, 0, 0, 0, some 0⟩ : CamTrig)] }), _, 0, [], _, [],
      by decide, by decide, rfl, rfl⟩,
    ⟨(at_ [pgCAM 0, pgPSC, pgCUP 0] [(pgCAM 0, Reg.CAM.LSTAT, 1)] 0), _, 0, [], by decide, by decide, rfl, by decide⟩,
    ⟨((at_ [pgCAM 0, pgPSC, pgCUP 0] [(pgCAM 0, Reg.CAM.LSTAT, 1)] 25001).setCam 0 { W.cam 0 with pend := [(⟨0, 0, 0, 0, 0, 0, some 0⟩ : CamTrig)] }), 0, _, [],
      rfl, by decide, by decide⟩,
    ⟨((at_ [pgCAM 0, pgPSC, pgCUP 0] [(pgCAM 0, Reg.CAM.LSTAT, 1)] 2500000).setCam 0 { W.cam 0 with blocks := [(⟨0, 0, 0, false, [], 0, 0, 0, false, false, 0, 0, [], [], [], [], 0, 0, 0, 0⟩ : CamBlk)] }), 0, _,
      rfl, by decide, by decide⟩⟩

theorem witness_CameraControlCommandsComplete :
    (∃ (s t : State) (n v req : Nat), n < unitCount s.variant .cam ∧ s.meets32 (pgCAM n) req Reg.CAM.FTDATA v t) ∧
    (∃ (s : State) (n v req : Nat), n < unitCount s.variant .cam ∧ s.readable (pgCAM n) req) ∧
    (∃ (s t : State) (n g req : Nat), n < unitCount s.variant .cam ∧
      s.meets32 (pgCAM n) req Reg.CAM.EXPCMD (1 + 65536 * g) t) ∧
    (∃ (s : State) (n at_ : Nat) (w : Nat) (c : CamExp), (s.cam n).sent = some (true, at_, w) ∧
      (s.cam n).exp = some c ∧ s.camOn n = true ∧ s.expLast n c = true) ∧
    (∃ (s t : State) (n req : Nat) (wr : Bool), n < unitCount s.variant .cam ∧
      s.meets32 (pgCAM n) req Reg.CAM.CCCMD (1 + 2 * b2n wr) t) ∧
    (∃ (s : State) (n code data at_ w : Nat) (e : Bool), s.camOn n = true ∧ s.camUp n = true ∧
      (s.cam n).sent = some (e, at_, w)) ∧
    (∃ (s : State) (n at_ w : Nat) (e : Bool), (s.cam n).sent = some (e, at_, w) ∧ s.camOn n = true ∧
      at_ + s.rg (pgCAM n) Reg.CAM.CCTMO ≤ s.cycle) ∧
    (∃ (s t u : State) (n : Nat) (bs : List Byte), s.camOn n = true ∧ s.camUp n = true ∧ t = s.camHeard n ∧
      t.post (pgCAM n) 1 [leBytes 8 t.timeNs ++ leBytes 2 bs.length ++ leBytes 1 n ++
      leBytes 1 (b2n (decide (48 < bs.length))) ++ leBytes 4 0 ++ bs.take 48 ++
      List.replicate (48 - (bs.take 48).length) 0] = (u, true)) ∧
    (∃ (s t : State) (n : Nat), s.camOn n = true ∧ s.camUp n = true ∧
      (s.cam n).hbAt + s.rg (pgCAM n) Reg.CAM.HBPER ≤ s.cycle ∧ t = s.setCam n { s.cam n with hbAt := s.cycle } ∧
      t.standby = false) ∧
    (∃ (s t : State) (n : Nat), s.camOn n = true ∧ s.camUp n = true ∧
      (s.cam n).hbAt + s.rg (pgCAM n) Reg.CAM.HBPER ≤ s.cycle ∧ t = s.setCam n { s.cam n with hbAt := s.cycle } ∧
      t.standby = true) ∧
    (∃ (s : State) (n lane : Nat), s.camOn n = true) :=
  ⟨⟨W, _, 0, 0, 6, by decide, meetsW (by decide) (by decide)⟩,
    ⟨W, 0, 0, 6, by decide, ⟨by decide, by decide, by decide⟩⟩,
    ⟨W, _, 0, 0, 6, by decide, meetsW (by decide) (by decide)⟩,
    ⟨((at_ [pgCAM 0, pgPSC, pgCUP 0] [(pgCAM 0, Reg.CAM.LSTAT, 1)] 0).setCam 0 { W.cam 0 with sent := some (true, 0, 0), exp := some ⟨1, 0, 0, 1⟩ }), 0, 0, 0, _,
      rfl, rfl, by decide, by decide⟩,
    ⟨W, _, 0, 6, false, by decide, meetsW (by decide) (by decide)⟩,
    ⟨((at_ [pgCAM 0, pgPSC, pgCUP 0] [(pgCAM 0, Reg.CAM.LSTAT, 1)] 0).setCam 0 { W.cam 0 with sent := some (true, 0, 0) }), 0, 0, 0, 0, 0, true,
      by decide, by decide, rfl⟩,
    ⟨((at_ [pgCAM 0, pgPSC, pgCUP 0] [(pgCAM 0, Reg.CAM.LSTAT, 1)] 250000).setCam 0 { W.cam 0 with sent := some (true, 0, 0) }), 0, 0, 0, true,
      rfl, by decide, by decide⟩,
    ⟨withQ (pgCAM 0) 1 0 ((dram [pgCAM 0] [(pgCAM 0, Reg.CAM.LSTAT, 1)] 0 [])), _, _, 0, [], by decide, by decide,
      rfl, rfl⟩,
    ⟨(at_ [pgCAM 0, pgPSC, pgCUP 0] [(pgCAM 0, Reg.CAM.LSTAT, 1)] 250000), _, 0, by decide, by decide, by decide, rfl,
      by decide⟩,
    ⟨((at_ [pgCAM 0, pgPSC, pgCUP 0] [(pgCAM 0, Reg.CAM.LSTAT, 1)] 250000)).setRg pgRED Reg.RED.CFG 1, _, 0,
      by decide, by decide, by decide, rfl, by decide⟩,
    ⟨(at_ [pgCAM 0, pgPSC, pgCUP 0] [(pgCAM 0, Reg.CAM.LSTAT, 1)] 0), 0, 0, by decide⟩⟩

theorem witness_CupolaCommandsComplete :
    (∃ (s t : State) (n : Nat) (l : CamLine) (es : List CamEnd) (rest : List CamOut),
      nextLine (s.cam (3 * n)).out = some (l, es, rest) ∧ s.cupTakes n = true ∧
      t = s.setCam (3 * n) { s.cam (3 * n) with out := rest } ∧ (t.page (pgCAM (3 * n))).state = .run) ∧
    (∃ (s t : State) (n : Nat) (l : CamLine) (es : List CamEnd) (rest : List CamOut),
      nextLine (s.cam (3 * n)).out = some (l, es, rest) ∧ s.cupTakes n = true ∧
      t = s.setCam (3 * n) { s.cam (3 * n) with out := rest } ∧ (t.page (pgCAM (3 * n))).state ≠ .run) ∧
    (∃ (s t : State) (n k c : Nat) (l : CamLine) (es : List CamEnd) (rest : List CamOut), (k = 1 ∨ k = 2) ∧
      s.slotPort n k = some c ∧ nextLine (s.cam c).out = some (l, es, rest) ∧ s.cupTakes n = true ∧
      t = s.setCam c { s.cam c with out := rest } ∧ t.tooLate n k l = false) ∧
    (∃ (s d t u : State) (n k c kk : Nat) (l : CamLine) (rest : List (Nat × CamLine)) (bs : List Byte),
      (k = 1 ∨ k = 2) ∧ s.cupTakes n = true ∧ d = s.dropPassed n k ∧
      d.slotPort n k = some c ∧ (d.cup n).stg k = (kk, l) :: rest ∧ Tbl.get? ((d.cup n).ring k) (kk % 16) = none ∧
      t = d.setCup n ((d.cup n).setStg k rest) ∧
      t.dramRead (unitWho (pgCUP n)) (t.stgBase n k + kk % t.ringLen n k * t.lineBytes c) (t.lineBytes c) = (u, some bs)) ∧
    (∃ (s : State) (n : Nat) (l : CamLine) (x : Bool) (hs : List (CamLine × Bool)), s.cupGoes n = true ∧
      (s.cup n).hold = (l, x) :: hs ∧ l.at_ + s.rg (pgCUP n) Reg.CUP.FWAIT ≤ s.cycle) ∧
    (∃ (s : State) (n : Nat) (l : CamLine) (x : Bool) (hs : List (CamLine × Bool)), s.cupGoes n = true ∧
      (s.cup n).hold = (l, x) :: hs ∧ s.furthersHere n l.k = true) ∧
    (∃ (s t : State) (n : Nat) (es : List CamEnd) (rest : List CamOut), s.cupGoes n = true ∧
      (s.page (pgCAM (3 * n))).state = .run ∧ frontCloses (s.cam (3 * n)).out = (es, rest) ∧
      t = s.setCam (3 * n) { s.cam (3 * n) with out := rest } ∧ (t.page (pgCAM (3 * n))).state = .run) ∧
    (∃ (s : State) (n : Nat), s.cupGoes n = true ∧ (s.page (pgCAM (3 * n))).state = .fault ∧
      (s.cup n).blk.isSome = true) ∧
    (∃ (s t : State) (n v req : Nat), n < unitCount s.variant .cup ∧ s.meets32 (pgCUP n) req Reg.CUP.TCDATA v t) ∧
    (∃ (s : State) (n v req : Nat), n < unitCount s.variant .cup ∧ s.readable (pgCUP n) req) ∧
    (∃ (s t : State) (n v req : Nat), n < unitCount s.variant .cup ∧ s.meets32 (pgCUP n) req Reg.CUP.ICDATA v t) ∧
    (∃ (s : State) (n v req : Nat), n < unitCount s.variant .cup ∧ s.readable (pgCUP n) req) :=
  ⟨⟨((at_ [pgCAM 0, pgPSC, pgCUP 0] [(pgCAM 0, Reg.CAM.LSTAT, 1)] 0).setCam 0 { W.cam 0 with out := [.line (⟨0, 0, 0, false, [], 0, 0, 0, 0⟩ : CamLine)] }), _, 0, (⟨0, 0, 0, false, [], 0, 0, 0, 0⟩ : CamLine), [], [],
      rfl, by decide, rfl, by decide⟩,
    ⟨((at_ [pgCUP 0] [(pgCAM 0, Reg.CAM.LSTAT, 1)] 0).setCam 0 { W.cam 0 with out := [.line (⟨0, 0, 0, false, [], 0, 0, 0, 0⟩ : CamLine)] }), _, 0, (⟨0, 0, 0, false, [], 0, 0, 0, 0⟩ : CamLine), [], [],
      rfl, by decide, rfl, by decide⟩,
    ⟨((at_ [pgCAM 1, pgCUP 0] [(pgCAM 1, Reg.CAM.LSTAT, 1), (pgCUP 0, Reg.CUP.PORTS, 0x81)] 0).setCam 1 { W.cam 0 with out := [.line (⟨0, 0, 0, false, [], 0, 0, 0, 0⟩ : CamLine)] }), _, 0, 1, 1, (⟨0, 0, 0, false, [], 0, 0, 0, 0⟩ : CamLine), [], [], Or.inl rfl,
      rfl, rfl, by decide, rfl, by decide⟩,
    ⟨(dram [pgCUP 0] [(pgCUP 0, Reg.CUP.PORTS, 0x81)] 0 []).setCup 0 ((W.cup 0).setStg 1 [(0, (⟨0, 0, 0, false, [], 0, 0, 0, 0⟩ : CamLine))]), _, _, _, 0, 1, 1, 0, (⟨0, 0, 0, false, [], 0, 0, 0, 0⟩ : CamLine), [], _, Or.inl rfl,
      by decide, rfl, rfl, rfl, by decide, rfl, rfl⟩,
    ⟨(at_ [pgCUP 0] [] 25000).setCup 0 { W.cup 0 with hold := [((⟨0, 0, 0, false, [], 0, 0, 0, 0⟩ : CamLine), false)] }, 0, (⟨0, 0, 0, false, [], 0, 0, 0, 0⟩ : CamLine), false, [],
      by decide, rfl, by decide⟩,
    ⟨(at_ [pgCUP 0] [] 0).setCup 0 { W.cup 0 with hold := [((⟨0, 0, 0, false, [], 0, 0, 0, 0⟩ : CamLine), false)] }, 0, (⟨0, 0, 0, false, [], 0, 0, 0, 0⟩ : CamLine), false, [],
      by decide, rfl, by decide⟩,
    ⟨at_ [pgCUP 0, pgCAM 0] [] 0, _, 0, [], [], by decide, by decide, rfl, rfl, by decide⟩,
    ⟨((at_ [pgCUP 0] [] 0).setPage (pgCAM 0) { W.page (pgCAM 0) with state := .fault }).setCup 0 { W.cup 0 with blk := some ⟨0, [], 0, [], 0, false, [], [], [], [], none, false, false⟩ }, 0,
      by decide, by decide, by decide⟩,
    ⟨W, _, 0, 0, 6, by decide, meetsW (by decide) (by decide)⟩,
    ⟨W, 0, 0, 6, by decide, ⟨by decide, by decide, by decide⟩⟩,
    ⟨W, _, 0, 0, 6, by decide, meetsW (by decide) (by decide)⟩,
    ⟨W, 0, 0, 6, by decide, ⟨by decide, by decide, by decide⟩⟩⟩

theorem witness_InspectionOutputCommandsComplete :
    (∃ (s t : State) (n : Nat) (now later : List CupOut), s.defLive n = true ∧
      takeLine (s.cup n).toDef false = (now, later) ∧ t = s.setCup n { s.cup n with toDef := later }) ∧
    (∃ (s t : State) (n b lines : Nat) (recs recs' : List (List Byte)) (x : Snip) (xs : List Snip) (head : Option Nat) (grid : Int) (rest : List DefItem),
      (s.defOf n).items = .block b lines recs (x :: xs) head grid :: rest ∧ s.defLive n = true ∧
      (s.cmp (s.fl (pgDEF n) Reg.DEF.CTL 10 8)).job = none ∧
      (s.cmpAccepts (s.fl (pgDEF n) Reg.DEF.CTL 10 8) = false ∨ s.works (pgCMP (s.fl (pgDEF n) Reg.DEF.CTL 10 8)) = true) ∧
      s.snippet n b lines recs x = (t, recs')) ∧
    (∃ (s t u v : State) (n b lines : Nat) (recs : List (List Byte)) (head : Option Nat) (grid : Int) (rest : List DefItem),
      (s.defOf n).items = .block b lines recs [] head grid :: rest ∧ s.defLive n = true ∧ recs ≠ [] ∧
      s.publishRoom (pgDEF n) n recs.length = true ∧
      s.sramItems 2 (pgDEF n) (fun (i : Nat) => i) (List.range recs.length) = (t, []) ∧
      t.publish (pgDEF n) n recs = (u, true) ∧
      v = (((u.setDef n { u.defOf n with items := rest }).inc (pgDEF n) Reg.DEF.BLKCNT 1).inc (pgDEF n) Reg.DEF.RECCNT
      recs.length).setRg64 (pgDEF n) Reg.DEF.LASTBLK (b % 2 ^ 48)) ∧
    (∃ (s t v : State) (n b lines : Nat) (head : Option Nat) (grid : Int) (rest : List DefItem),
      (s.defOf n).items = .block b lines [] [] head grid :: rest ∧ s.defLive n = true ∧
      s.sramItems 2 (pgDEF n) (fun (i : Nat) => i) [] = (t, []) ∧
      v = (((t.setDef n { t.defOf n with items := rest }).inc (pgDEF n) Reg.DEF.BLKCNT 1).inc (pgDEF n) Reg.DEF.RECCNT
      0).setRg64 (pgDEF n) Reg.DEF.LASTBLK (b % 2 ^ 48)) ∧
    (∃ (s t : State) (n b c d z : Nat) (g : Int) (rest : List DefItem),
      (s.defOf n).items = .dropped b c d g z :: rest ∧ s.defLive n = true ∧
      s.publish (pgDEF n) n [recBytes 0 (n + 4 * 2) 0 0 0 b 0 g 0 0 0 0 c d 0 0xFFFFFFFF z] = (t, true)) ∧
    (∃ (s : State) (n : Nat) (l : ClpLine) (rest : List ClpLine), (s.cup n).toClp = l :: rest ∧ s.clpLive = true) ∧
    (∃ (s t : State) (g : Nat) (x : Trig), g < 4 ∧ s.takeTrig pgCLP g = some (x, t) ∧ t.present pgCLP = true ∧
      t.running pgCLP = true) ∧
    (∃ (s t : State) (g : Nat) (c : ClpClose), (s.clpGrp g).closing = some c ∧ s.clpLive = true ∧ c.changed = false ∧
      s.clpPassed c = true ∧
      t = (s.grpBinds g).foldl (fun x b => x.setClpBar b { x.clpBar b with sel := !(x.clpBar b).sel }) s) ∧
    (∃ (s : State) (g : Nat) (c : ClpClose), (s.clpGrp g).closing = some c ∧ s.clpLive = true ∧ c.changed = true) ∧
    (∃ (s t : State) (m st : Nat), s.nctEventDue = false ∧ s.clp.req = some (m, st) ∧ s.clpLive = true ∧
      (st = 0 ∨ (st = 1 ∧ s.swapState = 0 ∧ (s.page pgCLP).state = .run)) ∧ s.swapRequest m false 2 = (t, true)) ∧
    (∃ (s t : State) (m st : Nat), s.nctEventDue = false ∧ s.clp.req = some (m, st) ∧ s.clpLive = true ∧
      (st = 0 ∨ (st = 1 ∧ s.swapState = 0 ∧ (s.page pgCLP).state = .run)) ∧ s.swapRequest m false 2 = (t, false) ∧
      s.swapState = 0) ∧
    (∃ (s t : State) (m st : Nat), s.nctEventDue = false ∧ s.clp.req = some (m, st) ∧ s.clpLive = true ∧
      (st = 0 ∨ (st = 1 ∧ s.swapState = 0 ∧ (s.page pgCLP).state = .run)) ∧ s.swapRequest m false 2 = (t, false) ∧
      s.swapState ≠ 0 ∧ (t.page pgNCT).en = true ∧ (t.page pgCLP).state = .run) ∧
    (∃ (s t u : State) (n : Nat) (c : List Byte), s.cmpReady n = true ∧ s.peek (pgCMP n) 0 = (t, some c) ∧
      u = t.consume (pgCMP n) 0 ∧ badCmd c (u.cmp n).stream.isSome = false ∧ leAt c 0 1 = 3) ∧
    (∃ (s t u : State) (n : Nat) (c : List Byte), s.cmpReady n = true ∧ s.peek (pgCMP n) 0 = (t, some c) ∧
      u = t.consume (pgCMP n) 0 ∧ badCmd c (u.cmp n).stream.isSome = false ∧ leAt c 0 1 ≠ 2 ∧ leAt c 0 1 ≠ 3) ∧
    (∃ (s t u : State) (n : Nat) (c : List Byte), s.cmpReady n = true ∧ s.peek (pgCMP n) 0 = (t, some c) ∧
      u = t.consume (pgCMP n) 0 ∧ badCmd c (u.cmp n).stream.isSome = false ∧ leAt c 0 1 = 2) ∧
    (∃ (s t u v : State) (n : Nat) (c : List Byte), s.cmpReady n = true ∧ s.peek (pgCMP n) 0 = (t, some c) ∧
      u = t.consume (pgCMP n) 0 ∧ badCmd c (u.cmp n).stream.isSome = true ∧
      v = u.cmpEnd n (u.cmp n).stream ⟨leAt c 0 1, leAt c 8 8, 1, 0, 0, 0, crcSoFar (u.cmp n).stream⟩ ∧ leAt c 0 1 = 3) ∧
    (∃ (s t u v : State) (n : Nat) (c : List Byte), s.cmpReady n = true ∧ s.peek (pgCMP n) 0 = (t, some c) ∧
      u = t.consume (pgCMP n) 0 ∧ badCmd c (u.cmp n).stream.isSome = true ∧
      v = u.cmpEnd n (u.cmp n).stream ⟨leAt c 0 1, leAt c 8 8, 1, 0, 0, 0, crcSoFar (u.cmp n).stream⟩ ∧ leAt c 0 1 ≠ 2 ∧
      leAt c 0 1 ≠ 3) ∧
    (∃ (s t u v : State) (n : Nat) (c : List Byte), s.cmpReady n = true ∧ s.peek (pgCMP n) 0 = (t, some c) ∧
      u = t.consume (pgCMP n) 0 ∧ badCmd c (u.cmp n).stream.isSome = true ∧
      v = u.cmpEnd n (u.cmp n).stream ⟨leAt c 0 1, leAt c 8 8, 1, 0, 0, 0, crcSoFar (u.cmp n).stream⟩ ∧ leAt c 0 1 = 2) ∧
    (∃ (s t : State) (n : Nat) (j : CmpJob), (s.cmp n).job = some j ∧
      s.works (pgCMP n) = true ∧ ((s.page (pgCMP n)).state = .run ∨ (s.page (pgCMP n)).state = .drain) ∧
      t = ((((s.setCmp n { s.cmp n with job := none }).cmpCount n 0 j.code j.inUsed j.outBytes).setRg64 (pgCMP n)
      Reg.CMP.LASTTAG j.tag).setIst (pgCMP n) 0).cmpShow n) :=
  ⟨⟨at_ [pgDEF 0] [] 0, _, 0, [], [], by decide, rfl, rfl⟩,
    ⟨(at_ [pgDEF 0] [] 0).setDef 0 { W.defOf 0 with items := [.block 0 1 [List.replicate 128 0] [(⟨0, 0, 0, 0, 0⟩ : Snip)] none 0] }, _, 0, 0, 1, _, _, _, _, _, 0, _,
      rfl, by decide, by decide, Or.inl (by decide), rfl⟩,
    ⟨withQ (pgDEF 0) 0 0 ((dram [pgDEF 0] [] 0 []).setDef 0 { W.defOf 0 with items := [.block 0 1 [List.replicate 128 0] [] none 0] }), _, _, _, 0, 0, 1, _, _, 0, _,
      rfl, by decide, by decide, by decide, rfl, rfl, rfl⟩,
    ⟨(at_ [pgDEF 0] [] 0).setDef 0 { W.defOf 0 with items := [.block 0 1 [] [] none 0] }, _, _, 0, 0, 1, _, 0, _, rfl,
      by decide, rfl, rfl⟩,
    ⟨withQ (pgDEF 0) 0 0 ((dram [pgDEF 0] [] 0 []).setDef 0 { W.defOf 0 with items := [.dropped 0 0 0 0 0] }), _, 0, 0, 0, 0, 0, 0, _,
      rfl, by decide, rfl⟩,
    ⟨(at_ [pgCLP] [] 0).setCup 0 { W.cup 0 with toClp := [(⟨⟨0, false, false, [], 0, 0, 0⟩, 0, 0, [], false, false⟩ : ClpLine)] }, 0, (⟨⟨0, false, false, [], 0, 0, 0⟩, 0, 0, [], false, false⟩ : ClpLine), [],
      rfl, by decide⟩,
    ⟨trigAt pgCLP 3, _, 3, _, by decide, rfl, by decide, by decide⟩,
    ⟨(at_ [pgCLP] [] 0).setClpGrp 0 { W.clpGrp 0 with closing := some (⟨0, [], [], false, 0, 0, 0, 0, 0, 0, none⟩ : ClpClose) }, _, 0, (⟨0, [], [], false, 0, 0, 0, 0, 0, 0, none⟩ : ClpClose),
      rfl, by decide, by decide, by decide, rfl⟩,
    ⟨(at_ [pgCLP] [] 0).setClpGrp 0 { W.clpGrp 0 with closing := some (⟨0, [], [], true, 0, 0, 0, 0, 0, 0, none⟩ : ClpClose) }, 0, (⟨0, [], [], true, 0, 0, 0, 0, 0, 0, none⟩ : ClpClose),
      rfl, by decide, by decide⟩,
    ⟨(fun s : State => { s with clp := { s.clp with req := some (1, 0) } }) (at_ [pgCLP, pgNCT] [(pgNCT, Reg.NCT.RANGE 0, 2 ^ 31)] 0), _, 1, 0,
      by decide, rfl, by decide, Or.inl rfl, rfl⟩,
    ⟨(fun s : State => { s with clp := { s.clp with req := some (1, 0) } }) (at_ [pgCLP] [(pgNCT, Reg.NCT.RANGE 0, 2 ^ 31)] 0), _, 1, 0,
      by decide, rfl, by decide, Or.inl rfl, rfl, by decide⟩,
    ⟨(fun s : State => { s with clp := { s.clp with req := some (1, 0) } }) (at_ [pgCLP, pgNCT] [(pgNCT, Reg.NCT.RANGE 0, 2 ^ 31), (pgNCT, Reg.NCT.SWSTAT, 1)] 0), _, 1, 0,
      by decide, rfl, by decide, Or.inl rfl, rfl, by decide, by decide, by decide⟩,
    ⟨(fun s : State => s.setQueue 1 { Queue.reset with en := true, unit := pgCMP 0, port := 1, base := 8192 }) (withQ (pgCMP 0) 0 1 (dram [pgCMP 0] [(pgCMP 0, Reg.CMP.CTL, 1)] 4096 (leBytes 1 3 ++ leBytes 27 0 ++ leBytes 4 0 ++ leBytes 32 0))), _, _, 0, _,
      by decide, rfl, rfl, by decide, by decide⟩,
    ⟨(fun s : State => s.setQueue 1 { Queue.reset with en := true, unit := pgCMP 0, port := 1, base := 8192 }) (withQ (pgCMP 0) 0 1 (dram [pgCMP 0] [(pgCMP 0, Reg.CMP.CTL, 1)] 4096 (leBytes 1 1 ++ leBytes 27 0 ++ leBytes 4 9 ++ leBytes 32 0))), _, _, 0, _,
      by decide, rfl, rfl, by decide, by decide, by decide⟩,
    ⟨(fun s : State => s.setQueue 1 { Queue.reset with en := true, unit := pgCMP 0, port := 1, base := 8192 }) (withQ (pgCMP 0) 0 1 (dram [pgCMP 0] [(pgCMP 0, Reg.CMP.CTL, 1)] 4096 (leBytes 1 2 ++ leBytes 23 0 ++ leBytes 4 64 ++ leBytes 4 9 ++ leBytes 32 0))), _, _, 0, _,
      by decide, rfl, rfl, by decide, by decide⟩,
    ⟨(fun s : State => s.setQueue 1 { Queue.reset with en := true, unit := pgCMP 0, port := 1, base := 8192 }) (withQ (pgCMP 0) 0 1 (dram [pgCMP 0] [(pgCMP 0, Reg.CMP.CTL, 1)] 4096 (leBytes 1 3 ++ leBytes 1 8 ++ leBytes 26 0 ++ leBytes 4 0 ++ leBytes 32 0))), _, _, _, 0, _,
      by decide, rfl, rfl, by decide, rfl, by decide⟩,
    ⟨(fun s : State => s.setQueue 1 { Queue.reset with en := true, unit := pgCMP 0, port := 1, base := 8192 }) (withQ (pgCMP 0) 0 1 (dram [pgCMP 0] [(pgCMP 0, Reg.CMP.CTL, 1)] 4096 (leBytes 1 9 ++ leBytes 27 0 ++ leBytes 4 0 ++ leBytes 32 0))), _, _, _, 0, _,
      by decide, rfl, rfl, by decide, rfl, by decide, by decide⟩,
    ⟨(fun s : State => s.setQueue 1 { Queue.reset with en := true, unit := pgCMP 0, port := 1, base := 8192 }) (withQ (pgCMP 0) 0 1 (dram [pgCMP 0] [(pgCMP 0, Reg.CMP.CTL, 1)] 4096 (leBytes 1 2 ++ leBytes 27 0 ++ leBytes 4 0 ++ leBytes 32 0))), _, _, _, 0, _,
      by decide, rfl, rfl, by decide, rfl, by decide⟩,
    ⟨(at_ [pgCMP 0] [] 0).setCmp 0 { W.cmp 0 with job := some ⟨1, 0, 0, 0, 0, 0, 0⟩ }, _, 0, _, rfl,
      by decide, Or.inl (by decide), rfl⟩⟩

theorem witness_QueueCommandsComplete :
    (∃ (s t : State) (q v req : Nat), q < 4096 ∧ s.meets pgHQF req (0x200000 + 64 * q + 8) false (setBits v 0 0 1) t) ∧
    (∃ (s t : State) (q v req : Nat), q < 4096 ∧ s.meets pgHQF req (0x200000 + 64 * q + 8) false (setBits v 0 0 0) t) ∧
    (∃ (s t : State) (q v req : Nat), q < 4096 ∧ s.meets pgHQF req (0x200000 + 64 * q + 0xC) false v t) ∧
    (∃ (s t : State) (q v req : Nat), q < 4096 ∧ s.meets pgHQF req (0x200000 + 64 * q + 0x10) false v t) ∧
    (∃ (s t : State) (q v req : Nat), q < 4096 ∧ s.meets pgHQF req (0x200000 + 64 * q + 0x14) false v t) ∧
    (∃ (s : State) (q v : Nat), q < 4096 ∧ s.reaches (queueFn q) = true) ∧
    (∃ (s : State) (q : Nat), q < 4096 ∧ s.itmoDue q = true) :=
  ⟨⟨W, _, 0, 0, 6, by decide, meetsW (by decide) (by decide)⟩,
    ⟨W, _, 0, 0, 6, by decide, meetsW (by decide) (by decide)⟩,
    ⟨W, _, 0, 0, 6, by decide, meetsW (by decide) (by decide)⟩,
    ⟨W, _, 0, 0, 6, by decide, meetsW (by decide) (by decide)⟩,
    ⟨W, _, 0, 0, 6, by decide, meetsW (by decide) (by decide)⟩,
    ⟨W, 0, 0, by decide, by decide⟩,
    ⟨(at_ [] [] 250).setQueue 0 { Queue.reset with en := true, imode := 1, itmo := 1, pidx := 1, timer := some 0 }, 0,
      by decide, by decide⟩⟩

theorem witness_QueueHoldsIndexDifference :
    ∃ (x : Queue), x.pidx < 2 ^ 32 ∧ x.cidx < 2 ^ 32 ∧ x.active = true :=
  ⟨{ Queue.reset with en := true }, by decide, by decide, by decide⟩

theorem witness_PcieCommandsComplete :
    (∃ (s : State) (tag : Nat) (bs d : List Byte) (r : HostRead),
      s.hostReads.find? (fun r => r.tag == tag && r.data.isNone) = some r ∧
      d = (bs ++ List.replicate r.len 0).take r.len ∧ r.kind ≠ 3) ∧
    (∃ (s : State) (tag : Nat) (bs d : List Byte) (r : HostRead),
      s.hostReads.find? (fun r => r.tag == tag && r.data.isNone) = some r ∧
      d = (bs ++ List.replicate r.len 0).take r.len ∧ r.kind = 3) ∧
    (∃ (s : State) (tag st : Nat) (ep : Bool) (bs : List Byte) (r : HostRead),
      s.hostReads.find? (fun r => r.tag == tag && r.data.isNone) = some r ∧ st ≠ 0) ∧
    (∃ (s t : State) (wr ep : Bool) (a n : Nat) (bs : List Byte), s.windowOpen 1 = true ∧ t = s.wakeBy 2 [1, 2, 3] ∧
      (t.clocked || t.pwr.wake.isSome) = true) ∧
    (∃ (s t : State) (fn : Nat), fn < 2 ∧
      t = (List.range 16).foldl (fun x c => if (x.dma c).req = fn then x.dmaAbort c 6 else x) s) ∧
    (∃ (s t : State) (speed w : Nat), s.fb pgPCIE Reg.PCIE.LSTAT 0 = false ∧ 1 ≤ speed ∧ speed ≤ 5 ∧ w ∈ [1, 2, 4, 8] ∧
      t = s.setFl pgPCIE Reg.PCIE.LSTAT 13 0 (1 + speed * 2 + w * 16 + s.pcie.bar * 256)) ∧
    (∃ (s : State), s.fb pgPCIE Reg.PCIE.LSTAT 0 = true) ∧
    (∃ (s : State) (fn kind vec v d w : Nat), fn < 2 ∧ w = s.configRead fn kind vec v ∧ s.reaches fn = true) ∧
    (∃ (s : State) (fn kind vec v d w : Nat), fn < 2 ∧ w = s.configRead fn kind vec v ∧ s.reaches fn = false) :=
  ⟨⟨{ W with hostReads := [(⟨0, 0, 0, 0, 0, 1, none, 0⟩ : HostRead)] }, 0, [7], _, (⟨0, 0, 0, 0, 0, 1, none, 0⟩ : HostRead),
      rfl, rfl, by decide⟩,
    ⟨{ W with hostReads := [(⟨0, 3, 0, 0, 0, 1, none, 0⟩ : HostRead)] }, 0, [7], _, (⟨0, 3, 0, 0, 0, 1, none, 0⟩ : HostRead),
      rfl, rfl, by decide⟩,
    ⟨{ W with hostReads := [(⟨0, 0, 0, 0, 0, 1, none, 0⟩ : HostRead)] }, 0, 1, false, [7], (⟨0, 0, 0, 0, 0, 1, none, 0⟩ : HostRead),
      rfl, by decide⟩,
    ⟨W, _, false, false, 0, 0, [], by decide, rfl, by decide⟩,
    ⟨W, _, 0, by decide, rfl⟩,
    ⟨W, _, 5, 8, by decide, by decide, by decide, by decide, rfl⟩,
    ⟨W.setFl pgPCIE Reg.PCIE.LSTAT 0 0 1, by decide⟩,
    ⟨W, 0, 0, 0, 0, 0, _, by decide, rfl, by decide⟩,
    ⟨State.reset, 0, 0, 0, 0, 0, _, by decide, rfl, by decide⟩⟩

theorem witness_DmaCommandsComplete :
    (∃ (s t : State) (c req : Nat), s.meets32 pgDMA req (Reg.DMA.chCTL c) 1 t) ∧
    (∃ (s t : State) (c req : Nat) (g : Trig), s.takeTrig pgDMA c = some (g, t)) ∧
    (∃ (s t : State) (c req : Nat), s.meets32 pgDMA req (Reg.DMA.chCTL c) 2 t) ∧
    (∃ (s t : State) (c req : Nat), s.meets32 pgDMA req (Reg.DMA.chCTL c) 4 t) ∧
    (∃ (s t : State) (c : Nat) (d : Option Desc), s.running pgDMA = true ∧ s.dmaRunning = none ∧ s.dmaNext = some c ∧
      (s.setDmaState c 2).dmaShow.descFetch c = (t, .inr d)) ∧
    (∃ (s t u : State) (c : Nat) (d : Desc),
      s.dmaRunning = some c ∧ ((s.page pgDMA).state = .run ∨ (s.page pgDMA).state = .drain) ∧ s.works pgDMA = true ∧
      s.descFetch c = (t, .inr (some d)) ∧ t.descMove c d = (u, none)) :=
  ⟨⟨W, _, 0, 6, meetsW (by decide) (by decide)⟩,
    ⟨trigAt pgDMA 15, _, 15, 6, _, rfl⟩,
    ⟨W, _, 0, 6, meetsW (by decide) (by decide)⟩,
    ⟨W, _, 0, 6, meetsW (by decide) (by decide)⟩,
    ⟨(dram [pgDMA] [(pgDMA, Reg.DMA.chCUR 15, 4096)] 4096 (leBytes 8 0 ++ leBytes 8 64 ++ leBytes 4 4 ++ leBytes 4 0 ++ leBytes 8 0)).setDmaState 15 1, _, 15, _,
      by decide, by decide, rfl, rfl⟩,
    ⟨(dram [pgDMA] [(pgDMA, Reg.DMA.chCUR 0, 4096)] 4096 (leBytes 8 0 ++ leBytes 8 64 ++ leBytes 4 4 ++ leBytes 4 0 ++ leBytes 8 0)).setDmaState 0 2, _, _, 0, _,
      rfl, Or.inl (by decide), by decide, rfl, rfl⟩⟩

theorem witness_InterruptCommandsComplete :
    (∃ (s : State) (i : Nat), srcIsLevel i = true) ∧
    (∃ (s : State) (i : Nat), srcIsLevel i = false) ∧
    (∃ (s : State) (c req : Nat), c < 4 ∧ s.readable pgBIC req) ∧
    (∃ (s t : State) (c i req : Nat), c < 4 ∧ s.meets32 pgBIC req (Reg.BIC.COMPLETE c) i t) ∧
    (∃ (s : State) (k req : Nat), k < 16 ∧ s.readable pgBIC req) ∧
    (∃ (s t : State) (i req : Nat), s.meets32 pgBIC req Reg.BIC.PCOMPLETE i t) ∧
    (∃ (s t : State) (i req : Nat), s.meets32 pgBIC req Reg.BIC.HCMP0 i t) ∧
    (∃ (s t : State) (i req : Nat), s.meets32 pgBIC req Reg.BIC.HCMP1 i t) ∧
    (∃ (s t : State) (i req : Nat), s.meets32 pgBIC req Reg.BIC.SWSET i t) ∧
    (∃ (s : State) (l : Nat) (up : Bool), l < 32 ∧ bit (s.rg pgBIC (Reg.BIC.ALAT l)) 0 = true ∧
      bit (s.rg pgBIC (Reg.BIC.ALAT l)) 1 = false) ∧
    (∃ (s : State) (l : Nat), l < 32 ∧ bit (s.rg pgBIC (Reg.BIC.ALAT l)) 0 = true ∧
      bit (s.rg pgBIC (Reg.BIC.ALAT l)) 1 = true ∧ s.gpioIsOut (bits (s.rg pgBIC (Reg.BIC.ALAT l)) 13 8) = false ∧
      bit (s.rg pgBIC (Reg.BIC.ALAT l)) 16 = true ∧ bit (s.rg pgBIC (Reg.BIC.ALAT l)) 20 = false) ∧
    (∃ (s : State) (l : Nat), l < 32 ∧ bit (s.rg pgBIC (Reg.BIC.ALAT l)) 0 = true ∧
      bit (s.rg pgBIC (Reg.BIC.ALAT l)) 1 = true ∧ s.gpioIsOut (bits (s.rg pgBIC (Reg.BIC.ALAT l)) 13 8) = false ∧
      bit (s.rg pgBIC (Reg.BIC.ALAT l)) 17 = true ∧ bit (s.rg pgBIC (Reg.BIC.ALAT l)) 20 = true) :=
  ⟨⟨W, 0, by decide⟩,
    ⟨W, 4352, by decide⟩,
    ⟨W, 3, 6, by decide, ⟨by decide, by decide, by decide⟩⟩,
    ⟨W, _, 0, 0, 6, by decide, meetsW (by decide) (by decide)⟩,
    ⟨W, 15, 6, by decide, ⟨by decide, by decide, by decide⟩⟩,
    ⟨W, _, 0, 6, meetsW (by decide) (by decide)⟩,
    ⟨W, _, 0, 6, meetsW (by decide) (by decide)⟩,
    ⟨W, _, 0, 6, meetsW (by decide) (by decide)⟩,
    ⟨W, _, 0, 6, meetsW (by decide) (by decide)⟩,
    ⟨at_ [pgBIC] [(pgBIC, Reg.BIC.ALAT 31, 1)] 0, 31, false, by decide, by decide, by decide⟩,
    ⟨at_ [pgBIC] [(pgBIC, Reg.BIC.ALAT 31, 0x10003)] 0, 31, by decide, by decide, by decide, by decide, by decide,
      by decide⟩,
    ⟨at_ [pgBIC] [(pgBIC, Reg.BIC.ALAT 31, 0x120003)] 0, 31, by decide, by decide, by decide, by decide, by decide,
      by decide⟩⟩

theorem witness_EventCommandsComplete :
    (∃ (s t : State) (c a req : Nat), s.meets64 pgEVF req Reg.EVF.SWFIRE (c % 256 + a % 2 ^ 32 * 2 ^ 32) t ∧
      t.chanRefuses (c % 256) req = false) ∧
    (∃ (s t : State) (c a req : Nat), s.meets64 pgEVF req Reg.EVF.SWFIRE (c % 256 + a % 2 ^ 32 * 2 ^ 32) t ∧
      t.chanRefuses (c % 256) req = true) ∧
    (∃ (s t : State) (v req : Nat), s.meets32 pgEVF req (Reg.EVF.SWFIRE + 4) v t) ∧
    (∃ (s t : State) (c req : Nat), s.meets32 pgEVF req Reg.EVF.SWFIRE c t) ∧
    (∃ (s t : State) (c : Nat) (e : Ev),
      s.evs.find? (fun e => e.ch == c && decide (e.entered + 2 ≤ s.cycle)) = some e ∧ s.clocked = true ∧
      t = (e.tasks.zipIdx).foldl (fun x y => x.deliverTask e y.2 y.1) { s with evs := s.evs.erase e } ∧ c < 248) ∧
    (∃ (s t : State) (c : Nat) (e : Ev),
      s.evs.find? (fun e => e.ch == c && decide (e.entered + 2 ≤ s.cycle)) = some e ∧ s.clocked = true ∧
      t = (e.tasks.zipIdx).foldl (fun x y => x.deliverTask e y.2 y.1) { s with evs := s.evs.erase e } ∧ 248 ≤ c) ∧
    (∃ (s t : State) (off v req : Nat), 0x200 ≤ off ∧ off < 0x238 ∧ off % 4 = 0 ∧ s.meets32 pgEVF req off v t) ∧
    (∃ (s h t : State) (g held : Nat) (lv : Bool), g < 64 ∧ s.gpioIsOut g = false ∧
      h = (s.latchSee true g lv (!lv)).latchesHand true g ∧ h.enabled pgEVF = true ∧ h.clocked = true ∧
      bits (h.gpioCfg g) 7 4 < held ∧ bit (h.rg64 pgEVF Reg.EVF.GPIOIN) g ≠ lv ∧
      t = h.setRg64 pgEVF Reg.EVF.GPIOIN (setBits (h.rg64 pgEVF Reg.EVF.GPIOIN) g g (b2n lv)) ∧
      h.cycle < h.gpioSince g + held) ∧
    (∃ (s h t : State) (g held : Nat) (lv : Bool), g < 64 ∧ s.gpioIsOut g = false ∧
      h = (s.latchSee true g lv (!lv)).latchesHand true g ∧ h.enabled pgEVF = true ∧ h.clocked = true ∧
      bits (h.gpioCfg g) 7 4 < held ∧ bit (h.rg64 pgEVF Reg.EVF.GPIOIN) g ≠ lv ∧
      t = h.setRg64 pgEVF Reg.EVF.GPIOIN (setBits (h.rg64 pgEVF Reg.EVF.GPIOIN) g g (b2n lv)) ∧
      h.gpioSince g + held ≤ h.cycle ∧ inEdge (h.gpioCfg g) lv = false) ∧
    (∃ (s h t : State) (g held : Nat) (lv : Bool), g < 64 ∧ s.gpioIsOut g = false ∧
      h = (s.latchSee true g lv (!lv)).latchesHand true g ∧ h.enabled pgEVF = true ∧ h.clocked = true ∧
      bits (h.gpioCfg g) 7 4 < held ∧ bit (h.rg64 pgEVF Reg.EVF.GPIOIN) g ≠ lv ∧
      t = h.setRg64 pgEVF Reg.EVF.GPIOIN (setBits (h.rg64 pgEVF Reg.EVF.GPIOIN) g g (b2n lv)) ∧
      h.gpioSince g + held ≤ h.cycle ∧ inEdge (h.gpioCfg g) lv = true) ∧
    (∃ (s : State) (g r : Nat), Tbl.get? s.pulses g = some r ∧ r ≤ s.cycle) ∧
    (∃ (s t : State) (v req : Nat), s.meets64 pgEVF req Reg.EVF.GPIOOUT v t) ∧
    (∃ (s : State) (ch g : Nat) (up : Bool), 248 ≤ ch ∧ ch < 256 ∧ g < 64 ∧ (s.chan ch).en = true ∧
      (s.chan ch).prod = pgEVF + (64 + g) * 256 ∧ bit (s.gpioCfg g) 0 = false ∧ inEdge (s.gpioCfg g) up = true ∧
      g &&& (s.chan ch).filtm = (s.chan ch).filtv &&& (s.chan ch).filtm ∧ s.clocked = true) ∧
    (∃ (s : State) (ch g : Nat) (up : Bool), 248 ≤ ch ∧ ch < 256 ∧ g < 64 ∧ (s.chan ch).en = true ∧
      (s.chan ch).prod = pgEVF + (64 + g) * 256 ∧ bit (s.gpioCfg g) 0 = false ∧ inEdge (s.gpioCfg g) up = true ∧
      g &&& (s.chan ch).filtm = (s.chan ch).filtv &&& (s.chan ch).filtm ∧ s.clocked = false) :=
  ⟨⟨W, _, 0, 0, 6, meetsW (by decide) (by decide), by decide⟩,
    ⟨W.setChan 0 { Chan.reset 0 with own := 1 }, _, 0, 0, 2, meetsW (by decide) (by decide), by decide⟩,
    ⟨W, _, 0, 6, meetsW (by decide) (by decide)⟩,
    ⟨W, _, 0, 6, meetsW (by decide) (by decide)⟩,
    ⟨{ at_ [] [] 2 with evs := [(⟨0, 0, 0, 0, 0, 0, 0, 1, [pgPSC], [], none⟩ : Ev)] }, _, 0, (⟨0, 0, 0, 0, 0, 0, 0, 1, [pgPSC], [], none⟩ : Ev),
      rfl, by decide, rfl, by decide⟩,
    ⟨{ at_ [] [] 2 with evs := [(⟨255, 0, 0, 0, 0, 0, 0, 1, [pgPSC], [], none⟩ : Ev)] }, _, 255, (⟨255, 0, 0, 0, 0, 0, 0, 1, [pgPSC], [], none⟩ : Ev),
      rfl, by decide, rfl, by decide⟩,
    ⟨W, _, 0x234, 0, 6, by decide, by decide, by decide, meetsW (by decide) (by decide)⟩,
    ⟨at_ [pgEVF] [] 0, _, _, 63, 1, true, by decide, by decide, rfl, by decide, by decide, by decide, by decide, rfl,
      by decide⟩,
    ⟨at_ [pgEVF] [] 1, _, _, 63, 1, true, by decide, by decide, rfl, by decide, by decide, by decide, by decide, rfl,
      by decide, by decide⟩,
    ⟨at_ [pgEVF] [(pgEVF, Reg.EVF.GPIOCFG 63, 2)] 1, _, _, 63, 1, true, by decide, by decide, rfl, by decide,
      by decide, by decide, by decide, rfl, by decide, by decide⟩,
    ⟨{ W with pulses := [(0, 0)] }, 0, 0, rfl, by decide⟩,
    ⟨W, _, 0, 6, meetsW (by decide) (by decide)⟩,
    ⟨(at_ [pgEVF] [(pgEVF, Reg.EVF.GPIOCFG 0, 2)] 0).setChan 255 { Chan.reset 255 with en := true, prod := pgEVF + 64 * 256 }, 255, 0, true,
      by decide, by decide, by decide, by decide, by decide, by decide, by decide, rfl, by decide⟩,
    ⟨{ (at_ [pgEVF] [(pgEVF, Reg.EVF.GPIOCFG 0, 2)] 0).setChan 255 { Chan.reset 255 with en := true, prod := pgEVF + 64 * 256 } with pwr := { Pwr.reset with state := 4 } }, 255, 0, true,
      by decide, by decide, by decide, by decide, by decide, by decide, by decide, rfl, by decide⟩⟩

theorem witness_SpuriousCompletionsAreIgnored :
    ∃ (s : State) (i lo hi : Nat), s.Inv ∧
      s.bicOn = true ∧ ((s.src i).st ≠ 2 ∨ (s.src i).claimer < lo ∨ hi < (s.src i).claimer ∨ 4991 < i) :=
  ⟨at_ [pgBIC] [] 0, 4992, 0, 0, ⟨⟨rfl, rfl, rfl⟩, rfl, rfl⟩, by decide, Or.inl (by decide)⟩

theorem witness_AxisCommandsComplete :
    (∃ (s t : State) (n req : Nat), s.meets32 (pgAXS n) req Reg.AXS.CMD 1 t ∧ t.axRuns n = true) ∧
    (∃ (s t : State) (n req : Nat) (g : Trig), s.takeTrig (pgAXS n) 0 = some (g, t) ∧ t.axRuns n = true) ∧
    (∃ (s t : State) (n req : Nat), s.meets32 (pgAXS n) req Reg.AXS.CMD 2 t ∧ t.axLive n = true) ∧
    (∃ (s t : State) (n req : Nat) (g : Trig), s.takeTrig (pgAXS n) 1 = some (g, t) ∧ t.axLive n = true) ∧
    (∃ (s t : State) (n req : Nat), s.meets32 (pgAXS n) req Reg.AXS.CMD 4 t ∧ t.axLive n = true) ∧
    (∃ (s t : State) (n v req : Nat), s.meets32 (pgAXS n) req Reg.AXS.SEGHEAD v t) ∧
    (∃ (s h w t : State) (n : Nat) (xg : Int), s.axLive n = true ∧
      h = s.axWaited n ∧ (h.ax n).seg = none ∧ (w, xg) = (if h.axGeared n then (h.drawn, (h.ax n).xg0 + nearest ((h.wposS (h.gdom n) -
      h.rgI (pgAXS n) Reg.AXS.GORG) * h.axGratio n) 256 (Config.tieUp h.fresh))
      else (h, h.rgI (pgAXS n) Reg.AXS.XGEAR)) ∧
      t = w.setRgI (pgAXS n) Reg.AXS.XGEAR xg ∧ t.fb (pgAXS n) Reg.AXS.CFG 0 = false) ∧
    (∃ (s t u : State) (n : Nat) (g : Seg), s.axLive n = true ∧ (s.ax n).seg = some g ∧ g.dur ≤ (s.ax n).u ∧
      t = s.setAx n { s.ax n with
      seg := none
      xprof := g.pos
      vlast := g.vel
      stopReq := false } ∧
      u = t.happenFrom (pgAXS n) 0 (n * 65536 + g.num % 65536) (s.ax n).chain ∧ g.fin = true ∧ (s.ax n).stopReq = false) ∧
    (∃ (s t u : State) (n : Nat) (g : Seg), s.axLive n = true ∧ (s.ax n).seg = some g ∧ g.dur ≤ (s.ax n).u ∧
      t = s.setAx n { s.ax n with
      seg := none
      xprof := g.pos
      vlast := g.vel
      stopReq := false } ∧
      u = t.happenFrom (pgAXS n) 0 (n * 65536 + g.num % 65536) (s.ax n).chain ∧ (s.ax n).stopReq = true) ∧
    (∃ (s t u : State) (n : Nat) (g : Seg), s.axLive n = true ∧ (s.ax n).seg = some g ∧ g.dur ≤ (s.ax n).u ∧
      t = s.setAx n { s.ax n with
      seg := none
      xprof := g.pos
      vlast := g.vel
      stopReq := false } ∧
      u = t.happenFrom (pgAXS n) 0 (n * 65536 + g.num % 65536) (s.ax n).chain ∧ g.fin = false ∧
      (s.ax n).stopReq = false ∧ u.axRuns n = true ∧ u.segPresent n (u.rg (pgAXS n) Reg.AXS.SEGTAIL) = true) ∧
    (∃ (s t u : State) (n : Nat) (g : Seg), s.axLive n = true ∧ (s.ax n).seg = some g ∧ g.dur ≤ (s.ax n).u ∧
      t = s.setAx n { s.ax n with
      seg := none
      xprof := g.pos
      vlast := g.vel
      stopReq := false } ∧
      u = t.happenFrom (pgAXS n) 0 (n * 65536 + g.num % 65536) (s.ax n).chain ∧ g.fin = false ∧
      (s.ax n).stopReq = false ∧ u.axRuns n = false ∧ u.segPresent n (u.rg (pgAXS n) Reg.AXS.SEGTAIL) = true) ∧
    (∃ (s t u : State) (n : Nat) (g : Seg), s.axLive n = true ∧ (s.ax n).seg = some g ∧ g.dur ≤ (s.ax n).u ∧
      t = s.setAx n { s.ax n with
      seg := none
      xprof := g.pos
      vlast := g.vel
      stopReq := false } ∧
      u = t.happenFrom (pgAXS n) 0 (n * 65536 + g.num % 65536) (s.ax n).chain ∧ g.fin = false ∧
      (s.ax n).stopReq = false ∧ u.segPresent n (u.rg (pgAXS n) Reg.AXS.SEGTAIL) = false) ∧
    (∃ (s t : State) (n : Nat), s.axLive n = true ∧ s.fb (pgAXS n) Reg.AXS.CFG 0 = false ∧ 0 < s.axLag n ∧
      s.axCoil n = 0 ∧ (s.ax n).wake = none ∧ (s.lagCheck n).axLive n = true ∧ (s.ax n).dirUp = true ∧
      (s.ax n).dirAt = none ∧ (s.ax n).lastStep = none ∧
      t = (s.setRg (pgAXS n) Reg.AXS.EPOS (enc2 32 (sgn 32 (s.rg (pgAXS n) Reg.AXS.EPOS) + 1))).inc (pgAXS n)
      Reg.AXS.STEPCNT 1) ∧
    (∃ (s : State) (n : Nat), s.axLive n = true ∧ s.axCoil n = 0 ∧ (s.ax n).wake = none ∧
      (s.fb (pgAXS n) Reg.AXS.CFG 0 = true ∨ s.axLag n = 0) ∧ (s.ax n).moved + s.rg (pgAXS n) Reg.AXS.STANDTMO ≤ s.cycle) ∧
    (∃ (s : State) (n c : Nat), (s.ax n).wake = some c ∧ s.axLive n = true ∧ c + s.rg (pgAXS n) Reg.AXS.WAKE ≤ s.cycle) ∧
    (∃ (s t : State) (n : Nat), s.axLive n = true ∧ s.fb (pgAXS n) Reg.AXS.CFG 0 = true ∧
      (s.ax n).lastFrame + s.axSpper n ≤ s.cycle ∧
      t = s.setAx n { s.ax n with
      seq := ((s.ax n).seq + 1) % 256
      lastFrame := s.cycle } ∧ t.standby = false) :=
  ⟨⟨(at_ [pgAXS 15] [] 0), _, 15, 6, meetsW (by decide) (by decide), by decide⟩,
    ⟨trigAt (pgAXS 15) 0, _, 15, 6, _, rfl, by decide⟩,
    ⟨(at_ [pgAXS 15] [] 0), _, 15, 6, meetsW (by decide) (by decide), by decide⟩,
    ⟨trigAt (pgAXS 15) 1, _, 15, 6, _, rfl, by decide⟩,
    ⟨(at_ [pgAXS 15] [] 0), _, 15, 6, meetsW (by decide) (by decide), by decide⟩,
    ⟨W, _, 0, 0, 6, meetsW (by decide) (by decide)⟩,
    ⟨(at_ [pgAXS 15] [(pgAXS 15, Reg.AXS.CFG, 0)] 0), _, _, _, 15, _, by decide, rfl, rfl, rfl, rfl, by decide⟩,
    ⟨(at_ [pgAXS 15] [] 0).setAx 15 { W.ax 15 with seg := some ⟨0, 0, 0, 0, true, 0, 0⟩ }, _, _, 15, _, by decide,
      rfl, by decide, rfl, rfl, by decide, by decide⟩,
    ⟨(at_ [pgAXS 15] [] 0).setAx 15 { W.ax 15 with seg := some ⟨0, 0, 0, 0, false, 0, 0⟩, stopReq := true }, _, _, 15, _,
      by decide, rfl, by decide, rfl, rfl, by decide⟩,
    ⟨(at_ [pgAXS 15] [(pgAXS 15, Reg.AXS.SEGHEAD, 1)] 0).setAx 15 { W.ax 15 with seg := some ⟨0, 0, 0, 0, false, 0, 0⟩ }, _, _, 15, _,
      by decide, rfl, by decide, rfl, rfl, by decide, by decide, by decide, by decide⟩,
    ⟨((at_ [pgAXS 15] [(pgAXS 15, Reg.AXS.SEGHEAD, 1)] 0).setAx 15 { W.ax 15 with seg := some ⟨0, 0, 0, 0, false, 0, 0⟩ }).setPage (pgAXS 15) { (at_ [pgAXS 15] [] 0).page (pgAXS 15) with state := .drain }, _, _, 15, _,
      by decide, rfl, by decide, rfl, rfl, by decide, by decide, by decide, by decide⟩,
    ⟨(at_ [pgAXS 15] [] 0).setAx 15 { W.ax 15 with seg := some ⟨0, 0, 0, 0, false, 0, 0⟩ }, _, _, 15, _, by decide,
      rfl, by decide, rfl, rfl, by decide, by decide, by decide⟩,
    ⟨(at_ [pgAXS 15] [(pgAXS 15, Reg.AXS.CFG, 0), (pgAXS 15, Reg.AXS.XCMD + 4, 1)] 0).setAx 15 { W.ax 15 with dirUp := true }, _, 15,
      by decide, by decide, by decide, by decide, by decide, by decide, by decide, by decide, by decide, rfl⟩,
    ⟨(at_ [pgAXS 15] [] 250000000), 15, by decide, by decide, by decide, by decide, by decide⟩,
    ⟨(at_ [pgAXS 15] [] 1000000).setAx 15 { W.ax 15 with wake := some 0 }, 15, 0, rfl, by decide, by decide⟩,
    ⟨(at_ [pgAXS 15] [(pgAXS 15, Reg.AXS.CFG, 1)] 1000000), _, 15, by decide, by decide, by decide, rfl, by decide⟩⟩

theorem witness_SigmaDeltaCommandsComplete :
    (∃ (s t u y w z : State) (n fl : Nat) (bs : List Bool) (x0 x1 x2 : Sdf) (v : Int) (f1 f2 f3 prev : Bool),
      (s.unitRuns .sdf n = true ∨ s.sdDrains n = true) ∧ s.sdClocked n = true ∧
      bs.length = 2 * 2 ^ sincLog (s.sdPreset n) ∧ x0 = { s.sd n with stuck := s.sdStuck n bs } ∧
      x0.sinc (s.sdPreset n) (bs.take (2 ^ sincLog (s.sdPreset n))) = (x1, f1) ∧
      x1.sinc (s.sdPreset n) (bs.drop (2 ^ sincLog (s.sdPreset n))) = (x2, f2) ∧
      x2.fir (s.sdPreset n) (Config.tieUp s.fresh) = (v, f3) ∧
      fl = b2n (decide (x2.since < unsettled (s.sdPreset n))) + 2 * b2n (f1 || f2 || f3) + 4 * b2n x2.stuck ∧
      t = (((s.drawn.setSd n { x2 with
      since := x2.since + 1
      seq := (x2.seq + 1) % 65536 }).setRg (pgSDF n) Reg.SDF.LAST (enc2 32 v)).setRg64 (pgSDF n) Reg.SDF.LTIME
      s.cycle).inc (pgSDF n) Reg.SDF.OUTCNT 1 ∧
      u = (if f1 || f2 || f3 then t.sat (pgSDF n) Reg.SDF.SATCNT 1 else t).sdTake n v (decide (fl = 0)) ∧
      y = (if x2.since = unsettled (s.sdPreset n) then u.happen (pgSDF n) 4 n else u) ∧
      w = (if x2.since < unsettled (s.sdPreset n) then y else (y.sdDetect n (s.sdSet n) v).sdLimit n (s.sdSet n) v) ∧
      w.sdQueue n (s.sdSet n) (sdfEntry v fl n x2.seq w.cycle) = (z, prev)) ∧
    (∃ (s t : State) (n clocks : Nat) (lv : Bool), s.unitRuns .sdf n = true ∧ s.sdClocked n = true ∧
      s.rg (pgSDF n) Reg.SDF.STUCKN ≤ clocks ∧ (s.sd n).stuck = false ∧
      t = ((s.setSd n { s.sd n with
      stuck := true
      stuckLevel := lv
      stuckAt := s.cycle }).sat (pgSDF n) Reg.SDF.STUCKCNT 1).err (pgSDF n) 1 0x261 0) ∧
    (∃ (s : State) (n req : Nat) (mx : Bool), n < 16 ∧ s.reaches req = true ∧ s.readRefused (pgSDF n) req = false) :=
  ⟨⟨at_ [pgSDF 0] [] 0, _, _, _, _, _, 0, _, List.replicate (2 * 2 ^ sincLog (W.sdPreset 0)) false, _, _, _, _, _, _, _, _,
      by decide, by decide, by decide, rfl, (Prod.eta _).symm, (Prod.eta _).symm, (Prod.eta _).symm, rfl, rfl, rfl, rfl,
      rfl, (Prod.eta _).symm⟩,
    ⟨at_ [pgSDF 0] [] 0, _, 0, 2 ^ 32, false, by decide, by decide, by decide, by decide, rfl⟩,
    ⟨W, 15, 6, false, by decide, by decide, by decide⟩⟩

theorem witness_TimeCaptureIsPerRequester :
    (∃ (s : State) (req r : Nat), s.readable pgPTP req ∧ r ≠ req ∧ Tbl.wf s.ptp.caps = true) ∧
    (∃ (s t : State) (g : Trig), s.Inv ∧ s.takeTrig pgPTP 0 = some (g, t) ∧ s.enabled pgPTP = true) :=
  ⟨⟨W, 6, 9, ⟨by decide, by decide, by decide⟩, by decide, by decide⟩,
    ⟨trigAt pgPTP 0, _, _, ⟨⟨rfl, rfl, rfl⟩, rfl, rfl⟩, rfl, by decide⟩⟩

theorem witness_NetworkCommandsComplete :
    (∃ (s t : State) (v req : Nat), s.meets64 pgPTP req Reg.PTP.INC v t) ∧
    (∃ (s t : State) (v req : Nat), s.meets64 pgPTP req Reg.PTP.OFSADJ v t) ∧
    (∃ (s t : State) (v req : Nat), s.meets32 pgPTP req Reg.PTP.TSETFRAC v t) ∧
    (∃ (s : State) (w : PtpWrite), s.ptp.pend.find? (fun w => decide (w.at_ ≤ s.cycle)) = some w) ∧
    (∃ (s : State) (req : Nat), s.readable pgPTP req) ∧
    (∃ (s t : State) (g : Trig), s.takeTrig pgPTP 0 = some (g, t) ∧ t.enabled pgPTP = true) ∧
    (∃ (s t u : State) (n : Nat) (e d : List Byte), n < unitCount s.variant .eth ∧ s.running (pgETH n) = true ∧
      s.peek (pgETH n) 0 = (t, some e) ∧ t.ethUp n = true ∧ t.txBad n e = false ∧ t.txData n e = (u, .inr (some d))) ∧
    (∃ (s t : State) (n : Nat) (e : List Byte), n < unitCount s.variant .eth ∧ s.running (pgETH n) = true ∧
      s.peek (pgETH n) 0 = (t, some e) ∧ t.ethUp n = true ∧ t.txBad n e = true) ∧
    (∃ (s : State) (n req : Nat), n < unitCount s.variant .eth ∧ s.readable (pgETH n) req) ∧
    (∃ (s t : State) (n : Nat) (bs : List Byte), s.ethUp n = true ∧ 64 ≤ bs.length + 4 ∧
      bs.length + 4 ≤ s.fl (pgETH n) Reg.ETH.MAXLEN 11 0 ∧ s.rxAccepts n bs = true ∧ leAt bs 12 2 ≠ 0x0888 ∧
      s.rxStore n bs = (t, true)) ∧
    (∃ (s : State) (n : Nat) (bs : List Byte), s.ethUp n = true ∧ bs.length + 4 < 64) ∧
    (∃ (s : State) (n k len : Nat), s.ethUp n = true ∧ k < 3) ∧
    (∃ (s t : State) (n : Nat), n < unitCount s.variant .eth ∧ s.fl (pgETH n) Reg.ETH.LSTAT 1 0 = 1 ∧
      t = ((((s.setRg (pgETH n) Reg.ETH.LSTAT 0).sat (pgETH n) Reg.ETH.DOWNCNT 1).err (pgETH n) 3 0x273 0).happen (pgETH n) 1
      n).violate (pgETH n) 0x273 ∧
      (t.page (pgETH n)).state ≠ .fault) ∧
    (∃ (s : State) (n : Nat), n < unitCount s.variant .eth ∧ s.fl (pgETH n) Reg.ETH.LSTAT 1 0 = 0 ∧
      s.enabled (pgETH n) = true ∧ s.fb (pgETH n) Reg.ETH.CFG 0 = false) :=
  ⟨⟨W, _, 0, 6, meetsW (by decide) (by decide)⟩,
    ⟨W, _, 0, 6, meetsW (by decide) (by decide)⟩,
    ⟨W, _, 0, 6, meetsW (by decide) (by decide)⟩,
    ⟨(fun s : State => { s with ptp := { s.ptp with pend := [⟨0, 0, 0⟩] } }) W, _, rfl⟩,
    ⟨W, 6, ⟨by decide, by decide, by decide⟩⟩,
    ⟨trigAt pgPTP 0, _, _, rfl, by decide⟩,
    ⟨withQ (pgETH 0) 0 1 (dram [pgETH 0] [(pgETH 0, Reg.ETH.LSTAT, 1)] 4096 (leBytes 8 8192 ++ leBytes 2 60 ++ leBytes 22 0)), _, _, 0, _, _,
      by decide, by decide, rfl, by decide, by decide, rfl⟩,
    ⟨withQ (pgETH 0) 0 1 (dram [pgETH 0] [(pgETH 0, Reg.ETH.LSTAT, 1)] 4096 (leBytes 8 8192 ++ leBytes 2 65000 ++ leBytes 22 0)), _, 0, _,
      by decide, by decide, rfl, by decide, by decide⟩,
    ⟨W, 0, 6, by decide, ⟨by decide, by decide, by decide⟩⟩,
    ⟨withQ (pgETH 0) 1 0 (dram [pgETH 0] [(pgETH 0, Reg.ETH.LSTAT, 1), (pgETH 0, Reg.ETH.CFG, 4), (pgETH 0, Reg.ETH.MAXLEN, 1518), (pgETH 0, Reg.ETH.RXBASE, 8192)] 0 []), _, 0, List.replicate 60 0,
      by decide, by decide, by decide, by decide, by decide, rfl⟩,
    ⟨at_ [pgETH 0] [(pgETH 0, Reg.ETH.LSTAT, 1)] 0, 0, [], by decide, by decide⟩,
    ⟨at_ [pgETH 0] [(pgETH 0, Reg.ETH.LSTAT, 1)] 0, 0, 0, 0, by decide, by decide⟩,
    ⟨at_ [pgETH 0] [(pgETH 0, Reg.ETH.LSTAT, 1)] 0, _, 0, by decide, by decide, rfl, by decide⟩,
    ⟨at_ [pgETH 0] [(pgETH 0, Reg.ETH.CFG, 0)] 0, 0, by decide, by decide, by decide, by decide⟩⟩

theorem witness_RingCommandsComplete :
    (∃ (s t : State) (b : Bool) (l : Nat), l < 4 ∧ bit (s.portLock b) l = true ∧
      (s.portState b = 1 ∨ s.portState b = 2) ∧
      t = (((s.laneLost b l).err pgTLK 2 0x292 (b2n b)).sat pgTLK Reg.TLK.DOWNCNT 1).tlkViolate b 0x292 ∧
      t.portState b = 3) ∧
    (∃ (s : State) (b : Bool), s.portState b = 1 ∧ s.portLock b ≠ 0xF ∧ s.clocked = true) ∧
    (∃ (s t : State) (b : Bool) (src t1 t2 t3 : Nat), (s.portState b = 1 ∨ s.portState b = 2) ∧ s.portLock b = 0xF ∧
      s.clocked = true ∧ t = (if b then s.setFl pgTLK Reg.TLK.PSTAT 15 12 src else s.setFl pgTLK Reg.TLK.PSTAT 11 8 src)) ∧
    (∃ (s : State), s.tlkRuns = true ∧ s.tlk.ringSent + 1024 ≤ s.cycle) ∧
    (∃ (s t : State) (b : Bool) (src b3 seq role rsize : Nat), s.portUp b = true ∧ src ≠ s.devid ∧
      t = s.setTport b { s.tport b with hops := Tbl.put (s.tport b).hops (src % 16) (b3Hops b3 + 1) } ∧
      t.tlkCopy 9 src seq = false) ∧
    (∃ (s : State), s.tlkRuns = true ∧ s.role = 0 ∧ s.redState = 1 ∧ s.tlk.tbSent + 32 ≤ s.cycle) ∧
    (∃ (s t : State) (b pf : Bool) (src hops dly : Nat) (ws : List Nat), s.portUp b = true ∧ ws.length = 17 ∧
      s.tlkCopy 1 0 (ws.headD 0 % 2 ^ 64) = false ∧
      t = (s.drawn.tlkNote b 1 0 (ws.headD 0 % 2 ^ 64)).tlkRepeat b 1 src 0 hops (b2n pf)
      ((dly + s.ldly b + s.draw 8 % 129) % 65536) ws ∧
      t.mepoch < ws.headD 0 % 65536) ∧
    (∃ (s : State), s.tbFollows = true ∧ s.fb pgTLK Reg.TLK.TBSTAT 5 = false ∧
      s.tlk.tbAt + s.fl pgTLK Reg.TLK.TBMAX 7 0 * 32 ≤ s.cycle) ∧
    (∃ (s : State), s.tbFollows = true ∧ s.tlk.tbAt + s.rg pgTLK Reg.TLK.TBHALT ≤ s.cycle) ∧
    (∃ (s : State) (b : Bool), s.portUp b = true) :=
  ⟨⟨(at_ [pgTLK] [(pgTLK, Reg.TLK.PSTAT, 0xF0001)] 0), _, false, 0, by decide, by decide, Or.inl (by decide), rfl,
      by decide⟩,
    ⟨(at_ [pgTLK] [(pgTLK, Reg.TLK.PSTAT, 0x70001)] 0), false, by decide, by decide, by decide⟩,
    ⟨(at_ [pgTLK] [(pgTLK, Reg.TLK.PSTAT, 0xF0001)] 0), _, false, 0, 0, 0, 0, Or.inl (by decide), by decide,
      by decide, rfl⟩,
    ⟨(at_ [pgTLK] [(pgTLK, Reg.TLK.PSTAT, 2)] 1024), by decide, by decide⟩,
    ⟨(at_ [pgTLK] [(pgTLK, Reg.TLK.PSTAT, 2)] 0), _, false, 3, 0, 0, 0, 0, by decide, by decide, rfl, by decide⟩,
    ⟨(at_ [pgTLK, pgRED] [(pgRED, Reg.RED.CFG, 0), (pgRED, Reg.RED.RSTAT, 1)] 32), by decide, by decide, by decide,
      by decide⟩,
    ⟨(at_ [pgTLK] [(pgTLK, Reg.TLK.PSTAT, 2)] 0), _, false, false, 0, 0, 0, 1 :: List.replicate 16 0, by decide,
      by decide, by decide, rfl, by decide⟩,
    ⟨(at_ [pgTLK, pgRED] [(pgTLK, Reg.TLK.PSTAT, 2), (pgRED, Reg.RED.CFG, 1), (pgOBS 0, Reg.OBS.OSTAT, 3), (pgOBS 0, Reg.OBS.SRC, 0x300)] 1000000),
      by decide, by decide, by decide⟩,
    ⟨(at_ [pgTLK, pgRED] [(pgTLK, Reg.TLK.PSTAT, 2), (pgRED, Reg.RED.CFG, 1), (pgOBS 0, Reg.OBS.OSTAT, 3), (pgOBS 0, Reg.OBS.SRC, 0x300)] 1000000),
      by decide, by decide⟩,
    ⟨(at_ [pgTLK] [(pgTLK, Reg.TLK.PSTAT, 2)] 0), false, by decide⟩⟩

theorem witness_RingTrafficCommandsComplete :
    (∃ (s t u : State) (g : Trig) (l : List Trig),
      s.trigs.find? (fun t => t.page == pgTLK && decide (64 ≤ t.task)) = some g ∧
      l = (s.trigs.filter (fun x => x.page == pgTLK && decide (64 ≤ x.task) && x.cycle == g.cycle)).take 8 ∧
      t = { s with trigs := s.trigs.filter (fun x => !l.contains x) } ∧ t.tlkRuns = true ∧ t.redState ≠ 4 ∧
      u = t.inc pgTLK Reg.TLK.REVCNT l.length) ∧
    (∃ (s t : State) (b pf : Bool) (src hops seq : Nat) (ws : List Nat), s.portUp b = true ∧ 0 < ws.length ∧
      ws.length ≤ 8 ∧ s.tlkCopy 2 src seq = false ∧ t = (s.tlkNote b 2 src seq).tlkRepeat b 2 src 0 hops (b2n pf) seq ws) ∧
    (∃ (s t : State) (wr wide : Bool) (req : Nat), s.meets32 pgTLK req Reg.TLK.TUNCMD (1 + 2 * b2n wr + 4 * b2n wide) t) ∧
    (∃ (s : State) (b wide : Bool) (src b3 seq off d : Nat), s.portUp b = true ∧ s.devid < 15 ∧ src = s.mgr ∧
      s.busRefused (off % 2 ^ 22) 8 true = false) ∧
    (∃ (s : State) (b wide : Bool) (src b3 seq off d : Nat), s.portUp b = true ∧ s.devid < 15 ∧ src = s.mgr ∧
      s.busRefused (off % 2 ^ 22) 8 false = false) ∧
    (∃ (s : State) (b : Bool) (b3 code d : Nat) (x : TlkTun), s.portUp b = true ∧ s.devid < 15 ∧ s.tlk.tun = some x ∧
      x.wr = false) ∧
    (∃ (s : State) (x : TlkTun), s.tlk.tun = some x ∧ x.at_ + s.rg pgTLK Reg.TLK.TUNTMO ≤ s.cycle) ∧
    (∃ (s t : State) (b : Bool) (src b3 w : Nat) (ws : List Nat), s.portUp b = true ∧ s.devid < 15 ∧ s.mgr = s.devid ∧
      ws.length = 8 * bits w 41 36 ∧ bits w 41 36 ≤ 32 ∧ bit w 35 = false ∧ t = s.setFwdRx src (s.fwdRx src) ∧
      (s.fwdRx src).expect = w % 2 ^ 32) ∧
    (∃ (s t : State) (b : Bool) (b3 a : Nat), s.portUp b = true ∧ s.devid < 15 ∧
      t = { s with tlk := { s.tlk with
      ackSeq := a % 2 ^ 32
      ackAt := s.cycle
      sent := fwdDrop (a % 2 ^ 32) [] s.tlk.sent } }) ∧
    (∃ (s : State) (d : Nat) (x : FwdRx), Tbl.get? s.tlk.rx d = some x ∧ s.tlkRuns = true ∧ s.mgr = s.devid ∧
      x.at_ + 1024 ≤ s.cycle) ∧
    (∃ (s : State), s.tlkRuns = true ∧ s.fwdOpen ≠ [] ∧ s.tlk.ackAt + s.rg pgTLK Reg.TLK.FWTMO ≤ s.cycle) ∧
    (∃ (s : State) (b : Bool) (src b3 c : Nat) (ws : List Nat), s.portUp b = true ∧ s.devid < 15 ∧ 6 ≤ ws.length ∧
      ws.length = 6 + ws.getD 5 0) ∧
    (∃ (s t : State) (b : Bool) (b3 q a d : Nat), s.portUp b = true ∧ s.devid < 15 ∧ s.role = 1 ∧ s.redState = 2 ∧
      s.tlk.mirNext = none ∧ q < 2 ^ 32 ∧ mirSkips (a % 2 ^ 22) = false ∧ bit a 22 = false ∧
      t = ((({ s with tlk := { s.tlk with mirNext := some ((q + 1) % 2 ^ 32) } } : State).setRg pgRED Reg.RED.MIRSEQ q).inc
      pgRED Reg.RED.MIRCNT 1)) ∧
    (∃ (s : State), s.running pgRED = true ∧ s.redState = 2 ∧ s.fb pgRED Reg.RED.CFG 4 = true ∧
      s.tlk.tbAt + 104 ≤ s.cycle) ∧
    (∃ (s t u v : State) (req : Nat), s.meets32 pgRED req Reg.RED.CMD 1 t ∧ s.meets32 pgRED req Reg.RED.CMD 2 u ∧
      s.meets32 pgRED req Reg.RED.CMD 4 v) :=
  ⟨⟨trigAt pgTLK 64, _, _, _, _, rfl, rfl, rfl, by decide, by decide, rfl⟩,
    ⟨(at_ [pgTLK] [(pgTLK, Reg.TLK.PSTAT, 2)] 0), _, false, false, 3, 0, 0, [0], by decide, by decide, by decide,
      by decide, rfl⟩,
    ⟨W, _, false, false, 6, meetsW (by decide) (by decide)⟩,
    ⟨(at_ [pgTLK] [(pgTLK, Reg.TLK.PSTAT, 2), (pgTLK, Reg.TLK.CFG, 1), (pgTLK, Reg.TLK.TBSTAT, 2)] 0), false, false, 2, 0, 0, 0x1008, 0,
      by decide, by decide, by decide, by decide⟩,
    ⟨(at_ [pgTLK] [(pgTLK, Reg.TLK.PSTAT, 2), (pgTLK, Reg.TLK.CFG, 1), (pgTLK, Reg.TLK.TBSTAT, 2)] 0), false, false, 2, 0, 0, 0x1008, 0,
      by decide, by decide, by decide, by decide⟩,
    ⟨{ at_ [pgTLK] [(pgTLK, Reg.TLK.PSTAT, 2), (pgTLK, Reg.TLK.CFG, 1), (pgTLK, Reg.TLK.TBSTAT, 2)] 0 with tlk := { W.tlk with tun := some ⟨0, 2, false, false, 0⟩ } }, false, 0, 0, 0, _,
      by decide, by decide, rfl, by decide⟩,
    ⟨{ at_ [pgTLK] [(pgTLK, Reg.TLK.PSTAT, 2)] 1250000 with tlk := { W.tlk with tun := some ⟨0, 2, false, false, 0⟩ } }, _,
      rfl, by decide⟩,
    ⟨(at_ [pgTLK] [(pgTLK, Reg.TLK.PSTAT, 2), (pgTLK, Reg.TLK.CFG, 1), (pgTLK, Reg.TLK.TBSTAT, 1)] 0), _, false, 2, 0, 2 * 2 ^ 36, List.replicate 16 0,
      by decide, by decide, by decide, by decide, by decide, by decide, rfl, by decide⟩,
    ⟨(at_ [pgTLK] [(pgTLK, Reg.TLK.PSTAT, 2), (pgTLK, Reg.TLK.CFG, 1), (pgTLK, Reg.TLK.TBSTAT, 2)] 0), _, false, 0, 0,
      by decide, by decide, rfl⟩,
    ⟨{ at_ [pgTLK] [(pgTLK, Reg.TLK.PSTAT, 2), (pgTLK, Reg.TLK.CFG, 1), (pgTLK, Reg.TLK.TBSTAT, 1)] 1024 with tlk := { W.tlk with rx := [(2, ⟨0, [], 0, 0, 0⟩)] } }, 2, _,
      rfl, by decide, by decide, by decide⟩,
    ⟨{ at_ [pgTLK] [(pgTLK, Reg.TLK.PSTAT, 2)] 250000 with tlk := { W.tlk with sent := [⟨0, [], true⟩] } }, by decide,
      by decide, by decide⟩,
    ⟨(at_ [pgTLK] [(pgTLK, Reg.TLK.PSTAT, 2), (pgTLK, Reg.TLK.CFG, 1), (pgTLK, Reg.TLK.TBSTAT, 2)] 0), false, 0, 0, 0, [0, 0, 0, 0, 0, 1, 7],
      by decide, by decide, by decide, by decide⟩,
    ⟨(at_ [pgTLK, pgRED] [(pgTLK, Reg.TLK.PSTAT, 2), (pgTLK, Reg.TLK.CFG, 1), (pgTLK, Reg.TLK.TBSTAT, 2), (pgRED, Reg.RED.CFG, 1), (pgRED, Reg.RED.RSTAT, 2)] 0), _, false, 0, 0, pageBase (pgENC 0) + 0x100, 0,
      by decide, by decide, by decide, by decide, by decide, by decide, by decide, by decide, rfl⟩,
    ⟨at_ [pgRED] [(pgRED, Reg.RED.CFG, 0x11), (pgRED, Reg.RED.RSTAT, 2)] 104, by decide, by decide, by decide,
      by decide⟩,
    ⟨W, _, _, _, 6, (meetsW (by decide) (by decide)), (meetsW (by decide) (by decide)), (meetsW (by decide) (by decide))⟩⟩

theorem witness_MemoryCommandsComplete :
    (∃ (s : State) (k w : Nat), s.sram.wb.contains (sramKey k w) = true) ∧
    (∃ (s t : State) (f k w : Nat), s.fb pgSRAM Reg.SRAM.ECCCTL 1 = true ∧ s.scrubDue = true ∧
      k = s.fl pgSRAM Reg.SRAM.SCRUBPOS 29 28 ∧ w = s.fl pgSRAM Reg.SRAM.SCRUBPOS 24 0 ∧
      t = ((s.sramUpset k w f).sramRead k w).1) ∧
    (∃ (s t : State) (v req : Nat), s.meets32 pgSRAM req Reg.SRAM.INJECT v t) ∧
    (∃ (s t u : State) (who a n : Nat) (bs : List Byte) (ce ue : List Nat), bs.length = n ∧ t = s.dramUpset ce ue ∧
      t.dramFault (t.dramWho who) true a n = none ∧ u = t.dramPass (t.dramWho who) true a n) ∧
    (∃ (s t : State) (who a n : Nat) (bs : List Byte) (ce ue : List Nat), t = s.dramUpset ce ue ∧
      t.dramFault (t.dramWho who) false a n = none) ∧
    (∃ (s t : State) (c ready b i : Nat) (r : DramReq), c < s.nch ∧ t = s.dmcCycle c ∧
      t.dmcLive c = true ∧ (((List.range 16).map (fun i => ((t.dmc c).last + 1 + i) % 16)).findSome? (fun b =>
      if bit ready b = false ∨ 8 ≤ ((t.dmc c).bank b).owed then none
      else (((t.dmc c).bank b).next (t.fl (pgDMC c) Reg.DMC.HITMAX 3 0)).map (fun r => (b, r))) = some (b, (i, r)))) ∧
    (∃ (s t : State) (c b n : Nat), s.dmcLive c = true ∧
      b < 16 ∧ (((s.dmc c).bank b).q = [] ∧
      -8 < ((s.dmc c).bank b).owed + n ∨ 8 ≤ ((s.dmc c).bank b).owed + n) ∧
      t = (s.setDmc c ((s.dmc c).setBank b { (s.dmc c).bank b with
        owed := ((s.dmc c).bank b).owed + n - 1
        row := none })).inc (pgDMC c) Reg.DMC.REFCNT 1) ∧
    (∃ (s : State) (c b row : Nat), c < s.nch ∧ ((s.dmc c).bank b).row = some row ∧ ((s.dmc c).bank b).q = [] ∧
      s.fl (pgDMC c) Reg.DMC.IDLETMO 15 0 ≤ ((s.dmc c).bank b).idle) ∧
    (∃ (s t : State) (c u : Nat) (ce ue : List Nat), s.dmcLive c = true ∧ s.fb (pgDMC c) Reg.DMC.CFG 4 = true ∧
      s.fb (pgDMC c) Reg.DMC.SCRUB 0 = true ∧ (s.dmc c).scrubAt + s.fl (pgDMC c) Reg.DMC.SCRUB 31 8 ≤ (s.dmc c).clk ∧
      u = s.rg (pgDMC c) Reg.DMC.SCRUBPOS ∧
      t = ((s.dramUpset ce ue).setDmc c { s.dmc c with scrubAt := (s.dmc c).clk }).dramMeets (unitWho (pgDMC c)) false
      (s.deviceAddr c (u * 256)) 256 ∧
      t.dramBad.find? (fun b => decide (s.deviceAddr c (u * 256) ≤ b) && decide (b < s.deviceAddr c (u * 256) + 256)) = none) ∧
    (∃ (s t : State) (c w : Nat) (ok : Bool), s.cal.training.contains c = true ∧ t = s.trained c w ok ∧
      (t.page (pgDMC c)).en = false) ∧
    (∃ (s t : State) (c w : Nat) (ok : Bool), s.cal.training.contains c = true ∧ t = s.trained c w ok ∧
      (t.page (pgDMC c)).en = true ∧ (t.page (pgDMC c)).state = .off) ∧
    (∃ (s t : State) (c rate : Nat), c < s.nch ∧ rate < 3 ∧ s.fl (pgDMC c) Reg.DMC.DSTAT 5 4 ≠ rate ∧
      t = s.setFl (pgDMC c) Reg.DMC.DSTAT 5 4 rate ∧ t.fb pgCALC Reg.CALC.CFG 13 = false) ∧
    (∃ (s t : State) (c rate : Nat), c < s.nch ∧ rate < 3 ∧ s.fl (pgDMC c) Reg.DMC.DSTAT 5 4 ≠ rate ∧
      t = s.setFl (pgDMC c) Reg.DMC.DSTAT 5 4 rate ∧ t.fb pgCALC Reg.CALC.CFG 13 = true) :=
  ⟨⟨(fun s : State => { s with sram := { s.sram with wb := [sramKey 0 5] } }) W, 0, 5, by decide⟩,
    ⟨at_ [pgSRAM] [(pgSRAM, Reg.SRAM.ECCCTL, 2)] 0, _, 0, _, _, by decide, by decide, rfl, rfl, rfl⟩,
    ⟨W, _, 0, 6, meetsW (by decide) (by decide)⟩,
    ⟨W, _, _, 0, 0, 0, [], [], [], by decide, rfl, by decide, rfl⟩,
    ⟨W, _, 0, 0, 0, [], [], [], rfl, by decide⟩,
    ⟨(at_ [pgDMC 0] [] 0).setDmc 0 ((W.dmc 0).setBank 1 { (W.dmc 0).bank 1 with q := [(⟨false, 0, 1, 0, 0, 0⟩ : DramReq)] }), _, 0, 2, 1, 0, (⟨false, 0, 1, 0, 0, 0⟩ : DramReq),
      by decide, rfl, by decide, rfl⟩,
    ⟨at_ [pgDMC 0] [] 0, _, 0, 0, 0, by decide, by decide, by decide, rfl⟩,
    ⟨(at_ [pgDMC 0] [] 0).setDmc 0 ((W.dmc 0).setBank 15 { (W.dmc 0).bank 15 with row := some 3, idle := 65535 }), 0, 15, 3,
      by decide, rfl, by decide, by decide⟩,
    ⟨(at_ [pgDMC 0] [(pgDMC 0, Reg.DMC.CFG, 16), (pgDMC 0, Reg.DMC.SCRUB, 1)] 0), _, 0, _, [], [], by decide,
      by decide, by decide, by decide, rfl, rfl, by decide⟩,
    ⟨(fun s : State => { s with cal := { s.cal with training := [0] } }) W, _, 0, 0, false, by decide, rfl, by decide⟩,
    ⟨(fun s : State => { s with cal := { s.cal with training := [0] } }) (W.setPage (pgDMC 0) { W.page (pgDMC 0) with en := true }), _, 0, 0, false,
      by decide, rfl, by decide, by decide⟩,
    ⟨(W.setFl (pgDMC 0) Reg.DMC.DSTAT 5 4 1).setRg pgCALC Reg.CALC.CFG 0, _, 0, 0, by decide, by decide, by decide,
      rfl, by decide⟩,
    ⟨(W.setFl (pgDMC 0) Reg.DMC.DSTAT 5 4 1).setRg pgCALC Reg.CALC.CFG 0x2000, _, 0, 0, by decide, by decide,
      by decide, rfl, by decide⟩⟩

theorem witness_DramWritesStoreExactlyTheirBytes :
    (∃ (s u : State) (w : Who) (a : Nat) (bs : List Byte), s.Inv ∧ bs = [1, 2, 3] ∧ s.dramWrite w a bs = (u, true)) ∧
    (∃ (s u : State) (w : Who) (a n : Nat), s.dramRead w a n = (u, some [7])) :=
  ⟨⟨dram [] [] 0 [], _, unitWho (pgENC 0), 255, [1, 2, 3], ⟨⟨rfl, rfl, rfl⟩, rfl, rfl⟩, rfl, rfl⟩,
    ⟨dram [] [] 5 [7], _, unitWho (pgENC 0), 5, 1, rfl⟩⟩

theorem witness_CalibrationAndLanternCommandsComplete :
    (∃ (s t : State) (d i req : Nat) (f : Bool), s.meets32 pgCALC req Reg.CALC.CMD (1 + 2 * b2n f + 16 * d + 256 * i) t) ∧
    (∃ (s : State) (d i w : Nat), d < 5 ∧ i < s.calInsts d ∧ s.calServes d i = true ∧
      s.fb pgCALC Reg.CALC.CFG (8 + d) = true ∧ w < s.fl pgCALC Reg.CALC.EYEMIN 7 0 + 16) ∧
    (∃ (s : State) (d w : Nat) (ok : Bool) (j : CalJob), s.cal.running.find? (·.dom == d) = some j ∧ j.lost = false ∧
      s.calServes d j.inst = true ∧ s.calDue j = true) ∧
    (∃ (s t : State) (j : CalJob), s.cal.nextJob 0 = some j ∧ s.cal.running.any (·.dom == 0) = false ∧
      s.lstate j.inst = 2 ∧ (s.link j.inst).laneEnd ≤ s.cycle * 100 ∧ s.webGap j.inst = true ∧
      t = (s.calBegin j).setLink j.inst { (s.calBegin j).link j.inst with
      answers := 0
      rttSum := 0 }) ∧
    (∃ (s : State) (j : CalJob), s.cal.nextJob 0 = some j ∧ s.rg pgCALC Reg.CALC.GAPWAIT ≠ 0 ∧
      j.at_ + s.rg pgCALC Reg.CALC.GAPWAIT ≤ s.cycle) ∧
    (∃ (s t : State) (j : CalJob), s.cal.nextJob 5 = some j ∧ s.cal.running.any (·.dom == 5) = false ∧
      s.cal.retrainAt = none ∧ s.calServes 5 j.inst = true ∧ t = (s.calBegin j).setFl (pgDMC j.inst) Reg.DMC.DSTAT 2 2 1) ∧
    (∃ (s : State) (k i v : Nat) (z : Int), (k = 1 ∨ k = 2) ∧ s.running pgLANT = true ∧ i < monCount k ∧
      s.lant.slack0 = none ∧ z = (if k = 1 then sgn 32 v else ((v % 2 ^ 32 : Nat) : Int))) ∧
    (∃ (s : State), s.fb pgLANT Reg.LANT.CFG 0 = true ∧
      s.lant.planAt + s.rg pgLANT Reg.LANT.PERIOD * 250000000 ≤ s.runCycles) ∧
    (∃ (s t : State) (req : Nat), s.meets32 pgLANT req Reg.LANT.CMD 1 t) ∧
    (∃ (s : State) (x : Plan), s.lant.plan = some x ∧ s.lantLive = true ∧ x.phase ≠ 0 ∧ x.wait = none ∧ x.noAvs = false) ∧
    (∃ (s : State) (x : Plan), s.lant.plan = some x ∧ s.lantLive = true ∧ x.phase ≠ 0 ∧ x.wait = none ∧ x.noAvs = true) ∧
    (∃ (s : State) (cmd v : Nat), s.lantLive = true ∧ bits v 7 5 = 0) ∧
    (∃ (s : State), s.lantLive = true) :=
  ⟨⟨W, _, 0, 0, 6, false, meetsW (by decide) (by decide)⟩,
    ⟨at_ [pgCALC, pgHLK 0] [(pgHLK 0, Reg.HLK.LSTAT, 2), (pgCALC, Reg.CALC.CFG, 256)] 0, 0, 0, 0, by decide,
      by decide, by decide, by decide, by decide⟩,
    ⟨(fun s : State => { s with cal := { s.cal with running := [(⟨0, 0, false, false, 0, false⟩ : CalJob)] } }) (at_ [pgCALC, pgHLK 0] [(pgHLK 0, Reg.HLK.LSTAT, 2)] 1000000000), 0, 0, false, _,
      rfl, by decide, by decide, by decide⟩,
    ⟨(fun s : State => { s with cal := { s.cal with waiting := [(⟨0, 0, false, false, 0, false⟩ : CalJob)] } }) (at_ [pgCALC, pgHLK 0] [(pgHLK 0, Reg.HLK.LSTAT, 2)] 0), _, _,
      rfl, by decide, by decide, by decide, by decide, rfl⟩,
    ⟨(fun s : State => { s with cal := { s.cal with waiting := [(⟨0, 0, false, false, 0, false⟩ : CalJob)] } }) (at_ [pgCALC] [(pgCALC, Reg.CALC.GAPWAIT, 5)] 5), _,
      rfl, by decide, by decide⟩,
    ⟨(fun s : State => { s with cal := { s.cal with waiting := [(⟨5, 0, false, false, 0, false⟩ : CalJob)] } }) (at_ [pgCALC, pgDMC 0] [] 0), _, _,
      rfl, by decide, by decide, by decide, rfl⟩,
    ⟨at_ [pgLANT] [] 0, 1, 0, 0, _, Or.inl rfl, by decide, by decide, by decide, rfl⟩,
    ⟨at_ [pgLANT] [(pgLANT, Reg.LANT.CFG, 1), (pgLANT, Reg.LANT.PERIOD, 0)] 0, by decide, by decide⟩,
    ⟨W, _, 6, meetsW (by decide) (by decide)⟩,
    ⟨(fun s : State => { s with lant := { s.lant with plan := some ⟨0, 0, 0, 0, 1, false, [], 0, 0, false, false, none⟩ } }) (at_ [pgLANT] [] 0), _,
      rfl, by decide, by decide, by decide, by decide⟩,
    ⟨(fun s : State => { s with lant := { s.lant with plan := some ⟨0, 0, 0, 0, 1, false, [], 0, 0, true, false, none⟩ } }) (at_ [pgLANT] [] 0), _,
      rfl, by decide, by decide, by decide, by decide⟩,
    ⟨at_ [pgLANT] [] 0, 0, 0, by decide, by decide⟩,
    ⟨at_ [pgLANT] [] 0, by decide⟩⟩

theorem witness_BootCommandsComplete :
    (∃ (s t : State) (src : Nat) (bs : List Byte) (pm : Bool), t = s.keepStart ∧ (t.stage = 2 ∨ t.stage = 4) ∧
      src < 2 ∧ t.xspiOk = true ∧ t.bootSrc = src ∧ t.bootFail = false ∧
      t.sfdpRead.keep.check (if t.stage = 2 then 1 else 2) false bs = 11 ∧ 11 ≠ 0) ∧
    (∃ (s t : State) (n : Nat) (bs : List Byte) (pm : Bool), t = s.keepStart ∧ (t.stage = 2 ∨ t.stage = 4) ∧
      t.keep.bldLen = some n ∧ t.keep.check (if t.stage = 2 then 1 else 2) true (t.keep.bld.take n) = 11 ∧ 11 ≠ 0) ∧
    (∃ (s t : State), t = s.keepStart ∧ t.xspiOk = true ∧ (t.stage = 2 ∨ t.stage = 4) ∧ t.bootSrc < 2 ∧
      t.bootFail = false) ∧
    (∃ (s t : State) (req : Nat), s.meets32 pgKEEP req Reg.KEEP.BLDCTL 1 t) ∧
    (∃ (s t : State) (v req : Nat), s.meets64 pgKEEP req Reg.KEEP.BLDDATA v t) ∧
    (∃ (s t : State) (v req : Nat), s.meets32 pgKEEP req Reg.KEEP.BLDLEN v t) ∧
    (∃ (s t : State) (n : Nat), s.keep.sub = some n ∧ n + 355246040 ≤ s.cycle ∧
      t = ({ s with keep := { s.keep.subtreeDone with ready := true } } : State).setRg pgKEEP Reg.KEEP.SUBLEFT 1024 ∧
      s.keep.ready = false ∧ t.stage = 5) ∧
    (∃ (s t : State) (n : Nat), s.keep.sub = some n ∧ n + 355246040 ≤ s.cycle ∧
      t = ({ s with keep := { s.keep.subtreeDone with ready := true } } : State).setRg pgKEEP Reg.KEEP.SUBLEFT 1024 ∧
      s.keep.ready = false ∧ t.stage ≠ 5) ∧
    (∃ (s t : State) (n : Nat), s.keep.sub = some n ∧ n + 355246040 ≤ s.cycle ∧
      t = ({ s with keep := { s.keep.subtreeDone with ready := true } } : State).setRg pgKEEP Reg.KEEP.SUBLEFT 1024 ∧
      s.keep.ready = true) :=
  ⟨⟨{ at_ [] [(pgKEEP, Reg.KEEP.BSTAT, 2)] 0 with keep := { W.keep with fuses := 0xF, bldLen := some 0 } }, _, 0, [], false,
      rfl, Or.inl (by decide), by decide, by decide, by decide, by decide, by decide, by decide⟩,
    ⟨{ at_ [] [(pgKEEP, Reg.KEEP.BSTAT, 2)] 0 with keep := { W.keep with fuses := 0xF, bldLen := some 0 } }, _, 0, [], false,
      rfl, Or.inl (by decide), rfl, by decide, by decide⟩,
    ⟨{ at_ [] [(pgKEEP, Reg.KEEP.BSTAT, 2)] 0 with keep := { W.keep with fuses := 0xF, bldLen := some 0 } }, _, rfl,
      by decide, Or.inl (by decide), by decide, by decide⟩,
    ⟨W, _, 6, meetsW (by decide) (by decide)⟩,
    ⟨W, _, 0, 6, meetsW (by decide) (by decide)⟩,
    ⟨W, _, 0, 6, meetsW (by decide) (by decide)⟩,
    ⟨{ at_ [] [(pgKEEP, Reg.KEEP.BSTAT, 5)] 355246040 with keep := { W.keep with sub := some 0, ready := false } }, _, 0,
      rfl, by decide, rfl, by decide, by decide⟩,
    ⟨{ at_ [] [] 355246040 with keep := { W.keep with sub := some 0, ready := false } }, _, 0, rfl, by decide, rfl,
      by decide, by decide⟩,
    ⟨{ at_ [] [] 355246040 with keep := { W.keep with sub := some 0, ready := true } }, _, 0, rfl, by decide, rfl,
      by decide⟩⟩

theorem witness_KeepQueueCommandsComplete :
    (∃ (s t : State) (e : List Byte), s.keepTakes = true ∧ s.peek pgKEEP 0 = (t, some e) ∧ leAt e 1 7 = 0 ∧
      leAt e 0 1 = 1) ∧
    (∃ (s t : State) (e : List Byte), s.keepTakes = true ∧ s.peek pgKEEP 0 = (t, some e) ∧ leAt e 1 7 = 0 ∧
      leAt e 0 1 = 2) ∧
    (∃ (s t : State) (e : List Byte), s.keepTakes = true ∧ s.peek pgKEEP 0 = (t, some e) ∧ leAt e 1 7 = 0 ∧
      leAt e 0 1 = 3) ∧
    (∃ (s t : State) (e : List Byte), s.keepTakes = true ∧ s.peek pgKEEP 0 = (t, some e) ∧ leAt e 1 7 = 0 ∧
      leAt e 0 1 = 5) ∧
    (∃ (s t : State) (e : List Byte), s.keepTakes = true ∧ s.peek pgKEEP 0 = (t, some e) ∧ leAt e 1 7 = 0 ∧
      leAt e 0 1 = 6) ∧
    (∃ (s t : State) (e : List Byte), s.keepTakes = true ∧ s.peek pgKEEP 0 = (t, some e) ∧ leAt e 1 7 = 0 ∧
      leAt e 0 1 = 4 ∧ t.signedOp e = 1) ∧
    (∃ (s t : State) (e : List Byte), s.keepTakes = true ∧ s.peek pgKEEP 0 = (t, some e) ∧ leAt e 1 7 = 0 ∧
      leAt e 0 1 = 4 ∧ t.signedOp e = 2) ∧
    (∃ (s t : State) (e : List Byte), s.keepTakes = true ∧ s.peek pgKEEP 0 = (t, some e) ∧ leAt e 1 7 = 0 ∧
      leAt e 0 1 = 4 ∧ t.signedOp e = 3) ∧
    (∃ (s t : State) (e : List Byte), s.keepTakes = true ∧ s.peek pgKEEP 0 = (t, some e) ∧ leAt e 1 7 = 0 ∧
      leAt e 0 1 = 4 ∧ t.signedOp e = 4) ∧
    (∃ (s t : State) (e : List Byte), s.keepTakes = true ∧ s.peek pgKEEP 0 = (t, some e) ∧ leAt e 1 7 = 0 ∧
      leAt e 0 1 = 4 ∧ t.signedOp e = 5) ∧
    (∃ (s t : State) (e : List Byte), s.keepTakes = true ∧ s.peek pgKEEP 0 = (t, some e) ∧ leAt e 1 7 = 0 ∧
      leAt e 0 1 = 4 ∧ t.signedOp e = 6) :=
  ⟨⟨(fun s : State => (s.setQueue 1 { Queue.reset with en := true, unit := pgKEEP, port := 1, esz := 2, base := 8192 }).setQueue 0 { Queue.reset with en := true, unit := pgKEEP, esz := 2, pidx := 1, base := 4096 }) (dram [] [(pgKEEP, Reg.KEEP.BSTAT, 5)] 4096 (leBytes 1 1)), _, _,
      by decide, rfl, by decide, by decide⟩,
    ⟨(fun s : State => (s.setQueue 1 { Queue.reset with en := true, unit := pgKEEP, port := 1, esz := 2, base := 8192 }).setQueue 0 { Queue.reset with en := true, unit := pgKEEP, esz := 2, pidx := 1, base := 4096 }) (dram [] [(pgKEEP, Reg.KEEP.BSTAT, 5)] 4096 (leBytes 1 2)), _, _,
      by decide, rfl, by decide, by decide⟩,
    ⟨(fun s : State => (s.setQueue 1 { Queue.reset with en := true, unit := pgKEEP, port := 1, esz := 2, base := 8192 }).setQueue 0 { Queue.reset with en := true, unit := pgKEEP, esz := 2, pidx := 1, base := 4096 }) (dram [] [(pgKEEP, Reg.KEEP.BSTAT, 5)] 4096 (leBytes 1 3)), _, _,
      by decide, rfl, by decide, by decide⟩,
    ⟨(fun s : State => (s.setQueue 1 { Queue.reset with en := true, unit := pgKEEP, port := 1, esz := 2, base := 8192 }).setQueue 0 { Queue.reset with en := true, unit := pgKEEP, esz := 2, pidx := 1, base := 4096 }) (dram [] [(pgKEEP, Reg.KEEP.BSTAT, 5)] 4096 (leBytes 1 5)), _, _,
      by decide, rfl, by decide, by decide⟩,
    ⟨(fun s : State => (s.setQueue 1 { Queue.reset with en := true, unit := pgKEEP, port := 1, esz := 2, base := 8192 }).setQueue 0 { Queue.reset with en := true, unit := pgKEEP, esz := 2, pidx := 1, base := 4096 }) (dram [] [(pgKEEP, Reg.KEEP.BSTAT, 5)] 4096 (leBytes 1 6)), _, _,
      by decide, rfl, by decide, by decide⟩,
    ⟨(fun s : State => (s.setQueue 1 { Queue.reset with en := true, unit := pgKEEP, port := 1, esz := 2, base := 8192 }).setQueue 0 { Queue.reset with en := true, unit := pgKEEP, esz := 2, pidx := 1, base := 4096 }) (dram [] [(pgKEEP, Reg.KEEP.BSTAT, 5)] 4096 (leBytes 1 4 ++ leBytes 15 0 ++ leBytes 8 4160 ++ leBytes 4 130 ++ leBytes 36 0 ++ leBytes 128 0 ++ leBytes 2 1)), _, _,
      by decide, rfl, by decide, by decide, by decide⟩,
    ⟨(fun s : State => (s.setQueue 1 { Queue.reset with en := true, unit := pgKEEP, port := 1, esz := 2, base := 8192 }).setQueue 0 { Queue.reset with en := true, unit := pgKEEP, esz := 2, pidx := 1, base := 4096 }) (dram [] [(pgKEEP, Reg.KEEP.BSTAT, 5)] 4096 (leBytes 1 4 ++ leBytes 15 0 ++ leBytes 8 4160 ++ leBytes 4 130 ++ leBytes 36 0 ++ leBytes 128 0 ++ leBytes 2 2)), _, _,
      by decide, rfl, by decide, by decide, by decide⟩,
    ⟨(fun s : State => (s.setQueue 1 { Queue.reset with en := true, unit := pgKEEP, port := 1, esz := 2, base := 8192 }).setQueue 0 { Queue.reset with en := true, unit := pgKEEP, esz := 2, pidx := 1, base := 4096 }) (dram [] [(pgKEEP, Reg.KEEP.BSTAT, 5)] 4096 (leBytes 1 4 ++ leBytes 15 0 ++ leBytes 8 4160 ++ leBytes 4 130 ++ leBytes 36 0 ++ leBytes 128 0 ++ leBytes 2 3)), _, _,
      by decide, rfl, by decide, by decide, by decide⟩,
    ⟨(fun s : State => (s.setQueue 1 { Queue.reset with en := true, unit := pgKEEP, port := 1, esz := 2, base := 8192 }).setQueue 0 { Queue.reset with en := true, unit := pgKEEP, esz := 2, pidx := 1, base := 4096 }) (dram [] [(pgKEEP, Reg.KEEP.BSTAT, 5)] 4096 (leBytes 1 4 ++ leBytes 15 0 ++ leBytes 8 4160 ++ leBytes 4 130 ++ leBytes 36 0 ++ leBytes 128 0 ++ leBytes 2 4)), _, _,
      by decide, rfl, by decide, by decide, by decide⟩,
    ⟨(fun s : State => (s.setQueue 1 { Queue.reset with en := true, unit := pgKEEP, port := 1, esz := 2, base := 8192 }).setQueue 0 { Queue.reset with en := true, unit := pgKEEP, esz := 2, pidx := 1, base := 4096 }) (dram [] [(pgKEEP, Reg.KEEP.BSTAT, 5)] 4096 (leBytes 1 4 ++ leBytes 15 0 ++ leBytes 8 4160 ++ leBytes 4 130 ++ leBytes 36 0 ++ leBytes 128 0 ++ leBytes 2 5)), _, _,
      by decide, rfl, by decide, by decide, by decide⟩,
    ⟨(fun s : State => (s.setQueue 1 { Queue.reset with en := true, unit := pgKEEP, port := 1, esz := 2, base := 8192 }).setQueue 0 { Queue.reset with en := true, unit := pgKEEP, esz := 2, pidx := 1, base := 4096 }) (dram [] [(pgKEEP, Reg.KEEP.BSTAT, 5)] 4096 (leBytes 1 4 ++ leBytes 15 0 ++ leBytes 8 4160 ++ leBytes 4 130 ++ leBytes 36 0 ++ leBytes 128 0 ++ leBytes 2 6)), _, _,
      by decide, rfl, by decide, by decide, by decide⟩⟩

theorem witness_TapCommandsComplete :
    (∃ (s : State), s.pwr.state ≠ 4) ∧
    (∃ (s : State) (pins shift : List Bool), s.clocked = true ∧ 1 ≤ s.level) ∧
    (∃ (s t u : State) (a d : Nat), s.clocked = true ∧ t = (s.tapIr 0x10).dmiOut ∧ t.dmiReaches (a % 4096) = true ∧
      t.windowOpen 7 = true ∧ t.readRefused pgDBGC 7 = false ∧ u = t.regRead (pageBase pgDBGC + a % 4096) 4 7) ∧
    (∃ (s t u : State) (a d : Nat), s.clocked = true ∧ t = (s.tapIr 0x10).dmiOut ∧ t.dmiReaches (a % 4096) = true ∧
      t.windowOpen 7 = true ∧ t.ownerRefuses pgDBGC 7 = false ∧
      u = t.regWrite (pageBase pgDBGC + a % 4096) 4 (d % 2 ^ 32) 7) ∧
    (∃ (s : State) (a d : Nat), s.clocked = true) :=
  ⟨⟨W, by decide⟩,
    ⟨W, [], [], by decide, by decide⟩,
    ⟨W, _, _, 0, 0, by decide, rfl, by decide, by decide, by decide, rfl⟩,
    ⟨W, _, _, 0, 0, by decide, rfl, by decide, by decide, by decide, rfl⟩,
    ⟨W, 0, 0, by decide⟩⟩

theorem witness_TapGrantsByLevel :
    (∃ (s : State) (pins shift : List Bool), s.pwr.state ≠ 4 ∧ (s.level = 0 ∨ s.clocked = false)) ∧
    (∃ (s : State), s.pwr.state ≠ 4 ∧ s.variant = .kry2406) :=
  ⟨⟨at_ [] [(pgDBGC, Reg.DBGC.LEVEL, 0)] 0, [], [], by decide, Or.inl (by decide)⟩,
    ⟨{ W with variant := .kry2406 }, by decide, by decide⟩⟩

theorem witness_RelockNeverRaisesTheLevel :
    ∃ (s u : State) (v req : Nat), s.Inv ∧ s.unmirrored req ∧ s.level ≤ 3 ∧ s.admits pgDBGC req = true :=
  ⟨at_ [] [(pgDBGC, Reg.DBGC.LEVEL, 2)] 0, nextOf (.relock 1 6) (at_ [] [(pgDBGC, Reg.DBGC.LEVEL, 2)] 0), 1, 6, ⟨⟨rfl,
      rfl, rfl⟩, rfl, rfl⟩, Or.inl (by decide), by decide, rfl⟩

theorem witness_DebugModuleCommandsComplete :
    (∃ (s t : State) (v req : Nat), s.meets32 pgDBGC req Reg.DBGC.RELOCK v t) ∧
    (∃ (s t : State) (req : Nat), s.meets32 pgDBGC req Reg.DBGC.TKCTL 1 t ∧ t.tkBusy = false) ∧
    (∃ (s t : State) (v req : Nat), s.meets64 pgDBGC req Reg.DBGC.TKDATA v t ∧ t.tkBusy = false ∧
      t.keep.tkOpen = true ∧ t.keep.tk.length + 8 ≤ 16512) ∧
    (∃ (s t : State) (v req : Nat), s.meets32 pgDBGC req Reg.DBGC.TKLEN v t) ∧
    (∃ (s t u : State) (n : Nat), s.keep.tkLen = some n ∧
      t = { s with keep := { s.keep with
      tkLen := none
      tk := []
      tkBad := false } } ∧
      u = (t.setRg pgDBGC Reg.DBGC.TKSTAT (s.tokenCode n * 16 +
      (if s.tokenCode n = 0 then leAt s.keep.tk 8 1 * 2 ^ 12 else 0))).newNonce pgDBGC (Reg.DBGC.TKNONCE 0)) ∧
    (∃ (s t : State) (c req : Nat), c < 4 ∧ s.meets32 pgDBGC req (Reg.DBGC.coreCCTL c) 1 t ∧ t.coreReached c = true) ∧
    (∃ (s t : State) (c req : Nat), c < 4 ∧ s.meets32 pgDBGC req (Reg.DBGC.coreCCTL c) 2 t) ∧
    (∃ (s t : State) (c v req : Nat), c < 4 ∧ s.meets32 pgDBGC req (Reg.DBGC.coreREGSEL c) (v ||| 2 ^ 17) t) ∧
    (∃ (s : State) (c a i : Nat), s.coreWatched c = true ∧
      i < 8 ∧ (∀ j < i, bit (s.rg64 pgDBGC (Reg.DBGC.coreBP c j)) 0 = false) ∧
      bit (s.rg64 pgDBGC (Reg.DBGC.coreBP c i)) 0 = true ∧ s.rg64 pgDBGC (Reg.DBGC.coreBP c i) / 2 = a % 2 ^ 64 / 2) ∧
    (∃ (s : State) (c a n : Nat) (st : Bool), s.coreWatched c = true ∧
      bit (s.rg pgDBGC (Reg.DBGC.coreWP c 0 + 8)) 0 = true ∧
      bit (s.rg pgDBGC (Reg.DBGC.coreWP c 0 + 8)) (if st then 2 else 1) = true ∧
      bits (s.rg pgDBGC (Reg.DBGC.coreWP c 0 + 8)) 9 4 = 0 ∧ 0 < n ∧ s.rg64 pgDBGC (Reg.DBGC.coreWP c 0) = a) ∧
    (∃ (s t : State) (g : Trig), s.takeTrig pgDBGC 0 = some (g, t)) ∧
    (∃ (s t : State) (g : Trig), s.takeTrig pgDBGC 1 = some (g, t)) ∧
    (∃ (s t u : State) (req : Nat), s.meets32 pgDBGC req Reg.DBGC.FRZCMD 1 t ∧ s.meets32 pgDBGC req Reg.DBGC.FRZCMD 2 u) ∧
    (∃ (s t u : State) (v req : Nat), s.meets64 pgDBGC req Reg.DBGC.SBADDR v t ∧
      s.meets64 pgDBGC req Reg.DBGC.SBDATA v u ∧ s.readable pgDBGC req) :=
  ⟨⟨W, _, 0, 6, meetsW (by decide) (by decide)⟩,
    ⟨W, _, 6, meetsW (by decide) (by decide), by decide⟩,
    ⟨{ at_ [] [] 0 with keep := { W.keep with tkOpen := true } }, _, 0, 6, meetsW (by decide) (by decide), by decide,
      by decide, by decide⟩,
    ⟨W, _, 0, 6, meetsW (by decide) (by decide)⟩,
    ⟨{ at_ [] [] 0 with keep := { W.keep with tkLen := some 0 } }, _, _, 0, rfl, rfl, rfl⟩,
    ⟨W, _, 0, 6, by decide, meetsW (by decide) (by decide), by decide⟩,
    ⟨W, _, 0, 6, by decide, meetsW (by decide) (by decide)⟩,
    ⟨W, _, 0, 0, 6, by decide, meetsW (by decide) (by decide)⟩,
    ⟨at_ [] [(pgDBGC, Reg.DBGC.LEVEL, 3), (pgRSTC, Reg.RSTC.BOOT, 3 * 2 ^ 16), (pgDBGC, Reg.DBGC.coreBP 3 7, 0x1001)] 0, 3, 0x1000, 7,
      by decide, by decide, by decide, by decide, by decide⟩,
    ⟨at_ [] [(pgDBGC, Reg.DBGC.LEVEL, 3), (pgRSTC, Reg.RSTC.BOOT, 3 * 2 ^ 16), (pgDBGC, Reg.DBGC.coreWP 3 0, 0x1000), (pgDBGC, Reg.DBGC.coreWP 3 0 + 8, 3)] 0, 3, 0x1000, 4, false,
      by decide, by decide, by decide, by decide, by decide, by decide⟩,
    ⟨trigAt pgDBGC 0, _, _, rfl⟩,
    ⟨trigAt pgDBGC 1, _, _, rfl⟩,
    ⟨W, _, _, 6, (meetsW (by decide) (by decide)), (meetsW (by decide) (by decide))⟩,
    ⟨W, _, _, 0, 6, (meetsW (by decide) (by decide)), (meetsW (by decide) (by decide)), ⟨by decide, by decide,
      by decide⟩⟩⟩

theorem witness_PowerCommandsComplete :
    (∃ (s t : State) (req k : Nat), t.pwr.wake = none ∧ t.pwr.entering = false ∧ t.pwr.state = 0 ∧ 1 ≤ k ∧ k ≤ 3 ∧
      s.meets32 pgPWRC req Reg.PWRC.REQ k t ∧ t.reqBad k = none) ∧
    (∃ (s t : State) (req : Nat), t.pwr.wake = none ∧ t.pwr.entering = false ∧ t.pwr.state = 0 ∧
      s.meets32 pgPWRC req Reg.PWRC.REQ 4 t ∧ t.reqBad 4 = none) ∧
    (∃ (s t : State) (req : Nat), t.pwr.wake = none ∧ t.pwr.state = 1 ∧ t.pwr.met = 1 ∧
      s.meets32 pgPWRC req Reg.PWRC.REQ 0 t) ∧
    (∃ (s : State), s.pwr.entering = true ∧ s.pwr.target = 1) ∧
    (∃ (s t : State) (g : Trig), s.takeTrig pgPWRC 0 = some (g, t) ∧ t.fb pgPWRC Reg.PWRC.WAKEEN 0 = true ∧
      t.pwr.wake = none ∧ t.pwr.met = 1) ∧
    (∃ (s : State), s.fb pgPWRC Reg.PWRC.WAKEEN 2 = true ∧ s.pwr.wake = none ∧ s.pwr.met ∈ [1, 2, 3]) ∧
    (∃ (s : State) (n : Nat), s.rg pgPWRC Reg.PWRC.WAKETMR ≠ 0 ∧ s.rg pgPWRC Reg.PWRC.WAKETMR ≤ n ∧
      s.fb pgPWRC Reg.PWRC.WAKEEN 4 = true ∧ s.pwr.wake = none ∧ s.pwr.met ∈ [1, 2, 3, 4]) ∧
    (∃ (s t : State) (n c : Nat), s.pwr.wake = some c ∧ s.pwr.state ≤ 2 ∧ s.pwr.early = false ∧
      t = (State.showPwr (({ s with pwr := { s.pwr with
      state := 0
      entering := false
      wake := none
      early := false } } : State).selfRefresh false)).setRg pgPWRC Reg.PWRC.LPTIME n) :=
  ⟨⟨at_ [] [(pgPWRC, Reg.PWRC.WAKEEN, 1)] 0, _, 6, 1, by decide, by decide, by decide, by decide, by decide,
      meetsW (by decide) (by decide), by decide⟩,
    ⟨W, _, 6, by decide, by decide, by decide, meetsW (by decide) (by decide), by decide⟩,
    ⟨{ at_ [] [] 0 with pwr := { Pwr.reset with state := 1 } }, _, 6, by decide, by decide, by decide,
      meetsW (by decide) (by decide)⟩,
    ⟨{ at_ [] [] 0 with pwr := { Pwr.reset with target := 1, entering := true } }, by decide, by decide⟩,
    ⟨({ trigAt pgPWRC 0 with pwr := { Pwr.reset with state := 1 } } : State).setRg pgPWRC Reg.PWRC.WAKEEN 1, _, _,
      rfl, by decide, by decide, by decide⟩,
    ⟨{ at_ [] [(pgPWRC, Reg.PWRC.WAKEEN, 4)] 0 with pwr := { Pwr.reset with state := 3 } }, by decide, by decide,
      by decide⟩,
    ⟨{ at_ [] [(pgPWRC, Reg.PWRC.WAKEEN, 16), (pgPWRC, Reg.PWRC.WAKETMR, 5)] 0 with pwr := { Pwr.reset with state := 4 } }, 5,
      by decide, by decide, by decide, by decide, by decide⟩,
    ⟨{ at_ [] [] 0 with pwr := { Pwr.reset with state := 2, wake := some 0 } }, _, 0, 0, rfl, by decide, by decide,
      rfl⟩⟩

theorem witness_PowerRefusalsLeaveTheState :
    (∃ (s : State) (k c : Nat), 1 ≤ k ∧ k ≤ 4 ∧ s.pwr.wake = none ∧ s.pwr.entering = false ∧ s.pwr.state ≤ 1 ∧
      k ≠ s.pwr.state ∧ s.reqBad k = some c ∧ s.Inv) ∧
    (∃ s : State, s.pwr.state = 0 ∧ s.pwr.entering = false) :=
  ⟨⟨at_ [pgENC 0] [] 0, 2, 1, by decide, by decide, by decide, by decide, by decide, by decide, rfl, ⟨⟨rfl, rfl,
      rfl⟩, rfl, rfl⟩⟩,
    ⟨W, by decide, by decide⟩⟩

theorem witness_ResetCommandsComplete :
    (∃ (s : State), s.inLow 4 = false ∧ s.rst < 4) ∧
    (∃ (s : State), s.inLow 4 = false ∧ 4 ≤ s.rst) ∧
    (∃ (s t : State) (v req : Nat), s.meets32 pgRSTC req Reg.RSTC.CMD v t ∧ bits v 31 16 = 0x5253 ∧ bit v 0 = true ∧
      bit v 1 = false ∧ t.rst < 3) ∧
    (∃ (s t : State) (v req : Nat), s.meets32 pgRSTC req Reg.RSTC.CMD v t ∧ bits v 31 16 = 0x5253 ∧ bit v 0 = false ∧
      bit v 1 = true) ∧
    (∃ (s : State), s.inLow 4 = false ∧ s.rst < 4) ∧
    (∃ (s : State), s.inLow 4 = false ∧ s.fb pgRSTC Reg.RSTC.CFG 0 = true ∧ s.rst < 3) ∧
    (∃ (s : State), s.inLow 4 = false ∧ s.fb pgRSTC Reg.RSTC.CFG 0 = false ∧ s.rst < 3) ∧
    (∃ (s t : State), s.fb pgRSTC Reg.RSTC.CFG 1 = true ∧ s.wdog.held = none ∧ s.clocked = true ∧
      s.wdog.at_ + 4096 * s.fl pgRSTC Reg.RSTC.WDTO 23 0 ≤ s.cycle ∧
      t = { s with wdog := { s.wdog with
      at_ := s.cycle
      warned := !s.wdog.warned } } ∧ s.wdog.warned = false) ∧
    (∃ (s t : State), s.fb pgRSTC Reg.RSTC.CFG 1 = true ∧ s.wdog.held = none ∧ s.clocked = true ∧
      s.wdog.at_ + 4096 * s.fl pgRSTC Reg.RSTC.WDTO 23 0 ≤ s.cycle ∧
      t = { s with wdog := { s.wdog with
      at_ := s.cycle
      warned := !s.wdog.warned } } ∧
      s.wdog.warned = true ∧ t.rst < 3) ∧
    (∃ (s t : State) (req : Nat), s.meets32 pgRSTC req Reg.RSTC.WDKICK 0x4B49 t ∧ t.wdog.held = none) ∧
    (∃ (s t : State) (v req : Nat), s.meets32 pgRSTC req Reg.RSTC.WDKICK v t ∧ v ≠ 0x4B49) ∧
    (∃ (s t : State) (v req : Nat), s.meets32 pgRSTC req Reg.RSTC.OUTCTL v t) ∧
    (∃ (s t : State), s.windowOpen 0 = false ∧
      (t = { (if s.rst = 3 ∨ s.rst = 4 then s.bootRom else s.keepStart) with rst := 0 })) :=
  ⟨⟨{ W with rst := 3 }, by decide, by decide⟩,
    ⟨W, by decide, by decide⟩,
    ⟨{ W with rst := 2 }, _, 0x52530001, 6, meetsW (by decide) (by decide), by decide, by decide, by decide,
      by decide⟩,
    ⟨W, _, 0x52530002, 6, meetsW (by decide) (by decide), by decide, by decide, by decide⟩,
    ⟨{ W with rst := 0 }, by decide, by decide⟩,
    ⟨{ at_ [] [(pgRSTC, Reg.RSTC.CFG, 1)] 0 with rst := 0 }, by decide, by decide, by decide⟩,
    ⟨{ at_ [] [(pgRSTC, Reg.RSTC.CFG, 0)] 0 with rst := 0 }, by decide, by decide, by decide⟩,
    ⟨at_ [] [(pgRSTC, Reg.RSTC.CFG, 2)] (4096 * 62500), _, by decide, by decide, by decide, by decide, rfl, by decide⟩,
    ⟨{ at_ [] [(pgRSTC, Reg.RSTC.CFG, 2)] (4096 * 62500) with rst := 0, wdog := { W.wdog with warned := true } }, _,
      by decide, by decide, by decide, by decide, rfl, by decide, by decide⟩,
    ⟨W, _, 6, meetsW (by decide) (by decide), by decide⟩,
    ⟨W, _, 0, 6, meetsW (by decide) (by decide), by decide⟩,
    ⟨W, _, 0, 6, meetsW (by decide) (by decide)⟩,
    ⟨State.reset, _, by decide, rfl⟩⟩

theorem witness_ResetCommandNeedsItsKey :
    ∃ (s : State) (v req : Nat), s.admits pgRSTC req = true ∧ s.unmirrored req ∧ bits v 31 16 ≠ 0x5253 :=
  ⟨W, 1, 6, by decide, Or.inl (by decide), by decide⟩

theorem witness_ResetsKeepWhatTheyKeep :
    (∃ (s : State), s.inLow 3 = false) ∧
    (∃ (s : State), s.inLow 3 = true) :=
  ⟨⟨W, by decide⟩,
    ⟨{ W with pwr := { W.pwr with state := 3 } }, by decide⟩⟩

theorem witness_HeaderCommandsStoreNothing :
    ∃ (s u : State) (c : Instr),
      ((∃ p req, c = .logdataPop p req ∨ c = .logClr p req ∨ c = .ownerLock p req) ∨
      (∃ v req, c = .disarm v req ∨ c = .wdkick v req ∨ c = .outctlRel v req ∨ c = .tkdata v req ∨ c = .tset v req) ∨
      (∃ p, c = .violationWindowEnd p ∧
      p ≠ pgTLK) ∨ c = .idcode ∨ c = .bypass ∨ c = .timeParametersApply) ∧ (∀ req, s.unmirrored req) :=
  ⟨W, nextOf .idcode W, .idcode, Or.inr (Or.inr (Or.inr (Or.inl rfl))), fun _ => Or.inr (by decide)⟩

theorem witness_EveryStepKeepsInvariant : ∃ s s' : State, s.Inv ∧ step s = .next s' :=
  ⟨{ W with pending := [.ctrlEnable 64 6] }, nextOf (.ctrlEnable 64 6) W, ⟨⟨rfl, rfl, rfl⟩, rfl, rfl⟩, rfl⟩

end Sys2Proof.Tests
end

section
/-!
PROOFS. The register model (02): accesses to a page of the register window, OWNER at reset, CHIP.PRESENT (R22, R25, R28, R42).
-/

namespace Sys2Proof.Machine

/-! ## The gates of a page, when they stay shut -/

/-- A write to a page that is absent or out of the requester's reach is ignored (R22, R484). -/
theorem gate_shut {s : State} {p req : Nat} (h : s.present p = false ∨ s.reaches req = false) (off : Nat)
    (f : State → State) : s.gate p req off f = s := by
  rcases h with h | h <;> simp [State.gate, State.admits, h]

/-- A write refused by OWNER or SEC leaves the OWNER error alone (R42). -/
theorem gate_ownerRefuses {s : State} {p req : Nat} (hp : s.present p = true) (hr : s.reaches req = true)
    (ho : s.ownerRefuses p req = true) (off : Nat) (f : State → State) : s.gate p req off f = s.ownerError p req := by
  simp [State.gate, State.admits, hp, hr, ho]

/-- A read with a side effect of a page that is absent, out of reach or refused answers 0 and has no side effect. -/
theorem readGate_shut {s : State} {p req : Nat}
    (h : s.present p = false ∨ s.reaches req = false ∨ s.readRefused p req = true) (f : State → State) :
    s.readGate p req f = { s with readData := 0 } := by
  rcases h with h | h | h <;> simp [State.readGate, h]

/-! ## Which page an access meets -/

theorem windowPage_pageRange {off : Nat} (h : off < 0x200000) : windowPage off = pageAt off := if_pos h

theorem nctShut_pageRange {off : Nat} (h : off < 0x200000) (s : State) : s.nctShut off = false := by
  simp [State.nctShut, show ¬ 0x280000 ≤ off by omega]

theorem pageAt_of_sbOffset {off o : Nat} (h : sbOffset off = some o) : pageAt off = some pgDBGC := by
  simp only [sbOffset, Option.ite_none_right_eq_some] at h
  exact h.1.1

/-! ## Accesses in the page range: one lemma for each thing that a write or a read can meet -/

/-- No page stands there. -/
theorem regWrite_nowhere {off : Nat} (h : off < 0x200000) (hp : pageAt off = none) (s : State) (size v req : Nat) :
    s.regWrite off size v req = s := by
  have hsb : sbOffset off = none := by simp [sbOffset, hp]
  simp [State.regWrite, hsb, State.busWrite, windowPage_pageRange h, hp]

/-- A write of accepted width and alignment goes through the gate of its page, whatever it writes. -/
theorem regWrite_gated {s : State} {p off size req : Nat} (h : off < 0x200000) (hp : pageAt off = some p)
    (hr : s.reaches req = true) (ha : accessOk off size = true) (v : Nat) :
    ∃ o f, s.regWrite off size v req = s.gate p req o f := by
  unfold State.regWrite
  cases hsb : sbOffset off with
  | some o =>
    obtain rfl : p = pgDBGC := Option.some.inj (hp.symm.trans (pageAt_of_sbOffset hsb))
    rw [ha]
    exact ⟨o, _, rfl⟩
  | none =>
    simp only [State.busWrite, windowPage_pageRange h, hp, hr, nctShut_pageRange h, ha]
    rw [if_neg (by decide), if_neg (by decide)]
    exact ⟨off % 4096, _, rfl⟩

/-- A write of a width or alignment the fabric refuses raises the page's access error. -/
theorem regWrite_unsupported {s : State} {p off size req : Nat} (h : off < 0x200000) (hp : pageAt off = some p)
    (hr : s.reaches req = true) (ha : accessOk off size = false) (v : Nat) :
    s.regWrite off size v req = s.busError p off := by
  simp [State.regWrite, State.busWrite, windowPage_pageRange h, hp, hr, nctShut_pageRange h, ha]

/-- A requester that does not reach the window writes nothing. -/
theorem regWrite_unreached {s : State} {req : Nat} (hr : s.reaches req = false) (off size v : Nat) :
    s.regWrite off size v req = s := by
  unfold State.regWrite
  split
  · exact gate_shut (.inr hr) _ _
  · unfold State.busWrite
    split
    · rfl
    · rw [if_pos (.inl hr)]

/-- A read where no page stands, or of a page that is absent, out of reach or refused, answers 0 and leaves nothing. -/
theorem regRead_shut {s : State} {off size req : Nat} (h : off < 0x200000) (hs : ∀ p, pageAt off = some p →
    s.present p = false ∨ s.reaches req = false ∨ s.readRefused p req = true ∧ accessOk off size = true) :
    s.regRead off size req = { s with readData := 0 } := by
  unfold State.regRead
  split
  case isTrue hb =>
    exact readGate_shut ((hs _ (pageAt_of_sbOffset hb.1)).imp_right (.imp_right And.left)) _
  case isFalse =>
    rw [State.busRead, windowPage_pageRange h]
    cases hp : pageAt off with
    | none => rfl
    | some p =>
      rcases hs p hp with k | k | ⟨k, ka⟩
      · simp [k]
      · simp [k]
      · simp [k, ka]

/-! ## Absent pages (R22), OWNER and SEC (R42) -/

/-- A page that is not present ignores every write. -/
theorem regWrite_absent {s : State} {p off : Nat} (h : off < 0x200000) (hp : pageAt off = some p)
    (hs : s.present p = false) (size v req : Nat) : s.regWrite off size v req = s := by
  cases hr : s.reaches req with
  | false => exact regWrite_unreached hr off size v
  | true =>
    cases ha : accessOk off size with
    | false => simp [regWrite_unsupported h hp hr ha, State.busError, hs]
    | true =>
      obtain ⟨o, f, e⟩ := regWrite_gated h hp hr ha v
      rw [e, gate_shut (.inl hs)]

/-- Settles O14: in the page range every write meets a shut gate or no page, and every read answers 0. -/
theorem absentPagesReadZeroAndIgnoreWrites : Obligations.AbsentPagesReadZeroAndIgnoreWrites := by
  intro s off size v req h hs
  refine ⟨?_, regRead_shut h fun p hp => .inl (hs p hp)⟩
  cases hp : pageAt off with
  | none => exact regWrite_nowhere h hp s size v req
  | some p => exact regWrite_absent h hp (hs p hp) size v req

theorem ownerRefuses_iff (s : State) (p req : Nat) : s.ownerRefuses p req = true ↔
    (s.page p).sec = true ∧ s.secure req = false ∨ (s.page p).own ≠ 0xF ∧ (s.page p).own ≠ req ∧ req ≠ 6 := by
  simp [State.ownerRefuses, and_assoc]

theorem readRefused_iff (s : State) (p req : Nat) :
    s.readRefused p req = true ↔ (s.page p).sec = true ∧ s.secure req = false := by
  simp [State.readRefused]

/-- Settles O16: a refused write leaves what the gate's refusal leaves, whichever register it names. -/
theorem ownerAndSecGuardThePage : Obligations.OwnerAndSecGuardThePage := by
  refine ⟨?_, ?_, ?_⟩
  · intro s p off size req hp h ha _ _ hsec hns
    refine regRead_shut h fun q hq => .inr (.inr ⟨?_, ha⟩)
    obtain rfl : q = p := Option.some.inj (hq.symm.trans hp)
    exact (readRefused_iff s q req).2 ⟨hsec, hns⟩
  · intro s p off size v req hp h ha hpres hr ho
    obtain ⟨o, f, e⟩ := regWrite_gated h hp hr ha v
    rw [e, gate_ownerRefuses hpres hr ((ownerRefuses_iff s p req).2 ho)]
    rfl
  · intro s p req hsec
    refine ⟨by simp [State.readRefused, hsec], fun ho => ?_⟩
    rw [← Bool.not_eq_true, ownerRefuses_iff]
    rintro (⟨k, -⟩ | ⟨k, k', k''⟩)
    · simp [hsec] at k
    · rcases ho with ho | ho | ho <;> contradiction

/-! ## OWNER at reset -/

/-- After reset every page header is the one of its register table. -/
theorem page_reset (p : Nat) : State.reset.page p = Page.reset p := rfl

theorem headRead_owner (s : State) (p : Nat) :
    s.headRead p 0x20 = (s.page p).own + 256 * b2n (s.page p).sec + 2 ^ 31 * b2n (s.page p).lock := rfl

/-- Settles O7: OWNER is read from the header that the register tables give at reset. -/
theorem ownerResetValues : Obligations.OwnerResetValues := by
  refine ⟨rfl, rfl, fun p _ hk hd => ?_⟩
  rw [headRead_owner, page_reset]
  simp [Page.reset, b2n, show p ≠ 6 from hk, show p ≠ 7 from hd]

/-! ## CHIP.PRESENT -/

/-- The number whose bit `b` is `g b`, for `b < n`, as the model sums it. -/
def bitSum (n : Nat) (g : Nat → Bool) : Nat := ((List.range n).map (fun b => b2n (g b) * 2 ^ b)).foldl (· + ·) 0

theorem bitSum_succ (n : Nat) (g : Nat → Bool) : bitSum (n + 1) g = 2 ^ n * b2n (g n) + bitSum n g := by
  simp [bitSum, List.range_succ, Nat.mul_comm, Nat.add_comm]

theorem bitSum_lt (n : Nat) (g : Nat → Bool) : bitSum n g < 2 ^ n := by
  induction n with
  | zero => exact Nat.one_pos
  | succ n ih => 
    have hb : b2n (g n) ≤ 1 := by cases g n <;> decide
    calc bitSum (n + 1) g = 2 ^ n * b2n (g n) + bitSum n g := bitSum_succ n g
      _ < 2 ^ n * 1 + 2 ^ n := Nat.add_lt_add_of_le_of_lt (Nat.mul_le_mul_left _ hb) ih
      _ = 2 ^ (n + 1) := by rw [Nat.mul_one, Nat.pow_succ, Nat.mul_two]

theorem testBit_bitSum {n b : Nat} (h : b < n) (g : Nat → Bool) : (bitSum n g).testBit b = g b := by
  induction n with
  | zero => omega
  | succ n ih =>
    rw [bitSum_succ, Nat.testBit_two_pow_mul_add _ (bitSum_lt n g)]
    split
    · exact ih ‹_›
    · obtain rfl : b = n := by omega
      cases g b <;> simp [b2n]

/-- The `j`-th word of the PRESENT registers. -/
theorem chipRead_present (s : State) {j : Nat} (hj : j < 8) :
    s.chipRead (0x140 + 4 * j) = some (bitSum 32 fun b => s.present (32 * j + b)) := by
  have e : (0x140 + 4 * j - 0x140) * 8 = 32 * j := by omega
  simp only [State.chipRead, Reg.CHIP.VARIANT, Reg.CHIP.SERIAL, Reg.CHIP.POSCNT, e]
  rw [if_neg (by omega), if_neg (by omega), if_neg (by omega), if_pos (by omega)]
  rfl

/-- Two words as one 64-bit register. -/
theorem bit_bitSum_pair {b : Nat} (h : b < 64) (g k : Nat → Bool) :
    bit (bitSum 32 g + 2 ^ 32 * bitSum 32 k) b = if b < 32 then g b else k (b - 32) := by
  rw [bit_eq_testBit, Nat.add_comm, Nat.testBit_two_pow_mul_add _ (bitSum_lt 32 g)]
  split
  · exact testBit_bitSum ‹_› g
  · exact testBit_bitSum (by omega) k

/-- The PRESENT indices from 225 on belong to no block (R23). -/
theorem blkOf_beyond {p : Nat} (h : 225 ≤ p) : blkOf p = none := by
  have hb : ∀ b ∈ Blk.all, b.first + b.insts ≤ 225 := by decide
  refine List.find?_eq_none.2 fun b hm => ?_
  have := hb b hm
  simp only [Bool.and_eq_true, decide_eq_true_eq]
  omega

/-- A class that no row of a block's register table names has no bit in any word of the block. -/
theorem classMask_eq_zero {p : Nat} {b : Blk} {f : RegRow → Nat} (hb : blkOf p = some b) (hf : ∀ r ∈ b.rows, f r = 0)
    (o : Nat) : classMask p o f = 0 := by
  simp only [classMask, hb, regRow]
  cases h : b.rows.find? (·.hits o) with
  | none => rfl
  | some r => exact hf r (List.mem_of_find?_eq_some h)

/-- A word with no writable bit is read only. -/
theorem writeWord_readOnly {s : State} {p o : Nat} (hs : classMask p o (·.s) = 0) (hb : classMask p o (·.b) = 0)
    (hl : classMask p o (·.l) = 0) (v : Nat) : s.writeWord p o v = s := by
  simp [State.writeWord, State.writeS, State.writeB, State.writeL, hs, hb, hl]

/-- The registers of the CHIP page are read only. -/
theorem wordWrite_chip {o : Nat} (h : 0x100 ≤ o) (s : State) (v req : Nat) : s.wordWrite 0 o v req = s := by
  have hc : blkOf 0 = some .chip := by decide
  have hw : s.ruleWrite 0 o v req = none := by simp [State.ruleWrite, hc]
  rw [State.wordWrite, if_neg (by omega), hw]
  exact writeWord_readOnly (classMask_eq_zero hc (by decide) o) (classMask_eq_zero hc (by decide) o)
    (classMask_eq_zero hc (by decide) o) v

/-- Settles O17: each PRESENT word is the sum of the bits of 32 pages, and no word of CHIP has a writable bit. -/
theorem presentRegistersNameThePages : Obligations.PresentRegistersNameThePages := by
  intro s
  refine ⟨fun k hk b hb => ?_, fun i hi _ => ?_, fun k _ v req => wordWrite_chip (by omega) s v req⟩
  · have lo := chipRead_present s (j := 2 * k) (by omega)
    have hi := chipRead_present s (j := 2 * k + 1) (by omega)
    rw [show 0x140 + 4 * (2 * k) = 0x140 + 8 * k by omega] at lo
    rw [show 0x140 + 4 * (2 * k + 1) = 0x144 + 8 * k by omega] at hi
    refine ⟨_, _, lo, hi, ?_⟩
    rw [bit_bitSum_pair hb]
    split
    · rw [State.present, show 32 * (2 * k) + b = 64 * k + b by omega]
    · rw [State.present, show 32 * (2 * k + 1) + (b - 32) = 64 * k + b by omega]
  · simp [unitPresent, blkOf_beyond hi]

end Sys2Proof.Machine
end

section
/-!
PROOFS. Web position (03): the overrun of an emulated encoder (R66).
-/

namespace Sys2Proof.Machine

/-! ## An error event on the header of its page -/

theorem bit_or_two_pow_self (x b : Nat) : bit (x ||| 2 ^ b) b = true := by
  simp [bit_eq_testBit, Nat.testBit_or, Nat.testBit_two_pow_self]

/-- Only the log and its count of lost entries depend on a new entry (R39). -/
@[simp] theorem Page.err_push (g : Page) (e : LogEntry) : (g.push e).err = g.err := by
  unfold Page.push
  split
  · rfl
  · split <;> rfl

/-- An error event leaves its ERR bit set (R29). -/
theorem State.bit_err_self (s : State) (p b code ctx : Nat) : bit ((s.err p b code ctx).page p).err b = true := by
  rw [State.page_err, Page.err_push]
  exact bit_or_two_pow_self _ b

/-! ## A counter that saturates -/

theorem State.rg_sat_self {s : State} (h : Tbl.wf s.regs = true) (p o n : Nat) :
    (s.sat p o n).rg p o = satAdd 32 (s.rg p o) n := by
  have lt : satAdd 32 (s.rg p o) n < 2 ^ 32 := by simp only [satAdd]; omega
  rw [State.sat, State.rg_setRg_self h, Nat.mod_eq_of_lt lt]

theorem State.rg_sat_ne {s : State} (h : Tbl.wf s.regs = true) {p o q r : Nat} (n : Nat) (hk : regKey q r ≠ regKey p o) :
    (s.sat p o n).rg q r = s.rg q r :=
  State.rg_setRg_ne h _ hk

/-! ## The overrun of an emulation channel -/

/-- The counts of a channel after an overrun: OUTCNT is the target, OVRCNT one more (R66). -/
def State.emuCatchUp (s : State) (ch : Nat) : State :=
  (s.setRg pgEMU (Reg.EMU.chOUTCNT ch) (enc2 32 (s.emuTarget ch))).sat pgEMU (Reg.EMU.chOVRCNT ch) 1

/-- OUTCNT and OVRCNT of a channel are two words. -/
theorem chOVRCNT_key_ne_chOUTCNT (ch : Nat) : regKey pgEMU (Reg.EMU.chOVRCNT ch) ≠ regKey pgEMU (Reg.EMU.chOUTCNT ch) := by
  simp only [regKey, Reg.EMU.chOVRCNT, Reg.EMU.chOUTCNT]; omega

theorem emuCatchUp_outcnt {s : State} (h : Tbl.wf s.regs = true) (ch : Nat) :
    (s.emuCatchUp ch).rg pgEMU (Reg.EMU.chOUTCNT ch) = enc2 32 (s.emuTarget ch) % 2 ^ 32 := by
  rw [State.emuCatchUp, State.rg_sat_ne (State.setRg_wf h _ _ _) _ (chOVRCNT_key_ne_chOUTCNT ch).symm,
    State.rg_setRg_self h]

theorem emuCatchUp_ovrcnt {s : State} (h : Tbl.wf s.regs = true) (ch : Nat) :
    (s.emuCatchUp ch).rg pgEMU (Reg.EMU.chOVRCNT ch) = satAdd 32 (s.rg pgEMU (Reg.EMU.chOVRCNT ch)) 1 := by
  rw [State.emuCatchUp, State.rg_sat_self (State.setRg_wf h _ _ _), State.rg_setRg_ne h _ (chOVRCNT_key_ne_chOUTCNT ch)]

/-- What EMU_STEP does when the lag is above LAGMAX: the counts, the error event, and the pins at the phase they had. -/
theorem exec_emuStep_overrun {s : State} {ch : Nat} (hch : ch < 8) (hrun : s.running pgEMU = true)
    (hen : s.fb pgEMU (Reg.EMU.chCFG ch) 0 = true)
    (hlag : s.fl pgEMU (Reg.EMU.chLAGMAX ch) 7 0 <
      (s.emuTarget ch - sgn 32 (s.rg pgEMU (Reg.EMU.chOUTCNT ch))).natAbs) :
    exec (.emuStep ch) s =
      .next (((s.emuCatchUp ch).err pgEMU 0 0x140 ch).emuPins ch (s.emuOf ch).phase (s.emuTarget ch)) := by
  have hacts : ¬ (¬ ch < 8 ∨ s.running pgEMU = false ∨ s.fb pgEMU (Reg.EMU.chCFG ch) 0 = false) := by
    simp [hch, hrun, hen]
  change execEmuStep ch s = _
  rw [execEmuStep, if_neg hacts]
  exact if_pos hlag

/-- Outputs leave the emulation channels as they are. -/
theorem OutOnly.emu {a b : State} (h : OutOnly a b) : b.emu = a.emu := by
  obtain ⟨l, rfl⟩ := h
  rfl

/-- Settles O20: the step is the overrun, and its pins change neither a register, nor a header, nor a channel. -/
theorem emulatorOverrunSetsTheCount : Obligations.EmulatorOverrunSetsTheCount := by
  rintro s ch ⟨-, hregs, -⟩ hch hrun hen hlag
  have hpins := ((s.emuCatchUp ch).err pgEMU 0 0x140 ch).emuPins_out ch (s.emuOf ch).phase (s.emuTarget ch)
  refine ⟨_, exec_emuStep_overrun hch hrun hen hlag, ?_, ?_, ?_, ?_, ?_⟩
  · rw [hpins.rg, State.rg_err, emuCatchUp_outcnt hregs]
  · rw [hpins.rg, State.rg_err, emuCatchUp_ovrcnt hregs]
  · rw [hpins.page]
    exact State.bit_err_self _ _ _ _ _
  · have hctx : (s.emuCatchUp ch).entry 0x140 ch = ⟨0x140, s.cycle % 2 ^ 32, ch⟩ := by
      simp [State.entry, State.emuCatchUp, State.sat, Nat.mod_eq_of_lt (show ch < 1048576 by omega)]
    rw [hpins.page, State.page_err, hctx]
    rfl
  · rw [hpins.emu]
    rfl

end Sys2Proof.Machine
end

section
/-!
PROOFS. Interrupts (16): spurious completions (R329).
-/

namespace Sys2Proof.Machine

/-! ## An interrupt status bit and the header of its page -/

theorem State.page_setIst_self (s : State) (p b : Nat) :
    (s.setIst p b).page p = { s.page p with ist := (s.page p).ist ||| 2 ^ b } :=
  State.page_setPage_self _ _ _

@[simp] theorem State.err_page_setIst_self (s : State) (p b : Nat) : ((s.setIst p b).page p).err = (s.page p).err := by
  rw [State.page_setIst_self]

@[simp] theorem State.log_page_setIst_self (s : State) (p b : Nat) : ((s.setIst p b).page p).log = (s.page p).log := by
  rw [State.page_setIst_self]

/-! ## The completion of a source -/

/-- A completion of source `i` by a claimer in `lo` to `hi` is spurious (R329). -/
def State.spurious (s : State) (i lo hi : Nat) : Prop :=
  (s.src i).st ≠ 2 ∨ (s.src i).claimer < lo ∨ hi < (s.src i).claimer ∨ 4991 < i

/-- What BIC does with a spurious completion: the count, the error event and the interrupt status, nothing else. -/
theorem complete_spurious {s : State} {i lo hi : Nat} (hon : s.bicOn = true) (h : s.spurious i lo hi) :
    s.complete i lo hi = ((s.sat pgBIC Reg.BIC.SPURCMP 1).err pgBIC 0 0x240 i).setIst pgBIC 0 := by
  have hguard : 4992 ≤ i ∨ (s.src i).st ≠ 2 ∨ (s.src i).claimer < lo ∨ hi < (s.src i).claimer := by
    rcases h with hidle | hbelow | habove | hrange
    · exact .inr (.inl hidle)
    · exact .inr (.inr (.inl hbelow))
    · exact .inr (.inr (.inr habove))
    · exact .inl hrange
  rw [State.complete, if_neg (by simp [hon]), if_pos hguard]

/-- Settles O39: the completion is the count and the error event on BIC's page, which write no source. -/
theorem spuriousCompletionsAreIgnored : Obligations.SpuriousCompletionsAreIgnored := by
  rintro s i lo hi ⟨-, hregs, -⟩ hon hspur
  rw [complete_spurious hon hspur]
  refine ⟨rfl, ?_, ?_, ?_⟩
  · rw [State.rg_setIst, State.rg_err, State.rg_sat_self hregs]
  · rw [State.err_page_setIst_self]
    exact State.bit_err_self _ _ _ _ _
  · rw [State.log_page_setIst_self, State.page_err, State.page_sat]
    rfl

end Sys2Proof.Machine
end

section
/-!
PROOFS. Network time (18): the capture of T, F and N by a read of TIMENS and by the STAMP task (R374).
-/

namespace Sys2Proof.Machine

/-! ## A requester's capture -/

/-- The last capture of a requester: integer ns and fraction of T, and N (R374). -/
def State.capture (s : State) (req : Nat) : Nat × Nat × Nat := Tbl.getD s.ptp.caps req (0, 0, 0)

@[simp] theorem State.capture_timeCapture_self (s : State) (req : Nat) :
    (s.timeCapture req).capture req = (s.timeNs, s.timeFrac % 2 ^ 32, s.cycle) :=
  Tbl.getD_put_self _ _ _ _

@[simp] theorem State.capture_timeCapture_ne (s : State) {req r : Nat} (h : r ≠ req) :
    (s.timeCapture req).capture r = s.capture r :=
  Tbl.getD_put_ne _ _ h

/-! ## The words that return a capture -/

theorem State.ptpRead_timeFrac (s : State) (req : Nat) : s.ptpRead Reg.PTP.TIMEFRAC req = some (s.capture req).2.1 := rfl

theorem State.ptpRead_capCyc_low (s : State) (req : Nat) :
    s.ptpRead Reg.PTP.CAPCYC req = some ((s.capture req).2.2 % 2 ^ 32) := rfl

theorem State.ptpRead_capCyc_high (s : State) (req : Nat) :
    s.ptpRead (Reg.PTP.CAPCYC + 4) req = some ((s.capture req).2.2 / 2 ^ 32 % 2 ^ 32) := rfl

/-- A read of TIMENS that the page answers is the capture. -/
theorem exec_timensCapture_readable {s : State} {req : Nat} (h : s.readable pgPTP req) :
    exec (.timensCapture req) s = .next (s.timeCapture req) :=
  congrArg Host.Outcome.next (readGate_readable h)

/-! ## Two registers of one page, of one or two words each -/

theorem regKey_ne_of_offset {p o r : Nat} (h : r ≠ o) : regKey p r ≠ regKey p o := by
  simp only [regKey]; omega

theorem State.rg64_setRg_ne {s : State} (h : Tbl.wf s.regs = true) {p o r : Nat} (v : Nat) (hlo : r ≠ o)
    (hhi : r + 4 ≠ o) : (s.setRg p o v).rg64 p r = s.rg64 p r := by
  simp only [State.rg64, State.rg_setRg_ne h v (regKey_ne_of_offset hlo), State.rg_setRg_ne h v (regKey_ne_of_offset hhi)]

theorem State.setRg64_wf {s : State} (h : Tbl.wf s.regs = true) (p o v : Nat) : Tbl.wf (s.setRg64 p o v).regs = true :=
  State.setRg_wf (State.setRg_wf h p o v) _ _ _

theorem State.rg_setRg64_ne {s : State} (h : Tbl.wf s.regs = true) {p o r : Nat} (v : Nat) (hlo : r ≠ o)
    (hhi : r ≠ o + 4) : (s.setRg64 p o v).rg p r = s.rg p r := by
  rw [State.setRg64, State.rg_setRg_ne (State.setRg_wf h p o v) _ (regKey_ne_of_offset hhi),
    State.rg_setRg_ne h _ (regKey_ne_of_offset hlo)]

theorem State.rg64_setRg64_ne {s : State} (h : Tbl.wf s.regs = true) {p o r : Nat} (v : Nat) (hlo : r + 4 < o) :
    (s.setRg64 p o v).rg64 p r = s.rg64 p r := by
  rw [State.setRg64, State.rg64_setRg_ne (State.setRg_wf h p o v) _ (by omega) (by omega),
    State.rg64_setRg_ne h _ (by omega) (by omega)]

/-! ## The STAMP task -/

/-- Taking a trigger changes the waiting triggers alone. -/
theorem takeTrig_state {s t : State} {p task : Nat} {g : Trig} (h : s.takeTrig p task = some (g, t)) :
    t = { s with trigs := s.trigs.erase g } := by
  unfold State.takeTrig at h
  split at h
  · obtain ⟨rfl, rfl⟩ := Prod.mk.inj (Option.some.inj h)
    rfl
  · cases h

/-- T and N of this cycle in the STAMP registers, before STAMPCNT counts the task. -/
def State.stampRegs (s : State) : State :=
  ((s.setRg64 pgPTP Reg.PTP.STAMPNS s.timeNs).setRg pgPTP Reg.PTP.STAMPFRAC (s.timeFrac % 2 ^ 32)).setRg64 pgPTP
    Reg.PTP.STAMPCYC s.cycle

/-- The state in which STAMP raises its event (R374). -/
def State.stamped (s : State) : State := s.stampRegs.inc pgPTP Reg.PTP.STAMPCNT 1

/-- A STAMP task of an enabled PTP page: the registers, then the event on the trigger's chain. -/
theorem exec_stamp_taken {s t : State} {g : Trig} (h : s.takeTrig pgPTP 0 = some (g, t)) (hen : t.enabled pgPTP = true) :
    exec .stamp s = .next (t.stamped.happenFrom pgPTP 0 0 (some (g.origin, g.depth))) := by
  change execStamp s = _
  rw [execStamp, h]
  exact if_neg (by simp [hen])

section
variable {s : State} (h : Tbl.wf s.regs = true)
include h

theorem State.stampRegs_wf : Tbl.wf s.stampRegs.regs = true :=
  State.setRg64_wf (State.setRg_wf (State.setRg64_wf h _ _ _) _ _ _) _ _ _

/-- STAMPNS lies below every register written after it. -/
theorem State.stamped_ns : s.stamped.rg64 pgPTP Reg.PTP.STAMPNS = s.timeNs % 2 ^ 64 := by
  have hns := State.setRg64_wf h pgPTP Reg.PTP.STAMPNS s.timeNs
  rw [State.stamped, State.inc, State.rg64_setRg_ne (State.stampRegs_wf h) _ (by decide) (by decide), State.stampRegs,
    State.rg64_setRg64_ne (State.setRg_wf hns _ _ _) _ (by decide), State.rg64_setRg_ne hns _ (by decide) (by decide),
    State.rg64_setRg64 h]

theorem State.stamped_frac : s.stamped.rg pgPTP Reg.PTP.STAMPFRAC = s.timeFrac % 2 ^ 32 := by
  have hns := State.setRg64_wf h pgPTP Reg.PTP.STAMPNS s.timeNs
  rw [State.stamped, State.inc, State.rg_setRg_ne (State.stampRegs_wf h) _ (by decide), State.stampRegs,
    State.rg_setRg64_ne (State.setRg_wf hns _ _ _) _ (by decide) (by decide), State.rg_setRg_self hns, Nat.mod_mod]

theorem State.stamped_cyc : s.stamped.rg64 pgPTP Reg.PTP.STAMPCYC = s.cycle % 2 ^ 64 := by
  have hfrac := State.setRg_wf (State.setRg64_wf h pgPTP Reg.PTP.STAMPNS s.timeNs) pgPTP Reg.PTP.STAMPFRAC
    (s.timeFrac % 2 ^ 32)
  rw [State.stamped, State.inc, State.rg64_setRg_ne (State.stampRegs_wf h) _ (by decide) (by decide), State.stampRegs,
    State.rg64_setRg64 hfrac]

end

/-- Settles O42: a read of TIMENS puts one entry into the table of captures, under its requester; STAMP writes the same
values of its cycle into registers that no later write of the task touches. -/
theorem timeCaptureIsPerRequester : Obligations.TimeCaptureIsPerRequester := by
  refine ⟨fun s req hread => ⟨s.timeCapture req, exec_timensCapture_readable hread, rfl, ?_, ?_, ?_, fun r hr _ => ?_⟩, ?_⟩
  · rw [State.ptpRead_timeFrac, State.capture_timeCapture_self]
  · rw [State.ptpRead_capCyc_low, State.capture_timeCapture_self]
  · rw [State.ptpRead_capCyc_high, State.capture_timeCapture_self]
  · rw [State.ptpRead_timeFrac, State.capture_timeCapture_ne s hr, State.ptpRead_timeFrac]
  · rintro s t g ⟨-, hregs, -⟩ htrig hen
    obtain rfl := takeTrig_state htrig
    exact ⟨_, exec_stamp_taken htrig hen, State.stamped_ns hregs, State.stamped_frac hregs, State.stamped_cyc hregs⟩

end Sys2Proof.Machine
end

section
/-!
PROOFS. What every command keeps, one lemma per command: position, jobs, screening, firing, DRAM. The lemmas follow the
branches of the command and cite what the operations of each branch keep (Laws/Keeps*.lean).
-/

namespace Sys2Proof.Machine

/-- A guarded operation after another one: only what the operation itself keeps is left to show. -/
theorem Keeps.iteThen {a x y : State} {c : Prop} [Decidable c] (h : Keeps a x) (hf : Keeps a x → Keeps a y) :
    Keeps a (if c then y else x) := .ite (hf h) h
theorem Keeps.iteElse {a x y : State} {c : Prop} [Decidable c] (h : Keeps a x) (hf : Keeps a x → Keeps a y) :
    Keeps a (if c then x else y) := .ite h (hf h)

section
open State
variable {a s : State} (h : Keeps a s)
include h

/-! ## On-chip memory -/

theorem execEccWriteback_keeps {part word : Nat} : KeepsX a (execEccWriteback part word s) := .next <| .ite (.upd h) h

theorem execScrub_keeps {flips : Nat} : KeepsX a (execScrub flips s) :=
  .ite (.next h) <| .next <| setRg_keeps <| .upd <| sramRead_keeps <| sramUpset_keeps h

/-! ## Axes -/

theorem execAxisStart_keeps {axis : Nat} {byTask : Bool} {req : Nat} :
    KeepsX a (execAxisStart axis byTask req s) := by
  unfold execAxisStart
  refine .ite ?_ <| .next <| gateH_keeps h fun _ k => .ite (axStart_keeps k) k
  split
  · exact .next h
  · exact .ite (.next <| axStart_keeps <| setRg64_keeps <| .snd ‹_› <| takeTrig_keeps h) <|
      .next <| .snd ‹_› <| takeTrig_keeps h

theorem execAxisStop_keeps {axis : Nat} {byTask : Bool} {req : Nat} : KeepsX a (execAxisStop axis byTask req s) := by
  unfold execAxisStop
  refine .ite ?_ <| .next <| gateH_keeps h fun _ k => .ite (axStop_keeps k) k
  split
  · exact .next h
  · exact .next <| .iteThen (.snd ‹_› <| takeTrig_keeps h) axStop_keeps

theorem execAxisAbort_keeps {axis req : Nat} : KeepsX a (execAxisAbort axis req s) :=
  .next <| gateH_keeps h fun _ k => .ite (axAbort_keeps k) k

theorem execSeghead_keeps {axis value req : Nat} : KeepsX a (execSeghead axis value req s) :=
  .next <| gateH_keeps h fun _ => segHeadWrite_keeps

theorem execAxisCycle_keeps {axis : Nat} : KeepsX a (execAxisCycle axis s) := by
  have k : Keeps a (s.axWaited axis) := axWaited_keeps h
  unfold execAxisCycle
  refine .ite (.next h) <| .next <| lagCheck_keeps <| .iteThen (setAx_keeps <| setRgI_keeps ?_) setCoil_keeps
  dsimp only
  split
  · exact drawn_keeps <| setRgI_keeps <| .ite1 (drawn_keeps k) k
  · exact setRgI_keeps <| .ite1 (drawn_keeps k) k

theorem execSegmentEnd_keeps {axis : Nat} : KeepsX a (execSegmentEnd axis s) := by
  unfold execSegmentEnd
  dsimp only
  split
  · exact .ite (.next h) <|
      .ite (.next <| happenFrom_keeps <| setGeared_keeps <| setPstate_keeps <| happenFrom_keeps <| setAx_keeps h) <|
      .ite (.next <| happenFrom_keeps <| setPstate_keeps <| happenFrom_keeps <| setAx_keeps h) <|
      .ite (.next <| segLate_keeps <| happenFrom_keeps <| setAx_keeps h) <|
      .next <| .iteThen (happenFrom_keeps <| setAx_keeps h) segStart_keeps
  · exact .next h

theorem execStep_keeps {axis : Nat} : KeepsX a (execStep axis s) :=
  .ite (.next h) <|
  .ite (.next <| setAx_keeps <| setCoil_keeps h) <|
  .ite (.next h) <|
  .ite (.next <| lagCheck_keeps h) <|
  .ite (.next <| pin_keeps <| setAx_keeps h) <|
  .ite (.next h) <|
  .ite (.next h) <|
  .next <| showLag_keeps <| pin_keeps <| setAx_keeps <| inc_keeps <| setRg_keeps h

theorem execStandstill_keeps {axis : Nat} : KeepsX a (execStandstill axis s) :=
  .ite (.next <| setCoil_keeps h) <| .next h

theorem execCoilWakeEnd_keeps {axis : Nat} : KeepsX a (execCoilWakeEnd axis s) := by
  unfold execCoilWakeEnd
  dsimp only
  split
  · exact .ite (.next <| .iteThen (setAx_keeps h) lagCheck_keeps) <| .next h
  · exact .next h

theorem execSetpointFrame_keeps {axis : Nat} : KeepsX a (execSetpointFrame axis s) :=
  .ite (.next <| .iteElse (setAx_keeps h) emit_keeps) <| .next h

/-! ## Encoders, observers, encoder emulation -/

theorem execFilteredLevelChange_keeps {enc : Nat} {x b z : Bool} {held : Nat} :
    KeepsX a (execFilteredLevelChange enc x b z held s) :=
  .ite (.next h) <|
  .ite (.next <| setEnc_keeps <| setFl_keeps h) <|
  .ite (.next <| sat_keeps h) <|
  .ite (.next <| encDecode_keeps <| setFl_keeps h) <|
  .next <| setFl_keeps h

theorem execSerialRequest_keeps {enc : Nat} {dataLow : Bool} : KeepsX a (execSerialRequest enc dataLow s) :=
  .ite (.next h) <|
  .ite (.next <| sat_keeps <| setEnc_keeps h) <|
  .ite (.next <| encWordError_keeps <| setFl_keeps <| setEnc_keeps h) <|
  .next <| emit_keeps <| setFl_keeps <| setEnc_keeps <| setEnc_keeps h

theorem execSerialWord_keeps {enc position crc : Nat} {nE nW parity : Bool} {delay : Nat} :
    KeepsX a (execSerialWord enc position crc nE nW parity delay s) :=
  .ite (.next h) <|
  .ite (.ite (.next <| encWordError_keeps <| setRg_keeps <| setRg64_keeps <| encEnds_keeps h) <|
  .ite (.next <| encWordError_keeps <| setRg_keeps <| setRg64_keeps <| encEnds_keeps h) <|
  .next <| encAccept_keeps <| setRg_keeps <| setRg64_keeps <| encEnds_keeps h) <|
  .ite (.next <| encWordError_keeps <| setRg64_keeps <| encEnds_keeps h) <|
  .next <| encAccept_keeps <| setRg64_keeps <| encEnds_keeps h

theorem execStartBitTimeout_keeps {enc : Nat} : KeepsX a (execStartBitTimeout enc s) :=
  .ite (.next <| pin_keeps <| encWordError_keeps <| encEnds_keeps h) <| .next h

theorem execObserverUpdate_keeps {dom : Nat} : KeepsX a (execObserverUpdate dom s) :=
  .ite (.next h) <|
  .ite (.next <| setRgI_keeps <| setRgI_keeps <| setObs_keeps h) <|
  .next <| backlash_keeps <| showSpeed_keeps <| .ite (trackLoop_keeps <| noteSources_keeps <| .ite (trackSources_keeps
    h) <|
  .ite (takeSources_keeps h) h) <| setObs_keeps <| noteSources_keeps <| .ite (trackSources_keeps h) <|
  .ite (takeSources_keeps h) h

theorem execCoastmaxExpiry_keeps {dom : Nat} : KeepsX a (execCoastmaxExpiry dom s) :=
  .ite (.next <| obsHalt_keeps h) <| .next h

theorem execRepair_keeps {dom req : Nat} : KeepsX a (execRepair dom req s) :=
  .next <| gateU_keeps h fun _ => repairPair_keeps

theorem execSnap_keeps {dom : Nat} {byTask : Bool} {req : Nat} : KeepsX a (execSnap dom byTask req s) := by
  unfold execSnap
  refine .ite ?_ <| .next <| gateU_keeps h fun _ => snapObs_keeps
  split
  · exact .next h
  · exact .next <| .iteThen (.snd ‹_› <| takeTrig_keeps h) snapObs_keeps

theorem execEmuEnable_keeps {ch req : Nat} : KeepsX a (execEmuEnable ch req s) :=
  .next <| .ite (gateH_keeps h fun _ => emuEnable_keeps) h

theorem execEmuStep_keeps {ch : Nat} : KeepsX a (execEmuStep ch s) :=
  .ite (.next h) <|
  .ite (.next <| emuPins_keeps <| err_keeps <| sat_keeps <| setRg_keeps h) <|
  .ite (.next h) <|
  .next <| emuPins_keeps <| setEmu_keeps <| setRg_keeps h

/-! ## Sigma-delta inputs -/

theorem execSdfOutput_keeps {ch : Nat} {bits : List Bool} : KeepsX a (execSdfOutput ch bits s) := by
  unfold execSdfOutput
  refine .ite (.next h) ?_
  dsimp -zeta only
  refine .next <| .iteThen (sdBegin_keeps <| atBoundary_keeps (setRg_keeps <| sdQueue_keeps ?_) fun _ => sdApply_keeps)
    sdHalt_keeps
  refine .iteElse (.iteThen (sdTake_keeps <| .iteThen ?_ sat_keeps) happen_keeps) fun q => sdLimit_keeps <| sdDetect_keeps q
  exact inc_keeps <| setRg64_keeps <| setRg_keeps <| setSd_keeps <| drawn_keeps h

theorem execStuck_keeps {ch : Nat} {level : Bool} {clocks : Nat} : KeepsX a (execStuck ch level clocks s) :=
  .ite (.next <| violate_keeps <| happen_keeps <| err_keeps <| sat_keeps <| setSd_keeps h) <| .next h

theorem execPeakRead_keeps {ch : Nat} {max : Bool} {req : Nat} : KeepsX a (execPeakRead ch max req s) :=
  .ite (.next <| .upd h) <| .ite (.next <| .upd h) <| .next <| peakRead_keeps h

/-! ## Marks -/

theorem execMarkWrite_keeps {mark off value : Nat} {wide : Bool} {req : Nat} :
    KeepsX a (execMarkWrite mark off value wide req s) :=
  .next <| .ite (gate_keeps (mirror_keeps h) fun _ => markWrite_keeps) h

theorem execMarkWriteEffect_keeps : KeepsX a (execMarkWriteEffect s) :=
  .next <| pscShow_keeps <| .upd <| .foldl h fun _ _ => markEffect_keeps

theorem execMarkEvaluation_keeps : KeepsX a (execMarkEvaluation s) :=
  .ite (.next h) <|
  .next <| pscShow_keeps <| fireMarks_keeps <| .foldl (.foldl h fun _ _ k => .ite (.upd <| rearmDomain_keeps k) k) fun
    _ _ => markEval_keeps

theorem execDeferredFire_keeps {dom : Nat} : KeepsX a (execDeferredFire dom s) :=
  .ite (.next h) <| .next <| pscShow_keeps <| fireMarks_keeps h

theorem execDisarm_keeps {doms req : Nat} : KeepsX a (execDisarm doms req s) :=
  .next <| gateH_keeps h fun _ => disarmDomains_keeps

/-! ## Nozzle compensation -/

theorem execNozzleWindowWrite_keeps {off value : Nat} {wide : Bool} {req : Nat} :
    KeepsX a (execNozzleWindowWrite off value wide req s) :=
  .next <| .iteElse (mirror_keeps h) fun q => gate_keeps q (fun _ => nozzleWrite_keeps)

theorem execCurveWindowWrite_keeps {off value : Nat} {wide : Bool} {req : Nat} :
    KeepsX a (execCurveWindowWrite off value wide req s) :=
  .next <| .iteElse (mirror_keeps h) fun q => gate_keeps q (fun _ => curveWrite_keeps)

theorem execHandover_keeps {bar : Nat} : KeepsX a (execHandover bar s) := .next <| .ite (handOver_keeps h) h

theorem execSwcmdForce_keeps {req : Nat} : KeepsX a (execSwcmdForce req s) :=
  .next <| gateU_keeps h fun _ => swForce_keeps

theorem execCopyForwardDone_keeps : KeepsX a (execCopyForwardDone s) :=
  .ite (.next h) <|
  .next <| .ite (swapIdle_keeps <| .iteThen (.foldl h fun _ _ => copyBar_keeps) copyCurves_keeps) <| setFl_keeps <|
    .iteThen (.foldl h fun _ _ => copyBar_keeps) copyCurves_keeps

theorem execHeldQueueDrained_keeps : KeepsX a (execHeldQueueDrained s) :=
  .ite (.next h) <|
  .next <| swapIdle_keeps <| showHeld_keeps <| inc_keeps <| .foldl (.upd h) fun _ _ => applyHeld_keeps

theorem execImageLoad_keeps {req : Nat} : KeepsX a (execImageLoad req s) :=
  .next <| gateU_keeps h fun _ => imgLoad_keeps

theorem execImageCheckDone_keeps : KeepsX a (execImageCheckDone s) := by
  unfold execImageCheckDone
  refine .ite (.next h) ?_
  dsimp only
  split
  · exact .next <| imgError_keeps <| .fst ‹_› <| dramRead_keeps h
  · split
    · split
      · exact .next <| imgError_keeps <| .fst ‹_› <| dramRead_keeps <| .fst ‹_› <| dramRead_keeps h
      · split
        · exact .next <| setRg_keeps <| .upd <| .fst ‹_› <| dramRead_keeps <| .fst ‹_› <| dramRead_keeps h
        · exact .next <| imgError_keeps <| .fst ‹_› <| dramRead_keeps <| .fst ‹_› <| dramRead_keeps h
    · split
      · exact .next <| imgError_keeps <| .fst ‹_› <| dramRead_keeps <| .fst ‹_› <| dramRead_keeps h
      · split
        · exact .next <| setRg_keeps <| .upd <| .fst ‹_› <| dramRead_keeps <| .fst ‹_› <| dramRead_keeps h
        · exact .next <| imgError_keeps <| .fst ‹_› <| dramRead_keeps <| .fst ‹_› <| dramRead_keeps h
    · exact .next <| imgError_keeps <| .fst ‹_› <| dramRead_keeps h

theorem execImgdone_keeps : KeepsX a (execImgdone s) :=
  .ite (.next <| .iteElse (imgWrite_keeps h) fun q => happen_keeps (setRg_keeps q)) <| .next h

/-! ## Jobs -/

theorem execLoad_keeps {slot req : Nat} : KeepsX a (execLoad slot req s) :=
  .next <| .ite (gateH_keeps h fun _ => jobLoad_keeps) h

theorem execLoaddone_keeps {slot : Nat} : KeepsX a (execLoaddone slot s) := by
  unfold execLoaddone
  refine .ite (.next h) ?_
  dsimp only
  split
  · exact .next <| setRg_keeps <| jobFetchErr_keeps <| .fst ‹_› <| dramRead_keeps h
  · split
    · exact .next <| jobFail_keeps <| .fst ‹_› <| dramRead_keeps h
    · split
      · exact .next <| setRg_keeps <| jobFetchErr_keeps <| .fst ‹_› <| dramRead_keeps <| .fst ‹_› <| dramRead_keeps h
      · split
        · exact .next <| jobFail_keeps <| .fst ‹_› <| dramRead_keeps <| .fst ‹_› <| dramRead_keeps h
        · exact .ite (.next <| jobFail_keeps <| .fst ‹_› <| dramRead_keeps <| .fst ‹_› <| dramRead_keeps h) <|
            .next <| jobReady_keeps <| .fst ‹_› <| dramRead_keeps <| .fst ‹_› <| dramRead_keeps h

theorem execUnload_keeps {slot req : Nat} : KeepsX a (execUnload slot req s) :=
  .next <| .ite (gateH_keeps h fun _ => jobUnload_keeps) h

theorem execVerify_keeps {slot req : Nat} : KeepsX a (execVerify slot req s) :=
  .next <| .ite (gateH_keeps h fun _ => jobVerify_keeps) h

theorem execVdone_keeps {slot : Nat} : KeepsX a (execVdone slot s) := by
  unfold execVdone
  dsimp only
  split
  · exact .next <| setIst_keeps <| setFl_keeps <| .upd <| .foldl h fun _ _ => checkTile_keeps
  · exact .next h

theorem execCursorEnable_keeps {bar : Nat} {en : Bool} {req : Nat} : KeepsX a (execCursorEnable bar en req s) :=
  .next <| .ite (gateH_keeps h fun _ => cursorEnable_keeps) h

theorem execTileCheck_keeps {slot verdict : Nat} : KeepsX a (execTileCheck slot verdict s) := by
  unfold execTileCheck
  dsimp only
  split
  · split
    · exact .next <| .ite h <| checkTile_keeps h
    · exact .next h
  · exact .next h

/-! ## DRAM -/

theorem execDramRequest_keeps {who : Nat} {write : Bool} {addr len : Nat} {data : List (BitVec 8)} {ce ue : List Nat} :
    KeepsX a (execDramRequest who write addr len data ce ue s) := by
  unfold execDramRequest
  refine .ite (.next <| dramWrite_keeps <| dramUpset_keeps h) ?_
  split
  · exact .next <| .upd <| .fst ‹_› <| dramRead_keeps <| dramUpset_keeps h
  · exact .next <| .upd <| .fst ‹_› <| dramRead_keeps <| dramUpset_keeps h

theorem execDramCommand_keeps {ch ready : Nat} : KeepsX a (execDramCommand ch ready s) := by
  unfold execDramCommand
  refine .ite (.next h) <| .ite (.next <| dmcCycle_keeps h) ?_
  dsimp only
  split
  · exact .next <| setDmc_keeps <| dmcCycle_keeps h
  · exact .next <| dmcCycle_keeps h

theorem execRefresh_keeps {ch bank intervals : Nat} : KeepsX a (execRefresh ch bank intervals s) :=
  .ite (.next h) <|
  .ite (.next <| .ite (setDmc_keeps h) h) <|
  .ite (.next <| .iteThen (inc_keeps <| setDmc_keeps h) sat_keeps) <|
  .next <| setDmc_keeps h

theorem execRowClose_keeps {ch bank : Nat} : KeepsX a (execRowClose ch bank s) :=
  .ite (.next h) <| .next <| setDmc_keeps h

theorem execDmcScrub_keeps {ch : Nat} {ce ue : List Nat} : KeepsX a (execDmcScrub ch ce ue s) := by
  unfold execDmcScrub
  refine .ite (.next h) <| .next <| setRg_keeps ?_
  split
  · exact dramError_keeps <| dramMeets_keeps <| setDmc_keeps <| dramUpset_keeps h
  · exact dramMeets_keeps <| setDmc_keeps <| dramUpset_keeps h

theorem execInject_keeps {value req : Nat} : KeepsX a (execInject value req s) :=
  .next <| gateH_keeps h fun _ => injectWrite_keeps

/-! ## Screening -/

theorem execLineScreened_keeps {stp slot : Nat} : KeepsX a (execLineScreened stp slot s) := by
  unfold execLineScreened
  refine .ite (.next h) ?_
  split
  · exact .next h
  · exact .next <| finishLine_keeps h

theorem execLaneStart_keeps {stp : Nat} : KeepsX a (execLaneStart stp s) := by
  unfold execLaneStart
  refine .ite (.next h) ?_
  dsimp only
  split
  · exact .next h
  · exact .next <| showStripe_keeps <| setStripe_keeps <| .upd <| jobTake_keeps h

theorem execScrdataAccess_keeps {stp : Nat} {write : Bool} {value req : Nat} :
    KeepsX a (execScrdataAccess stp write value req s) :=
  .ite (.next h) <|
  .ite (.next <| gateH_keeps h fun _ => scrWrite_keeps) <|
  .next <| readGate_keeps h fun _ => scrRead_keeps

/-! ## Print bars -/

theorem execLine_keeps {bar : Nat} : KeepsX a (execLine bar s) := by
  unfold execLine
  split
  · exact .next h
  · exact .next <| .iteThen (.snd ‹_› <| takeTrig_keeps h) lineStart_keeps

theorem execFireInstant_keeps {bar : Nat} : KeepsX a (execFireInstant bar s) := by
  unfold execFireInstant
  split
  · exact .next <| .ite (fireDecide_keeps h) h
  · exact .next h

theorem execLineDeadline_keeps {bar : Nat} : KeepsX a (execLineDeadline bar s) := by
  unfold execLineDeadline
  split
  · exact .next <| .ite (deadline_keeps h) h
  · exact .next h

theorem execEntryWrite_keeps {bar entry : Nat} {map : Bool} {value req : Nat} :
    KeepsX a (execEntryWrite bar entry map value req s) :=
  .next <| .ite (gateU_keeps h fun _ => entryWrite_keeps) h

/-! ## Head links -/

theorem execLockDone_keeps {link : Nat} : KeepsX a (execLockDone link s) :=
  .ite (.next <| hlkCtl_keeps <| setFl_keeps <| setLstep_keeps h) <| .next h

theorem execHlkAlignRate_keeps {link rate : Nat} : KeepsX a (execHlkAlignRate link rate s) :=
  .ite (.next <| hlkDown_keeps <| hlkHeard_keeps h) <| .next <| hlkHeard_keeps h

theorem execStatIdent_keeps {link boardid pver chmask intake nnozmax minper : Nat} :
    KeepsX a (execStatIdent link boardid pver chmask intake nnozmax minper s) := by
  unfold execStatIdent
  refine .ite ?_ <| .next <| hlkHeard_keeps h
  dsimp only
  split
  · exact .next <| setLstep_keeps <| setRg_keeps <| setRg_keeps <| setRg_keeps <| hlkHeard_keeps h
  · exact .next <| hlkDown_keeps <| err_keeps <| setRg_keeps <| setRg_keeps <| setRg_keeps <| hlkHeard_keeps h

theorem execSyncSend_keeps {link : Nat} : KeepsX a (execSyncSend link s) :=
  .ite (.next <| hlkPump_keeps <| hlkSend_keeps <| setLink_keeps <| drawn_keeps <| hlkPump_keeps h) <|
  .next <| hlkPump_keeps h

theorem execSyncAnswer_keeps {link t1 t2 t3 seq : Nat} : KeepsX a (execSyncAnswer link t1 t2 t3 seq s) :=
  .ite (.next <| hlkHeard_keeps h) <|
  .ite (.next <| hlkNak_keeps <| hlkHeard_keeps h) <|
  .ite (.next <| .iteThen (setLink_keeps <| setLink_keeps <| setRg_keeps <| drawn_keeps <| hlkHeard_keeps h)
    hlkUp_keeps) <|
  .ite (.next <| setLink_keeps <| setLink_keeps <| setRg_keeps <| drawn_keeps <| hlkHeard_keeps h) <|
  .next <| setLink_keeps <| setRg_keeps <| drawn_keeps <| hlkHeard_keeps h

theorem execTrntmo_keeps {link : Nat} : KeepsX a (execTrntmo link s) := .ite (.next <| hlkDown_keeps h) <| .next h

theorem execStatHb_keeps {link hbcnt flags rxerr latefire : Nat} {temps : List Nat} {alignres : Nat} :
    KeepsX a (execStatHb link hbcnt flags rxerr latefire temps alignres s) :=
  .ite (.next <| hlkHeard_keeps h) <|
  .next <| .iteThen (.iteThen (hbTemps_keeps <| setRg_keeps <| setRg_keeps <| setRg_keeps <| setLink_keeps <|
    hlkHeard_keeps h) fun q => happen_keeps (err_keeps q)) err_keeps

theorem execHbTimeout_keeps {link : Nat} : KeepsX a (execHbTimeout link s) :=
  .ite (.next <| hlkDown_keeps h) <| .next h

theorem execBlockLockLoss_keeps {link : Nat} : KeepsX a (execBlockLockLoss link s) :=
  .ite (.next h) <| .next <| .iteThen (setFl_keeps h) hlkDown_keeps

theorem execRetrain_keeps {link req : Nat} : KeepsX a (execRetrain link req s) :=
  .next <| gateU_keeps h fun _ => hlkRetrain_keeps

theorem execAutort_keeps {link : Nat} : KeepsX a (execAutort link s) := .ite (.next <| hlkTrain_keeps h) <| .next h

theorem execTuncmd_keeps {link : Nat} {wr : Bool} {req : Nat} : KeepsX a (execTuncmd link wr req s) :=
  .next <| gateU_keeps h fun _ => hlkTun_keeps

theorem execAck_keeps {link cmdSeq data seq : Nat} : KeepsX a (execAck link cmdSeq data seq s) := by
  unfold execAck
  refine .ite (.next <| hlkHeard_keeps h) ?_
  split
  · exact .ite (.next <| tunEnd_keeps <| .iteElse (hlkHeard_keeps h) setRg_keeps) <|
      .next <| hlkNak_keeps <| hlkHeard_keeps h
  · exact .next <| hlkNak_keeps <| hlkHeard_keeps h

theorem execNak_keeps {link reason cmdSeq : Nat} : KeepsX a (execNak link reason cmdSeq s) := by
  unfold execNak
  refine .ite (.next <| hlkHeard_keeps h) <| .next <| hlkViolate_keeps ?_
  split
  · exact .iteThen (err_keeps <| sat_keeps <| hlkHeard_keeps h) tunEnd_keeps
  · exact err_keeps <| sat_keeps <| hlkHeard_keeps h

theorem execTuntmo_keeps {link : Nat} : KeepsX a (execTuntmo link s) := by
  unfold execTuntmo
  dsimp only
  split
  · exact .ite (.next <| hlkViolate_keeps <| err_keeps <| tunEnd_keeps <| hlkPump_keeps h) <| .next <| hlkPump_keeps h
  · exact .next <| hlkPump_keeps h

theorem execStatNchk_keeps {link ch : Nat} {payload : List Byte} : KeepsX a (execStatNchk link ch payload s) := by
  unfold execStatNchk
  refine .ite (.next <| hlkHeard_keeps h) ?_
  split
  · exact .next <| happen_keeps <| .fst ‹_› <| dramWrite_keeps <| hlkHeard_keeps h
  · exact .next <| .fst ‹_› <| dramWrite_keeps <| hlkHeard_keeps h

theorem execHlkFrameError_keeps {link reason type seq : Nat} : KeepsX a (execHlkFrameError link reason type seq s) :=
  .ite (.next <| hlkHeard_keeps h) <|
  .ite (.next <| hlkViolate_keeps <| err_keeps <| sat_keeps <| hlkHeard_keeps h) <|
  .next <| hlkMalformed_keeps <| hlkHeard_keeps h

theorem execLineSet_keeps {link : Nat} : KeepsX a (execLineSet link s) := by
  unfold execLineSet
  refine .ite (.next h) ?_
  dsimp only
  split
  · exact .next h
  · exact .next <| lineSet_keeps h

end

end Sys2Proof.Machine
end

section
/-!
PROOFS. What every command keeps: cameras, inspection, interrupts, queues, events, time, calibration.
-/

namespace Sys2Proof.Machine

section
open State
variable {a s : State} (h : Keeps a s)
include h

/-! ## Cameras -/

theorem execTrig_keeps {port : Nat} : KeepsX a (execTrig port s) := by
  unfold execTrig
  dsimp only
  split
  · exact .next h
  · exact .ite (.next <| .iteThen (setCam_keeps <| .snd ‹_› <| takeTrig_keeps h) refStart_keeps) <|
      .next <| .snd ‹_› <| takeTrig_keeps h

theorem execTriggerInstant_keeps {port : Nat} : KeepsX a (execTriggerInstant port s) := by
  unfold execTriggerInstant
  dsimp only
  split
  · exact .next h
  · exact .ite (.next <| setCam_keeps <| drawn_keeps h) <| .next h

theorem execTriggerSend_keeps {port : Nat} : KeepsX a (execTriggerSend port s) := .next <| camSendOne_keeps h

theorem execTrigPulseEnd_keeps {port : Nat} : KeepsX a (execTrigPulseEnd port s) := by
  unfold execTrigPulseEnd
  dsimp only
  split
  · exact .ite (.next <| pin_keeps <| setCam_keeps h) <| .next h
  · exact .next h

theorem execTriggerExpiry_keeps {port : Nat} : KeepsX a (execTriggerExpiry port s) := by
  unfold execTriggerExpiry
  dsimp only
  split
  · exact .next h
  · exact .ite (.next <| camSettle_keeps <| err_keeps <| sat_keeps <| setCam_keeps h) <| .next h

theorem execBlktmo_keeps {port : Nat} : KeepsX a (execBlktmo port s) := by
  unfold execBlktmo
  split
  · exact .next h
  · exact .ite (.next <| camSettle_keeps <| camClose_keeps h) <| .next h

theorem execCamDown_keeps {port lock : Nat} : KeepsX a (execCamDown port lock s) :=
  .ite (.next <| camViolate_keeps <| camLinkDown_keeps <| happen_keeps <| err_keeps <| sat_keeps <| setFl_keeps <|
    setFl_keeps h) <|
  .next h

theorem execCamUp_keeps {port lock : Nat} : KeepsX a (execCamUp port lock s) :=
  .ite (.next <| .iteElse (setCam_keeps <| setFl_keeps <| setFl_keeps <| .ite h <| setCam_keeps h) noteUp_keeps) <|
  .next h

theorem execCamHeartbeat_keeps {port : Nat} : KeepsX a (execCamHeartbeat port s) :=
  .ite (.next <| .iteElse (setCam_keeps h) emit_keeps) <| .next h

theorem execMalformedPacket_keeps {port kind lane : Nat} : KeepsX a (execMalformedPacket port kind lane s) := by
  unfold execMalformedPacket
  refine .ite (.next h) ?_
  dsimp only
  split
  · exact .next <| camViolate_keeps <| err_keeps <| sat_keeps <| setCam_keeps h
  · exact .next <| camViolate_keeps <| err_keeps <| sat_keeps h
  · exact .next <| camViolate_keeps <| err_keeps <| sat_keeps h

theorem execEventPacket_keeps {port : Nat} {payload : List Byte} : KeepsX a (execEventPacket port payload s) := by
  unfold execEventPacket
  refine .ite ?_ <| .next h
  dsimp only
  split
  · exact .next <| .fst ‹_› <| post_keeps <| camHeard_keeps h
  · exact .next <| sat_keeps <| .fst ‹_› <| post_keeps <| camHeard_keeps h

theorem execCamLine_keeps {port : Nat} {sensor : List (List Nat)} : KeepsX a (execCamLine port sensor s) := by
  unfold execCamLine
  refine .ite ?_ <| .next h
  dsimp only
  split
  · exact .next <| camLine_keeps <| camHeard_keeps h
  · exact .next <| camViolate_keeps <| err_keeps <| sat_keeps <| setCam_keeps <| camHeard_keeps h

theorem execFtdataAccess_keeps {port : Nat} {write : Bool} {value req : Nat} :
    KeepsX a (execFtdataAccess port write value req s) :=
  .ite (.next <| gateU_keeps h fun _ => ftWrite_keeps) <|
  .ite (.next h) <|
  .next <| readGate_keeps h fun _ => ftRead_keeps

theorem execExpcmd_keeps {port gen req : Nat} : KeepsX a (execExpcmd port gen req s) :=
  .next <| gateU_keeps h fun _ => expGo_keeps

theorem execExpdone_keeps {port : Nat} : KeepsX a (execExpdone port s) := by
  unfold execExpdone
  dsimp only
  split
  · exact .ite (.next <| camNextCc_keeps <| expDone_keeps <| setCam_keeps h) <| .next h
  · exact .next h

theorem execCccmd_keeps {port : Nat} {wr : Bool} {req : Nat} : KeepsX a (execCccmd port wr req s) :=
  .next <| gateU_keeps h fun _ => ccGo_keeps

theorem execCcAck_keeps {port kind code data : Nat} : KeepsX a (execCcAck port kind code data s) := by
  unfold execCcAck
  refine .ite (.next h) ?_
  dsimp only
  split
  · exact .next <| camViolate_keeps <| err_keeps <| sat_keeps h
  · split
    · exact .next <| camNextCc_keeps <| ccOk_keeps <| camHeard_keeps h
    · exact .next <| camNextCc_keeps <| camOpEnd_keeps <| camHeard_keeps h
    · exact .next <| ccWait_keeps <| camHeard_keeps h

theorem execCctmo_keeps {port : Nat} : KeepsX a (execCctmo port s) := by
  unfold execCctmo
  split
  · exact .ite (.next <| camNextCc_keeps <| camViolate_keeps <| camOpEnd_keeps h) <| .next h
  · exact .next h

/-! ## Cupolas -/

theorem execFurtherLine_keeps {cup slot : Nat} : KeepsX a (execFurtherLine cup slot s) := by
  unfold execFurtherLine
  dsimp only
  split
  · exact .next h
  · split
    · exact .next h
    · exact .ite (.next h) <| .next <| .iteElse (setCam_keeps h) ringPut_keeps

theorem execStagingRead_keeps {cup slot : Nat} : KeepsX a (execStagingRead cup slot s) :=
  .next <| .ite (stagingRead_keeps h) h

theorem execStage2Entry_keeps {cup : Nat} : KeepsX a (execStage2Entry cup s) := by
  unfold execStage2Entry
  split
  · exact .next h
  · exact .next <| .ite (cupEnter_keeps h) h

theorem execFwaitExpiry_keeps {cup : Nat} : KeepsX a (execFwaitExpiry cup s) := by
  unfold execFwaitExpiry
  split
  · exact .next h
  · exact .next <| .ite (cupEnter_keeps h) h

theorem execHomeLine_keeps {cup : Nat} : KeepsX a (execHomeLine cup s) := by
  unfold execHomeLine
  dsimp only
  split
  · exact .next h
  · exact .ite (.next h) <| .next <| .iteThen (setCam_keeps h) fun q => homeLine_keeps (setCup_keeps q)

theorem execBlkdone_keeps {cup : Nat} : KeepsX a (execBlkdone cup s) :=
  .ite (.next h) <| .ite (.next <| cupHomeLeft_keeps h) <| .next <| cupDone_keeps <| setCup_keeps <| setCam_keeps h

theorem execTcdataAccess_keeps {cup : Nat} {write : Bool} {value req : Nat} :
    KeepsX a (execTcdataAccess cup write value req s) :=
  .ite (.next <| gateU_keeps h fun _ => tcWrite_keeps) <|
  .ite (.next h) <|
  .next <| readGate_keeps h fun _ => tcRead_keeps

theorem execIcdataAccess_keeps {cup : Nat} {write : Bool} {value req : Nat} :
    KeepsX a (execIcdataAccess cup write value req s) :=
  .ite (.next <| gateU_keeps h fun _ => icWrite_keeps) <|
  .ite (.next h) <|
  .next <| readGate_keeps h fun _ => icRead_keeps

/-! ## Compression -/

theorem execCompress_keeps {eng : Nat} : KeepsX a (execCompress eng s) :=
  .next <| cmpTake_keeps h fun _ _ => cmpCompress_keeps

theorem execDecompress_keeps {eng : Nat} : KeepsX a (execDecompress eng s) :=
  .next <| cmpTake_keeps h fun _ _ => cmpInflate_keeps

theorem execAbort_keeps {eng : Nat} : KeepsX a (execAbort eng s) := .next <| cmpTake_keeps h fun _ _ => cmpEnd_keeps

theorem execCmpJobEnd_keeps {eng : Nat} : KeepsX a (execCmpJobEnd eng s) := by
  unfold execCmpJobEnd
  dsimp only
  split
  · exact .next h
  · exact .ite (.next <| post_keeps <| cmpShow_keeps <| setIst_keeps <| setRg64_keeps <| cmpCount_keeps <|
      setCmp_keeps h) <|
      .next h

/-! ## Defects -/

theorem execDefLine_keeps {unit : Nat} : KeepsX a (execDefLine unit s) :=
  .ite (.next h) <| .next <| .foldl (setCup_keeps h) fun _ _ => defTake_keeps

theorem execSnippetDone_keeps {unit : Nat} : KeepsX a (execSnippetDone unit s) := by
  unfold execSnippetDone
  split
  · exact .ite (.next <| setDef_keeps <| snippet_keeps h) (.next h)
  · exact .next h

theorem execBlkpost_keeps {unit : Nat} : KeepsX a (execBlkpost unit s) := .next <| defPublish_keeps h

theorem execDroppedPost_keeps {unit : Nat} : KeepsX a (execDroppedPost unit s) := by
  unfold execDroppedPost
  dsimp only
  split
  · refine .ite (.next h) ?_
    split
    · exact .next <| defShow_keeps <| inc_keeps <| setDef_keeps <| .fst ‹_› <| publish_keeps h
    · exact .next <| .fst ‹_› <| publish_keeps h
  · exact .next h

/-! ## Colour loop -/

theorem execClpLine_keeps {cup : Nat} : KeepsX a (execClpLine cup s) := by
  unfold execClpLine
  dsimp only
  split
  · exact .next h
  · exact .next <| .ite (clpTake_keeps <| setCup_keeps h) h

theorem execWin_keeps {group : Nat} : KeepsX a (execWin group s) := by
  unfold execWin
  split
  · exact .next h
  · exact .next <| .iteThen (.snd ‹_› <| takeTrig_keeps h) clpWin_keeps

theorem execBankChange_keeps {group : Nat} : KeepsX a (execBankChange group s) := by
  unfold execBankChange
  dsimp only
  split
  · exact .ite (.next h) <| .next <| setClpGrp_keeps <| .foldl h fun _ _ => setClpBar_keeps
  · exact .next h

theorem execCorrectionRecord_keeps {group : Nat} : KeepsX a (execCorrectionRecord group s) := by
  unfold execCorrectionRecord
  split
  · exact .next <| .ite (clpClose_keeps h) h
  · exact .next h

theorem execClpSwapRequest_keeps : KeepsX a (execClpSwapRequest s) := by
  unfold execClpSwapRequest
  dsimp only
  split
  · refine .ite ?_ <| .next h
    split
    · exact .next <| .upd <| .fst ‹_› <| swapRequest_keeps h
    · exact .next <| .ite (.upd <| .fst ‹_› <| swapRequest_keeps h) <| clpNoReq_keeps <| .fst ‹_› <| swapRequest_keeps
        h
  · exact .next h

/-! ## Interrupt controller -/

theorem execSourceInput_keeps {source : Nat} : KeepsX a (execSourceInput source s) :=
  .next <| .ite (srcSample_keeps h) <| srcEdge_keeps h

theorem execClaim_keeps {core req : Nat} : KeepsX a (execClaim core req s) :=
  .next <| .ite (readGate_keeps h fun _ => claim_keeps) h

theorem execPclaim_keeps {pin req : Nat} : KeepsX a (execPclaim pin req s) :=
  .next <| .ite (readGate_keeps h fun _ => claim_keeps) h

theorem execComplete_keeps {core source req : Nat} : KeepsX a (execComplete core source req s) :=
  .next <| .ite (gateH_keeps h fun _ => complete_keeps) h

theorem execPcomplete_keeps {source req : Nat} : KeepsX a (execPcomplete source req s) :=
  .next <| gateH_keeps h fun _ => complete_keeps

theorem execHcmp_keeps {fn source req : Nat} : KeepsX a (execHcmp fn source req s) :=
  .next <| .ite (gateH_keeps h fun _ => complete_keeps) h

theorem execSwset_keeps {swi req : Nat} : KeepsX a (execSwset swi req s) :=
  .next <| gateH_keeps h fun _ => srcEdge_keeps

theorem execLatchCatch_keeps {latch : Nat} {rising : Bool} : KeepsX a (execLatchCatch latch rising s) :=
  .ite (.next h) <|
  .ite (.next <| latchHand_keeps h) <|
  .ite (.next h) <|
  .next <| latchHand_keeps <| .iteThen (setRg_keeps h) wakeBy_keeps

/-! ## Queues and PCIe -/

theorem execQueueEnable_keeps {queue value req : Nat} : KeepsX a (execQueueEnable queue value req s) :=
  .next <| .ite (gate_keeps (mirror_keeps h) fun _ => queueCfg_keeps) h

theorem execQueueDisable_keeps {queue value req : Nat} : KeepsX a (execQueueDisable queue value req s) :=
  .next <| .ite (gate_keeps (mirror_keeps h) fun _ => queueCfg_keeps) h

theorem execQueueBind_keeps {queue value req : Nat} : KeepsX a (execQueueBind queue value req s) :=
  .next <| .ite (gate_keeps (mirror_keeps h) fun _ => queueBind_keeps) h

theorem execProducerDoorbell_keeps {queue value req : Nat} {array : Bool} :
    KeepsX a (execProducerDoorbell queue value req array s) :=
  .next <| bell_keeps h fun _ => bellP_keeps

theorem execConsumerDoorbell_keeps {queue value req : Nat} {array : Bool} :
    KeepsX a (execConsumerDoorbell queue value req array s) :=
  .next <| bell_keeps h fun _ => bellC_keeps

theorem execItmoExpiry_keeps {queue : Nat} : KeepsX a (execItmoExpiry queue s) := .next <| .ite (srcSample_keeps h) h

theorem execHostCompletion_keeps {tag status : Nat} {ep : Bool} {data : List (BitVec 8)} :
    KeepsX a (execHostCompletion tag status ep data s) := by
  unfold execHostCompletion
  split
  · exact .next h
  · exact .ite (.next <| pcieBad_keeps <| hostReadError_keeps h) <|
      .ite (.next <| pcieBad_keeps <| hostReadError_keeps h) <|
      .next <| hostDeliver_keeps h

theorem execCompletionTimeout_keeps {tag : Nat} : KeepsX a (execCompletionTimeout tag s) := by
  unfold execCompletionTimeout
  split
  · exact .next h
  · exact .next <| .ite (pcieBad_keeps <| hostReadError_keeps h) h

theorem execMalformedTlp_keeps : KeepsX a (execMalformedTlp s) := .next <| pcieBad_keeps h

theorem execDeviceMemoryAccess_keeps {write : Bool} {addr len : Nat} {data : List (BitVec 8)} {ep : Bool} :
    KeepsX a (execDeviceMemoryAccess write addr len data ep s) :=
  .next <| .ite (emit_keeps h) <| .iteThen (wakeBy_keeps h) hostDram_keeps

theorem execPcieLinkUp_keeps {speed width : Nat} : KeepsX a (execPcieLinkUp speed width s) :=
  .next <| .ite h <| .foldl (happen_keeps <| setFl_keeps h) fun _ _ => noteUp_keeps

theorem execPcieLinkDown_keeps : KeepsX a (execPcieLinkDown s) := .next <| .ite (happen_keeps <| setFl_keeps h) h

theorem execPcieConfigRequest_keeps {fn kind vec value data : Nat} :
    KeepsX a (execPcieConfigRequest fn kind vec value data s) :=
  .ite (.next h) <| .ite (.next <| emit_keeps h) <| .next <| emit_keeps <| .upd <| config_keeps h

/-! ## Event fabric -/

theorem execPulseEnd_keeps {pin : Nat} : KeepsX a (execPulseEnd pin s) := by
  unfold execPulseEnd
  dsimp only
  split
  · exact .next <| .ite (.upd <| gpioSet_keeps h) h
  · exact .next h

theorem execGpioout_keeps {value req : Nat} : KeepsX a (execGpioout value req s) :=
  .next <| gateW_keeps h fun _ k => gpioOutWrite_keeps (gpioOutWrite_keeps k)

theorem execGpioInputEdge_keeps {pin : Nat} {level : Bool} {held : Nat} :
    KeepsX a (execGpioInputEdge pin level held s) :=
  .ite (.next h) <| .next <| gpioSampled_keeps <| latchesHand_keeps <| latchSee_keeps h

theorem execEventDelivery_keeps {ch : Nat} : KeepsX a (execEventDelivery ch s) := by
  unfold execEventDelivery
  dsimp only
  split
  · exact .next h
  · exact .next <| .iteThen (srcEdge_keeps <| applyBy_keeps <| .foldl (.upd h) fun _ _ => deliverTask_keeps)
      latchesHand_keeps

theorem execAsyncChannelEdge_keeps {ch pin : Nat} {rising : Bool} : KeepsX a (execAsyncChannelEdge ch pin rising s) :=
  .ite (.next h) <| .next <| .ite (enterNew_keeps h) <| asyncActs_keeps h

theorem execChannelWrite_keeps {off value req : Nat} : KeepsX a (execChannelWrite off value req s) :=
  .next <| .ite (gateH_keeps h fun _ => chanWrite_keeps) h

theorem execChannelWriteEffect_keeps : KeepsX a (execChannelWriteEffect s) :=
  .next <| .foldl (.upd h) fun _ _ => setChan_keeps

theorem execSwfire_keeps {ch arg req : Nat} : KeepsX a (execSwfire ch arg req s) :=
  .next <| gateW_keeps h fun _ => swfireBoth_keeps

theorem execSwfireArg_keeps {value req : Nat} : KeepsX a (execSwfireArg value req s) :=
  .next <| gateH_keeps h fun _ k => .upd k

theorem execSwfireCh_keeps {ch req : Nat} : KeepsX a (execSwfireCh ch req s) :=
  .next <| gateH_keeps h fun _ => swfire_keeps

/-! ## Network time and Ethernet -/

theorem execIncWrite_keeps {value req : Nat} : KeepsX a (execIncWrite value req s) :=
  .next <| gateW_keeps h fun _ => incWrite_keeps

theorem execOfsadj_keeps {value req : Nat} : KeepsX a (execOfsadj value req s) :=
  .next <| gateW_keeps h fun _ => ofsWrite_keeps

theorem execTset_keeps {frac req : Nat} : KeepsX a (execTset frac req s) :=
  .next <| gateH_keeps h fun _ => tsetWrite_keeps

theorem execTimeParametersApply_keeps : KeepsX a (execTimeParametersApply s) := by
  unfold execTimeParametersApply
  split
  · exact .next <| .upd h
  · exact .next h

theorem execTimensCapture_keeps {req : Nat} : KeepsX a (execTimensCapture req s) :=
  .next <| readGate_keeps h fun _ => timeCapture_keeps

theorem execStamp_keeps : KeepsX a (execStamp s) := by
  unfold execStamp
  dsimp only
  split
  · exact .next h
  · exact .ite (.next <| .snd ‹_› <| takeTrig_keeps h) <|
      .next <| happenFrom_keeps <| inc_keeps <| setRg64_keeps <| setRg_keeps <| setRg64_keeps <| .snd ‹_› <|
        takeTrig_keeps h

theorem execTxtsq1Pop_keeps {port req : Nat} : KeepsX a (execTxtsq1Pop port req s) :=
  .next <| .ite (readGate_keeps h fun _ => tsPop_keeps) h

theorem execRxFrame_keeps {port : Nat} {data : List (BitVec 8)} : KeepsX a (execRxFrame port data s) := by
  unfold execRxFrame
  refine .ite (.next h) <| .ite (.next <| ethBad_keeps h) <| .ite (.next <| sat_keeps h) ?_
  split
  · exact .next <| inc_keeps <| .fst ‹_› <| rxStore_keeps h
  · exact .next <| sat_keeps <| .fst ‹_› <| rxStore_keeps h

theorem execEthFrameError_keeps {port kind len : Nat} : KeepsX a (execEthFrameError port kind len s) :=
  .next <| .ite (ethBad_keeps h) h

theorem execEthLinkDown_keeps {port : Nat} : KeepsX a (execEthLinkDown port s) :=
  .ite (.next <| .iteThen (violate_keeps <| happen_keeps <| err_keeps <| sat_keeps <| setRg_keeps h) setFl_keeps) <|
  .next h

theorem execEthLinkUp_keeps {port : Nat} : KeepsX a (execEthLinkUp port s) :=
  .ite (.next <| noteUp_keeps <| happen_keeps <| setRg_keeps h) <| .next h

/-! ## Calibration -/

theorem execCalGo_keeps {dom inst : Nat} {force : Bool} {req : Nat} : KeepsX a (execCalGo dom inst force req s) :=
  .next <| gateH_keeps h fun _ => calGo_keeps

theorem execCalDrift_keeps {dom inst width : Nat} : KeepsX a (execCalDrift dom inst width s) :=
  .ite (.next <| calRequest_keeps h) <| .next h

theorem execRecalStart_keeps : KeepsX a (execRecalStart s) := by
  unfold execRecalStart
  dsimp only
  split
  · exact .next h
  · exact .ite (.next h) <|
      .ite (.next <| calFail_keeps <| .upd h) <|
      .ite (.next <| .upd <| setLink_keeps <| calBegin_keeps h) <|
      .next h

theorem execGapwaitExpiry_keeps : KeepsX a (execGapwaitExpiry s) := by
  unfold execGapwaitExpiry
  dsimp only
  split
  · exact .ite (.next <| .upd h) <| .next h
  · exact .next h

theorem execDramRetrain_keeps : KeepsX a (execDramRetrain s) := by
  unfold execDramRetrain
  dsimp only
  split
  · exact .next h
  · exact .ite (.next h) <|
      .ite (.next <| calFail_keeps <| .upd h) <|
      .next <| .upd <| setFl_keeps <| calBegin_keeps h

theorem execDerateChange_keeps {ch rate : Nat} : KeepsX a (execDerateChange ch rate s) :=
  .ite (.next h) <| .next <| .iteThen (setFl_keeps h) calRequest_keeps

theorem execCalEnd_keeps {dom width : Nat} {converged : Bool} : KeepsX a (execCalEnd dom width converged s) := by
  unfold execCalEnd
  split
  · exact .next h
  · exact .ite (.next <| calPump_keeps <| calFail_keeps <| calRelease_keeps h) <|
      .ite (.next <| calPump_keeps <| calRelease_keeps <| calResult_keeps h) <|
      .next h

/-! ## Lantern -/

theorem execPlanStep_keeps : KeepsX a (execPlanStep s) := by
  unfold execPlanStep
  dsimp only
  split
  · exact .next h
  · exact .ite (.next h) <| .next <| planMove_keeps <| .ite h <| setVout_keeps h

theorem execPlan_keeps {req : Nat} : KeepsX a (execPlan req s) := .next <| gateH_keeps h fun _ => planStart_keeps

theorem execPlanInterval_keeps : KeepsX a (execPlanInterval s) := .ite (.next <| planStart_keeps h) <| .next h

theorem execMonitorRead_keeps {kind idx value : Nat} : KeepsX a (execMonitorRead kind idx value s) := by
  unfold execMonitorRead
  refine .ite (.next h) ?_
  dsimp only
  split
  · exact .ite (.next <| planStart_keeps <| .ite (slackShow_keeps <| .upd h) <| .iteThen (.upd h) thermal_keeps) <|
      .next <| .ite (slackShow_keeps <| .upd h) <| .iteThen (.upd h) thermal_keeps
  · exact .next <| .ite (slackShow_keeps <| .upd h) <| .iteThen (.upd h) thermal_keeps

theorem execPmbusTransaction_keeps {cmd outcome value : Nat} :
    KeepsX a (execPmbusTransaction cmd outcome value s) := by
  unfold execPmbusTransaction
  refine .ite (.next h) ?_
  dsimp only
  split
  · exact .ite (.next <| planMode_keeps <| .iteThen (.upd h) pmbViolate_keeps) <|
      .ite (.next <| voutRead_keeps h) <|
      .next h
  · exact .next <| pmbNack_keeps h
  · exact .next <| pmbPec_keeps h

theorem execBusStuck_keeps : KeepsX a (execBusStuck s) := .next <| .ite (pmbViolate_keeps <| pmb_keeps h) h

end

end Sys2Proof.Machine
end

section
/-!
PROOFS. What every command keeps: boot, debug, power, resets, links, register accesses, data movers. Then one step of the
block: the front command or one cycle, and what every step keeps.
-/

namespace Sys2Proof.Machine

theorem State.dmiOut_keeps {a s : State} (h : Keeps a s) : Keeps a s.dmiOut := by
  unfold State.dmiOut
  exact .upd (State.drawn_keeps h)

section
open State
variable {a s : State} (h : Keeps a s)
include h

/-! ## Boot -/

theorem execObjectVerify_keeps {src : Nat} {data : List (BitVec 8)} {pmbus : Bool} :
    KeepsX a (execObjectVerify src data pmbus s) := by
  unfold execObjectVerify
  refine .ite (.next <| keepStart_keeps h) <| .ite (.ite (.next <| keepStart_keeps h) ?_) ?_
  · dsimp only
    split
    · exact .next <| bootAccept_keeps <| sfdpRead_keeps <| keepStart_keeps h
    · exact .next <| bootReject_keeps <| sfdpRead_keeps <| keepStart_keeps h
  · dsimp only
    split
    · exact .next <| keepStart_keeps h
    · split
      · exact .next <| bootAccept_keeps <| keepStart_keeps h
      · exact .next <| bootReject_keeps <| keepStart_keeps h

theorem execDqsTimeout_keeps {kind : Nat} : KeepsX a (execDqsTimeout kind s) :=
  .ite (.next <| keepStart_keeps h) <|
  .ite (.next <| err_keeps <| sat_keeps <| .upd <| keepStart_keeps h) <|
  .ite (.next <| keepStart_keeps h) <|
  .ite (.next <| bootReject_keeps <| quarantine_keeps <| .upd <| setPage_keeps <| err_keeps <| sat_keeps <|
    sfdpRead_keeps <| keepStart_keeps h) <|
  .ite (.next <| bootReject_keeps <| setPage_keeps <| err_keeps <| sat_keeps <| sfdpRead_keeps <| keepStart_keeps h)
    <|
  .next <| .upd <| setPage_keeps <| err_keeps <| sat_keeps <| sfdpRead_keeps <| keepStart_keeps h

theorem execBldctlStart_keeps {req : Nat} : KeepsX a (execBldctlStart req s) :=
  .next <| gateH_keeps h fun _ k => bldStart_keeps (keepLate_keeps k)

theorem execBlddata_keeps {value req : Nat} : KeepsX a (execBlddata value req s) :=
  .next <| gateW_keeps h fun _ => bldWord_keeps

theorem execBldlen_keeps {value req : Nat} : KeepsX a (execBldlen value req s) :=
  .next <| gateH_keeps h fun _ => bldEnd_keeps

theorem execAttready_keeps : KeepsX a (execAttready s) := by
  unfold execAttready
  dsimp only
  split
  · exact .ite (.next h) <|
      .ite (.next <| happen_keeps <| setRg64_keeps <| .iteThen (setRg_keeps <| .upd h) setStage_keeps) <|
      .next <| setRg_keeps <| .upd h
  · exact .next h

/-! ## Debug module and TAP -/

theorem execHaltreq_keeps {core req : Nat} : KeepsX a (execHaltreq core req s) :=
  .next <| .ite (gateH_keeps h fun _ => haltReq_keeps) h

theorem execResumereq_keeps {core req : Nat} : KeepsX a (execResumereq core req s) :=
  .next <| .ite (gateH_keeps h fun _ => resumeCore_keeps) h

theorem execHalt_keeps : KeepsX a (execHalt s) := by
  unfold execHalt
  split
  · exact .next h
  · exact .next <| .foldl (.snd ‹_› <| takeTrig_keeps h) fun _ _ k => .ite (haltCore_keeps k) k

theorem execResume_keeps : KeepsX a (execResume s) := by
  unfold execResume
  split
  · exact .next h
  · exact .next <| .foldl (.snd ‹_› <| takeTrig_keeps h) fun _ _ k => .ite (resumeCore_keeps k) k

theorem execRegselGo_keeps {core value req : Nat} : KeepsX a (execRegselGo core value req s) :=
  .next <| .ite (gateH_keeps h fun _ => regselGo_keeps) h

theorem execBreakpoint_keeps {core addr : Nat} : KeepsX a (execBreakpoint core addr s) := by
  unfold execBreakpoint
  dsimp only
  split
  · exact .next <| coreMatch_keeps h
  · exact .next h

theorem execWatchpoint_keeps {core addr len : Nat} {store : Bool} :
    KeepsX a (execWatchpoint core addr len store s) := by
  unfold execWatchpoint
  dsimp only
  split
  · exact .next <| coreMatch_keeps h
  · exact .next h

theorem execFrzcmdFreeze_keeps {req : Nat} : KeepsX a (execFrzcmdFreeze req s) :=
  .next <| gateH_keeps h fun _ => freezeSet_keeps

theorem execFrzcmdRelease_keeps {req : Nat} : KeepsX a (execFrzcmdRelease req s) :=
  .next <| gateH_keeps h fun _ => freezeRelease_keeps

theorem execRelock_keeps {value req : Nat} : KeepsX a (execRelock value req s) :=
  .next <| gateH_keeps h fun _ => setLevel_keeps

theorem execTkctlStart_keeps {req : Nat} : KeepsX a (execTkctlStart req s) :=
  .next <| gateH_keeps h fun _ => tkStart_keeps

theorem execTkdata_keeps {value req : Nat} : KeepsX a (execTkdata value req s) :=
  .next <| gateW_keeps h fun _ => tkWord_keeps

theorem execTklen_keeps {value req : Nat} : KeepsX a (execTklen value req s) :=
  .next <| gateH_keeps h fun _ => tkEnd_keeps

theorem execToken_keeps : KeepsX a (execToken s) := by
  unfold execToken
  dsimp only
  split
  · exact .next h
  · exact .next <| happen_keeps <| .ite (setLevel_keeps <| newNonce_keeps <| setRg_keeps <| .upd h) <| err_keeps <|
      newNonce_keeps <| setRg_keeps <| .upd h

theorem execIdcode_keeps : KeepsX a (execIdcode s) := .next <| .ite (.upd <| tapIr_keeps h) h

theorem execBypass_keeps : KeepsX a (execBypass s) := .next <| .ite (tapBypass_keeps h) h

theorem execExtest_keeps {shift : List Bool} : KeepsX a (execExtest shift s) :=
  .next <| tapBoundary_keeps h fun _ k => tapPins_keeps (.upd k)

theorem execSamplePreload_keeps {pins shift : List Bool} : KeepsX a (execSamplePreload pins shift s) :=
  .next <| tapBoundary_keeps h fun _ k => tapPins_keeps (.upd k)

theorem execHighz_keeps : KeepsX a (execHighz s) := .next <| tapBoundary_keeps h fun _ => tapPins_keeps

theorem execClamp_keeps : KeepsX a (execClamp s) := .next <| tapBoundary_keeps h fun _ => tapPins_keeps

theorem execTapReset_keeps : KeepsX a (execTapReset s) := .next <| .ite (tapIr_keeps h) h

theorem execWakeInstruction_keeps {dr : Bool} : KeepsX a (execWakeInstruction dr s) :=
  .next <| .ite h <| .iteThen (tapIr_keeps h) wakeBy_keeps

/-! ## Power states and resets -/

theorem execPor_keeps {bootsel : Nat} : KeepsX a (execPor bootsel s) := .next <| resetCause_keeps <| powerOn_keeps h

theorem execPinReset_keeps : KeepsX a (execPinReset s) := .next <| resetBy_keeps h fun _ => warm_keeps

theorem execSwReset_keeps {value req : Nat} : KeepsX a (execSwReset value req s) :=
  .next <| gateH_keeps h fun _ => rstcCmd_keeps

theorem execCoreReset_keeps {value req : Nat} : KeepsX a (execCoreReset value req s) :=
  .next <| gateH_keeps h fun _ => rstcCmd_keeps

theorem execClkLoss_keeps {pll long : Bool} : KeepsX a (execClkLoss pll long s) :=
  .ite (.next <| resetBy_keeps h fun _ => warm_keeps) <| .ite (.next h) <| .next <| sat_keeps <| err_keeps h

theorem execWdkick_keeps {value req : Nat} : KeepsX a (execWdkick value req s) :=
  .next <| gateH_keeps h fun _ => wdKick_keeps

theorem execWatchdogExpiry_keeps : KeepsX a (execWatchdogExpiry s) :=
  .ite (.next h) <|
  .ite (.next <| resetBy_keeps (.upd h) fun _ => warm_keeps) <|
  .next <| happen_keeps <| logOnly_keeps <| .upd h

theorem execOutctlRel_keeps {value req : Nat} : KeepsX a (execOutctlRel value req s) :=
  .next <| gateH_keeps h fun _ => outctl_keeps

theorem execWinopen_keeps : KeepsX a (execWinopen s) :=
  .ite (.next h) <|
  .next <| setRg_keeps <| setRg64_keeps <| setFl_keeps <| .upd <| .ite (bootRom_keeps h) <| keepStart_keeps h

theorem execReqIdle_keeps {req : Nat} : KeepsX a (execReqIdle req s) := .next <| gateH_keeps h fun _ => powerReq_keeps

theorem execReqHold_keeps {req : Nat} : KeepsX a (execReqHold req s) := .next <| gateH_keeps h fun _ => powerReq_keeps

theorem execReqSleep_keeps {req : Nat} : KeepsX a (execReqSleep req s) :=
  .next <| gateH_keeps h fun _ => powerReq_keeps

theorem execReqOff_keeps {req : Nat} : KeepsX a (execReqOff req s) := .next <| gateH_keeps h fun _ => powerReq_keeps

theorem execReqRun_keeps {req : Nat} : KeepsX a (execReqRun req s) := .next <| gateH_keeps h fun _ => powerReq_keeps

theorem execPowerEntryDone_keeps : KeepsX a (execPowerEntryDone s) :=
  .ite (.next h) <| .next <| .iteThen (showPwr_keeps <| .upd <| .ite h <| selfRefresh_keeps <| .upd h) pinsOff_keeps

theorem execWake_keeps : KeepsX a (execWake s) := by
  unfold execWake
  split
  · exact .next h
  · exact .next <| wakeBy_keeps <| .snd ‹_› <| takeTrig_keeps h

theorem execHostWake_keeps : KeepsX a (execHostWake s) := .next <| wakeBy_keeps h

theorem execAonTimer_keeps {ticks : Nat} : KeepsX a (execAonTimer ticks s) := .next <| .ite (wakeBy_keeps h) h

theorem execWakeComplete_keeps {ticks : Nat} : KeepsX a (execWakeComplete ticks s) := by
  unfold execWakeComplete
  dsimp only
  split
  · exact .next h
  · exact .ite (.next <| resetCause_keeps <| powerOn_keeps <| emit_keeps h) <|
      .next <| happen_keeps <| .iteThen (setRg_keeps <| showPwr_keeps <| selfRefresh_keeps <| .iteThen (.upd h) fun q
        => .upd (slept_keeps q)) reclocked_keeps

/-! ## DMA and PERST -/

theorem execDmaStart_keeps {ch req : Nat} {byTask : Bool} : KeepsX a (execDmaStart ch req byTask s) := by
  unfold execDmaStart
  refine .ite ?_ <| .next <| gateH_keeps h fun _ => dmaStart_keeps
  split
  · exact .next h
  · exact .next <| dmaStart_keeps <| .snd ‹_› <| takeTrig_keeps h

theorem execDmaStop_keeps {ch req : Nat} : KeepsX a (execDmaStop ch req s) :=
  .next <| gateH_keeps h fun _ => dmaStop_keeps

theorem execDmaResume_keeps {ch req : Nat} : KeepsX a (execDmaResume ch req s) :=
  .next <| gateH_keeps h fun _ => dmaResume_keeps

theorem execFlr_keeps {fn : Nat} : KeepsX a (execFlr fn s) :=
  .ite (.next h) <|
  .next <| happen_keeps <| err_keeps <| sat_keeps <| .upd <| flrQueues_keeps <| .foldl h fun _ _ k => .ite
    (dmaAbort_keeps k) k

theorem execPerst_keeps : KeepsX a (execPerst s) :=
  .ite (.next <| resetBy_keeps h fun _ => warm_keeps) <|
  .ite (.next h) <|
  .ite (.next <| resetCause_keeps h) <|
  .next <| pcieReset_keeps <| .foldl h fun _ _ k => .ite (dmaAbort_keeps k) k

/-! ## Worker link and standby -/

theorem execTolturLockDone_keeps {portB : Bool} : KeepsX a (execTolturLockDone portB s) :=
  .ite (.next <| pingSend_keeps <| setPortLock_keeps h) <| .next h

theorem execTlkLaneLockLoss_keeps {portB : Bool} {lane : Nat} : KeepsX a (execTlkLaneLockLoss portB lane s) :=
  .ite (.next <| .iteThen (tlkViolate_keeps <| sat_keeps <| err_keeps <| laneLost_keeps h) setPortState_keeps) <|
  .next h

theorem execPing_keeps {portB answer : Bool} {src hops t1 t2 t3 : Nat} :
    KeepsX a (execPing portB answer src hops t1 t2 t3 s) :=
  .ite (.next h) <|
  .ite (.next <| tlkMalf_keeps h) <|
  .ite (.next <| pingPut_keeps <| drawn_keeps <| drawn_keeps <| .ite (setFl_keeps h) <| setFl_keeps h) <|
  .ite (.next <| .ite (setFl_keeps h) <| setFl_keeps h) <|
  .next <| .ite (portTrained_keeps <| setTport_keeps <| drawn_keeps <| .ite (setFl_keeps h) <| setFl_keeps h) <|
    pingSend_keeps <| setTport_keeps <| drawn_keeps <| .ite (setFl_keeps h) <| setFl_keeps h

theorem execTolturFrameError_keeps {portB crc : Bool} : KeepsX a (execTolturFrameError portB crc s) :=
  .ite (.next h) <| .ite (.next <| tlkViolate_keeps <| sat_keeps <| err_keeps h) <| .next <| tlkMalf_keeps h

theorem execRingSend_keeps : KeepsX a (execRingSend s) := .ite (.next <| tlkCast_keeps <| .upd h) <| .next h

theorem execRingFrame_keeps {portB : Bool} {src b3 seq role rsize : Nat} :
    KeepsX a (execRingFrame portB src b3 seq role rsize s) :=
  .ite (.next h) <|
  .ite (.next <| .ite (tlkViolate_keeps <| sat_keeps <| err_keeps h) <| setTport_keeps h) <|
  .next <| tlkRepeat_keeps <| tlkNote_keeps <| .ite (tlkViolate_keeps <| sat_keeps <| err_keeps h) <| setTport_keeps h

theorem execTbSend_keeps : KeepsX a (execTbSend s) :=
  .ite (.next h) <|
  .ite (.ite (.next <| outputsFollow_keeps <| tlkCast_keeps <| .upd h) <|
  .next h) <|
  .ite (.next <| tlkCast_keeps <| .upd h) <|
  .next h

theorem execTbFrame_keeps {portB shadow pfault : Bool} {src hops dly : Nat} {words : List Nat} :
    KeepsX a (execTbFrame portB shadow pfault src hops dly words s) :=
  .ite (.next h) <|
  .ite (.next <| tlkMalf_keeps h) <|
  .ite (.next h) <|
  .ite (.next <| tlkRepeat_keeps <| tlkNote_keeps <| drawn_keeps h) <|
  .ite (.next <| tlkViolate_keeps <| sat_keeps <| err_keeps <| tlkRepeat_keeps <| tlkNote_keeps <| drawn_keeps h) <|
  .ite (.next <| tlkRepeat_keeps <| tlkNote_keeps <| drawn_keeps h) <|
  .next <| tbAccept_keeps <| tlkRepeat_keeps <| tlkNote_keeps <| drawn_keeps h

theorem execTblost_keeps : KeepsX a (execTblost s) :=
  .ite (.next <| happen_keeps <| err_keeps <| sat_keeps <| setFl_keeps h) <| .next h

theorem execTbhalt_keeps : KeepsX a (execTbhalt s) :=
  .ite (.next <| .foldl h fun _ _ k => .ite (obsHalt_keeps k) k) <| .next h

theorem execTbLoss_keeps : KeepsX a (execTbLoss s) := .ite (.next <| takeOver_keeps h) <| .next h

theorem execTakeover_keeps {req : Nat} : KeepsX a (execTakeover req s) :=
  .next <| gateH_keeps h fun _ => redTakeover_keeps

theorem execDeclfail_keeps {req : Nat} : KeepsX a (execDeclfail req s) :=
  .next <| gateH_keeps h fun _ => redDeclfail_keeps

theorem execAlign_keeps {req : Nat} : KeepsX a (execAlign req s) := .next <| gateH_keeps h fun _ => redRealign_keeps

theorem execRsend_keeps : KeepsX a (execRsend s) := by
  unfold execRsend
  dsimp only
  split
  · exact .next h
  · exact .ite (.next <| .upd h) <| .next <| tlkCast_keeps <| .upd <| inc_keeps <| .upd h

theorem execEvtFrame_keeps {portB shadow pfault : Bool} {src hops seq : Nat} {words : List Nat} :
    KeepsX a (execEvtFrame portB shadow pfault src hops seq words s) :=
  .ite (.next h) <|
  .ite (.next <| tlkMalf_keeps h) <|
  .ite (.next h) <|
  .ite (.next <| tlkRepeat_keeps <| tlkNote_keeps h) <|
  .next <| .foldl (tlkRepeat_keeps <| tlkNote_keeps h) fun _ _ k => .foldl k (fun _ _ => enterRemote_keeps)

theorem execTlkTuncmd_keeps {wr wide : Bool} {req : Nat} : KeepsX a (execTlkTuncmd wr wide req s) :=
  .next <| gateH_keeps h fun _ => ringTun_keeps

theorem execTrsp_keeps {portB : Bool} {src dst b3 seq code data : Nat} :
    KeepsX a (execTrsp portB src dst b3 seq code data s) := by
  unfold execTrsp
  refine .next <| tlkTake_keeps h <| fun _ k => ?_
  split
  · exact .ite (ringTunEnd_keeps <| .ite k <| setRg64_keeps k) k
  · exact k

theorem execTlkTuntmo_keeps : KeepsX a (execTlkTuntmo s) := by
  unfold execTlkTuntmo
  split
  · exact .ite (.next <| tlkViolate_keeps <| err_keeps <| ringTunEnd_keeps h) <| .next h
  · exact .next h

theorem execFwdFrame_keeps {portB : Bool} {src dst b3 : Nat} {words : List Nat} :
    KeepsX a (execFwdFrame portB src dst b3 words s) :=
  .ite (.next <| tlkMalf_keeps h) <|
  .next <| tlkTake_keeps h fun _ k => .ite k (.ite (fwdAccept_keeps <| setFwdRx_keeps k) <| .iteElse (setFwdRx_keeps
    k) fun q => tlkViolate_keeps (sat_keeps <| err_keeps <| fackSend_keeps q))

theorem execFackSend_keeps {worker : Nat} : KeepsX a (execFackSend worker s) := by
  unfold execFackSend
  split
  · exact .ite (.next <| fackSend_keeps h) <| .next h
  · exact .next h

theorem execFack_keeps {portB : Bool} {src dst b3 ackseq : Nat} {nak : Bool} :
    KeepsX a (execFack portB src dst b3 ackseq nak s) :=
  .next <| tlkTake_keeps h fun _ k => .ite k (showFwd_keeps <| .iteThen (.upd k) fwdResend_keeps)

theorem execFwtmo_keeps : KeepsX a (execFwtmo s) := .ite (.next <| fwdResend_keeps h) <| .next h

theorem execClpdFrame_keeps {portB : Bool} {src dst b3 cup : Nat} {words : List Nat} :
    KeepsX a (execClpdFrame portB src dst b3 cup words s) :=
  .ite (.next <| tlkMalf_keeps h) <|
  .next <| tlkTake_keeps h fun _ k => .foldl k (fun _ _ k1 => .ite (clpImport_keeps k1) k1)

/-! ## Register fabric -/

theorem execCtrlEnable_keeps {page req : Nat} : KeepsX a (execCtrlEnable page req s) := .next <| ctrlGate_keeps h

theorem execCtrlDisable_keeps {page req : Nat} : KeepsX a (execCtrlDisable page req s) := .next <| ctrlGate_keeps h

theorem execCtrlRun_keeps {page req : Nat} : KeepsX a (execCtrlRun page req s) := .next <| ctrlGate_keeps h

theorem execCtrlStop_keeps {page req : Nat} : KeepsX a (execCtrlStop page req s) := .next <| ctrlGate_keeps h

theorem execSoftReset_keeps {page req : Nat} : KeepsX a (execSoftReset page req s) := .next <| ctrlGate_keeps h

theorem execFreeze_keeps {page : Nat} {on : Bool} {req : Nat} : KeepsX a (execFreeze page on req s) :=
  .next <| ctrlGate_keeps h

theorem execDrainComplete_keeps {page : Nat} : KeepsX a (execDrainComplete page s) :=
  .ite (.next <| .iteThen (enterIdle_keeps h) enterRun_keeps) <| .next h

theorem execLogdataPop_keeps {page req : Nat} : KeepsX a (execLogdataPop page req s) :=
  .next <| readGate_keeps h fun _ k => .upd (logPop_keeps k)

theorem execLogClr_keeps {page req : Nat} : KeepsX a (execLogClr page req s) :=
  .next <| gateH_keeps h fun _ => logClear_keeps

theorem execOwnerLock_keeps {page req : Nat} : KeepsX a (execOwnerLock page req s) :=
  .next <| gateH_keeps h fun _ => ownerWrite_keeps

theorem execApplynow_keeps {page req : Nat} : KeepsX a (execApplynow page req s) :=
  .next <| gateH_keeps h fun _ => applyPage_keeps

theorem execViolationWindowEnd_keeps {page : Nat} : KeepsX a (execViolationWindowEnd page s) :=
  .ite (.next <| .iteThen (setPage_keeps h) tlkWindow_keeps) <| .next h

theorem execDramTraining_keeps {ch width : Nat} {converged : Bool} :
    KeepsX a (execDramTraining ch width converged s) :=
  .ite (.next <| .iteThen (trained_keeps h) settlePage_keeps) <| .next h

/-! ## Data movers -/

theorem execSbaddrWrite_keeps {value req : Nat} : KeepsX a (execSbaddrWrite value req s) :=
  .next <| gateW_keeps h fun _ => sbWrite_keeps

theorem execSbdataWrite_keeps {value req : Nat} : KeepsX a (execSbdataWrite value req s) :=
  .next <| gateW_keeps h fun _ => sbWrite_keeps

theorem execSbdataRead_keeps {req : Nat} : KeepsX a (execSbdataRead req s) :=
  .next <| readGate_keeps h fun _ => sbRead_keeps

theorem execDmi_keeps {op addr data : Nat} : KeepsX a (execDmi op addr data s) :=
  .ite (.next h) <|
  .ite (.next <| tapBypass_keeps h) <|
  .ite (.next <| dmiOut_keeps <| tapIr_keeps h) <|
  .ite (.next <| .upd <| dmiOut_keeps <| tapIr_keeps h) <|
  .next <| .upd <| .ite (regWrite_keeps <| dmiOut_keeps <| tapIr_keeps h) <| regRead_keeps <| dmiOut_keeps <|
    tapIr_keeps h

theorem execRegisterWrite_keeps {off size value req : Nat} : KeepsX a (execRegisterWrite off size value req s) :=
  .next <| regWrite_keeps <| mirror_keeps h

theorem execTreq_keeps {portB : Bool} {src dst b3 seq off : Nat} {wide wr : Bool} {data : Nat} :
    KeepsX a (execTreq portB src dst b3 seq off wide wr data s) :=
  .next <| tlkTake_keeps h fun _ k => .ite (tlkSend_keeps k) (.ite (tlkSend_keeps <| .ite (regWrite_keeps k) k) <|
  .ite (tlkSend_keeps <| regWrite_keeps k) <| tlkSend_keeps <| .upd <| regRead_keeps k)

theorem execMirFrame_keeps {portB : Bool} {src dst b3 : Nat} {words : List Nat} :
    KeepsX a (execMirFrame portB src dst b3 words s) :=
  .ite (.next <| tlkMalf_keeps h) <|
  .next <| tlkTake_keeps h fun _ k => .ite k (.foldl (inc_keeps <| setRg_keeps <| .upd <| .ite (diverge_keeps <|
    err_keeps k) k) fun _ _ k1 => .ite k1 (regWrite_keeps k1))

theorem execTxEntry_keeps {port : Nat} : KeepsX a (execTxEntry port s) := by
  unfold execTxEntry
  refine .ite (.next h) ?_
  split
  · exact .next <| .fst ‹_› <| peek_keeps h
  · refine .ite (.next <| txDiscard_keeps <| .fst ‹_› <| peek_keeps h) <|
      .ite (.next <| txRefuse_keeps <| .fst ‹_› <| peek_keeps h) ?_
    split
    · exact .next <| txRefuse_keeps <| .fst ‹_› <| txData_keeps <| .fst ‹_› <| peek_keeps h
    · exact .next <| .fst ‹_› <| txData_keeps <| .fst ‹_› <| peek_keeps h
    · exact .next <| txSend_keeps <| .fst ‹_› <| txData_keeps <| .fst ‹_› <| peek_keeps h

theorem execDmaTake_keeps : KeepsX a (execDmaTake s) := by
  unfold execDmaTake
  refine .ite (.next h) ?_
  split
  · exact .next h
  · split
    · exact .next <| dmaEnd_keeps <| .fst ‹_› <| descFetch_keeps <| dmaShow_keeps <| setDmaState_keeps h
    · exact .next <| .fst ‹_› <| descFetch_keeps <| dmaShow_keeps <| setDmaState_keeps h

theorem execDescriptorDone_keeps : KeepsX a (execDescriptorDone s) := by
  unfold execDescriptorDone
  dsimp only
  split
  · exact .next h
  · refine .ite (.next h) ?_
    split
    · exact .next <| dmaEnd_keeps <| .fst ‹_› <| descFetch_keeps h
    · exact .next <| .fst ‹_› <| descFetch_keeps h
    · split
      · exact .next <| .fst ‹_› <| descMove_keeps <| .fst ‹_› <| descFetch_keeps h
      · exact .next <| dmaEnd_keeps <| .fst ‹_› <| descMove_keeps <| .fst ‹_› <| descFetch_keeps h
      · exact .next <| descDone_keeps <| .fst ‹_› <| descMove_keeps <| .fst ‹_› <| descFetch_keeps h

/-! ## Keep's queue -/

theorem execAttest_keeps : KeepsX a (execAttest s) := .next <| keepRow_keeps h fun _ _ => attest_keeps

theorem execLoadkey_keeps : KeepsX a (execLoadkey s) := .next <| keepRow_keeps h fun _ _ k => .some (loadKey_keeps k)

theorem execClearkey_keeps : KeepsX a (execClearkey s) :=
  .next <| keepRow_keeps h fun _ _ k => .some (clearKey_keeps k)

theorem execGetpub_keeps : KeepsX a (execGetpub s) := .next <| keepRow_keeps h fun _ _ k => .some (getPub_keeps k)

theorem execCommit_keeps : KeepsX a (execCommit s) :=
  .next <| keepRow_keeps h fun _ _ k => .some (.ite (commitCtrs_keeps k) <| keepEnd_keeps k)

theorem execProvision_keeps : KeepsX a (execProvision s) :=
  .next <| keepRow_keeps h fun _ _ k => .some (signed_keeps k)

theorem execEnroll_keeps : KeepsX a (execEnroll s) := .next <| keepRow_keeps h fun _ _ k => .some (signed_keeps k)

theorem execRevoke_keeps : KeepsX a (execRevoke s) := .next <| keepRow_keeps h fun _ _ k => .some (signed_keeps k)

theorem execToprod_keeps : KeepsX a (execToprod s) := .next <| keepRow_keeps h fun _ _ k => .some (signed_keeps k)

theorem execTorma_keeps : KeepsX a (execTorma s) := .next <| keepRow_keeps h fun _ _ k => .some (signed_keeps k)

theorem execRootrev_keeps : KeepsX a (execRootrev s) := .next <| keepRow_keeps h fun _ _ k => .some (signed_keeps k)

end

/-! ## One step -/

/-- Whatever command runs keeps the part, the queue and the canonical forms. -/
theorem exec_keeps (s : State) : ∀ c : Instr, KeepsX s (exec c s)
  | .registerWrite .. => execRegisterWrite_keeps (.refl s)
  | .ctrlEnable .. => execCtrlEnable_keeps (.refl s)
  | .ctrlDisable .. => execCtrlDisable_keeps (.refl s)
  | .ctrlRun .. => execCtrlRun_keeps (.refl s)
  | .ctrlStop .. => execCtrlStop_keeps (.refl s)
  | .drainComplete .. => execDrainComplete_keeps (.refl s)
  | .softReset .. => execSoftReset_keeps (.refl s)
  | .freeze .. => execFreeze_keeps (.refl s)
  | .logdataPop .. => execLogdataPop_keeps (.refl s)
  | .logClr .. => execLogClr_keeps (.refl s)
  | .ownerLock .. => execOwnerLock_keeps (.refl s)
  | .applynow .. => execApplynow_keeps (.refl s)
  | .violationWindowEnd .. => execViolationWindowEnd_keeps (.refl s)
  | .filteredLevelChange .. => execFilteredLevelChange_keeps (.refl s)
  | .serialRequest .. => execSerialRequest_keeps (.refl s)
  | .serialWord .. => execSerialWord_keeps (.refl s)
  | .startBitTimeout .. => execStartBitTimeout_keeps (.refl s)
  | .observerUpdate .. => execObserverUpdate_keeps (.refl s)
  | .coastmaxExpiry .. => execCoastmaxExpiry_keeps (.refl s)
  | .repair .. => execRepair_keeps (.refl s)
  | .snap .. => execSnap_keeps (.refl s)
  | .emuEnable .. => execEmuEnable_keeps (.refl s)
  | .emuStep .. => execEmuStep_keeps (.refl s)
  | .markWrite .. => execMarkWrite_keeps (.refl s)
  | .markWriteEffect => execMarkWriteEffect_keeps (.refl s)
  | .markEvaluation => execMarkEvaluation_keeps (.refl s)
  | .deferredFire .. => execDeferredFire_keeps (.refl s)
  | .disarm .. => execDisarm_keeps (.refl s)
  | .load .. => execLoad_keeps (.refl s)
  | .loaddone .. => execLoaddone_keeps (.refl s)
  | .unload .. => execUnload_keeps (.refl s)
  | .verify .. => execVerify_keeps (.refl s)
  | .vdone .. => execVdone_keeps (.refl s)
  | .tileCheck .. => execTileCheck_keeps (.refl s)
  | .cursorEnable .. => execCursorEnable_keeps (.refl s)
  | .laneStart .. => execLaneStart_keeps (.refl s)
  | .lineScreened .. => execLineScreened_keeps (.refl s)
  | .scrdataAccess .. => execScrdataAccess_keeps (.refl s)
  | .handover .. => execHandover_keeps (.refl s)
  | .swcmdForce .. => execSwcmdForce_keeps (.refl s)
  | .copyForwardDone => execCopyForwardDone_keeps (.refl s)
  | .heldQueueDrained => execHeldQueueDrained_keeps (.refl s)
  | .nozzleWindowWrite .. => execNozzleWindowWrite_keeps (.refl s)
  | .curveWindowWrite .. => execCurveWindowWrite_keeps (.refl s)
  | .imageLoad .. => execImageLoad_keeps (.refl s)
  | .imageCheckDone => execImageCheckDone_keeps (.refl s)
  | .imgdone => execImgdone_keeps (.refl s)
  | .line .. => execLine_keeps (.refl s)
  | .fireInstant .. => execFireInstant_keeps (.refl s)
  | .lineDeadline .. => execLineDeadline_keeps (.refl s)
  | .entryWrite .. => execEntryWrite_keeps (.refl s)
  | .lineSet .. => execLineSet_keeps (.refl s)
  | .lockDone .. => execLockDone_keeps (.refl s)
  | .statIdent .. => execStatIdent_keeps (.refl s)
  | .syncSend .. => execSyncSend_keeps (.refl s)
  | .syncAnswer .. => execSyncAnswer_keeps (.refl s)
  | .trntmo .. => execTrntmo_keeps (.refl s)
  | .statHb .. => execStatHb_keeps (.refl s)
  | .hbTimeout .. => execHbTimeout_keeps (.refl s)
  | .blockLockLoss .. => execBlockLockLoss_keeps (.refl s)
  | .retrain .. => execRetrain_keeps (.refl s)
  | .autort .. => execAutort_keeps (.refl s)
  | .tuncmd .. => execTuncmd_keeps (.refl s)
  | .ack .. => execAck_keeps (.refl s)
  | .nak .. => execNak_keeps (.refl s)
  | .tuntmo .. => execTuntmo_keeps (.refl s)
  | .statNchk .. => execStatNchk_keeps (.refl s)
  | .hlkFrameError .. => execHlkFrameError_keeps (.refl s)
  | .camDown .. => execCamDown_keeps (.refl s)
  | .camUp .. => execCamUp_keeps (.refl s)
  | .trig .. => execTrig_keeps (.refl s)
  | .triggerInstant .. => execTriggerInstant_keeps (.refl s)
  | .triggerSend .. => execTriggerSend_keeps (.refl s)
  | .camLine .. => execCamLine_keeps (.refl s)
  | .triggerExpiry .. => execTriggerExpiry_keeps (.refl s)
  | .blktmo .. => execBlktmo_keeps (.refl s)
  | .ftdataAccess .. => execFtdataAccess_keeps (.refl s)
  | .expcmd .. => execExpcmd_keeps (.refl s)
  | .expdone .. => execExpdone_keeps (.refl s)
  | .cccmd .. => execCccmd_keeps (.refl s)
  | .ccAck .. => execCcAck_keeps (.refl s)
  | .cctmo .. => execCctmo_keeps (.refl s)
  | .eventPacket .. => execEventPacket_keeps (.refl s)
  | .camHeartbeat .. => execCamHeartbeat_keeps (.refl s)
  | .malformedPacket .. => execMalformedPacket_keeps (.refl s)
  | .homeLine .. => execHomeLine_keeps (.refl s)
  | .furtherLine .. => execFurtherLine_keeps (.refl s)
  | .stagingRead .. => execStagingRead_keeps (.refl s)
  | .fwaitExpiry .. => execFwaitExpiry_keeps (.refl s)
  | .stage2Entry .. => execStage2Entry_keeps (.refl s)
  | .blkdone .. => execBlkdone_keeps (.refl s)
  | .tcdataAccess .. => execTcdataAccess_keeps (.refl s)
  | .icdataAccess .. => execIcdataAccess_keeps (.refl s)
  | .defLine .. => execDefLine_keeps (.refl s)
  | .snippetDone .. => execSnippetDone_keeps (.refl s)
  | .blkpost .. => execBlkpost_keeps (.refl s)
  | .droppedPost .. => execDroppedPost_keeps (.refl s)
  | .clpLine .. => execClpLine_keeps (.refl s)
  | .win .. => execWin_keeps (.refl s)
  | .bankChange .. => execBankChange_keeps (.refl s)
  | .correctionRecord .. => execCorrectionRecord_keeps (.refl s)
  | .clpSwapRequest => execClpSwapRequest_keeps (.refl s)
  | .compress .. => execCompress_keeps (.refl s)
  | .decompress .. => execDecompress_keeps (.refl s)
  | .abort .. => execAbort_keeps (.refl s)
  | .cmpJobEnd .. => execCmpJobEnd_keeps (.refl s)
  | .queueEnable .. => execQueueEnable_keeps (.refl s)
  | .queueDisable .. => execQueueDisable_keeps (.refl s)
  | .queueBind .. => execQueueBind_keeps (.refl s)
  | .producerDoorbell .. => execProducerDoorbell_keeps (.refl s)
  | .consumerDoorbell .. => execConsumerDoorbell_keeps (.refl s)
  | .itmoExpiry .. => execItmoExpiry_keeps (.refl s)
  | .hostCompletion .. => execHostCompletion_keeps (.refl s)
  | .completionTimeout .. => execCompletionTimeout_keeps (.refl s)
  | .malformedTlp => execMalformedTlp_keeps (.refl s)
  | .deviceMemoryAccess .. => execDeviceMemoryAccess_keeps (.refl s)
  | .flr .. => execFlr_keeps (.refl s)
  | .dmaStart .. => execDmaStart_keeps (.refl s)
  | .dmaStop .. => execDmaStop_keeps (.refl s)
  | .dmaResume .. => execDmaResume_keeps (.refl s)
  | .dmaTake => execDmaTake_keeps (.refl s)
  | .descriptorDone => execDescriptorDone_keeps (.refl s)
  | .sourceInput .. => execSourceInput_keeps (.refl s)
  | .claim .. => execClaim_keeps (.refl s)
  | .complete .. => execComplete_keeps (.refl s)
  | .pclaim .. => execPclaim_keeps (.refl s)
  | .pcomplete .. => execPcomplete_keeps (.refl s)
  | .hcmp .. => execHcmp_keeps (.refl s)
  | .swset .. => execSwset_keeps (.refl s)
  | .latchCatch .. => execLatchCatch_keeps (.refl s)
  | .swfire .. => execSwfire_keeps (.refl s)
  | .swfireArg .. => execSwfireArg_keeps (.refl s)
  | .swfireCh .. => execSwfireCh_keeps (.refl s)
  | .eventDelivery .. => execEventDelivery_keeps (.refl s)
  | .channelWrite .. => execChannelWrite_keeps (.refl s)
  | .channelWriteEffect => execChannelWriteEffect_keeps (.refl s)
  | .gpioInputEdge .. => execGpioInputEdge_keeps (.refl s)
  | .pulseEnd .. => execPulseEnd_keeps (.refl s)
  | .gpioout .. => execGpioout_keeps (.refl s)
  | .axisStart .. => execAxisStart_keeps (.refl s)
  | .axisStop .. => execAxisStop_keeps (.refl s)
  | .axisAbort .. => execAxisAbort_keeps (.refl s)
  | .seghead .. => execSeghead_keeps (.refl s)
  | .axisCycle .. => execAxisCycle_keeps (.refl s)
  | .segmentEnd .. => execSegmentEnd_keeps (.refl s)
  | .step .. => execStep_keeps (.refl s)
  | .standstill .. => execStandstill_keeps (.refl s)
  | .coilWakeEnd .. => execCoilWakeEnd_keeps (.refl s)
  | .setpointFrame .. => execSetpointFrame_keeps (.refl s)
  | .sdfOutput .. => execSdfOutput_keeps (.refl s)
  | .stuck .. => execStuck_keeps (.refl s)
  | .peakRead .. => execPeakRead_keeps (.refl s)
  | .incWrite .. => execIncWrite_keeps (.refl s)
  | .ofsadj .. => execOfsadj_keeps (.refl s)
  | .tset .. => execTset_keeps (.refl s)
  | .timeParametersApply => execTimeParametersApply_keeps (.refl s)
  | .timensCapture .. => execTimensCapture_keeps (.refl s)
  | .stamp => execStamp_keeps (.refl s)
  | .txEntry .. => execTxEntry_keeps (.refl s)
  | .txtsq1Pop .. => execTxtsq1Pop_keeps (.refl s)
  | .rxFrame .. => execRxFrame_keeps (.refl s)
  | .ethFrameError .. => execEthFrameError_keeps (.refl s)
  | .ethLinkDown .. => execEthLinkDown_keeps (.refl s)
  | .ethLinkUp .. => execEthLinkUp_keeps (.refl s)
  | .tlkLaneLockLoss .. => execTlkLaneLockLoss_keeps (.refl s)
  | .ping .. => execPing_keeps (.refl s)
  | .ringSend => execRingSend_keeps (.refl s)
  | .ringFrame .. => execRingFrame_keeps (.refl s)
  | .tbSend => execTbSend_keeps (.refl s)
  | .tbFrame .. => execTbFrame_keeps (.refl s)
  | .tblost => execTblost_keeps (.refl s)
  | .tbhalt => execTbhalt_keeps (.refl s)
  | .rsend => execRsend_keeps (.refl s)
  | .evtFrame .. => execEvtFrame_keeps (.refl s)
  | .tlkTuncmd .. => execTlkTuncmd_keeps (.refl s)
  | .treq .. => execTreq_keeps (.refl s)
  | .trsp .. => execTrsp_keeps (.refl s)
  | .tlkTuntmo => execTlkTuntmo_keeps (.refl s)
  | .fwdFrame .. => execFwdFrame_keeps (.refl s)
  | .fack .. => execFack_keeps (.refl s)
  | .fackSend .. => execFackSend_keeps (.refl s)
  | .fwtmo => execFwtmo_keeps (.refl s)
  | .clpdFrame .. => execClpdFrame_keeps (.refl s)
  | .mirFrame .. => execMirFrame_keeps (.refl s)
  | .tbLoss => execTbLoss_keeps (.refl s)
  | .takeover .. => execTakeover_keeps (.refl s)
  | .declfail .. => execDeclfail_keeps (.refl s)
  | .align .. => execAlign_keeps (.refl s)
  | .eccWriteback .. => execEccWriteback_keeps (.refl s)
  | .scrub .. => execScrub_keeps (.refl s)
  | .inject .. => execInject_keeps (.refl s)
  | .dramRequest .. => execDramRequest_keeps (.refl s)
  | .dramCommand .. => execDramCommand_keeps (.refl s)
  | .refresh .. => execRefresh_keeps (.refl s)
  | .rowClose .. => execRowClose_keeps (.refl s)
  | .dmcScrub .. => execDmcScrub_keeps (.refl s)
  | .calGo .. => execCalGo_keeps (.refl s)
  | .calDrift .. => execCalDrift_keeps (.refl s)
  | .calEnd .. => execCalEnd_keeps (.refl s)
  | .recalStart => execRecalStart_keeps (.refl s)
  | .gapwaitExpiry => execGapwaitExpiry_keeps (.refl s)
  | .dramRetrain => execDramRetrain_keeps (.refl s)
  | .monitorRead .. => execMonitorRead_keeps (.refl s)
  | .planInterval => execPlanInterval_keeps (.refl s)
  | .plan .. => execPlan_keeps (.refl s)
  | .planStep => execPlanStep_keeps (.refl s)
  | .pmbusTransaction .. => execPmbusTransaction_keeps (.refl s)
  | .busStuck => execBusStuck_keeps (.refl s)
  | .objectVerify .. => execObjectVerify_keeps (.refl s)
  | .dqsTimeout .. => execDqsTimeout_keeps (.refl s)
  | .bldctlStart .. => execBldctlStart_keeps (.refl s)
  | .blddata .. => execBlddata_keeps (.refl s)
  | .bldlen .. => execBldlen_keeps (.refl s)
  | .attready => execAttready_keeps (.refl s)
  | .attest => execAttest_keeps (.refl s)
  | .loadkey => execLoadkey_keeps (.refl s)
  | .clearkey => execClearkey_keeps (.refl s)
  | .getpub => execGetpub_keeps (.refl s)
  | .commit => execCommit_keeps (.refl s)
  | .provision => execProvision_keeps (.refl s)
  | .enroll => execEnroll_keeps (.refl s)
  | .revoke => execRevoke_keeps (.refl s)
  | .toprod => execToprod_keeps (.refl s)
  | .torma => execTorma_keeps (.refl s)
  | .rootrev => execRootrev_keeps (.refl s)
  | .relock .. => execRelock_keeps (.refl s)
  | .tkctlStart .. => execTkctlStart_keeps (.refl s)
  | .tkdata .. => execTkdata_keeps (.refl s)
  | .tklen .. => execTklen_keeps (.refl s)
  | .token => execToken_keeps (.refl s)
  | .idcode => execIdcode_keeps (.refl s)
  | .bypass => execBypass_keeps (.refl s)
  | .extest .. => execExtest_keeps (.refl s)
  | .samplePreload .. => execSamplePreload_keeps (.refl s)
  | .highz => execHighz_keeps (.refl s)
  | .clamp => execClamp_keeps (.refl s)
  | .dmi .. => execDmi_keeps (.refl s)
  | .wakeInstruction .. => execWakeInstruction_keeps (.refl s)
  | .haltreq .. => execHaltreq_keeps (.refl s)
  | .resumereq .. => execResumereq_keeps (.refl s)
  | .regselGo .. => execRegselGo_keeps (.refl s)
  | .breakpoint .. => execBreakpoint_keeps (.refl s)
  | .watchpoint .. => execWatchpoint_keeps (.refl s)
  | .halt => execHalt_keeps (.refl s)
  | .resume => execResume_keeps (.refl s)
  | .frzcmdFreeze .. => execFrzcmdFreeze_keeps (.refl s)
  | .frzcmdRelease .. => execFrzcmdRelease_keeps (.refl s)
  | .sbaddrWrite .. => execSbaddrWrite_keeps (.refl s)
  | .sbdataWrite .. => execSbdataWrite_keeps (.refl s)
  | .sbdataRead .. => execSbdataRead_keeps (.refl s)
  | .reqIdle .. => execReqIdle_keeps (.refl s)
  | .reqHold .. => execReqHold_keeps (.refl s)
  | .reqSleep .. => execReqSleep_keeps (.refl s)
  | .reqOff .. => execReqOff_keeps (.refl s)
  | .reqRun .. => execReqRun_keeps (.refl s)
  | .powerEntryDone => execPowerEntryDone_keeps (.refl s)
  | .wake => execWake_keeps (.refl s)
  | .hostWake => execHostWake_keeps (.refl s)
  | .aonTimer .. => execAonTimer_keeps (.refl s)
  | .wakeComplete .. => execWakeComplete_keeps (.refl s)
  | .por .. => execPor_keeps (.refl s)
  | .pinReset => execPinReset_keeps (.refl s)
  | .swReset .. => execSwReset_keeps (.refl s)
  | .coreReset .. => execCoreReset_keeps (.refl s)
  | .clkLoss .. => execClkLoss_keeps (.refl s)
  | .perst => execPerst_keeps (.refl s)
  | .watchdogExpiry => execWatchdogExpiry_keeps (.refl s)
  | .wdkick .. => execWdkick_keeps (.refl s)
  | .outctlRel .. => execOutctlRel_keeps (.refl s)
  | .winopen => execWinopen_keeps (.refl s)
  | .dramTraining .. => execDramTraining_keeps (.refl s)
  | .pcieLinkUp .. => execPcieLinkUp_keeps (.refl s)
  | .pcieLinkDown => execPcieLinkDown_keeps (.refl s)
  | .pcieConfigRequest .. => execPcieConfigRequest_keeps (.refl s)
  | .asyncChannelEdge .. => execAsyncChannelEdge_keeps (.refl s)
  | .tolturFrameError .. => execTolturFrameError_keeps (.refl s)
  | .tolturLockDone .. => execTolturLockDone_keeps (.refl s)
  | .hlkAlignRate .. => execHlkAlignRate_keeps (.refl s)
  | .derateChange .. => execDerateChange_keeps (.refl s)
  | .trigPulseEnd .. => execTrigPulseEnd_keeps (.refl s)
  | .tapReset => execTapReset_keeps (.refl s)

/-- Settles O1. -/
theorem stepRunsTheFrontCommand : Obligations.StepRunsTheFrontCommand := by
  intro c rest s h
  rw [step, h]

theorem step_idle {s : State} (h : s.pending = []) : step s = .next s.tick := by
  rw [step, h]

theorem State.tick_clocked {s : State} (h : s.clocked = true) : s.tick = { s with cycle := s.cycle + 1 } := if_pos h

theorem State.tick_stopped {s : State} (h : s.clocked = false) : s.tick = s := if_neg (by simp [h])

/-- Settles O2: the step is the tick of the clock. -/
theorem idleStepCountsOneCycle : Obligations.IdleStepCountsOneCycle := by
  intro s h
  rw [step_idle h]
  exact ⟨fun hc => by rw [State.tick_clocked hc], fun hc => by rw [State.tick_stopped hc]⟩

theorem State.tick_keeps (s : State) : Keeps s s.tick :=
  .iteThen (.refl s) fun h => .upd h

/-- A step keeps everything but the command it takes from the front of the queue. -/
theorem step_keeps {s s' : State} (h : step s = .next s') : Keeps { s with pending := s.pending.tail } s' := by
  cases hp : s.pending with
  | nil =>
    cases (step_idle hp).symm.trans h
    exact ⟨s.tick_keeps.variant, s.tick_keeps.pending.trans hp, s.tick_keeps.inv⟩
  | cons c rest =>
    rw [stepRunsTheFrontCommand c rest s hp] at h
    exact exec_keeps _ c _ h

/-- Settles O3: the reset state lists no register word, no header and no byte. -/
theorem resetHoldsInvariant : Obligations.ResetHoldsInvariant :=
  ⟨⟨rfl, rfl, rfl⟩, rfl, rfl⟩

/-- Settles O4: the invariant does not speak of the queue, so taking the front command leaves it as it was. -/
theorem everyStepKeepsInvariant : Obligations.EveryStepKeepsInvariant :=
  fun _ _ hinv hstep => (step_keeps hstep).inv hinv

/-- Settles O5. -/
theorem stepTakesTheFrontCommandAndKeepsThePart : Obligations.StepTakesTheFrontCommandAndKeepsThePart :=
  fun _ _ hstep => ⟨(step_keeps hstep).pending, (step_keeps hstep).variant⟩

end Sys2Proof.Machine
end

section
/-!
PROOFS. The register model (02): accesses of a wrong form (R21), the change classes of a word (R8), error events (R29, R38, R39).
-/

namespace Sys2Proof.Machine

/-! ## Accesses of a wrong form -/

/-- A read of a width or alignment the fabric refuses answers 0 and raises the page's access error. -/
theorem regRead_unsupported {s : State} {p off size req : Nat} (h : off < 0x200000) (hp : pageAt off = some p)
    (hpres : s.present p = true) (hr : s.reaches req = true) (ha : accessOk off size = false) :
    s.regRead off size req = State.busError { s with readData := 0 } p off := by
  simp [State.regRead, State.busRead, windowPage_pageRange h, hp, hpres, hr, nctShut_pageRange h, ha]

/-- The access error of a present page: its ERR bit, one more error event, and the entry with the offset in the page. -/
theorem State.busError_present {s : State} {p : Nat} (hpres : s.present p = true) (off : Nat) :
    s.busError p off =
      s.setPage p (((s.page p).setErr 30).countErr.push ⟨0x002, s.cycle % 2 ^ 32, off % 4096⟩) := by
  have hoff : off % 4096 % 2 ^ 20 = off % 4096 := Nat.mod_eq_of_lt (by omega)
  rw [State.busError, if_pos hpres, State.accessError, State.err, State.entry, hoff]

/-- Settles O15: both accesses end in the access error, the read on the state that already answers 0. -/
theorem unsupportedAccessesAreLogged : Obligations.UnsupportedAccessesAreLogged := by
  intro s p off size v req hp h ha hpres hr
  constructor
  · rw [regWrite_unsupported h hp hr ha, State.busError_present hpres]
  · rw [regRead_unsupported h hp hpres hr ha, State.busError_present (s := { s with readData := 0 }) hpres]
    rfl

/-! ## The change classes of a word -/

@[simp] theorem State.writeS_zero (s : State) (p o v : Nat) : s.writeS p o v 0 = s := if_pos (.inl rfl)

@[simp] theorem State.writeB_zero (s : State) (p o v : Nat) : s.writeB p o v 0 = s := if_pos (.inl rfl)

@[simp] theorem State.writeL_zero (s : State) (p o v : Nat) : s.writeL p o v 0 = s := if_pos rfl

/-- A B write keeps every value in force. -/
@[simp] theorem State.rg_writeB (s : State) (p o v m q r : Nat) : (s.writeB p o v m).rg q r = s.rg q r := by
  unfold State.writeB
  split
  · rfl
  · exact State.rg_of_regs rfl q r

/-- A B write that changes the shadow leaves the page with PEND (R33). -/
theorem State.pend_writeB {s : State} {p o v m : Nat} (hm : m ≠ 0) (hv : v &&& m ≠ s.normal p o &&& m) :
    ((s.writeB p o v m).page p).pend = true := by
  rw [State.writeB, if_neg (not_or.2 ⟨hm, hv⟩), State.page_setPage_self]

/-- An S write that changes the word of a page with CTRL.RUN = 1 is refused with CFGRUN (R31). -/
theorem State.writeS_running {s : State} {p o v m : Nat} (hm : m ≠ 0) (hv : v &&& m ≠ s.normal p o &&& m)
    (hrun : (s.page p).run = true) : s.writeS p o v m = s.err p 31 0x001 o := by
  rw [State.writeS, if_neg (not_or.2 ⟨hm, hv⟩), if_pos hrun]

/-- Settles O12: a word of one class is written by that class's rule alone. -/
theorem changeClassesGovernAWord : Obligations.ChangeClassesGovernAWord := by
  rintro s p o v ⟨-, hregs, -⟩ -
  refine ⟨fun hs hb hl => ?_, fun hs hl => ?_, fun hs hl hb hv => ?_, fun hb hl hs hv hrun => ?_⟩
  · rw [State.writeWord, hs, hb, State.writeS_zero, State.writeB_zero, State.writeL, if_neg hl,
      State.rg_setRg_self hregs]
  · rw [State.writeWord, hs, hl, State.writeS_zero, State.writeL_zero, State.rg_writeB]
  · rw [State.writeWord, hs, hl, State.writeS_zero, State.writeL_zero]
    exact State.pend_writeB hb hv
  · rw [State.writeWord, hb, hl, State.writeB_zero, State.writeL_zero, State.writeS_running hs hv hrun]

/-! ## Error events -/

@[simp] theorem Page.errcnt_push (g : Page) (e : LogEntry) : (g.push e).errcnt = g.errcnt := by
  unfold Page.push
  split
  · rfl
  · split <;> rfl

@[simp] theorem Page.ist_push (g : Page) (e : LogEntry) : (g.push e).ist = g.ist := by
  unfold Page.push
  split
  · rfl
  · split <;> rfl

/-- The three things a log does with a new entry (R39). -/
theorem Page.push_room {g : Page} (h : g.log.length < 16) (e : LogEntry) : g.push e = { g with log := g.log ++ [e] } :=
  if_pos h

theorem Page.push_keep {g : Page} (h : 16 ≤ g.log.length) (hm : g.logMode = false) (e : LogEntry) :
    g.push e = { g with lost := satAdd 16 g.lost 1 } := by
  simp [Page.push, hm, Nat.not_lt.2 h]

theorem Page.push_shift {g : Page} (h : 16 ≤ g.log.length) (hm : g.logMode = true) (e : LogEntry) :
    g.push e = { g with log := g.log.drop 1 ++ [e], lost := satAdd 16 g.lost 1 } := by
  simp [Page.push, hm, Nat.not_lt.2 h]

/-- Settles O18: the page of the event takes the bit, the count and the entry, each by its own rule. -/
theorem errorEventsAreLogged : Obligations.ErrorEventsAreLogged := by
  intro s p b code ctx _ g g'
  have hg : g' = (g.setErr b).countErr.push ⟨code, s.cycle % 2 ^ 32, ctx % 2 ^ 20⟩ := State.page_err s p b code ctx
  have hist : g'.ist = if bit g.err b then g.ist else g.ist ||| 2 ^ 31 := by rw [hg, Page.ist_push]; rfl
  refine ⟨State.bit_err_self s p b code ctx, ?_, fun h => ?_, fun h => ?_, fun h => ?_, fun h hm => ?_, fun h hm => ?_,
    fun q hq => State.page_err_ne s b code ctx hq⟩
  · rw [hg, Page.errcnt_push]
    rfl
  · rw [hist, if_neg (by simp [h])]
    exact bit_or_two_pow_self _ 31
  · rw [hist, if_pos h]
  · rw [hg, Page.push_room (g := (g.setErr b).countErr) h]
    exact ⟨rfl, rfl⟩
  · rw [hg, Page.push_keep (g := (g.setErr b).countErr) h hm]
    exact ⟨rfl, rfl⟩
  · rw [hg, Page.push_shift (g := (g.setErr b).countErr) h hm]
    exact ⟨rfl, rfl⟩

end Sys2Proof.Machine
end

section
/-!
PROOFS. The memories (20): what DRAM requests store (R410, R415), and commands that store nothing.
-/

namespace Sys2Proof.Machine

/-- The memories of `b` are those of `a`: DRAM, its bad words, the host memories and the SRAM. -/
structure SameMemory (a b : State) : Prop where
  dram : b.dram = a.dram
  lost : b.dramLost = a.dramLost
  bad : b.dramBad = a.dramBad
  host0 : b.host0 = a.host0
  host1 : b.host1 = a.host1
  sram : b.sram = a.sram

theorem SameMemory.refl (a : State) : SameMemory a a := ⟨rfl, rfl, rfl, rfl, rfl, rfl⟩

theorem SameMemory.trans {a b c : State} (h : SameMemory a b) (k : SameMemory b c) : SameMemory a c where
  dram := k.dram.trans h.dram
  lost := k.lost.trans h.lost
  bad := k.bad.trans h.bad
  host0 := k.host0.trans h.host0
  host1 := k.host1.trans h.host1
  sram := k.sram.trans h.sram

theorem SameMemory.ite {c : Prop} [Decidable c] {s a b : State} (h : SameMemory s a) (k : SameMemory s b) :
    SameMemory s (if c then a else b) := by
  split <;> assumption

theorem SameMemory.foldl {α : Type} {f : State → α → State} (hf : ∀ t x, SameMemory t (f t x)) (l : List α) :
    ∀ s : State, SameMemory s (l.foldl f s) := by
  induction l with
  | nil => exact SameMemory.refl
  | cons x xs ih => exact fun s => (hf s x).trans (ih _)

/-! ## The shared operations store nothing -/

theorem State.setPage_sameMemory (s : State) (p : Nat) (g : Page) : SameMemory s (s.setPage p g) :=
  ⟨rfl, rfl, rfl, rfl, rfl, rfl⟩

theorem State.setRg_sameMemory (s : State) (p o v : Nat) : SameMemory s (s.setRg p o v) :=
  ⟨rfl, rfl, rfl, rfl, rfl, rfl⟩

theorem State.setRg64_sameMemory (s : State) (p o v : Nat) : SameMemory s (s.setRg64 p o v) :=
  ⟨rfl, rfl, rfl, rfl, rfl, rfl⟩

theorem State.err_sameMemory (s : State) (p b code ctx : Nat) : SameMemory s (s.err p b code ctx) :=
  s.setPage_sameMemory p _

/-- An event chain reaches no memory. -/
theorem EvSame.sameMemory {a b : State} (h : EvSame a b) : SameMemory a b := by
  rw [h.same]
  exact ⟨rfl, rfl, rfl, rfl, rfl, rfl⟩

theorem State.happen_sameMemory (s : State) (p b arg : Nat) : SameMemory s (s.happen p b arg) :=
  (s.setPage_sameMemory p _).trans (happen_evSame s p b arg).sameMemory

/-! ## A DRAM request -/

theorem State.countBytes_sameMemory (s : State) (wr : Bool) (a n : Nat) : SameMemory s (s.countBytes wr a n) :=
  SameMemory.foldl (fun t _ => t.setRg64_sameMemory _ _ _) _ s

theorem State.dramCe_sameMemory (s : State) (w : Who) (a : Nat) : SameMemory s (s.dramCe w a) := by
  unfold State.dramCe
  exact .ite ⟨rfl, rfl, rfl, rfl, rfl, rfl⟩ ⟨rfl, rfl, rfl, rfl, rfl, rfl⟩

theorem State.dramMeets_sameMemory (s : State) (w : Who) (wr : Bool) (a n : Nat) :
    SameMemory s (s.dramMeets w wr a n) := by
  have hsoft : SameMemory s { s with
      dramSoft := s.dramSoft.filter (fun b => !(wr && decide (a ≤ b) && decide (b + 8 ≤ a + n))) } :=
    ⟨rfl, rfl, rfl, rfl, rfl, rfl⟩
  exact hsoft.trans (.foldl (fun t b => t.dramCe_sameMemory w b) _ _)

theorem State.dmcArrive_sameMemory (s : State) (w : Who) (wr : Bool) (a n : Nat) :
    SameMemory s (s.dmcArrive w wr a n) :=
  SameMemory.foldl (f := fun t _ => t.setDmc _ _) (fun _ _ => ⟨rfl, rfl, rfl, rfl, rfl, rfl⟩) _ s

theorem State.dramPass_sameMemory (s : State) (w : Who) (wr : Bool) (a n : Nat) :
    SameMemory s (s.dramPass w wr a n) :=
  (s.countBytes_sameMemory wr a n).trans
    ((State.dramMeets_sameMemory _ w wr a n).trans (State.dmcArrive_sameMemory _ w wr a n))

theorem State.dramError_sameMemory (s : State) (w : Who) (wr : Bool) (code a : Nat) :
    SameMemory s (s.dramError w wr code a) := by
  unfold State.dramError
  refine .ite (.trans ?_ (State.happen_sameMemory _ _ 0 0))
    (.ite (.trans ?_ (State.happen_sameMemory _ _ 2 0)) ?_) <;> exact ⟨rfl, rfl, rfl, rfl, rfl, rfl⟩

/-- A read stores nothing, whether it is answered or refused. -/
theorem State.dramRead_sameMemory (s : State) (w : Who) (a n : Nat) : SameMemory s (s.dramRead w a n).1 := by
  unfold State.dramRead
  split
  · exact s.dramError_sameMemory w false _ _
  · exact s.dramPass_sameMemory w false a n

/-- What a write that is not refused leaves in DRAM. -/
theorem State.dramWrite_stored {s u : State} {w : Who} {a : Nat} {bs : List Byte} (h : s.dramWrite w a bs = (u, true)) :
    u.dram = Memory.setBytes (dramEmpty s.dramLost) s.dram a bs ∧ u.dramLost = s.dramLost := by
  unfold State.dramWrite at h
  split at h
  · cases h
  · cases h
    exact ⟨rfl, (s.dramPass_sameMemory w true a bs.length).lost⟩

/-- Settles O47: a write that passes sets its bytes in the canonical memory, and a request beside it stores nothing. -/
theorem dramWritesStoreExactlyTheirBytes : Obligations.DramWritesStoreExactlyTheirBytes := by
  refine ⟨?_, ?_⟩
  · rintro s u w a bs ⟨⟨hmem, -⟩, -⟩ h
    obtain ⟨hdram, hlost⟩ := State.dramWrite_stored h
    have htbl : Tbl.wf s.dram = true := (Bool.and_eq_true _ _ ▸ hmem).1
    rw [hdram, hlost]
    exact ⟨fun i hi => Memory.byte_setBytes_in bs htbl hi, fun b hb => Memory.byte_setBytes_out bs htbl hb⟩
  · intro s u w a n d h
    have hsame := s.dramRead_sameMemory w a n
    rw [h] at hsame
    exact ⟨hsame.dram, hsame.lost⟩

/-! ## Gates and the effects that stay in a header, on marks, on the time or on the debug level -/

/-- A write through a gate stores what its effect stores: a refusal stores nothing. -/
theorem State.gate_sameMemory (s : State) (p req off : Nat) {f : State → State} (hf : SameMemory s (f s)) :
    SameMemory s (s.gate p req off f) :=
  .ite hf (.ite (.refl s) (.ite (s.err_sameMemory _ _ _ _) (s.err_sameMemory _ _ _ _)))

theorem State.gateH_sameMemory {s : State} {req : Nat} (hm : s.unmirrored req) (p off data : Nat) {f : State → State}
    (hf : SameMemory s (f s)) : SameMemory s (s.gateH p req off data f) := by
  rw [State.gateH, mirror_unmirrored hm]
  exact s.gate_sameMemory p req off hf

theorem State.gateW_sameMemory {s : State} {req : Nat} (hm : s.unmirrored req) (p off data : Nat) {f : State → State}
    (hf : SameMemory s (f s)) : SameMemory s (s.gateW p req off data f) := by
  rw [State.gateW, mirror_unmirrored hm]
  exact s.gate_sameMemory p req off hf

theorem State.readGate_sameMemory (s : State) (p req : Nat) {f : State → State} (hf : SameMemory s (f s)) :
    SameMemory s (s.readGate p req f) :=
  .ite ⟨rfl, rfl, rfl, rfl, rfl, rfl⟩ (.ite ⟨rfl, rfl, rfl, rfl, rfl, rfl⟩ hf)

theorem State.ownerWrite_sameMemory (s : State) (p v : Nat) : SameMemory s (s.ownerWrite p v) :=
  .ite (.refl s) (s.setPage_sameMemory p _)

theorem State.wdKick_sameMemory (s : State) (v : Nat) : SameMemory s (s.wdKick v) :=
  .ite ⟨rfl, rfl, rfl, rfl, rfl, rfl⟩ (s.setPage_sameMemory _ _)

theorem State.outctl_sameMemory (s : State) (v : Nat) : SameMemory s (s.outctl v) :=
  .ite ⟨rfl, rfl, rfl, rfl, rfl, rfl⟩ ⟨rfl, rfl, rfl, rfl, rfl, rfl⟩

theorem State.tkWord_sameMemory (s : State) (v : Nat) : SameMemory s (s.tkWord v) :=
  .ite (s.err_sameMemory _ _ _ _) (.ite (.refl s) (.ite ⟨rfl, rfl, rfl, rfl, rfl, rfl⟩ ⟨rfl, rfl, rfl, rfl, rfl, rfl⟩))

/-- The outcome of a command leaves the memories as they are. -/
def SameMemoryX (s : State) (o : Host.Outcome State Fault Refusal) : Prop := ∀ u, o = .next u → SameMemory s u

theorem SameMemory.next {s t : State} (h : SameMemory s t) : SameMemoryX s (.next t) := by
  rintro u ⟨⟩
  exact h

theorem execViolationWindowEnd_sameMemory {p : Nat} (hp : p ≠ pgTLK) (s : State) :
    SameMemoryX s (execViolationWindowEnd p s) := by
  simp only [execViolationWindowEnd, if_neg hp]
  split
  · exact (s.setPage_sameMemory p _).next
  · exact (SameMemory.refl s).next

theorem execTimeParametersApply_sameMemory (s : State) : SameMemoryX s (execTimeParametersApply s) := by
  unfold execTimeParametersApply
  split
  · exact SameMemory.next ⟨rfl, rfl, rfl, rfl, rfl, rfl⟩
  · exact (SameMemory.refl s).next

theorem execIdcode_sameMemory (s : State) : SameMemoryX s (execIdcode s) :=
  SameMemory.next (.ite ⟨rfl, rfl, rfl, rfl, rfl, rfl⟩ (.refl s))

theorem execBypass_sameMemory (s : State) : SameMemoryX s (execBypass s) :=
  SameMemory.next (.ite ⟨rfl, rfl, rfl, rfl, rfl, rfl⟩ (.refl s))

/-- Settles O60: every command of the list has an effect that stores nothing, behind a gate that stores nothing. -/
theorem headerCommandsStoreNothing : Obligations.HeaderCommandsStoreNothing := by
  intro s u c hc hm h
  have hsame : SameMemoryX s (exec c s) := by
    rcases hc with ⟨p, req, rfl | rfl | rfl⟩ | ⟨v, req, rfl | rfl | rfl | rfl | rfl⟩ | ⟨p, rfl, hp⟩ | rfl | rfl | rfl
    · exact (s.readGate_sameMemory p req ⟨rfl, rfl, rfl, rfl, rfl, rfl⟩).next
    · exact (State.gateH_sameMemory (hm req) p _ _ (s.setPage_sameMemory p _)).next
    · exact (State.gateH_sameMemory (hm req) p _ _ (s.ownerWrite_sameMemory p _)).next
    · exact (State.gateH_sameMemory (hm req) pgPSC _ _ ⟨rfl, rfl, rfl, rfl, rfl, rfl⟩).next
    · exact (State.gateH_sameMemory (hm req) pgRSTC _ _ (s.wdKick_sameMemory v)).next
    · exact (State.gateH_sameMemory (hm req) pgRSTC _ _ (s.outctl_sameMemory v)).next
    · exact (State.gateW_sameMemory (hm req) pgDBGC _ _ (s.tkWord_sameMemory v)).next
    · exact (State.gateH_sameMemory (hm req) pgPTP _ _ ⟨rfl, rfl, rfl, rfl, rfl, rfl⟩).next
    · exact execViolationWindowEnd_sameMemory hp s
    · exact execIdcode_sameMemory s
    · exact execBypass_sameMemory s
    · exact execTimeParametersApply_sameMemory s
  obtain ⟨hdram, -, hbad, hhost0, hhost1, hsram⟩ := hsame u h
  exact ⟨hdram, hbad, hhost0, hhost1, hsram⟩

end Sys2Proof.Machine
end

section
/-!
PROOFS. Host queues (15): what the indices of a queue say (R303).
-/

namespace Sys2Proof.Machine

/-- A queue holds the difference of its indices modulo 2^32. -/
theorem Queue.count_eq_sub {x : Queue} (hc : x.cidx < 2 ^ 32) : (x.count : Int) = ((x.pidx : Int) - x.cidx) % 2 ^ 32 := by
  simp only [Queue.count]
  omega

/-- Settles O34: count, room and slot address are the model's own formulas, the count read as an integer. -/
theorem queueHoldsIndexDifference : Obligations.QueueHoldsIndexDifference :=
  fun _ _ hc => ⟨Queue.count_eq_sub hc, fun ha => if_pos ha, fun _ => rfl⟩

end Sys2Proof.Machine
end

section
/-!
PROOFS. The debug port (23): TAP instructions by level (R463, R468), and RELOCK (R464).
-/

namespace Sys2Proof.Machine

/-! ## TAP instructions -/

theorem State.tapOn_of_ne {s : State} (h : s.pwr.state ≠ 4) : s.tapOn = true := bne_iff_ne.2 h

/-- The level or the clocks a boundary instruction needs are missing. -/
theorem State.tapScan_eq_false {s : State} (h : s.level = 0 ∨ s.clocked = false) : s.tapScan = false := by
  rcases h with h | h <;> simp [State.tapScan, h]

/-- A boundary instruction that is not granted acts as BYPASS. -/
theorem State.tapBoundary_refused {s : State} (hon : s.tapOn = true) (hscan : s.tapScan = false) (ir : Nat)
    (f : State → State) : s.tapBoundary ir f = s.tapBypass := by
  simp [State.tapBoundary, hon, hscan]

theorem execBypass_on {s : State} (hon : s.tapOn = true) : exec .bypass s = .next s.tapBypass :=
  congrArg Host.Outcome.next (if_pos hon)

theorem execIdcode_on {s : State} (hon : s.tapOn = true) :
    exec .idcode s = .next { s.tapIr 1 with readData := idcode s.variant } :=
  congrArg Host.Outcome.next (if_pos hon)

/-- The fields of IDCODE that every part has: version, manufacturer and bit 0. -/
theorem idcode_fields (v : Variant) :
    bits (idcode v) 31 28 = 1 ∧ bits (idcode v) 11 1 = 0x2B7 ∧ bit (idcode v) 0 = true := by
  cases v <;> decide

/-- Settles O52: without the grant every boundary instruction is BYPASS; IDCODE asks for no grant. -/
theorem tapGrantsByLevel : Obligations.TapGrantsByLevel := by
  refine ⟨fun s pins shift hst hno => ?_, fun s hst => ?_⟩
  · have hon := State.tapOn_of_ne hst
    have hb := fun ir f => congrArg (@Host.Outcome.next State Fault Refusal)
      (State.tapBoundary_refused hon (State.tapScan_eq_false hno) ir f)
    rw [execBypass_on hon]
    exact ⟨hb _ _, hb _ _, hb _ _, hb _ _⟩
  · obtain ⟨hver, hman, hone⟩ := idcode_fields s.variant
    refine ⟨_, execIdcode_on (State.tapOn_of_ne hst), hver, hman, hone, fun h => ?_, fun h => ?_, fun h => ?_, fun h => ?_⟩
    all_goals
      simp only [h]
      decide

/-! ## The debug level -/

/-- The registers of `b` stay canonical and its debug level is that of `a`. -/
structure SameLevel (a b : State) : Prop where
  wf : Tbl.wf a.regs = true → Tbl.wf b.regs = true
  level : Tbl.wf a.regs = true → b.level = a.level

theorem SameLevel.refl (a : State) : SameLevel a a := ⟨id, fun _ => rfl⟩

theorem SameLevel.trans {a b c : State} (h : SameLevel a b) (k : SameLevel b c) : SameLevel a c where
  wf w := k.wf (h.wf w)
  level w := (k.level (h.wf w)).trans (h.level w)

theorem SameLevel.of_regs {a b : State} (h : b.regs = a.regs) : SameLevel a b where
  wf w := h ▸ w
  level _ := by simp only [State.level, State.fl, State.rg_of_regs h]

/-- A change of anything but the registers goes before. -/
theorem SameLevel.after {a b c : State} (k : SameLevel b c) (h : b.regs = a.regs) : SameLevel a c :=
  (SameLevel.of_regs h).trans k

theorem SameLevel.ite {c : Prop} [Decidable c] {s a b : State} (h : SameLevel s a) (k : SameLevel s b) :
    SameLevel s (if c then a else b) := by
  split <;> assumption

theorem SameLevel.foldl {α : Type} {f : State → α → State} (hf : ∀ t x, SameLevel t (f t x)) (l : List α) :
    ∀ s : State, SameLevel s (l.foldl f s) := by
  induction l with
  | nil => exact SameLevel.refl
  | cons x xs ih => exact fun s => (hf s x).trans (ih _)

theorem SameLevel.setRg (s : State) {p o : Nat} (h : regKey pgDBGC Reg.DBGC.LEVEL ≠ regKey p o) (v : Nat) :
    SameLevel s (s.setRg p o v) where
  wf w := State.setRg_wf w p o v
  level w := by simp only [State.level, State.fl, State.rg_setRg_ne w v h]

theorem EvSame.sameLevel {a b : State} (h : EvSame a b) : SameLevel a b where
  wf := h.wf
  level w := by simp only [State.level, State.fl, h.rg w pgDBGC Reg.DBGC.LEVEL (by unfold evPage; decide) (by decide)]

theorem State.happen_sameLevel (s : State) (p b arg : Nat) : SameLevel s (s.happen p b arg) :=
  (happen_evSame s p b arg).sameLevel.after rfl

theorem State.wdPause_sameLevel (s : State) : SameLevel s s.wdPause := by
  unfold State.wdPause
  dsimp only
  split <;> exact SameLevel.of_regs rfl

theorem State.sdRestart_sameLevel (s : State) (n : Nat) : SameLevel s (s.sdRestart n) :=
  have hk : regKey pgDBGC Reg.DBGC.LEVEL ≠ regKey (pgSDF n) Reg.SDF.ENV := by
    simp only [regKey, pgSDF, Reg.DBGC.LEVEL, Reg.SDF.ENV]; omega
  (SameLevel.setRg _ hk 0).after rfl

theorem State.pscOnRun_sameLevel (s : State) : SameLevel s s.pscOnRun :=
  .foldl (fun t d => SameLevel.of_regs (b := t.rearmDomain d) rfl) _ s

theorem State.showFrozen_sameLevel (s : State) (p : Nat) : SameLevel s (s.showFrozen p) := by
  unfold State.showFrozen
  refine SameLevel.ite ?_ (.of_regs rfl)
  split
  · exact (State.pscOnRun_sameLevel _).after rfl
  · exact (State.sdRestart_sameLevel _ _).after rfl
  · exact .of_regs rfl

/-- LEVEL is a word of its own among those of the cores. -/
theorem level_key_ne_coreCSTAT (c : Nat) : regKey pgDBGC Reg.DBGC.LEVEL ≠ regKey pgDBGC (Reg.DBGC.coreCSTAT c) := by
  simp only [regKey, Reg.DBGC.LEVEL, Reg.DBGC.coreCSTAT]; omega

theorem level_key_ne_coreBP (c i : Nat) : regKey pgDBGC Reg.DBGC.LEVEL ≠ regKey pgDBGC (Reg.DBGC.coreBP c i) := by
  simp only [regKey, Reg.DBGC.LEVEL, Reg.DBGC.coreBP]; omega

theorem level_key_ne_coreWP (c w : Nat) : regKey pgDBGC Reg.DBGC.LEVEL ≠ regKey pgDBGC (Reg.DBGC.coreWP c w + 8) := by
  simp only [regKey, Reg.DBGC.LEVEL, Reg.DBGC.coreWP]; omega

/-- Halts, breakpoints and freezes are lost beside the level, which stays. -/
theorem State.levelDrop_sameLevel (s : State) (core : Nat → Bool) (page : Page → Bool) :
    SameLevel s (s.levelDrop core page) := by
  have hthaw (t : State) (p : Nat) : SameLevel t (State.showFrozen (t.setPage p { t.page p with freeze := false }) p) :=
    (State.showFrozen_sameLevel _ p).after rfl
  refine (SameLevel.foldl (fun t c => ?_) _ s).trans ((SameLevel.foldl hthaw _ _).after rfl)
  exact (((SameLevel.setRg t (level_key_ne_coreCSTAT c) 0).trans (State.wdPause_sameLevel _)).trans
    (.foldl (fun u i => .setRg u (level_key_ne_coreBP c i) _) _ _)).trans
    (.foldl (fun u w => .setRg u (level_key_ne_coreWP c w) _) _ _)

/-- The field that LEVEL takes is the level, when it is one of R463. -/
theorem State.level_setFl {s : State} (h : Tbl.wf s.regs = true) {v : Nat} (hv : v ≤ 3) :
    (s.setFl pgDBGC Reg.DBGC.LEVEL 2 0 v).level = v := by
  have hlt := s.rg_lt pgDBGC Reg.DBGC.LEVEL
  rw [State.level, State.fl, State.setFl, State.rg_setRg_self h]
  simp only [setBits, bits, Nat.shiftRight_zero, Nat.reduceAdd, Nat.reduceSub, Nat.reducePow, Nat.pow_zero, Nat.mul_one]
  omega

/-- After `setLevel` the level is the one set. -/
theorem State.level_setLevel {s : State} (h : Tbl.wf s.regs = true) {v : Nat} (hv : v ≤ 3) : (s.setLevel v).level = v := by
  unfold State.setLevel
  by_cases hv' : v = s.level
  · rw [if_pos hv', hv']
  · rw [if_neg hv']
    have hset := State.level_setFl h hv
    have hwf := State.setRg_wf h pgDBGC Reg.DBGC.LEVEL (setBits (s.rg pgDBGC Reg.DBGC.LEVEL) 2 0 v)
    have hhap : SameLevel (s.setFl pgDBGC Reg.DBGC.LEVEL 2 0 v)
        (((s.setFl pgDBGC Reg.DBGC.LEVEL 2 0 v).logOnly pgDBGC 0x331 (s.level * 16 + v)).happen pgDBGC 2 0) :=
      (State.happen_sameLevel _ _ _ _).after rfl
    refine Eq.trans (SameLevel.level ?_ hwf) hset
    exact .ite (hhap.trans (State.levelDrop_sameLevel _ _ _))
      (.ite (hhap.trans (State.levelDrop_sameLevel _ _ _)) hhap)

/-- A write refused by its gate sets no level. -/
theorem State.level_gate_refused {s : State} {p req : Nat} (h : s.admits p req = false) (off : Nat) (f : State → State) :
    (s.gate p req off f).level = s.level := by
  unfold State.gate
  rw [h]
  split
  · contradiction
  · split
    · rfl
    · split <;> rfl

/-- Settles O53: an admitted RELOCK sets the lower of the two levels, a refused one leaves an error. -/
theorem relockNeverRaisesTheLevel : Obligations.RelockNeverRaisesTheLevel := by
  rintro s u v req ⟨-, hregs, -⟩ hm hle hx
  obtain rfl : s.gateH pgDBGC req Reg.DBGC.RELOCK v (fun t => t.setLevel (min (bits v 2 0) t.level)) = u :=
    Host.Outcome.next.inj hx
  cases ha : s.admits pgDBGC req with
  | false =>
    rw [State.gateH, mirror_unmirrored hm, State.level_gate_refused ha]
    exact ⟨Nat.le_refl _, nofun⟩
  | true =>
    have hv : bits v 2 0 = v % 8 := rfl
    rw [gateH_meets (meets_unmirrored hm ha _ _ _), State.level_setLevel hregs (by omega), hv]
    exact ⟨Nat.min_le_right _ _, fun _ => rfl⟩

end Sys2Proof.Machine
end

section
/-!
PROOFS. Power states (23): a refused request (R475) whose own event wakes the part.
-/

namespace Sys2Proof.Machine

/-- A part in IDLE that may wake by a task (WAKEEN bit 0), with asynchronous channel 248 linked from PWRC's event REFUSE
(bit 1) to PWRC's task WAKE. -/
def State.refuseWakes : State :=
  { State.reset.setRg pgPWRC Reg.PWRC.WAKEEN 0xF with
    pwr := { State.reset.pwr with state := 1 }
    chans := [(248, { Chan.reset 248 with en := true, prod := pgPWRC + 256, tasks := [pgPWRC] })] }

theorem State.refuseWakes_inv : State.refuseWakes.Inv := ⟨⟨rfl, rfl, rfl⟩, rfl, rfl⟩

/-- SLEEP is refused: RESUMEVEC is 0. -/
theorem State.refuseWakes_reqBad : State.refuseWakes.reqBad 3 = some 4 := by decide +kernel

/-- The refusal's event enters the channel, and its task begins a wake. -/
theorem State.refuseWakes_wakes : (State.refuseWakes.powerReq 3).pwr.wake = some 0 := by decide +kernel

/-- Refutes O56: a refusal raises the event REFUSE, which may be linked to the task WAKE; the part then leaves IDLE. -/
theorem not_powerRefusalsLeaveTheState : ¬ Obligations.PowerRefusalsLeaveTheState := by
  rintro ⟨hrefused, -⟩
  obtain ⟨hpwr, -⟩ := hrefused State.refuseWakes 3 4 (by decide) (by decide) rfl rfl (by decide) (by decide)
    State.refuseWakes_reqBad State.refuseWakes_inv
  have hwake : (State.refuseWakes.powerReq 3).pwr.wake = State.refuseWakes.pwr.wake := congrArg Pwr.wake hpwr
  exact Option.some_ne_none 0 (State.refuseWakes_wakes.symm.trans hwake)

end Sys2Proof.Machine
end

section
/-!
PROOFS. Resets (24): the key of a reset command (R480), and what resets keep (R481).
-/

namespace Sys2Proof.Machine

/-! ## The key -/

/-- A write of RSTC.CMD without its key is the error KEY. -/
theorem State.rstcCmd_badKey {v : Nat} (h : bits v 31 16 ≠ 0x5253) (s : State) :
    s.rstcCmd v = s.setPage pgRSTC (((s.page pgRSTC).setErr 0).countErr.push ⟨0x350, s.cycle % 2 ^ 32, 0⟩) :=
  if_pos h

/-- Settles O58: both commands are one write of RSTC.CMD, which the key refuses. -/
theorem resetCommandNeedsItsKey : Obligations.ResetCommandNeedsItsKey := by
  intro s v req ha hm hkey
  refine ⟨?_, rfl⟩
  rw [← State.rstcCmd_badKey hkey]
  exact congrArg Host.Outcome.next (gateH_meets (meets_unmirrored hm ha _ _ _))

/-! ## What resets keep -/

/-- The state whose content a warm reset keeps: the part's own, from SLEEP as a wake leaves it (R478, R482). -/
def State.warmSource (s : State) : State := if s.inLow 3 then s.slept else s

/-- An orderly warm reset keeps the memories, N and Keep's lasting data of that state. -/
theorem State.warm_orderly (s : State) :
    (s.warm true false).dram = s.warmSource.dram ∧ (s.warm true false).dramLost = s.warmSource.dramLost ∧
    (s.warm true false).cycle = s.warmSource.cycle ∧ (s.warm true false).host0 = s.warmSource.host0 ∧
    (s.warm true false).host1 = s.warmSource.host1 ∧ (s.warm true false).keep = s.warmSource.keep.restart ∧
    (s.warm true false).sram = s.warmSource.sram := by
  obtain ⟨l, hl⟩ := ((State.pinsAllRest_out _).trans (State.rstout_out _ 0) : OutOnly _ (s.warm true false))
  rw [hl]
  exact ⟨rfl, rfl, rfl, rfl, rfl, rfl, rfl⟩

theorem State.warmSource_awake {s : State} (h : s.inLow 3 = false) : s.warmSource = s := by
  simp [State.warmSource, h]

theorem State.warmSource_asleep {s : State} (h : s.inLow 3 = true) : OutOnly s.sleptBare s.warmSource := by
  rw [State.warmSource, if_pos h]
  exact s.slept_out

/-- Asleep or not, the source of a warm reset has the memories, N and Keep of the state. -/
theorem State.warmSource_kept (s : State) :
    s.warmSource.dram = s.dram ∧ s.warmSource.dramLost = s.dramLost ∧ s.warmSource.cycle = s.cycle ∧
    s.warmSource.host0 = s.host0 ∧ s.warmSource.host1 = s.host1 ∧ s.warmSource.keep = s.keep := by
  cases h : s.inLow 3 with
  | false =>
    rw [State.warmSource_awake h]
    exact ⟨rfl, rfl, rfl, rfl, rfl, rfl⟩
  | true =>
    obtain ⟨l, hl⟩ := State.warmSource_asleep h
    rw [hl]
    exact ⟨rfl, rfl, rfl, rfl, rfl, rfl⟩

/-- Settles O59: a warm reset keeps what its source has; a power-on reset keeps Keep's lasting data alone. -/
theorem resetsKeepWhatTheyKeep : Obligations.ResetsKeepWhatTheyKeep := by
  refine ⟨fun s => ?_, fun s h => ?_, fun s h => ?_, fun s b => ?_⟩
  · obtain ⟨hdram, hlost, hcycle, hhost0, hhost1, hkeep, -⟩ := s.warm_orderly
    obtain ⟨kdram, klost, kcycle, khost0, khost1, kkeep⟩ := s.warmSource_kept
    exact ⟨hdram.trans kdram, hlost.trans klost, hcycle.trans kcycle, hhost0.trans khost0, hhost1.trans khost1,
      hkeep.trans (congrArg Keep.restart kkeep)⟩
  · obtain ⟨-, -, -, -, -, -, hsram⟩ := s.warm_orderly
    rw [hsram, State.warmSource_awake h]
  · obtain ⟨-, -, -, -, -, -, hsram⟩ := s.warm_orderly
    obtain ⟨l, hl⟩ := State.warmSource_asleep h
    rw [hsram, hl]
    rfl
  · obtain ⟨l, hl⟩ := ((State.pinsAllRest_out _).trans (State.rstout_out _ 0) : OutOnly _ (s.powerOn b))
    rw [hl]
    exact ⟨rfl, rfl, rfl, rfl, rfl⟩

end Sys2Proof.Machine
end

section
/-!
PROOFS. The CTRL word and the STATE of a page (02): R27, R30, R32.
-/

namespace Sys2Proof.Machine

/-! ## The word a CTRL command writes -/

/-- CTRL as it reads has its defined bits alone (R27). -/
theorem headRead_ctrl (s : State) (p : Nat) : s.headRead p 8 =
    b2n (s.page p).en + 2 * b2n (s.page p).run + 8 * b2n ((s.page p).freeze && s.freezeHonoured p) := rfl

/-- A CTRL command that sets a bit writes CTRL with the bit. -/
theorem ctrlWord_set (s : State) (p : Nat) {m : Nat} (hm : m ∈ [1, 2, 4, 8]) : s.ctrlWord p m 0 = s.headRead p 8 ||| m := by
  simp only [List.mem_cons, List.not_mem_nil, or_false] at hm
  rw [State.ctrlWord, headRead_ctrl]
  generalize (s.page p).en = e, (s.page p).run = r, ((s.page p).freeze && s.freezeHonoured p) = f
  rcases hm with rfl | rfl | rfl | rfl <;> revert e r f <;> decide

/-- A CTRL command that clears a bit writes CTRL without it. -/
theorem ctrlWord_clear (s : State) (p m : Nat) : s.ctrlWord p 0 m = s.headRead p 8 &&& (0xFFFFFFFF ^^^ m) := by
  rw [State.ctrlWord, Nat.or_zero]

/-- A word of CTRL with its bits EN, RUN, SRST and FREEZE. -/
structure CtrlBits (w : Nat) (en run srst freeze : Bool) : Prop where
  en : bit w 0 = en
  run : bit w 1 = run
  srst : bit w 2 = srst
  freeze : bit w 3 = freeze

/-- The bits of CTRL as it reads, with some set and some cleared. -/
theorem ctrlWord_bits (s : State) (p i j : Nat) :
    CtrlBits (s.ctrlWord p i j)
      (((s.page p).en || bit i 0) && !bit j 0) (((s.page p).run || bit i 1) && !bit j 1) (bit i 2 && !bit j 2)
      ((((s.page p).freeze && s.freezeHonoured p) || bit i 3) && !bit j 3) := by
  have hread : bit (s.headRead p 8) 0 = (s.page p).en ∧ bit (s.headRead p 8) 1 = (s.page p).run ∧
      bit (s.headRead p 8) 2 = false ∧ bit (s.headRead p 8) 3 = ((s.page p).freeze && s.freezeHonoured p) := by
    rw [headRead_ctrl]
    generalize (s.page p).en = e, (s.page p).run = r, ((s.page p).freeze && s.freezeHonoured p) = f
    revert e r f
    decide
  obtain ⟨h0, h1, h2, h3⟩ := hread
  have hones : ∀ k < 4, Nat.testBit 0xFFFFFFFF k = true := by decide
  constructor <;>
    simp only [State.ctrlWord, bit_eq_testBit, Nat.testBit_and, Nat.testBit_or, Nat.testBit_xor] at * <;>
    simp [h0, h1, h2, h3, hones]

/-- A write of CTRL without SRST sets FREEZE, then EN and RUN. -/
theorem ctrlWrite_of_bits {w : Nat} {en run f : Bool} (h : CtrlBits w en run false f) (s : State) (p : Nat) :
    s.ctrlWrite p w = (s.setFreeze p f).setRunEn p en run := by
  obtain ⟨hen, hrun, hsrst, hf⟩ := h
  simp [State.ctrlWrite, hen, hrun, hsrst, hf]

/-- A write of CTRL with SRST resets the page, FREEZE set first. -/
theorem ctrlWrite_srst {w : Nat} {en run f : Bool} (h : CtrlBits w en run true f) (s : State) (p : Nat) :
    s.ctrlWrite p w = (s.setFreeze p f).softReset p := by
  simp [State.ctrlWrite, h.srst, h.freeze]

/-- Settles O8: each command is an admitted write of CTRL as it reads, with one bit changed. -/
theorem pageControlWritesComplete : Obligations.PageControlWritesComplete := by
  have hset {s t : State} {p req m : Nat} (hm : m ∈ [1, 2, 4, 8]) (h : s.meets32 p req 8 (s.ctrlWord p m 0) t) :
      s.ctrlGate p req (s.ctrlWord p m 0) = t.ctrlWrite p (s.headRead p 8 ||| m) := by
    rw [ctrlGate_meets h, ctrlWord_set s p hm]
  have hclear {s t : State} {p req m : Nat} (h : s.meets32 p req 8 (s.ctrlWord p 0 m) t) :
      s.ctrlGate p req (s.ctrlWord p 0 m) = t.ctrlWrite p (s.headRead p 8 &&& (0xFFFFFFFF ^^^ m)) := by
    rw [ctrlGate_meets h, ctrlWord_clear]
  refine ⟨fun s t p req h => ?_, fun s t p req h => ?_, fun s t p req h => ?_, fun s t p req h => ?_,
    fun s t p req h => ?_, fun s t p req h => ?_, fun s t p req h => ?_⟩ <;> refine congrArg Host.Outcome.next ?_
  · exact hset (by decide) h
  · exact hclear h
  · exact hset (by decide) h
  · exact hclear h
  · rw [ctrlGate_meets h]
    exact ctrlWrite_srst (by simpa [bit] using ctrlWord_bits s p 4 0) t p
  · rw [if_pos rfl, ctrlGate_meets h]
    exact ctrlWrite_of_bits (by simpa [bit] using ctrlWord_bits s p 8 0) t p
  · rw [if_neg (by decide), ctrlGate_meets h]
    exact ctrlWrite_of_bits (by simpa [bit] using ctrlWord_bits s p 0 8) t p

end Sys2Proof.Machine
end

section
/-!
PROOFS. The transitions of R30 on the pages whose STATE changes with CTRL alone.
-/

namespace Sys2Proof.Machine

/-! ## What a change of a page leaves of its header and of the others -/

/-- From `a` to `b` page `p` comes to STATE `st`, its EN and RUN as they were; no other page's header changes. -/
structure HeaderMoves (p : Nat) (st : PState) (a b : State) : Prop where
  state : (b.page p).state = st
  en : (b.page p).en = (a.page p).en
  run : (b.page p).run = (a.page p).run
  other : ∀ q, q ≠ p → b.page q = a.page q

/-- STATE stays too. -/
abbrev HeaderStays (p : Nat) (a b : State) : Prop := HeaderMoves p (a.page p).state a b

theorem HeaderMoves.trans {p : Nat} {st st' : PState} {a b c : State} (h : HeaderMoves p st a b)
    (k : HeaderMoves p st' b c) : HeaderMoves p st' a c where
  state := k.state
  en := k.en.trans h.en
  run := k.run.trans h.run
  other q hq := (k.other q hq).trans (h.other q hq)

theorem HeaderMoves.stays {p : Nat} {st : PState} {a b c : State} (h : HeaderMoves p st a b) (k : HeaderStays p b c) :
    HeaderMoves p st a c :=
  h.state ▸ h.trans k

theorem HeaderStays.of_page {p : Nat} {a b : State} (h : ∀ q, b.page q = a.page q) : HeaderStays p a b :=
  ⟨by rw [h], by rw [h], by rw [h], fun q _ => h q⟩

theorem HeaderStays.refl (p : Nat) (a : State) : HeaderStays p a a := .of_page fun _ => rfl

theorem HeaderStays.ite {p : Nat} {c : Prop} [Decidable c] {s a b : State} (h : HeaderStays p s a)
    (k : HeaderStays p s b) : HeaderStays p s (if c then a else b) := by
  split <;> assumption

theorem HeaderStays.foldl {p : Nat} {α : Type} {f : State → α → State} (hf : ∀ t x, HeaderStays p t (f t x))
    (l : List α) : ∀ s : State, HeaderStays p s (l.foldl f s) := by
  induction l with
  | nil => exact HeaderStays.refl p
  | cons x xs ih => exact fun s => (hf s x).stays (ih _)

theorem HeaderStays.out {p : Nat} {a b : State} (h : OutOnly a b) : HeaderStays p a b := .of_page h.page

/-- A new header that keeps STATE, EN and RUN. -/
theorem HeaderStays.setPage {p : Nat} {s : State} {g : Page} (hst : g.state = (s.page p).state)
    (hen : g.en = (s.page p).en) (hrun : g.run = (s.page p).run) : HeaderStays p s (s.setPage p g) :=
  ⟨by rw [State.page_setPage_self, hst], by rw [State.page_setPage_self, hen], by rw [State.page_setPage_self, hrun],
    fun _ hq => State.page_setPage_ne _ _ hq⟩

/-- A new entry in the log leaves STATE, EN and RUN. -/
theorem Page.control_push (g : Page) (e : LogEntry) :
    (g.push e).state = g.state ∧ (g.push e).en = g.en ∧ (g.push e).run = g.run := by
  unfold Page.push
  split
  · exact ⟨rfl, rfl, rfl⟩
  · split <;> exact ⟨rfl, rfl, rfl⟩

theorem State.err_headerStays (s : State) (p b code ctx : Nat) : HeaderStays p s (s.err p b code ctx) :=
  have ⟨hst, hen, hrun⟩ := Page.control_push ((s.page p).setErr b).countErr (s.entry code ctx)
  .setPage hst hen hrun

theorem State.setPstateOf_moves (s : State) (p : Nat) (st : PState) : HeaderMoves p st s (s.setPstateOf p st) :=
  ⟨by rw [State.setPstateOf, State.page_setPage_self], by rw [State.setPstateOf, State.page_setPage_self],
    by rw [State.setPstateOf, State.page_setPage_self], fun _ hq => State.page_setPage_ne _ _ hq⟩

/-! ## The work of the blocks that have none of their own -/

/-- What holds of each of the eight pages holds of every plain page. -/
theorem forall_plainPages {P : Nat → Prop} (h : P pgCALC ∧ P pgEMU ∧ P pgNCT ∧ P pgFIRE ∧ P pgHQF ∧ P pgEVF ∧ P pgPTP ∧
    P pgSRAM) : ∀ p ∈ plainPages, P p := by
  simpa only [plainPages, List.forall_mem_cons, List.not_mem_nil, false_implies, implies_true, and_true] using h

theorem pageOnRun_plain {p : Nat} (h : p ∈ plainPages) (s : State) : s.pageOnRun p = s :=
  forall_plainPages (P := fun p => s.pageOnRun p = s) ⟨rfl, rfl, rfl, rfl, rfl, rfl, rfl, rfl⟩ p h

theorem pageLeft_plain {p : Nat} (h : p ∈ plainPages) (s : State) : s.pageLeft p = s :=
  forall_plainPages (P := fun p => s.pageLeft p = s) ⟨rfl, rfl, rfl, rfl, rfl, rfl, rfl, rfl⟩ p h

theorem calReturn_plain {p : Nat} (h : p ∈ plainPages) (s : State) : s.calReturn p = s :=
  forall_plainPages (P := fun p => s.calReturn p = s) ⟨rfl, rfl, rfl, rfl, rfl, rfl, rfl, rfl⟩ p h

theorem pageOff_plain {p : Nat} (h : p ∈ plainPages) (s : State) : s.pageOff p = s :=
  forall_plainPages (P := fun p => s.pageOff p = s) ⟨rfl, rfl, rfl, rfl, rfl, rfl, rfl, rfl⟩ p h

/-- The check of the emulation channels may leave an error in EMU's header; their pins leave none. -/
theorem State.emuShowAll_headerStays (s : State) : HeaderStays pgEMU s s.emuShowAll := by
  refine .foldl (fun t n => ?_) _ s
  have hclear : HeaderStays pgEMU t (t.setFl pgEMU (Reg.EMU.chCFG n) 0 0 0) := .of_page fun _ => rfl
  have hcheck : HeaderStays pgEMU t (t.emuCheck n) := .ite (hclear.stays (State.err_headerStays _ pgEMU 1 0x0FF 1)) (.refl _ t)
  exact hcheck.stays (.out (OutOnly.ite (State.emuPins_out _ n _ _) (.refl _)))

theorem pageOn_plain {p : Nat} (h : p ∈ plainPages) (s : State) : HeaderStays p s (s.pageOn p) :=
  .of_page (forall_plainPages (P := fun p => ∀ q, (s.pageOn p).page q = s.page q)
    ⟨fun _ => rfl, fun _ => rfl, fun _ => rfl, fun _ => rfl, fun _ => rfl, fun _ => rfl, fun _ => rfl, fun _ => rfl⟩ p h)

theorem pinsShow_plain {p : Nat} (h : p ∈ plainPages) (s : State) : HeaderStays p s (s.pinsShow p) := by
  have hemu : ∀ p ∈ plainPages, p ≠ pgEMU → blkOf p ≠ some .emu := by decide
  by_cases hp : p = pgEMU
  · subst hp
    exact s.emuShowAll_headerStays
  · exact .out (s.pinsShow_out p (hemu p h hp))

/-- Stored S writes take effect on register words alone. -/
theorem State.page_commitStored (s : State) (p q : Nat) : (s.commitStored p).page q = s.page q := by
  have hfold (l : Tbl Word) : ∀ t : State, (l.foldl (fun t e =>
      t.setRg p (e.1 % 4096) (mix (t.rg p (e.1 % 4096)) e.2.toNat (classMask p (e.1 % 4096) (·.s)))) t).page q = t.page q := by
    induction l with
    | nil => exact fun _ => rfl
    | cons e l ih => exact fun t => ih _
  exact hfold _ s

/-- Entry to IDLE shows the pins of EMU and of EVF; it changes no other page. -/
theorem enterIdle_plain {p : Nat} (h : p ∈ plainPages) (s : State) : HeaderMoves p .idle s (s.enterIdle p) := by
  have hidle : HeaderMoves p .idle s ((s.setPstateOf p .idle).commitStored p) :=
    (s.setPstateOf_moves p .idle).stays (.of_page fun q => State.page_commitStored _ p q)
  have hrest : p ≠ pgEMU → p ≠ pgEVF → s.enterIdle p = (s.setPstateOf p .idle).commitStored p :=
    forall_plainPages (P := fun p => p ≠ pgEMU → p ≠ pgEVF → s.enterIdle p = (s.setPstateOf p .idle).commitStored p)
      ⟨fun _ _ => rfl, fun k => absurd rfl k, fun _ _ => rfl, fun _ _ => rfl, fun _ _ => rfl, fun _ k => absurd rfl k,
        fun _ _ => rfl, fun _ _ => rfl⟩ p h
  by_cases hemu : p = pgEMU
  · have he : s.enterIdle p = ((s.setPstateOf p .idle).commitStored p).emuShowAll := by rw [hemu]; rfl
    rw [he]
    exact hidle.stays (hemu ▸ State.emuShowAll_headerStays _)
  by_cases hevf : p = pgEVF
  · have he : s.enterIdle p = (((s.setPstateOf p .idle).commitStored p).gpioTurned s).pinsShow p := by rw [hevf]; rfl
    have hturned : HeaderStays p ((s.setPstateOf p .idle).commitStored p)
        (((s.setPstateOf p .idle).commitStored p).gpioTurned s) := .of_page fun _ => rfl
    rw [he]
    exact (hidle.stays hturned).stays (pinsShow_plain h _)
  rw [hrest hemu hevf]
  exact hidle

theorem enterRun_plain {p : Nat} (h : p ∈ plainPages) (s : State) : HeaderMoves p .run s (s.enterRun p) := by
  rw [State.enterRun, pageOnRun_plain h]
  exact s.setPstateOf_moves p .run

/-! ## STATE follows CTRL -/

/-- EN and RUN take values in the header alone. -/
def State.enRunSet (s : State) (p : Nat) (en run : Bool) : State :=
  s.setPage p { s.page p with en := en, run := run, shown := (s.page p).shown || en }

/-- A write of EN and RUN before STATE follows: the first EN = 1 shows the page's pins (R500). -/
def State.withEnRun (s : State) (p : Nat) (en run : Bool) : State :=
  if en && !(s.page p).shown then (s.enRunSet p en run).pinsShow p else s.enRunSet p en run

section
variable {s : State} {p : Nat} (h : p ∈ plainPages)
include h

theorem settlePage_toOff (hen : (s.page p).en = false) : HeaderMoves p .off s (s.settlePage p) := by
  have hoff : HeaderMoves p .off s (s.setPstateOf p .off) := s.setPstateOf_moves p .off
  simp only [State.settlePage, hen, if_true, pageLeft_plain h, calReturn_plain h, pageOff_plain h, ite_self]
  split
  · rename_i hst
    exact hst ▸ HeaderStays.refl p s
  · exact hoff

theorem settlePage_toIdle (hst : (s.page p).state = .off) (hen : (s.page p).en = true) (hrun : (s.page p).run = false) :
    HeaderMoves p .idle s (s.settlePage p) := by
  simp only [State.settlePage, hst, hen, hrun, Bool.false_eq_true, Bool.true_eq_false, if_false]
  exact (enterIdle_plain h s).stays (pageOn_plain h _)

theorem settlePage_toRun (hst : (s.page p).state = .idle) (hen : (s.page p).en = true) (hrun : (s.page p).run = true) :
    HeaderMoves p .run s (s.settlePage p) := by
  simp only [State.settlePage, hst, hen, hrun, Bool.true_eq_false, if_false, if_true]
  exact enterRun_plain h s

theorem settlePage_toDrain (hst : (s.page p).state = .run) (hen : (s.page p).en = true) (hrun : (s.page p).run = false) :
    HeaderMoves p .drain s (s.settlePage p) := by
  simp only [State.settlePage, hst, hen, hrun, Bool.false_eq_true, Bool.true_eq_false, if_false, pageLeft_plain h]
  exact s.setPstateOf_moves p .drain

/-- On a plain page a write of EN and RUN is their new values, then STATE. -/
theorem setRunEn_plain (s : State) (en run : Bool) : s.setRunEn p en run = (s.withEnRun p en run).settlePage p :=
  forall_plainPages (P := fun p => s.setRunEn p en run = (s.withEnRun p en run).settlePage p)
    ⟨rfl, rfl, rfl, rfl, rfl, rfl, rfl, rfl⟩ p h

theorem withEnRun_plain (s : State) (en run : Bool) : HeaderStays p (s.enRunSet p en run) (s.withEnRun p en run) :=
  .ite (pinsShow_plain h _) (.refl p _)

/-- FREEZE leaves STATE, EN and RUN of the page, and every other header. -/
theorem setFreeze_plain (s : State) (b : Bool) : HeaderStays p s (s.setFreeze p b) := by
  have hblk : blkOf p ≠ some .psc ∧ blkOf p ≠ some .sdf :=
    forall_plainPages (P := fun p => blkOf p ≠ some .psc ∧ blkOf p ≠ some .sdf) (by decide) p h
  have hshow (t : State) : HeaderStays p t (t.showFrozen p) := by
    unfold State.showFrozen
    refine .ite ?_ (HeaderStays.setPage rfl rfl rfl)
    split
    · exact absurd ‹_› hblk.1
    · exact absurd ‹_› hblk.2
    · exact HeaderStays.setPage rfl rfl rfl
  have hset : HeaderStays p s (s.setPage p { s.page p with freeze := b }) := .setPage rfl rfl rfl
  exact .ite (hset.stays (hshow _)) (.refl p s)

/-- A CTRL command on a plain page: EN and RUN as written, then STATE. -/
theorem ctrlWrite_plain {w : Nat} {en run f : Bool} (hw : CtrlBits w en run false f) (s : State) :
    ∃ t : State, s.ctrlWrite p w = t.settlePage p ∧ (t.page p).state = (s.page p).state ∧ (t.page p).en = en ∧
      (t.page p).run = run ∧ ∀ q, q ≠ p → t.page q = s.page q := by
  obtain ⟨hst, hen, hrun, hother⟩ := withEnRun_plain h (s.setFreeze p f) en run
  obtain ⟨fst, -, -, fother⟩ := setFreeze_plain h s f
  rw [State.enRunSet, State.page_setPage_self] at hst hen hrun
  refine ⟨_, by rw [ctrlWrite_of_bits hw, setRunEn_plain h], hst.trans fst, hen, hrun, fun q hq => ?_⟩
  rw [hother q hq, State.enRunSet, State.page_setPage_ne _ _ hq, fother q hq]

end

/-- Settles O9: the command writes CTRL as it reads with one bit changed, and STATE follows. -/
theorem controlMovesTheStateOfPlainPages : Obligations.ControlMovesTheStateOfPlainPages := by
  intro s p req h ha hm
  have hgate (w : Nat) : s.ctrlGate p req w = s.ctrlWrite p w := ctrlGate_meets (meets_unmirrored hm ha _ _ _)
  refine ⟨fun hst hrun => ?_, fun hst hen => ?_, fun hst hen => ?_, ?_⟩
  · obtain ⟨t, he, tst, ten, trun, tother⟩ :=
      ctrlWrite_plain h (by simpa [bit, hrun] using ctrlWord_bits s p 1 0) s
    obtain ⟨ust, uen, -, uother⟩ := settlePage_toIdle h (tst.trans hst) ten trun
    exact ⟨_, congrArg Host.Outcome.next ((hgate _).trans he), ust, uen.trans ten, fun q hq => (uother q hq).trans (tother q hq)⟩
  · obtain ⟨t, he, tst, ten, trun, tother⟩ :=
      ctrlWrite_plain h (by simpa [bit, hen] using ctrlWord_bits s p 2 0) s
    obtain ⟨ust, -, urun, uother⟩ := settlePage_toRun h (tst.trans hst) ten trun
    exact ⟨_, congrArg Host.Outcome.next ((hgate _).trans he), ust, urun.trans trun, fun q hq => (uother q hq).trans (tother q hq)⟩
  · obtain ⟨t, he, tst, ten, trun, tother⟩ :=
      ctrlWrite_plain h (by simpa [bit, hen] using ctrlWord_bits s p 0 2) s
    obtain ⟨ust, -, urun, uother⟩ := settlePage_toDrain h (tst.trans hst) ten trun
    exact ⟨_, congrArg Host.Outcome.next ((hgate _).trans he), ust, urun.trans trun, fun q hq => (uother q hq).trans (tother q hq)⟩
  · obtain ⟨t, he, -, ten, -, tother⟩ :=
      ctrlWrite_plain h (by simpa [bit] using ctrlWord_bits s p 0 1) s
    obtain ⟨ust, uen, -, uother⟩ := settlePage_toOff h ten
    exact ⟨_, congrArg Host.Outcome.next ((hgate _).trans he), ust, uen.trans ten, fun q hq => (uother q hq).trans (tother q hq)⟩

end Sys2Proof.Machine
end

section
/-!
PROOFS. The register model (02): header commands (R30, R34, R39, R43, R45) and writes of block words (R8).
-/

namespace Sys2Proof.Machine

/-! ## Header commands -/

theorem bits_low_or {x y n : Nat} (hy : y % 2 ^ (n + 1) = 0) : bits (x ||| y) n 0 = x % 2 ^ (n + 1) := by
  rw [bits, Nat.shiftRight_zero, Nat.sub_zero, Nat.or_mod_two_pow, hy, Nat.or_zero]

/-- OWNER written with LOCK beside the fields as they read: OWN and SEC stay (R43). -/
theorem ownerWrite_lock (s : State) {t : State} {p : Nat} (h : (t.page p).lock = false) :
    t.ownerWrite p (s.headRead p 0x20 ||| 2 ^ 31) = t.setPage p { t.page p with
      own := (s.page p).own % 16
      sec := bit (s.headRead p 0x20) 8
      lock := true } := by
  have hown : bits (s.headRead p 0x20 ||| 2 ^ 31) 3 0 = (s.page p).own % 16 := by
    rw [bits_low_or (by decide), headRead_owner]
    omega
  have hsec : bit (s.headRead p 0x20 ||| 2 ^ 31) 8 = bit (s.headRead p 0x20) 8 := by
    rw [bit_eq_testBit, Nat.testBit_or, Nat.testBit_two_pow_of_ne (by decide), Bool.or_false, bit_eq_testBit]
  simp only [State.ownerWrite, h, hown, hsec, bit_or_two_pow_self, Bool.false_eq_true, if_false]

/-- Settles O10: each command's effect in its page, behind its gate or its condition. -/
theorem pageHeaderCommandsComplete : Obligations.PageHeaderCommandsComplete := by
  refine ⟨fun s p hst hd hrun => ?_, fun s p hst hd hrun => ?_, fun s p req e es h hlog => ?_, fun s p req h hlog => ?_,
    fun s t p req h => ?_, fun s t p req h hlock => ?_, fun s t p req h => ?_, fun s p hp hv => ?_, fun s hv => ?_⟩
  · change execDrainComplete p s = _
    simp [execDrainComplete, hst, hd, hrun]
  · change execDrainComplete p s = _
    simp [execDrainComplete, hst, hd, hrun]
  · change execLogdataPop p req s = _
    simp [execLogdataPop, readGate_readable h, State.logPop, Page.logHead, LogEntry.word, hlog]
  · change execLogdataPop p req s = _
    simp only [execLogdataPop, readGate_readable h, State.logPop, Page.logHead, hlog, List.drop_nil]
    rw [← hlog]
  · exact congrArg Host.Outcome.next (gateH_meets h)
  · exact congrArg Host.Outcome.next ((gateH_meets h).trans (ownerWrite_lock s hlock))
  · exact congrArg Host.Outcome.next (gateH_meets h)
  · change execViolationWindowEnd p s = _
    simp [execViolationWindowEnd, hp, hv]
  · change execViolationWindowEnd pgTLK s = _
    simp [execViolationWindowEnd, hv]

/-! ## Writes of block words -/

/-- An admitted 32-bit write of a word in the page range is a word write of its page. -/
theorem regWrite_word {s : State} {p off req : Nat} (h : off < 0x200000) (h4 : off % 4 = 0) (hp : pageAt off = some p)
    (ho : off % 4096 < 0x800) (ha : s.admits p req = true) (hsb : sbOffset off = none) (v : Nat) :
    s.regWrite off 4 v req = s.wordWrite p (off % 4096) (v % 2 ^ 32) req := by
  have hr : s.reaches req = true := by
    simp only [State.admits, Bool.and_eq_true] at ha
    exact ha.1.1.2
  have hok : accessOk off 4 = true := by simp [accessOk, h4]
  simp [State.regWrite, hsb, State.busWrite, windowPage_pageRange h, hp, hr, nctShut_pageRange h, hok, State.gate, ha,
    Nat.not_le.2 h, Nat.not_le.2 ho]

/-- Settles O11: beyond the header, a word that no rule names is written by its change classes. -/
theorem registerWriteComplete : Obligations.RegisterWriteComplete := by
  rintro s t p off v req h h4 hp hlo ho ⟨ht, ha⟩ hrule hsb
  change execRegisterWrite off 4 v req s = _
  have hoff : off % 2 ^ 22 = off := Nat.mod_eq_of_lt (by omega)
  have hm : s.mirror off (4 == 8) v req = t := ht.symm
  rw [execRegisterWrite, hoff, hm, regWrite_word h h4 hp ho ha hsb, State.wordWrite, if_neg (by omega), hrule]
  rfl

end Sys2Proof.Machine
end

section
/-!
PROOFS. Web position (03): encoder commands (R47, R48, R54 to R56).
-/

namespace Sys2Proof.Machine

/-- A page that runs its periods is in STATE RUN, and its block works. -/
theorem State.running_iff (s : State) (p : Nat) : s.running p = true ↔ (s.page p).state = .run ∧ s.works p = true := by
  simp [State.running]

/-- Settles O19: under each clause's conditions one branch of the command is left. -/
theorem encoderCommandsComplete : Obligations.EncoderCommandsComplete := by
  refine ⟨?_, ?_, ?_, ?_, ?_⟩
  · intro s n held a b z hn hrun hen hsamp hheld hmode
    obtain ⟨hst, hworks⟩ := (s.running_iff _).1 hrun
    change execFilteredLevelChange n a b z held s = _
    simp only [execFilteredLevelChange]
    rw [if_neg (by simp [hn, hen, hworks, hst]), if_neg (by simp [hsamp]), if_neg (by omega), if_pos ⟨hst, hmode⟩]
    rfl
  · rintro s t n hrun hmode hper rfl low
    have hacts : ¬ (s.unitRuns .enc n = false ∨ s.encMode n = 0 ∨
        s.cycle < (s.encOf n).lastReq + s.fl (pgENC n) Reg.ENC.SERPER 19 0) := by
      simp [hrun, hmode, hper]
    refine ⟨fun hbusy hlow => ?_, fun hbusy => ?_, fun hbusy hssi hlow => ?_⟩
    all_goals
      change execSerialRequest n low s = _
      simp only [execSerialRequest, if_neg hacts]
    · rw [if_neg (by simp [hbusy]), if_neg hlow]
    · rw [if_pos hbusy]
    · rw [if_neg (by simp [hbusy]), if_pos ⟨hssi, hlow⟩]
  · rintro s t n pos crc delay w nE nW par hrun haw rfl rfl hmode hodd heven
    change execSerialWord n pos crc nE nW par delay s = _
    simp only [execSerialWord]
    rw [if_neg (by simp [hrun, haw]), if_neg hmode, if_neg]
    rintro (⟨h, hne⟩ | ⟨h, heq⟩)
    · simp [hodd h] at hne
    · exact heven h (by simpa using heq)
  · rintro s t u n pos crc delay w nE nW par hrun haw rfl rfl hmode rfl hcrc hne
    change execSerialWord n pos crc nE nW par delay s = _
    simp only [execSerialWord]
    rw [if_neg (by simp [hrun, haw]), if_pos hmode, if_neg fun h => h.2 (hcrc h.1),
      if_neg fun h => by simp [hne h.1] at h]
  · intro s n hrun hmode haw hper
    change execStartBitTimeout n s = _
    simp only [execStartBitTimeout]
    rw [if_pos ⟨hrun, hmode, haw, hper⟩]

end Sys2Proof.Machine
end

section
/-!
PROOFS. Web position (03): observers and encoder emulation (R60 to R68).
-/

namespace Sys2Proof.Machine

/-! ## Positions that wrap -/

/-- A position in 64.32 is the integer but for a multiple of 2^96 (R58). -/
theorem fix96_eq_add (x : Int) : ∃ k : Int, fix96 x = x + k * 2 ^ 96 := by
  have hmod : ((enc2 96 x : Nat) : Int) = x % 2 ^ 96 := Int.toNat_of_nonneg (Int.emod_nonneg _ (by decide))
  have hlt : enc2 96 x % 2 ^ 96 = enc2 96 x := by omega
  rw [fix96, sgn, hlt, hmod]
  split
  · exact ⟨-(x / 2 ^ 96), by omega⟩
  · exact ⟨-(x / 2 ^ 96) - 1, by omega⟩

/-- A position that wraps at 96 bits shows the same 64 bits of whole counts. -/
theorem enc2_shr_fix96 (x : Int) : enc2 64 (shr (fix96 x) 32) = enc2 64 (shr x 32) := by
  obtain ⟨k, hk⟩ := fix96_eq_add x
  have hshr : shr (fix96 x) 32 = shr x 32 + k * 2 ^ 64 := by
    simp only [hk, shr, Int.fdiv_eq_ediv_of_nonneg _ (show (0 : Int) ≤ ((2 ^ 32 : Nat) : Int) by decide)]
    omega
  rw [hshr, enc2, enc2]
  congr 1
  exact Int.add_mul_emod_self_right _ _ _

/-- A signed register shows a wrapped position as the position itself. -/
theorem State.setRgI_fix96 (s : State) (p o : Nat) (x : Int) : s.setRgI p o (shr (fix96 x) 32) = s.setRgI p o (shr x 32) := by
  rw [State.setRgI, enc2_shr_fix96, State.setRgI]

/-- Every part has the four observers. -/
theorem lt_unitCount_obs {d : Nat} (h : d < 4) (v : Variant) : d < unitCount v .obs := by
  cases v <;> exact h

/-! ## A step of an emulation channel -/

/-- An emulation channel within LAGMAX, off its target and past MINEDGE, takes one step toward the target (R65). -/
theorem execEmuStep_step {s : State} {ch : Nat} {c : Int} (hch : ch < 8) (hrun : s.running pgEMU = true)
    (hen : s.fb pgEMU (Reg.EMU.chCFG ch) 0 = true) (hc : c = sgn 32 (s.rg pgEMU (Reg.EMU.chOUTCNT ch)))
    (hlag : (s.emuTarget ch - c).natAbs ≤ s.fl pgEMU (Reg.EMU.chLAGMAX ch) 7 0) (hne : s.emuTarget ch ≠ c)
    (hedge : (s.emuOf ch).lastEdge + s.fl pgEMU (Reg.EMU.chMINEDGE ch) 15 0 ≤ s.cycle) :
    exec (.emuStep ch) s = .next
      (((s.setRg pgEMU (Reg.EMU.chOUTCNT ch) (enc2 32 (if c < s.emuTarget ch then c + 1 else c - 1))).setEmu ch
        { s.emuOf ch with
          lastEdge := s.cycle
          phase := ((s.emuOf ch).phase + if c < s.emuTarget ch then 1 else 3) % 4 }).emuPins ch
        (((s.emuOf ch).phase + if c < s.emuTarget ch then 1 else 3) % 4)
        (if c < s.emuTarget ch then c + 1 else c - 1)) := by
  change execEmuStep ch s = _
  simp only [execEmuStep, ← hc]
  rw [if_neg (by simp [hch, hrun, hen]), if_neg (by omega), if_neg (by simp [hne, hedge])]
  simp only [decide_eq_true_eq]

/-- Settles O21: the modes of the observer and the two directions of the emulator are the branches of their commands. -/
theorem observerAndEmulatorCommandsComplete : Obligations.ObserverAndEmulatorCommandsComplete := by
  refine ⟨?_, ?_, ?_, ?_, ?_, ?_, ?_, ?_, ?_, ?_⟩
  · rintro s d pr ps hrun hmode rfl rfl
    change execObserverUpdate d s = _
    simp only [execObserverUpdate]
    rw [if_neg (by simp [hrun, hmode]), if_pos hmode, State.setRgI_fix96]
  · rintro s t u d hrun hmode rfl htrack rfl
    change execObserverUpdate d s = _
    simp only [execObserverUpdate]
    rw [if_neg (by simp [hrun, hmode]), if_neg (by simp [hmode]), if_pos hmode, if_pos htrack]
  · rintro s t u d hrun hmode ha hb rfl hcoast hv rfl
    change execObserverUpdate d s = _
    simp only [execObserverUpdate]
    have hsrc : ¬ (s.usableSrc d false || s.usableSrc d true) = true := by simp [ha, hb]
    have htrack : ¬ (s.noteSources d).obsMode d = 0 := by omega
    have hmode3 : ¬ s.obsMode d = 3 := by omega
    have hmode0 : ¬ s.obsMode d = 0 := by omega
    rw [if_neg (by simp [hrun, hmode]), if_neg hmode3, if_neg hmode0, if_neg hsrc, if_neg htrack, if_neg hv]
  · intro s d hrun hmode hv hmax
    exact if_pos ⟨hrun, hmode, hv, hmax⟩
  · intro s t d req hd h
    exact congrArg Host.Outcome.next (gateU_meets (lt_unitCount_obs hd _) rfl h)
  · intro s t d req hd h
    exact congrArg Host.Outcome.next (gateU_meets (lt_unitCount_obs hd _) rfl h)
  · intro s t d req g hd h
    change execSnap d true req s = _
    simp only [execSnap, h, if_true, if_pos hd]
  · intro s t ch req hch h
    change execEmuEnable ch req s = _
    rw [execEmuEnable, if_pos hch, gateH_meets h]
  · intro s ch c hch hrun hen hc hlag hup hedge
    rw [execEmuStep_step hch hrun hen hc hlag (by omega) hedge]
    simp only [if_pos hup]
  · intro s ch c hch hrun hen hc hlag hdown hedge
    rw [execEmuStep_step hch hrun hen hc hlag (by omega) hedge]
    simp only [if_neg (show ¬ c < s.emuTarget ch by omega)]

end Sys2Proof.Machine
end

section
/-!
PROOFS. Marks (04): R70 to R77.
-/

namespace Sys2Proof.Machine

/-- Settles O22: a write of the mark window meets its gate, and the three evaluations take their running branch. -/
theorem markCommandsComplete : Obligations.MarkCommandsComplete := by
  refine ⟨?_, ?_, ?_, ?_, ?_⟩
  · intro s t m off v req wide hm ho h
    change execMarkWrite m off v wide req s = _
    rw [execMarkWrite, if_pos ⟨hm, ho⟩, gate_meets h]
  · rintro s t rfl
    rfl
  · rintro s t u hrun rfl rfl
    exact if_neg (by simp [hrun])
  · intro s d hrun hep
    exact if_neg (by simp [hrun, hep])
  · intro s t doms req h
    exact congrArg Host.Outcome.next (gateH_meets h)

end Sys2Proof.Machine
end

section
/-!
PROOFS. Job streams (05): R87 to R98.
-/

namespace Sys2Proof.Machine

/-- Settles O23: slot commands meet the gate of JOB; a load ends as its header and its table parse. -/
theorem jobCommandsComplete : Obligations.JobCommandsComplete := by
  refine ⟨?_, ?_, ?_, ?_, ?_, ?_, ?_, ?_⟩
  · intro s t k req hk h
    change execLoad k req s = _
    rw [execLoad, if_pos hk, gateH_meets h]
  · intro s t u k h tab x n rt reps hk haw hst hhead hx htab hreps henc
    change execLoaddone k s = _
    simp [execLoaddone, hk, haw, hst, hhead, hx, htab, hreps, henc]
  · intro s t k h hk haw hst hhead hx
    change execLoaddone k s = _
    simp [execLoaddone, hk, haw, hst, hhead, hx]
  · intro s t k req hk h
    change execUnload k req s = _
    rw [execUnload, if_pos hk, gateH_meets h]
  · intro s t k req hk h
    change execVerify k req s = _
    rw [execVerify, if_pos hk, gateH_meets h]
  · rintro s t k h haw hk hhead rfl
    change execVdone k s = _
    simp [execVdone, haw, hk, hhead]
  · intro s k v h i hk haw hhead htile hask
    have hact : ¬ ((s.askers k i).isEmpty && !s.verifying.contains k) = true := by
      rcases hask with h | h <;> simp [h]
    change execTileCheck k v s = _
    simp only [execTileCheck, haw, hk, hhead, htile, decide_true, Bool.and_self, if_neg hact]
  · intro s t b req en hb h
    change execCursorEnable b en req s = _
    rw [execCursorEnable, if_pos hb, gateH_meets h]

end Sys2Proof.Machine
end

section
/-!
PROOFS. Screening (06): R108, R111 to R124 and R127.
-/

namespace Sys2Proof.Machine

/-- The candidate with the least key, the first of equals: it is one of the list, and no key is below its key. -/
theorem foldl_least {κ α : Type} [LE κ] [LT κ] [DecidableLT κ] [Std.LawfulOrderLT κ]
    [Std.IsLinearOrder κ] (cs : List (κ × α)) : ∀ c : κ × α,
    cs.foldl (fun a b => if b.1 < a.1 then b else a) c ∈ c :: cs ∧
      ∀ d ∈ c :: cs, (cs.foldl (fun a b => if b.1 < a.1 then b else a) c).1 ≤ d.1 := by
  induction cs with
  | nil => simp
  | cons e es ih =>
    intro c
    have hstep : (if e.1 < c.1 then e else c) ∈ [c, e] ∧ (if e.1 < c.1 then e else c).1 ≤ c.1 ∧
        (if e.1 < c.1 then e else c).1 ≤ e.1 := by
      split
      · exact ⟨by simp, Std.le_of_lt ‹_›, Std.le_refl _⟩
      · exact ⟨by simp, Std.le_refl _, Std.not_lt.1 ‹_›⟩
    obtain ⟨hmem, hlec, hlee⟩ := hstep
    obtain ⟨imem, ile⟩ := ih (if e.1 < c.1 then e else c)
    have ihead := ile _ List.mem_cons_self
    rw [List.foldl_cons]
    refine ⟨?_, fun d hd => ?_⟩
    · rcases List.mem_cons.1 imem with h | h
      · rw [h]
        exact (List.mem_append_left es hmem : _ ∈ [c, e] ++ es)
      · exact List.mem_cons_of_mem _ (List.mem_cons_of_mem _ h)
    · rcases List.mem_cons.1 hd with rfl | hd
      · exact Std.le_trans ihead hlec
      · rcases List.mem_cons.1 hd with rfl | hd
        · exact Std.le_trans ihead hlee
        · exact ile d (List.mem_cons_of_mem _ hd)

/-! ## Taking contone data lets no cycle pass -/

theorem foldl_cycle {α : Type} {f : State → α → State} (hf : ∀ t x, (f t x).cycle = t.cycle) (l : List α) :
    ∀ s : State, (l.foldl f s).cycle = s.cycle := by
  induction l with
  | nil => exact fun _ => rfl
  | cons x xs ih => exact fun s => (ih _).trans (hf s x)

theorem fst_ite_cycle {β : Type} {c : Prop} [Decidable c] {a b : State × β} {n : Nat} (h : a.1.cycle = n)
    (k : b.1.cycle = n) : (if c then a else b).1.cycle = n := by
  split <;> assumption

theorem EvSame.cycle {a b : State} (h : EvSame a b) : b.cycle = a.cycle := by rw [h.same]

theorem State.happen_cycle (s : State) (p b arg : Nat) : (s.happen p b arg).cycle = s.cycle := (happen_evSame s p b arg).cycle

theorem State.dramCe_cycle (s : State) (w : Who) (a : Nat) : (s.dramCe w a).cycle = s.cycle := by
  unfold State.dramCe
  dsimp only
  split <;> rfl

theorem State.dramPass_cycle (s : State) (w : Who) (wr : Bool) (a n : Nat) : (s.dramPass w wr a n).cycle = s.cycle := by
  have harrive (t : State) : (t.dmcArrive w wr a n).cycle = t.cycle := foldl_cycle (f := fun t _ => t.setDmc _ _) (fun _ _ => rfl) _ t
  have hmeets (t : State) : (t.dramMeets w wr a n).cycle = t.cycle := foldl_cycle (fun t b => t.dramCe_cycle w b) _ _
  have hcount : (s.countBytes wr a n).cycle = s.cycle := foldl_cycle (f := fun t _ => t.inc64 _ _ _) (fun _ _ => rfl) _ s
  rw [State.dramPass, harrive, hmeets, hcount]

theorem State.dramError_cycle (s : State) (w : Who) (wr : Bool) (code a : Nat) : (s.dramError w wr code a).cycle = s.cycle := by
  unfold State.dramError
  dsimp only
  split
  · exact State.happen_cycle _ _ _ _
  · split
    · exact State.happen_cycle _ _ _ _
    · rfl

theorem State.dramRead_cycle (s : State) (w : Who) (a n : Nat) : (s.dramRead w a n).1.cycle = s.cycle := by
  unfold State.dramRead
  split
  · exact s.dramError_cycle w false _ _
  · exact s.dramPass_cycle w false a n

theorem State.dramWrite_cycle (s : State) (w : Who) (a : Nat) (bs : List Byte) : (s.dramWrite w a bs).1.cycle = s.cycle := by
  unfold State.dramWrite
  split
  · exact s.dramError_cycle w true _ _
  · exact s.dramPass_cycle w true a bs.length

theorem State.setVerdict_cycle (s : State) (n v code : Nat) : (s.setVerdict n v code).cycle = s.cycle := by
  have hcount (t : State) : (t.verdictCount code).cycle = t.cycle := by
    unfold State.verdictCount
    split
    · rfl
    · split <;> rfl
  unfold State.setVerdict
  dsimp only
  split <;> rename_i h <;> have hw := congrArg (fun r => r.1.cycle) h
  · exact (hcount _).trans (hw.symm.trans (s.dramWrite_cycle _ _ _))
  · exact hw.symm.trans (s.dramWrite_cycle _ _ _)

theorem State.verdictError_cycle (s : State) (v code : Nat) : (s.verdictError v code).cycle = s.cycle := by
  unfold State.verdictError
  split
  · rfl
  · split <;> rfl

theorem State.tileRead_cycle (s : State) (n : Nat) (h : JobHead) (i : TileId) : (s.tileRead n h i).1.cycle = s.cycle := by
  have hspoil (t : State) (c : Nat) : ((t.verdictError (h.verdictNo i) c).setVerdict n (h.verdictNo i) c).cycle = t.cycle :=
    (State.setVerdict_cycle _ _ _ _).trans (State.verdictError_cycle _ _ _)
  have hentry : (s.tileEntry n h i).1.cycle = s.cycle := s.dramRead_cycle _ _ _
  have hpay (t : State) (e : List Byte) : (t.tilePayload n e).1.cycle = t.cycle := by
    unfold State.tilePayload State.dramPrefix
    split
    · exact t.dramPass_cycle _ _ _ _
    · exact (State.dramError_cycle _ _ _ _ _).trans (t.dramPass_cycle _ _ _ _)
  unfold State.tileRead
  dsimp only
  split
  · rename_i t he
    exact (congrArg (fun r => r.1.cycle) he).symm.trans hentry
  · rename_i t e he
    have ht : t.cycle = s.cycle := (congrArg (fun r => r.1.cycle) he).symm.trans hentry
    have hu := (hpay t e).trans ht
    exact fst_ite_cycle ((hspoil t 3).trans ht) (fst_ite_cycle ((hspoil t 2).trans ht) (fst_ite_cycle ht
      (fst_ite_cycle hu (fst_ite_cycle ((hspoil _ 3).trans hu) (fst_ite_cycle ((hspoil _ 2).trans hu) hu)))))

theorem State.passTile_cycle (s : State) (c o n : Nat) (h : JobHead) (i : TileId) : (s.passTile c o n h i).1.cycle = s.cycle := by
  have hverdict (t : State) : (t.passVerdict c n (h.verdictNo i)).cycle = t.cycle := by
    unfold State.passVerdict
    split
    · rfl
    · exact t.dramRead_cycle _ _ _
  unfold State.passTile
  dsimp only
  split
  · exact hverdict _
  · have hread := (State.tileRead_cycle ((s.inc pgJOB Reg.JOB.TILECNT 1).passVerdict c n (h.verdictNo i)) n h i).trans (hverdict _)
    split
    · exact hread
    · exact hread

theorem State.jobTake_cycle (s : State) (b : Nat) (k : Int) : (s.jobTake b k).cycle = s.cycle := by
  refine foldl_cycle (fun t e => ?_) _ s
  unfold State.barTake
  split
  · rfl
  · exact t.passTile_cycle _ _ _ _ _

/-! ## The commands -/

/-- Settles O24: the lane goes to the candidate with the least key, a screened line to the lane's lowest line. -/
theorem screeningCommandsComplete : Obligations.ScreeningCommandsComplete := by
  refine ⟨?_, ?_, ?_, ?_⟩
  · intro s p c cs hrun hlanes helig
    obtain ⟨hmem, hle⟩ := foldl_least cs c
    refine ⟨_, _, hmem, hle, rfl, ?_⟩
    change execLaneStart p s = _
    simp only [execLaneStart, helig, State.jobTake_cycle]
    rw [if_neg (by simp [hrun, hlanes])]
  · intro s p k l ls hk hp hworks hst hlines
    change execLineScreened p k s = _
    simp only [execLineScreened, hlines]
    refine if_neg ?_
    rcases hst with hst | hst <;> simp [hk, hp, hworks, hst]
  · intro s t p v req hp h
    change execScrdataAccess p true v req s = _
    rw [execScrdataAccess, if_neg (by omega), if_pos rfl, gateH_meets h]
  · intro s p v req hp h
    change execScrdataAccess p false v req s = _
    rw [execScrdataAccess, if_neg (by omega), if_neg (by decide), readGate_readable h]

end Sys2Proof.Machine
end

section
/-!
PROOFS. Nozzle tables (07): R135 to R150.
-/

namespace Sys2Proof.Machine

/-! ## A mirrored write leaves the nozzle windows open -/

theorem State.tlkSend_out (s : State) (type dst arg : Nat) (words : List Nat) :
    OutOnly s (s.tlkSend type dst arg words) := by
  unfold State.tlkSend
  split
  · exact .ite (.emit s _) (.refl s)
  · exact .refl s

/-- A word that is listed stays listed when another is deleted, whatever the order of the table. -/
theorem Tbl.get?_del_of_some {α : Type} {k j : Nat} {x : α} (hj : j ≠ k) : ∀ {t : Tbl α}, Tbl.get? t j = some x →
    Tbl.get? (Tbl.del t k) j = some x
  | (k', v) :: t, h => by
    simp only [Tbl.get?, Tbl.del] at h ⊢
    by_cases hk : k = k'
    · have hjk : j ≠ k' := hk ▸ hj
      rw [if_neg hjk, Option.ite_none_left_eq_some] at h
      rw [if_pos hk]
      exact h.2
    · rw [if_neg hk]
      by_cases hlt : k < k'
      · rw [if_pos hlt]
        exact h
      · rw [if_neg hlt, Tbl.get?]
        split at h
        · rwa [if_pos ‹_›]
        · rw [Option.ite_none_left_eq_some] at h
          rw [if_neg ‹_›, if_neg h.1]
          exact Tbl.get?_del_of_some hj h.2

/-- A register word that is listed stays as it is when another is written. -/
theorem State.listed_setRg {s : State} {p o j : Nat} {w : Word} (hj : j ≠ regKey p o) (h : Tbl.get? s.regs j = some w)
    (v : Nat) : Tbl.get? (s.setRg p o v).regs j = some w := by
  simp only [State.setRg, Tbl.putD]
  split
  · exact Tbl.get?_del_of_some hj h
  · rw [Tbl.get?_put_ne _ hj, h]

/-- Mirroring a write counts it in RED and sends a frame. -/
theorem State.mirror_cases (s : State) (off : Nat) (wide : Bool) (data req : Nat) :
    s.mirror off wide data req = s ∨ ∃ v x, OutOnly { (s.setRg pgRED Reg.RED.MIRSEQ v).inc pgRED Reg.RED.MIRCNT 1 with tlk := x }
      (s.mirror off wide data req) := by
  unfold State.mirror
  dsimp only
  split
  · exact .inl rfl
  · exact .inr ⟨_, _, State.tlkSend_out _ _ _ _ _⟩

theorem page_mirror (s : State) (off : Nat) (wide : Bool) (data req p : Nat) :
    (s.mirror off wide data req).page p = s.page p := by
  rcases s.mirror_cases off wide data req with h | ⟨v, x, h⟩
  · rw [h]
  · exact h.page p

theorem variant_mirror (s : State) (off : Nat) (wide : Bool) (data req : Nat) :
    (s.mirror off wide data req).variant = s.variant := by
  rcases s.mirror_cases off wide data req with h | ⟨v, x, l, h⟩ <;> rw [h]
  rfl

/-- A listed word of another page than RED is not changed by mirroring. -/
theorem listed_mirror {s : State} {q o : Nat} {w : Word} (ho : o < 4096) (hq : q ≠ pgRED)
    (h : Tbl.get? s.regs (regKey q o) = some w) (off : Nat) (wide : Bool) (data req : Nat) :
    Tbl.get? (s.mirror off wide data req).regs (regKey q o) = some w := by
  have hseq : regKey q o ≠ regKey pgRED Reg.RED.MIRSEQ := by simp only [regKey, Reg.RED.MIRSEQ, pgRED] at *; omega
  have hcnt : regKey q o ≠ regKey pgRED Reg.RED.MIRCNT := by simp only [regKey, Reg.RED.MIRCNT, pgRED] at *; omega
  rcases s.mirror_cases off wide data req with k | ⟨v, x, l, k⟩ <;> rw [k]
  · exact h
  · exact State.listed_setRg hcnt (State.listed_setRg hseq h _) _

/-- A nozzle window that is open where the write arrives was open before the write was mirrored. -/
theorem nctShut_of_mirror {s : State} {a off : Nat} {wide : Bool} {data req : Nat}
    (h : (s.mirror a wide data req).nctShut off = false) : s.nctShut off = false := by
  rw [← Bool.not_eq_true] at h ⊢
  refine mt (fun hs => ?_) h
  simp only [State.nctShut, State.nrec, variant_mirror, page_mirror, Bool.and_eq_true, Bool.or_eq_true] at hs ⊢
  refine ⟨hs.1, hs.2.imp_right fun ⟨ho, hslice⟩ => ⟨ho, ?_⟩⟩
  cases hw : Tbl.get? s.regs (regKey pgNCT Reg.NCT.WSLICE) with
  | none =>
    have hzero : s.fl pgNCT Reg.NCT.WSLICE 1 0 = 0 := by
      rw [State.fl, State.rg, Tbl.getD, hw]
      rfl
    rw [hzero] at hslice
    split at hslice <;> simp at hslice
  | some w =>
    have hsame : (s.mirror a wide data req).fl pgNCT Reg.NCT.WSLICE 1 0 = s.fl pgNCT Reg.NCT.WSLICE 1 0 := by
      simp only [State.fl, State.rg, Tbl.getD, hw, listed_mirror (by decide) (by decide) hw]
    rw [hsame]
    exact hslice

/-- A write of the nozzle or curve window that meets its page open. -/
theorem nctWindow_meets {s t : State} {req off a v : Nat} {wide : Bool} (h : s.meets pgNCT req a wide v t)
    (hopen : t.nctShut a = false) (f : State → State) :
    (if s.nctShut a then s.mirror a wide v req else (s.mirror a wide v req).gate pgNCT req off f) = f t := by
  have hs : s.nctShut a = false := nctShut_of_mirror (h.1 ▸ hopen)
  rw [hs]
  exact gate_meets h

/-! ## The commands -/

/-- Settles O25: each command takes the branch of its phase of the swap or of the image load. -/
theorem nozzleCommandsComplete : Obligations.NozzleCommandsComplete := by
  refine ⟨?_, ?_, ?_, ?_, ?_, ?_, ?_, ?_, ?_, ?_⟩
  · intro s b hen hmay
    exact congrArg Host.Outcome.next (if_pos ⟨hen, hmay⟩)
  · intro s t req hn h
    exact congrArg Host.Outcome.next (gateU_meets hn rfl h)
  · rintro s t u hsw haw rfl rfl
    have hact : ¬ (s.swapState ≠ 2 ∨ s.awake pgNCT = false) := by simp [hsw, haw]
    refine ⟨fun hheld => ?_, fun hheld => ?_⟩
    all_goals
      change execCopyForwardDone s = _
      simp only [execCopyForwardDone, if_neg hact]
    · rw [if_pos (List.isEmpty_iff.2 hheld)]
    · rw [if_neg (mt List.isEmpty_iff.1 hheld)]
  · rintro s t hsw haw rfl
    exact if_neg (by simp [hsw, haw])
  · intro s t off v req wide h hopen
    exact congrArg Host.Outcome.next (nctWindow_meets h hopen _)
  · intro s t off v req wide h hopen
    exact congrArg Host.Outcome.next (nctWindow_meets h hopen _)
  · intro s t req hn h
    exact congrArg Host.Outcome.next (gateU_meets hn rfl h)
  · intro s t u h pl hst haw hhead hcode hpay hok
    change execImageCheckDone s = _
    simp only [execImageCheckDone, hhead]
    rw [if_neg (by simp [hst, haw])]
    rcases hcode with hcode | hcode <;> simp only [hcode, hpay, hok]
  · intro s t h c hst haw hhead hcode h0 h5
    change execImageCheckDone s = _
    simp only [execImageCheckDone, hhead]
    rw [if_neg (by simp [hst, haw]), hcode]
    split <;> simp_all
  · rintro s t hst hsw haw rfl hn
    change execImgdone s = _
    simp only [execImgdone]
    rw [if_pos ⟨hst, hsw, haw⟩, if_neg hn]

end Sys2Proof.Machine
end

section
/-!
PROOFS. Print bars (08): R152 to R169.
-/

namespace Sys2Proof.Machine

/-- Settles O26: each command finds its line, or meets its gate. -/
theorem barCommandsComplete : Obligations.BarCommandsComplete := by
  refine ⟨?_, ?_, ?_, ?_, ?_⟩
  · intro s t b g htrig hrun
    change execLine b s = _
    simp only [execLine, htrig, if_pos hrun]
  · intro s b l hl hlive hn
    change execFireInstant b s = _
    simp only [execFireInstant, hl]
    rw [if_pos ⟨hlive, hn⟩]
  · intro s b l hl hlive
    change execLineDeadline b s = _
    simp only [execLineDeadline, hl, if_pos hlive]
  · intro s t b e v req he hb h
    change execEntryWrite b e true v req s = _
    simp only [execEntryWrite, if_true, if_pos he]
    rw [gateU_meets hb rfl h]
  · intro s t b e v req he hb h
    change execEntryWrite b e false v req s = _
    simp only [execEntryWrite, Bool.false_eq_true, if_false, if_pos he]
    rw [gateU_meets hb rfl h]

end Sys2Proof.Machine
end

section
/-!
PROOFS. Head links (09): the state machine (R180 to R187).
-/

namespace Sys2Proof.Machine

/-- Settles O27: every transition is one branch of its command. -/
theorem linkTrainingCommandsComplete : Obligations.LinkTrainingCommandsComplete := by
  refine ⟨?_, ?_, ?_, ?_, ?_, ?_, ?_, ?_, ?_, ?_, ?_⟩
  · intro s n hin hstep
    exact if_pos ⟨hin, hstep⟩
  · rintro s h t n board pver mask intake noz minper rfl hears hstep rfl hcheck
    change execStatIdent n board pver mask intake noz minper s = _
    simp only [execStatIdent, hcheck]
    rw [if_pos ⟨hears, hstep⟩]
  · rintro s h n st rfl hdue rfl
    change execSyncSend n s = _
    simp only [execSyncSend, if_pos hdue]
  · rintro s h t n t1 t2 t3 t4 seq rtt rfl hears ht1 rfl rfl rfl hst hstep
    refine ⟨fun hans => ?_, fun hans => ?_⟩
    all_goals
      change execSyncAnswer n t1 t2 t3 seq s = _
      simp only [execSyncAnswer]
      rw [if_neg (by simp [hears]), if_neg (by simp [ht1]), if_pos ⟨hst, hstep⟩]
    · rw [if_neg (Nat.not_le.2 hans)]
    · rw [if_pos hans]
  · rintro s h t n t1 t2 t3 t4 seq rtt rfl hears ht1 rfl rfl rfl hst hrecal
    change execSyncAnswer n t1 t2 t3 seq s = _
    simp only [execSyncAnswer]
    rw [if_neg (by simp [hears]), if_neg (by simp [ht1]), if_neg fun k => absurd (hst.symm.trans k.1) (by decide),
      if_neg (Bool.eq_false_iff.1 hrecal)]
  · intro s n hin hto
    exact if_pos ⟨hin, hto⟩
  · intro s n hin hrecal hto
    exact if_pos ⟨hin, hrecal, hto⟩
  · rintro s t n hin rfl
    refine ⟨fun hst => ?_, fun hst => ?_⟩
    all_goals
      change execBlockLockLoss n s = _
      simp only [execBlockLockLoss]
      rw [if_neg (by simp [hin])]
    · rw [if_pos hst]
    · rw [if_neg hst]
  · intro s t n req hn h
    exact congrArg Host.Outcome.next (gateU_meets hn rfl h)
  · intro s n hin hcfg hto
    exact if_pos ⟨hin, hcfg, hto⟩
  · rintro s h n rate rfl hin hstep hrate
    exact if_pos ⟨hin, hstep, hrate⟩

end Sys2Proof.Machine
end

section
/-!
PROOFS. Head links (09): what a link carries (R173, R176 to R194).
-/

namespace Sys2Proof.Machine

/-- Settles O28: a frame that is heard takes the branch of the operation it matches. -/
theorem linkTrafficCommandsComplete : Obligations.LinkTrafficCommandsComplete := by
  refine ⟨?_, ?_, ?_, ?_, ?_, ?_, ?_, ?_, ?_, ?_, ?_, ?_⟩
  · intro s n c cs hn hdue
    obtain ⟨hmem, hle⟩ := foldl_least cs c
    refine ⟨_, hmem, hle, ?_⟩
    change execLineSet n s = _
    simp only [execLineSet, hdue]
    rw [if_neg (Nat.not_le.2 hn)]
  · rintro s h t u n hb fl rx late align temps rfl hears rfl rfl
    exact if_neg (by simp [hears])
  · intro s t n req wr hn h
    exact congrArg Host.Outcome.next (gateU_meets hn rfl h)
  · rintro s h n q data seq at_ rfl hears htun
    change execAck n q data seq s = _
    simp [execAck, hears, htun]
  · rintro s h n q data seq at_ rfl hears htun
    change execAck n q data seq s = _
    simp [execAck, hears, htun]
  · rintro s h n q data seq rfl hears hno
    change execAck n q data seq s = _
    simp only [execAck]
    rw [if_neg (by simp [hears])]
    split
    · rename_i q' _ _ htun
      have hq : q' ≠ some q := hno _ htun
      rw [if_neg hq]
    · rfl
  · rintro s h t n reason q rfl hears rfl hno
    change execNak n reason q s = _
    simp only [execNak]
    rw [if_neg (by simp [hears])]
    split
    · rename_i q' _ _ htun
      have hq : q' ≠ some q := hno _ htun
      rw [if_neg hq]
    · rfl
  · rintro s h t n reason q at_ wr rfl hears rfl htun
    change execNak n reason q s = _
    simp only [execNak, htun, if_true]
    rw [if_neg (by simp [hears])]
  · rintro s h n q at_ wr rfl htun hin hto
    change execTuntmo n s = _
    simp only [execTuntmo, htun]
    rw [if_pos ⟨rfl, hin, hto⟩]
  · rintro s h t n ch bs rfl hears hbase hwr
    change execStatNchk n ch bs s = _
    simp only [execStatNchk, hwr]
    rw [if_neg (by simp [hears, hbase])]
  · rintro s h n type seq rfl hears
    change execHlkFrameError n 1 type seq s = _
    simp only [execHlkFrameError, if_true]
    rw [if_neg (by simp [hears])]
  · rintro s h n reason type seq rfl hears hr
    change execHlkFrameError n reason type seq s = _
    simp only [execHlkFrameError]
    rw [if_neg (by simp [hears]), if_neg hr]

end Sys2Proof.Machine
end

section
/-!
PROOFS. Camera ports (10): links and triggers (R197 to R209).
-/

namespace Sys2Proof.Machine

/-- Settles O29: the state of the port chooses the branch of each command. -/
theorem cameraTriggerCommandsComplete : Obligations.CameraTriggerCommandsComplete := by
  refine ⟨?_, ?_, ?_, ?_, ?_, ?_, ?_, ?_, ?_, ?_⟩
  · rintro s t n lock hon hlock hup hst rfl hup'
    have hdown : ¬ s.camUp n = true := by simp [hup]
    change execCamUp n lock s = _
    simp only [execCamUp]
    rw [if_pos ⟨hon, hlock, hst⟩, if_neg hdown, if_neg (Bool.eq_false_iff.1 hup')]
  · rintro s t n lock hon hup hlock rfl
    exact if_pos ⟨hon, hup, .inl hlock⟩
  · rintro s t u n g htrig hrun rfl
    change execTrig n s = _
    simp only [execTrig, htrig]
    rw [if_pos (.inl hrun)]
    cases g.mark <;> rfl
  · intro s n g hg hlive hn
    change execTriggerInstant n s = _
    simp only [execTriggerInstant, hg]
    rw [if_pos ⟨hlive, hn⟩]
  · intro s n e es z htrigs ht hlive hz
    change execTriggerSend n s = _
    simp only [execTriggerSend, State.camSendOne, htrigs, ht]
    rw [if_pos ⟨hlive, hz⟩]
  · intro s n r hr hend
    change execTrigPulseEnd n s = _
    simp only [execTrigPulseEnd, hr]
    rw [if_pos hend]
  · rintro s t n px e es hon hup rfl hpend
    change execCamLine n px s = _
    simp only [execCamLine, hpend]
    rw [if_pos ⟨hon, hup⟩]
  · rintro s t n px hon hup rfl hpend
    change execCamLine n px s = _
    simp only [execCamLine, hpend]
    rw [if_pos ⟨hon, hup⟩]
  · intro s n e es hpend hlive hto
    change execTriggerExpiry n s = _
    simp only [execTriggerExpiry, hpend]
    rw [if_pos ⟨hlive, hto⟩]
  · intro s n k hk hlive hpads
    change execBlktmo n s = _
    simp only [execBlktmo, hk]
    rw [if_pos ⟨hlive, hpads⟩]

end Sys2Proof.Machine
end

section
/-!
PROOFS. Camera ports (10): control traffic (R210 to R221).
-/

namespace Sys2Proof.Machine

/-- Settles O30: an access meets its gate, a packet takes the branch of its kind. -/
theorem cameraControlCommandsComplete : Obligations.CameraControlCommandsComplete := by
  refine ⟨?_, ?_, ?_, ?_, ?_, ?_, ?_, ?_, ?_, ?_⟩
  · intro s t n v req hn h
    change execFtdataAccess n true v req s = _
    rw [execFtdataAccess, if_pos rfl, gateU_meets hn rfl h]
  · intro s n v req hn h
    change execFtdataAccess n false v req s = _
    rw [execFtdataAccess, if_neg (by decide), if_neg (Nat.not_le.2 hn), readGate_readable h]
  · intro s t n g req hn h
    exact congrArg Host.Outcome.next (gateU_meets hn rfl h)
  · intro s n at_ w c hsent hexp hon hlast
    change execExpdone n s = _
    simp only [execExpdone, hsent, hexp]
    rw [if_pos ⟨hon, hlast⟩]
  · intro s t n req wr hn h
    exact congrArg Host.Outcome.next (gateU_meets hn rfl h)
  · intro s n code data at_ w e hon hup hsent
    have hact : ¬ (s.camOn n = false ∨ s.camUp n = false) := by simp [hon, hup]
    refine ⟨?_, ?_, ?_⟩
    · change execCcAck n 0 code data s = _
      simp only [execCcAck, hsent, if_neg hact]
    · change execCcAck n 1 code data s = _
      simp only [execCcAck, hsent, if_neg hact]
    · change execCcAck n 2 code data s = _
      simp only [execCcAck, hsent, if_neg hact]
  · intro s n at_ w e hsent hon hto
    change execCctmo n s = _
    simp only [execCctmo, hsent]
    rw [if_pos ⟨hon, hto⟩]
  · rintro s t u n bs hon hup rfl hpost
    change execEventPacket n bs s = _
    simp only [execEventPacket, hpost]
    rw [if_pos ⟨hon, hup⟩]
  · rintro s t n hon hup hper rfl
    refine ⟨fun hsb => ?_, fun hsb => ?_⟩
    all_goals
      change execCamHeartbeat n s = _
      simp only [execCamHeartbeat]
      rw [if_pos ⟨hon, hup, hper⟩]
    · rw [if_neg (Bool.eq_false_iff.1 hsb)]
    · rw [if_pos hsb]
  · intro s n lane hon
    have hact : ¬ s.camOn n = false := by simp [hon]
    exact ⟨if_neg hact, if_neg hact, if_neg hact⟩

end Sys2Proof.Machine
end

section
/-!
PROOFS. Cupolas (11): R225 to R245.
-/

namespace Sys2Proof.Machine

/-- Settles O31: lines are taken while the Cupola takes or goes, table accesses meet their gates. -/
theorem cupolaCommandsComplete : Obligations.CupolaCommandsComplete := by
  refine ⟨?_, ?_, ?_, ?_, ?_, ?_, ?_, ?_, ?_, ?_⟩
  · rintro s t n l es rest hline htakes rfl
    refine ⟨fun hst => ?_, fun hst => ?_⟩
    all_goals
      change execHomeLine n s = _
      simp only [execHomeLine, hline]
      rw [if_neg (by simp [htakes])]
    · rw [if_pos hst]
    · rw [if_neg hst]
  · rintro s t n k c l es rest hk hport hline htakes rfl hlate
    change execFurtherLine n k s = _
    simp only [execFurtherLine, if_pos hk, hport, hline]
    rw [if_neg (by simp [htakes]), if_neg (Bool.eq_false_iff.1 hlate)]
  · rintro s d t u n k c kk l rest bs hk htakes rfl hport hstg hring rfl hread
    change execStagingRead n k s = _
    rw [execStagingRead, if_pos ⟨hk, htakes⟩]
    simp only [State.stagingRead, hport, hstg, hring, Option.isSome_none, Bool.false_eq_true, if_false, hread]
  · intro s n l x hs hgoes hhold
    refine ⟨fun hwait => ?_, fun hhere => ?_⟩
    · change execFwaitExpiry n s = _
      simp only [execFwaitExpiry, hhold]
      rw [if_pos ⟨hgoes, hwait⟩]
    · change execStage2Entry n s = _
      simp only [execStage2Entry, hhold]
      rw [if_pos ⟨hgoes, hhere⟩]
  · rintro s t n es rest hgoes hrun hfront rfl hrun'
    change execBlkdone n s = _
    simp only [execBlkdone, hfront]
    rw [if_neg (by simp [hgoes]), if_neg fun h => absurd (hrun.symm.trans h.1) (by decide), if_pos hrun']
  · intro s n hgoes hfault hblk
    change execBlkdone n s = _
    rw [execBlkdone, if_neg (by simp [hgoes]), if_pos ⟨hfault, hblk⟩]
  · intro s t n v req hn h
    change execTcdataAccess n true v req s = _
    rw [execTcdataAccess, if_pos rfl, gateU_meets hn rfl h]
  · intro s n v req hn h
    change execTcdataAccess n false v req s = _
    rw [execTcdataAccess, if_neg (by decide), if_neg (Nat.not_le.2 hn), readGate_readable h]
  · intro s t n v req hn h
    change execIcdataAccess n true v req s = _
    rw [execIcdataAccess, if_pos rfl, gateU_meets hn rfl h]
  · intro s n v req hn h
    change execIcdataAccess n false v req s = _
    rw [execIcdataAccess, if_neg (by decide), if_neg (Nat.not_le.2 hn), readGate_readable h]

end Sys2Proof.Machine
end

section
/-!
PROOFS. Inspection output (12, 13, 14): defect records, the colour loop, compression.
-/

namespace Sys2Proof.Machine

/-! ## A command of a compression engine -/

section
variable {s t : State} {n : Nat} {c : List Byte} {mine : Nat → Bool}
  (hready : s.cmpReady n = true) (hpeek : s.peek (pgCMP n) 0 = (t, some c)) (hmine : mine (leAt c 0 1) = true)
include hready hpeek hmine

/-- A good command of the operation is carried out. -/
theorem State.cmpTake_good (hgood : badCmd c ((t.consume (pgCMP n) 0).cmp n).stream.isSome = false)
    (f : State → List Byte → State) : s.cmpTake n mine f = f (t.consume (pgCMP n) 0) c := by
  simp [State.cmpTake, hready, hpeek, hmine, hgood]

/-- A bad command of the operation ends with code 1. -/
theorem State.cmpTake_bad (hbad : badCmd c ((t.consume (pgCMP n) 0).cmp n).stream.isSome = true)
    (f : State → List Byte → State) : s.cmpTake n mine f = (t.consume (pgCMP n) 0).cmpEnd n
      ((t.consume (pgCMP n) 0).cmp n).stream
      ⟨leAt c 0 1, leAt c 8 8, 1, 0, 0, 0, crcSoFar ((t.consume (pgCMP n) 0).cmp n).stream⟩ := by
  simp [State.cmpTake, hready, hpeek, hmine, hbad]

end

/-! ## The commands -/

/-- Settles O32: an item at the front of its list takes the branch of its kind. -/
theorem inspectionOutputCommandsComplete : Obligations.InspectionOutputCommandsComplete := by
  refine ⟨?_, ?_, ?_, ?_, ?_, ?_, ?_, ?_, ?_, ?_, ?_, ?_, ?_⟩
  · rintro s t n now later hlive htake rfl
    change execDefLine n s = _
    simp only [execDefLine, htake]
    rw [if_neg (by simp [hlive])]
  · intro s t n b lines recs recs' x xs head grid rest hitems hlive hjob hfree hsnip
    change execSnippetDone n s = _
    simp only [execSnippetDone, hitems, hsnip]
    rw [if_pos ⟨hlive, hjob, hfree⟩]
  · rintro s t u v n b lines recs head grid rest hitems hlive hne hroom hsram hpub rfl
    change Host.Outcome.next (s.defPublish n) = _
    simp [State.defPublish, hitems, hlive, hne, hroom, hsram, hpub]
  · rintro s t v n b lines head grid rest hitems hlive hsram rfl
    change Host.Outcome.next (s.defPublish n) = _
    simp [State.defPublish, hitems, hlive, hsram]
  · intro s t n b c d z g rest hitems hlive hpub
    change execDroppedPost n s = _
    simp only [execDroppedPost, hitems, hpub]
    rw [if_neg (by simp [hlive])]
  · intro s n l rest hlines hlive
    change execClpLine n s = _
    simp only [execClpLine, hlines, if_pos hlive]
  · intro s t g x hg htrig hpres hrun
    change execWin g s = _
    simp only [execWin, htrig]
    rw [if_pos ⟨hg, hpres, hrun⟩]
  · rintro s t g c hclose hlive hch hpassed rfl
    change execBankChange g s = _
    simp only [execBankChange, hclose]
    rw [if_neg (by simp [hlive, hch, hpassed])]
  · intro s g c hclose hlive hch
    change execCorrectionRecord g s = _
    simp only [execCorrectionRecord, hclose]
    rw [if_pos ⟨hlive, hch⟩]
  · intro s t m st hdue hreq hlive hst
    have hact : s.clpLive = true ∧
        (st = 0 ∨ (decide (st = 1) && decide (s.swapState = 0) && (s.page pgCLP).state == .run) = true) :=
      ⟨hlive, hst.imp_right fun ⟨h1, h2, h3⟩ => by simp [h1, h2, h3]⟩
    refine ⟨fun hswap => ?_, fun hswap hidle => ?_, fun hswap hbusy hen hrun => ?_⟩
    all_goals
      change execClpSwapRequest s = _
      simp only [execClpSwapRequest, hdue, hreq, hswap, Bool.false_eq_true, if_false]
      rw [if_pos hact]
    · rw [if_neg (by simp [hidle])]
    · rw [if_pos ⟨by simp [hbusy], hen, hrun⟩]
  · rintro s t u n c hready hpeek rfl hgood
    refine ⟨fun h2 h3 => ?_, fun hop => ?_, fun hop => ?_⟩
    · exact congrArg Host.Outcome.next (State.cmpTake_good hready hpeek (by simp [h2, h3]) hgood _)
    · exact congrArg Host.Outcome.next (State.cmpTake_good hready hpeek (by simp [hop]) hgood _)
    · exact congrArg Host.Outcome.next (State.cmpTake_good hready hpeek (by simp [hop]) hgood _)
  · rintro s t u v n c hready hpeek rfl hbad rfl
    refine ⟨fun h2 h3 => ?_, fun hop => ?_, fun hop => ?_⟩
    · exact congrArg Host.Outcome.next (State.cmpTake_bad hready hpeek (by simp [h2, h3]) hbad _)
    · exact congrArg Host.Outcome.next (State.cmpTake_bad hready hpeek (by simp [hop]) hbad _)
    · exact congrArg Host.Outcome.next (State.cmpTake_bad hready hpeek (by simp [hop]) hbad _)
  · rintro s t n j hjob hworks hst rfl
    have hact : ((s.page (pgCMP n)).state == .run || (s.page (pgCMP n)).state == .drain) && s.works (pgCMP n) := by
      rcases hst with hst | hst <;> simp [hst, hworks]
    change execCmpJobEnd n s = _
    simp only [execCmpJobEnd, hjob]
    rw [if_pos hact]

end Sys2Proof.Machine
end

section
/-!
PROOFS. Host interface (15): queues and doorbells (R304 to R311), PCIe (R299 to R302, R313), DMA (R314 to R320).
-/

namespace Sys2Proof.Machine

/-- Settles O33: every write of a descriptor meets the gate of HQF; a doorbell of BAR2 needs its function alone. -/
theorem queueCommandsComplete : Obligations.QueueCommandsComplete := by
  refine ⟨?_, ?_, ?_, ?_, ?_, ?_, ?_⟩
  · intro s t q v req hq h
    change execQueueEnable q v req s = _
    rw [execQueueEnable, if_pos hq, gate_meets h]
  · intro s t q v req hq h
    change execQueueDisable q v req s = _
    rw [execQueueDisable, if_pos hq, gate_meets h]
  · intro s t q v req hq h
    change execQueueBind q v req s = _
    rw [execQueueBind, if_pos hq, gate_meets h]
  · intro s t q v req hq h
    exact congrArg Host.Outcome.next (bell_meets hq h)
  · intro s t q v req hq h
    exact congrArg Host.Outcome.next (bell_meets hq h)
  · intro s q v hq hr
    have hbell (o : Nat) (f : State → State) : s.bell q (queueFn q) true o v f = f s := by
      rw [State.bell, if_neg (by omega), if_pos rfl, if_pos ⟨rfl, hr⟩]
    exact ⟨congrArg Host.Outcome.next (hbell _ _), congrArg Host.Outcome.next (hbell _ _)⟩
  · intro s q hq hdue
    exact congrArg Host.Outcome.next (if_pos ⟨hq, hdue⟩)

/-- Settles O35: a completion answers the read of its tag; the others take the branch of their condition. -/
theorem pcieCommandsComplete : Obligations.PcieCommandsComplete := by
  refine ⟨?_, ?_, ?_, ?_, ?_, ?_, ?_, ?_⟩
  · rintro s tag bs d r hr rfl
    refine ⟨fun hk => ?_, fun hk => ?_⟩
    all_goals
      change execHostCompletion tag 0 false bs s = _
      simp [execHostCompletion, hr, State.hostDeliver, hk]
  · intro s tag st ep bs r hr
    refine ⟨fun hst => ?_, ?_, fun hdue => ?_⟩
    · change execHostCompletion tag st ep bs s = _
      simp only [execHostCompletion, hr, if_pos hst]
    · change execHostCompletion tag 0 true bs s = _
      simp only [execHostCompletion, hr, ne_eq, not_true_eq_false, if_false, if_true]
    · change execCompletionTimeout tag s = _
      simp only [execCompletionTimeout, hr, if_pos hdue]
  · intro s
    rfl
  · rintro s t wr ep a n bs hopen rfl hclk
    change execDeviceMemoryAccess wr a n bs ep s = _
    simp only [execDeviceMemoryAccess]
    rw [if_neg (by simp [hopen]), if_pos hclk]
  · intro s t fn hfn ht
    change execFlr fn s = _
    simp only [execFlr, ← ht]
    rw [if_neg (Nat.not_le.2 hfn)]
  · rintro s t speed w hdown hlo hhi hw rfl
    have hact : ¬ (s.fb pgPCIE Reg.PCIE.LSTAT 0 = true ∨ speed = 0 ∨ 5 < speed ∨ [1, 2, 4, 8].contains w = false) := by
      have hc : [1, 2, 4, 8].contains w = true := List.contains_iff_mem.2 hw
      simp only [hdown, hc, Bool.false_eq_true, Bool.true_eq_false, false_or, or_false]
      omega
    exact congrArg Host.Outcome.next (if_neg hact)
  · intro s hup
    exact congrArg Host.Outcome.next (if_pos hup)
  · rintro s fn kind vec v d w hfn rfl
    refine ⟨fun hr => ?_, fun hr => ?_⟩
    all_goals
      change execPcieConfigRequest fn kind vec v d s = _
      simp only [execPcieConfigRequest]
      rw [if_neg (by omega)]
    · rw [if_neg (by simp [hr])]
    · rw [if_pos hr]

/-- Settles O36: a channel command meets the gate of DMA or its trigger; a descriptor is fetched, then moved. -/
theorem dmaCommandsComplete : Obligations.DmaCommandsComplete := by
  refine ⟨?_, ?_, ?_, ?_, ?_, ?_⟩
  · intro s t c req h
    change execDmaStart c req false s = _
    rw [execDmaStart, if_neg (by decide), gateH_meets h]
  · intro s t c req g htrig
    change execDmaStart c req true s = _
    simp only [execDmaStart, if_true, htrig]
  · intro s t c req h
    exact congrArg Host.Outcome.next (gateH_meets h)
  · intro s t c req h
    exact congrArg Host.Outcome.next (gateH_meets h)
  · intro s t c d hrun hfree hnext hfetch
    change execDmaTake s = _
    simp only [execDmaTake, hnext, hfetch]
    rw [if_neg (by simp [hrun, hfree])]
  · intro s t u c d hrunning hst hworks hfetch hmove
    change execDescriptorDone s = _
    simp only [execDescriptorDone, hrunning, hfetch, hmove]
    refine if_neg ?_
    rcases hst with hst | hst <;> simp [hst, hworks]

end Sys2Proof.Machine
end

section
/-!
PROOFS. Interrupts and events (16): R324 to R345.
-/

namespace Sys2Proof.Machine

/-! ## The interrupt controller -/

/-- Settles O37: a completion meets the gate of BIC, a claim reads through it; a GPIO latch catches the edge it selects. -/
theorem interruptCommandsComplete : Obligations.InterruptCommandsComplete := by
  refine ⟨?_, ?_, ?_, ?_, ?_, ?_, ?_, ?_, ?_, ?_, ?_⟩
  · intro s i
    exact ⟨fun h => congrArg Host.Outcome.next (if_pos h),
      fun h => congrArg Host.Outcome.next (if_neg (Bool.eq_false_iff.1 h))⟩
  · intro s c req hc h
    change execClaim c req s = _
    rw [execClaim, if_pos hc, readGate_readable h]
  · intro s t c i req hc h
    change execComplete c i req s = _
    rw [execComplete, if_pos hc, gateH_meets h]
  · intro s k req hk h
    change execPclaim k req s = _
    rw [execPclaim, if_pos hk, readGate_readable h]
  · intro s t i req h
    exact congrArg Host.Outcome.next (gateH_meets h)
  · intro s t i req h
    exact congrArg Host.Outcome.next (gateH_meets h)
  · intro s t i req h
    exact congrArg Host.Outcome.next (gateH_meets h)
  · intro s t i req h
    exact congrArg Host.Outcome.next (gateH_meets h)
  · intro s l up hl h0 h1
    change execLatchCatch l up s = _
    simp only [execLatchCatch]
    rw [if_neg (by simp [hl, h0]), if_pos h1]
  · intro s l hl h0 h1 hin hedge hwake
    change execLatchCatch l true s = _
    simp only [execLatchCatch, if_true]
    rw [if_neg (by simp [hl, h0]), if_neg (by simp [h1]), if_neg (by simp [hin, hedge]), if_neg (by simp [hwake])]
  · intro s l hl h0 h1 hin hedge hwake
    change execLatchCatch l false s = _
    simp only [execLatchCatch, Bool.false_eq_true, if_false]
    rw [if_neg (by simp [hl, h0]), if_neg (by simp [h1]), if_neg (by simp [hin, hedge]), if_pos hwake]

/-! ## The event fabric -/

/-- Settles O38: a write of EVF meets its gate; an event due is delivered; an input pin's filter decides by its samples. -/
theorem eventCommandsComplete : Obligations.EventCommandsComplete := by
  refine ⟨?_, ?_, ?_, ?_, ?_, ?_, ?_, ?_, ?_, ?_⟩
  · intro s t c a req h
    refine ⟨fun hno => ?_, fun hyes => ?_⟩ <;> refine congrArg Host.Outcome.next ((gateW_meets h).trans ?_)
    · have hno' : ({ t with swArgs := Tbl.put t.swArgs req (a % 2 ^ 32) } : State).chanRefuses (c % 256) req = false := hno
      rw [State.swfireBoth, if_neg (Bool.eq_false_iff.1 hno), State.swfire, if_neg (Bool.eq_false_iff.1 hno')]
    · exact if_pos hyes
  · intro s t v req h
    exact congrArg Host.Outcome.next (gateH_meets h)
  · intro s t c req h
    exact congrArg Host.Outcome.next (gateH_meets h)
  · rintro s t c e he hclk rfl
    refine ⟨fun hc => ?_, fun hc => ?_⟩
    all_goals
      change execEventDelivery c s = _
      simp only [execEventDelivery, hclk, Bool.and_true, he]
    · rw [if_neg (Nat.not_le.2 hc)]
    · rw [if_pos hc]
  · intro s t off v req hlo hhi h4 h
    change execChannelWrite off v req s = _
    rw [execChannelWrite, if_pos ⟨hlo, hhi, h4⟩, gateH_meets h]
  · intro s
    rfl
  · rintro s h t g held lv hg hin rfl hen hclk hheld hlv rfl
    have hact : ¬ (64 ≤ g ∨ s.gpioIsOut g = true) := by simp [hg, hin]
    have hsample (h : State) (hen : h.enabled pgEVF = true) (hclk : h.clocked = true)
        (hlv : bit (h.rg64 pgEVF Reg.EVF.GPIOIN) g ≠ lv) :
        ¬ (h.enabled pgEVF = false ∨ h.clocked = false ∨ held = 0 ∨ bit (h.rg64 pgEVF Reg.EVF.GPIOIN) g = lv) := by
      simp only [hen, hclk, hlv, Bool.true_eq_false, false_or, or_false]
      omega
    have hwait := hsample _ hen hclk hlv
    refine ⟨fun hnew => ?_, fun hold hedge => ?_, fun hold hedge => ?_⟩
    all_goals
      change execGpioInputEdge g lv held s = _
      rw [execGpioInputEdge, if_neg hact]
      simp only [State.gpioSampled]
      rw [if_neg hwait]
    · rw [if_pos hnew]
    · rw [if_neg (Nat.not_lt.2 hold), if_neg (by omega), if_neg (by simp [hedge])]
    · rw [if_neg (Nat.not_lt.2 hold), if_neg (by omega), if_pos hedge]
  · intro s g r hr hend
    change execPulseEnd g s = _
    simp only [execPulseEnd, hr, if_pos hend]
  · intro s t v req h
    exact congrArg Host.Outcome.next (gateW_meets h)
  · intro s ch g up hlo hhi hg hen hprod hin hedge hfilt
    have hact : ¬ (ch < 248 ∨ 256 ≤ ch ∨ 64 ≤ g ∨ (s.chan ch).en = false ∨ (s.chan ch).prod ≠ pgEVF + (64 + g) * 256 ∨
        bit (s.gpioCfg g) 0 = true ∨ inEdge (s.gpioCfg g) up = false ∨
        (g &&& (s.chan ch).filtm) ≠ ((s.chan ch).filtv &&& (s.chan ch).filtm)) := by
      simp only [hen, hprod, hin, hedge, hfilt, Bool.true_eq_false, Bool.false_eq_true, ne_eq, not_true_eq_false, or_false]
      omega
    refine ⟨fun hclk => ?_, fun hclk => ?_⟩
    all_goals
      change execAsyncChannelEdge ch g up s = _
      simp only [execAsyncChannelEdge]
      rw [if_neg hact]
    · rw [if_pos hclk]
    · rw [if_neg (Bool.eq_false_iff.1 hclk)]

end Sys2Proof.Machine
end

section
/-!
PROOFS. Axes and measurement inputs (17): R347 to R366.
-/

namespace Sys2Proof.Machine

/-! ## Axes -/

/-- A live axis keeps its timers. -/
theorem State.axTimed_of_live {s : State} {n : Nat} (h : s.axLive n = true) : s.axTimed n = true := by
  rw [State.axTimed, h, Bool.true_or]

/-- Settles O40: a command meets its gate or its trigger on a live axis; a cycle, a step and a segment's end take one branch. -/
theorem axisCommandsComplete : Obligations.AxisCommandsComplete := by
  refine ⟨?_, ?_, ?_, ?_, ?_, ?_, ?_, ?_, ?_, ?_, ?_, ?_⟩
  · intro s t n req h hruns
    change execAxisStart n false req s = _
    simp only [execAxisStart, Bool.false_eq_true, if_false]
    rw [gateH_meets h, if_pos hruns]
  · intro s t n req g htrig hruns
    change execAxisStart n true req s = _
    simp only [execAxisStart, if_true, htrig, if_pos hruns]
  · intro s t n req h hlive
    change execAxisStop n false req s = _
    simp only [execAxisStop, Bool.false_eq_true, if_false]
    rw [gateH_meets h, if_pos hlive]
  · intro s t n req g htrig hlive
    change execAxisStop n true req s = _
    simp only [execAxisStop, if_true, htrig, if_pos hlive]
  · intro s t n req h hlive
    exact congrArg Host.Outcome.next ((gateH_meets h).trans (if_pos hlive))
  · intro s t n v req h
    exact congrArg Host.Outcome.next (gateH_meets h)
  · rintro s h w t n xg hlive rfl hseg hpair rfl hcl
    change execAxisCycle n s = _
    simp only [execAxisCycle, ← hpair, hseg, hcl, Bool.false_and, Bool.false_eq_true, false_and, if_false]
    rw [if_neg (by simp [hlive]), ← hseg]
  · rintro s t u n g hlive hseg hdur rfl rfl
    refine ⟨fun hfin hstop => ?_, fun hstop => ?_, fun hfin hstop hruns hnext => ?_, fun hfin hstop hruns hnext => ?_,
      fun hfin hstop hnext => ?_⟩
    all_goals
      change execSegmentEnd n s = _
      simp only [execSegmentEnd, hlive, hseg]
      rw [if_neg (Nat.not_lt.2 hdur)]
    · rw [if_neg (by simp [hstop]), if_pos hfin]
    · rw [if_pos hstop]
    · rw [if_neg (by simp [hstop]), if_neg (by simp [hfin]), if_neg (by simp [hnext]), if_pos hruns]
    · rw [if_neg (by simp [hstop]), if_neg (by simp [hfin]), if_neg (by simp [hnext]), if_neg (by simp [hruns])]
    · rw [if_neg (by simp [hstop]), if_neg (by simp [hfin]), if_pos hnext]
  · rintro s t n hlive hcl hlag hcoil hwake hcheck hdir hdirAt hlast rfl
    change execStep n s = _
    have hup : decide (0 < s.axLag n) = true := decide_eq_true hlag
    simp only [execStep, hup, hdirAt, hlast, Bool.false_eq_true, if_false, if_true]
    have hmoves : s.axLag n ≠ 0 := by omega
    rw [if_neg (by simp [hlive, hcl, hmoves]), if_neg (by simp [hcoil]), if_neg (by simp [hwake]),
      if_neg (by simp [hcheck]), if_neg (by simp [hdir])]
  · intro s n hlive hcoil hwake hrest hstand
    exact if_pos ⟨State.axTimed_of_live hlive, hcoil, hwake, hrest.imp_right .inl, hstand⟩
  · intro s n c hwake hlive hend
    change execCoilWakeEnd n s = _
    simp only [execCoilWakeEnd, hwake]
    rw [if_pos ⟨State.axTimed_of_live hlive, hend⟩, if_pos hlive]
  · rintro s t n hlive hcl hper rfl hsb
    change execSetpointFrame n s = _
    simp only [execSetpointFrame]
    rw [if_pos ⟨hlive, hcl, hper⟩, if_neg (Bool.eq_false_iff.1 hsb)]

/-! ## Sigma-delta channels -/

/-- The cycle count stays as it is while an output's value is shown. -/
theorem State.cycle_shownOutput (s : State) (n p o v : Nat) (x : Sdf) :
    ((s.drawn.setSd n x).setRg p o v).cycle = s.cycle := rfl

/-- Settles O41: an output forms from the bits of one decimation, in the order of its clauses. -/
theorem sigmaDeltaCommandsComplete : Obligations.SigmaDeltaCommandsComplete := by
  refine ⟨?_, ?_, ?_⟩
  · rintro s t u y w z n fl bs x0 x1 x2 v f1 f2 f3 prev hrun hclk hlen rfl h1 h2 h3 rfl rfl rfl rfl rfl hq
    change execSdfOutput n bs s = _
    have hruns : ¬ ((s.unitRuns .sdf n = false ∧ s.sdDrains n = false) ∨ s.sdClocked n = false ∨
        bs.length ≠ 2 * 2 ^ sincLog (s.sdPreset n)) := by
      rcases hrun with hrun | hrun <;> simp [hrun, hclk, hlen]
    simp only [execSdfOutput, h1, h2, h3, State.cycle_shownOutput]
    rw [if_neg hruns]
    by_cases hfresh : x2.since < unsettled (s.sdPreset n)
    · simp only [hfresh, if_true, decide_true] at hq ⊢
      simp only [hq]
    · simp only [hfresh, if_false, decide_false, Bool.false_eq_true] at hq ⊢
      simp only [hq]
  · rintro s t n clocks lv hrun hclk hn hst rfl
    exact if_pos ⟨hrun, hclk, hn, hst⟩
  · intro s n req mx hn hr href
    change execPeakRead n mx req s = _
    simp only [execPeakRead]
    rw [if_neg (by simp [hn, hr]), if_neg (by simp [href])]

end Sys2Proof.Machine
end

section
/-!
PROOFS. Ethernet and network time (18): R369 to R378.
-/

namespace Sys2Proof.Machine

/-- A port that runs takes its next transmit entry. -/
theorem txEntry_taken {s : State} {n : Nat} (hn : n < unitCount s.variant .eth) (hrun : s.running (pgETH n) = true) :
    ¬ (unitCount s.variant .eth ≤ n ∨ s.works (pgETH n) = false ∨ ((s.page (pgETH n)).state ≠ .run ∧
      ((s.page (pgETH n)).state ≠ .fault ∨ s.fl (pgETH n) Reg.ETH.LSTAT 1 0 = 1))) := by
  obtain ⟨hstate, hworks⟩ := (State.running_iff s (pgETH n)).1 hrun
  simp [hn, hstate, hworks]

/-- Settles O43: a time write meets PTP's gate, an Ethernet frame passes the port's tests in their order. -/
theorem networkCommandsComplete : Obligations.NetworkCommandsComplete := by
  refine ⟨?_, ?_, ?_, ?_, ?_, ?_, ?_, ?_, ?_, ?_, ?_, ?_, ?_, ?_⟩
  · intro s t v req h
    exact congrArg Host.Outcome.next (gateW_meets h)
  · intro s t v req h
    exact congrArg Host.Outcome.next (gateW_meets h)
  · intro s t v req h
    exact congrArg Host.Outcome.next (gateH_meets h)
  · intro s w hdue
    change execTimeParametersApply s = _
    simp only [execTimeParametersApply, hdue]
  · intro s req h
    exact congrArg Host.Outcome.next (readGate_readable h)
  · intro s t g htrig hen
    change execStamp s = _
    simp only [execStamp, htrig]
    rw [if_neg (by simp [hen])]
  · intro s t u n e d hn hrun hpeek hup hgood hdata
    change execTxEntry n s = _
    simp only [execTxEntry, hpeek, hdata]
    rw [if_neg (txEntry_taken hn hrun), if_neg (by simp [hup]), if_neg (by simp [hgood])]
  · intro s t n e hn hrun hpeek hup hbad
    change execTxEntry n s = _
    simp only [execTxEntry, hpeek]
    rw [if_neg (txEntry_taken hn hrun), if_neg (by simp [hup]), if_pos hbad]
  · intro s n req hn h
    change execTxtsq1Pop n req s = _
    rw [execTxtsq1Pop, if_pos hn, readGate_readable h]
  · intro s t n bs hup hmin hmax hacc htype hstore
    change execRxFrame n bs s = _
    simp only [execRxFrame, hstore]
    rw [if_neg (by simp [hup]), if_neg (by omega), if_neg (by simp [hacc, htype])]
  · intro s n bs hup hshort
    change execRxFrame n bs s = _
    rw [execRxFrame, if_neg (by simp [hup]), if_pos (.inl hshort)]
  · intro s n k len hup hk
    exact congrArg Host.Outcome.next (if_pos ⟨hup, hk⟩)
  · intro s t n hn hl ht
    have hdown : exec (.ethLinkDown n) s =
        .next (if (t.page (pgETH n)).state = .fault then t.setFl (pgETH n) Reg.ETH.LSTAT 1 0 2 else t) := by
      change execEthLinkDown n s = _
      simp only [execEthLinkDown, ← ht]
      exact if_pos ⟨hn, hl⟩
    exact ⟨fun hf => hdown.trans (congrArg _ (if_neg hf)), fun hf => hdown.trans (congrArg _ (if_pos hf))⟩
  · intro s n hn hl hen hcfg
    change execEthLinkUp n s = _
    simp only [execEthLinkUp, hcfg, Bool.false_and]
    exact if_pos ⟨hn, hl, hen⟩

end Sys2Proof.Machine
end

section
/-!
PROOFS. Toltur link (19): ports, ring and timebase (R381 to R388).
-/

namespace Sys2Proof.Machine

/-- Settles O44: each command of a port, the ring or the timebase under the conditions of its rule. -/
theorem ringCommandsComplete : Obligations.RingCommandsComplete := by
  refine ⟨?_, ?_, ?_, ?_, ?_, ?_, ?_, ?_, ?_, ?_⟩
  · intro s t b l hl hlock hstate ht
    have hlost : exec (.tlkLaneLockLoss b l) s = .next (if t.portState b = 3 then t.setPortState b 1 else t) := by
      change execTlkLaneLockLoss b l s = _
      simp only [execTlkLaneLockLoss, ← ht]
      exact if_pos ⟨hl, hlock, hstate⟩
    exact ⟨fun h => hlost.trans (congrArg _ (if_pos h)), fun h => hlost.trans (congrArg _ (if_neg h))⟩
  · intro s b hstate hlock hclk
    exact if_pos ⟨hstate, hlock, hclk⟩
  · intro s t b src t1 t2 t3 hstate hlock hclk ht
    change execPing b false src 0 t1 t2 t3 s = _
    simp only [execPing, ← ht]
    rw [if_neg (by simp [hstate, hlock, hclk]), if_neg (by simp), if_pos trivial]
  · intro s hrun hdue
    exact if_pos ⟨hrun, hdue⟩
  · intro s t b src b3 seq role rsize hup hsrc ht hcopy
    change execRingFrame b src b3 seq role rsize s = _
    simp only [execRingFrame, if_neg hsrc, ← ht]
    rw [if_neg (by simp [hup]), if_neg (by simp [hcopy])]
  · intro s hrun hrole hred hdue
    change execTbSend s = _
    simp only [execTbSend]
    rw [if_neg (by simp [hrun]), if_neg (by omega), if_pos ⟨hrole, hred, hdue⟩]
  · intro s t b pf src hops dly ws hup hlen hcopy ht hep
    change execTbFrame b false pf src hops dly ws s = _
    have hrepeat : t = (s.drawn.tlkNote b 1 0 (ws.headD 0 % 2 ^ 64)).tlkRepeat b 1 src (b2n false) hops (b2n pf)
      ((dly + s.ldly b + s.draw 8 % 129) % 65536) ws := ht
    simp only [execTbFrame, ← hrepeat]
    rw [if_neg (by simp [hup]), if_neg (by simp [hlen]), if_neg (Bool.eq_false_iff.1 hcopy),
      if_neg (not_or.2 ⟨Bool.false_ne_true, by omega⟩), if_neg (by omega), if_neg (by omega)]
  · intro s hfol hlost hdue
    exact if_pos ⟨hfol, hlost, hdue⟩
  · intro s hfol hdue
    exact if_pos ⟨hfol, hdue⟩
  · intro s b hup
    have hport : ¬ s.portUp b = false := by simp [hup]
    exact ⟨(if_neg hport).trans (if_pos rfl), (if_neg hport).trans (if_neg (by simp))⟩

end Sys2Proof.Machine
end

section
/-!
PROOFS. Toltur link (19): tunnel, forwarding and standby (R389 to R400).
-/

namespace Sys2Proof.Machine

/-- A unicast frame for this device is taken. -/
theorem State.tlkTake_here {s : State} {b : Bool} (type src b3 arg : Nat) (words : List Nat) (f : State → State)
    (hup : s.portUp b = true) (hid : s.devid < 15) : s.tlkTake b type src s.devid b3 arg words f = f s := by
  rw [State.tlkTake, if_neg (by simp [hup]), if_neg (by omega), if_pos rfl]

/-- A number and 2^32 times a small word count read back as the two fields of a MIR frame's first word. -/
theorem mirHead_fields {q : Nat} (hq : q < 2 ^ 32) : (q + 2 ^ 32) % 2 ^ 32 = q ∧ bits (q + 2 ^ 32) 35 32 = 1 := by
  refine ⟨by omega, ?_⟩
  rw [bits, Nat.shiftRight_eq_div_pow]
  omega

/-- Settles O45: a frame of a port that is up, addressed to this device, is taken by its own rule. -/
theorem ringTrafficCommandsComplete : Obligations.RingTrafficCommandsComplete := by
  refine ⟨?_, ?_, ?_, ?_, ?_, ?_, ?_, ?_, ?_, ?_, ?_, ?_, ?_, ?_, ?_⟩
  · rintro s t u g l hfind rfl rfl hrun hred rfl
    change execRsend s = _
    simp only [execRsend, hfind]
    exact if_neg (not_or.2 ⟨ne_false_of_eq_true hrun, hred⟩)
  · intro s t b pf src hops seq ws hup hmin hmax hcopy ht
    change execEvtFrame b false pf src hops seq ws s = _
    have hrepeat : t = (s.tlkNote b 2 src seq).tlkRepeat b 2 src (b2n false) hops (b2n pf) seq ws := ht
    simp only [execEvtFrame, ← hrepeat]
    rw [if_neg (by simp [hup]), if_neg (by omega), if_neg (Bool.eq_false_iff.1 hcopy), if_neg Bool.false_ne_true]
  · intro s t wr wide req h
    exact congrArg Host.Outcome.next (gateH_meets h)
  · intro s b wide src b3 seq off d hup hid hsrc hbus
    change execTreq b src s.devid b3 seq off wide true d s = _
    simp only [execTreq]
    rw [State.tlkTake_here _ _ _ _ _ _ hup hid, if_neg (not_not_intro hsrc), if_neg (Bool.eq_false_iff.1 hbus), if_pos trivial]
  · intro s b wide src b3 seq off d hup hid hsrc hbus
    change execTreq b src s.devid b3 seq off wide false d s = _
    simp only [execTreq]
    rw [State.tlkTake_here _ _ _ _ _ _ hup hid, if_neg (not_not_intro hsrc), if_neg (Bool.eq_false_iff.1 hbus),
      if_neg Bool.false_ne_true]
  · intro s b b3 code d x hup hid htun hwr
    change execTrsp b x.dev s.devid b3 x.seq code d s = _
    rw [execTrsp, State.tlkTake_here _ _ _ _ _ _ hup hid]
    simp only [htun, hwr]
    rw [if_pos ⟨trivial, trivial⟩, if_neg Bool.false_ne_true]
  · intro s x htun hdue
    change execTlkTuntmo s = _
    simp only [execTlkTuntmo, htun]
    exact if_pos hdue
  · rintro s t b src b3 w ws hup hid hmgr hlen hmax hrestart rfl hexp
    change execFwdFrame b src s.devid b3 (w :: ws) s = _
    have hdist : (w % 2 ^ 32 + 2 ^ 32 - (s.fwdRx src).expect) % 2 ^ 32 = 0 := by omega
    simp only [execFwdFrame, List.headD_cons, List.drop_one, List.tail_cons, hrestart, Bool.false_eq_true, if_false]
    rw [if_neg (by simp [hlen]; omega), State.tlkTake_here _ _ _ _ _ _ hup hid, if_neg (not_not_intro hmgr),
      if_pos hdist]
  · rintro s t b b3 a hup hid rfl
    refine ⟨?_, ?_⟩
    · change execFack b s.mgr s.devid b3 a false s = _
      rw [execFack, State.tlkTake_here _ _ _ _ _ _ hup hid, if_neg (not_not_intro rfl)]
      rfl
    · change execFack b s.mgr s.devid b3 a true s = _
      rw [execFack, State.tlkTake_here _ _ _ _ _ _ hup hid, if_neg (not_not_intro rfl)]
      rfl
  · intro s d x hrx hrun hmgr hdue
    change execFackSend d s = _
    simp only [execFackSend, hrx]
    exact if_pos ⟨hrun, hmgr, hdue⟩
  · intro s hrun hopen hdue
    exact if_pos ⟨hrun, by simpa using hopen, hdue⟩
  · intro s b src b3 c ws hup hid hmin hlen
    change execClpdFrame b src s.devid b3 c ws s = _
    rw [execClpdFrame, if_neg (by omega), State.tlkTake_here _ _ _ _ _ _ hup hid]
  · rintro s t b b3 q a d hup hid hrole hred hnext hq hskip hnarrow rfl
    change execMirFrame b s.mgr s.devid b3 [q + 2 ^ 32, a, d] s = _
    obtain ⟨hseq, hcount⟩ := mirHead_fields hq
    have hwrites : mirWrites [a, d] = [(a % 2 ^ 22, false, d)] := by simp only [mirWrites, hnarrow]
    simp only [execMirFrame, List.headD_cons, List.drop_one, List.tail_cons, hseq, hcount, hwrites, List.foldl_cons,
      List.foldl_nil, hskip, Bool.false_eq_true, if_false]
    rw [if_neg (by simp), State.tlkTake_here _ _ _ _ _ _ hup hid, if_neg (by simp [hrole, hred])]
    simp only [hnext, Bool.false_eq_true, if_false, Nat.add_sub_cancel]
  · intro s hrun hred hcfg hdue
    exact if_pos ⟨hrun, hred, hcfg, hdue⟩
  · intro s t req
    exact ⟨fun h => congrArg Host.Outcome.next (gateH_meets h), fun h => congrArg Host.Outcome.next (gateH_meets h),
      fun h => congrArg Host.Outcome.next (gateH_meets h)⟩

end Sys2Proof.Machine
end

section
/-!
PROOFS. Memory (20): SRAM and DRAM (R404 to R418, R486).
-/

namespace Sys2Proof.Machine

/-- A DRAM write that no rule refuses puts its bytes. -/
theorem State.dramWrite_granted {s : State} {w : Who} {a : Nat} {bs : List Byte}
    (hgrant : s.dramFault w true a bs.length = none) : (s.dramWrite w a bs).1 = { s.dramPass w true a bs.length with
      dram := Memory.setBytes (dramEmpty s.dramLost) s.dram a bs
      dramBad := s.dramBad.filter (fun b => !(decide (a ≤ b) && decide (b + 8 ≤ a + bs.length))) } := by
  simp only [State.dramWrite, hgrant]

/-- A DRAM read that no rule refuses answers its bytes. -/
theorem State.dramRead_granted {s : State} {w : Who} {a n : Nat} (hgrant : s.dramFault w false a n = none) :
    s.dramRead w a n = (s.dramPass w false a n, some (s.dramBytes a n)) := by
  simp only [State.dramRead, hgrant]

/-- A channel that serves requests is one of the part's. -/
theorem State.lt_nch_of_dmcLive {s : State} {c : Nat} (hlive : s.dmcLive c = true) : c < s.nch := by
  simp only [State.dmcLive, Bool.and_eq_true, decide_eq_true_eq] at hlive
  exact hlive.1.1.1

/-- Settles O46: what an SRAM word, a DRAM request or a channel's command leaves. -/
theorem memoryCommandsComplete : Obligations.MemoryCommandsComplete := by
  refine ⟨?_, ?_, ?_, ?_, ?_, ?_, ?_, ?_, ?_, ?_, ?_⟩
  · intro s k w hwb
    exact congrArg Host.Outcome.next (if_pos hwb)
  · rintro s t f k w hon hdue rfl rfl rfl
    change execScrub f s = _
    simp only [execScrub]
    rw [if_neg (by simp [hon, hdue])]
  · intro s t v req h
    exact congrArg Host.Outcome.next (gateH_meets h)
  · rintro s t u who a n bs ce ue rfl rfl hgrant rfl
    change execDramRequest who true a bs.length bs ce ue s = _
    have hbytes : (bs ++ List.replicate (bs.length - bs.length) 0).take bs.length = bs := by simp
    simp only [execDramRequest, hbytes]
    exact congrArg Host.Outcome.next (State.dramWrite_granted hgrant)
  · rintro s t who a n bs ce ue rfl hgrant
    change execDramRequest who false a n bs ce ue s = _
    simp only [execDramRequest, State.dramRead_granted hgrant]
    rfl
  · rintro s t c ready b i r hc rfl hlive hpick
    change execDramCommand c ready s = _
    simp only [execDramCommand, hpick]
    rw [if_neg (Nat.not_le.2 hc), if_neg (by simp [hlive])]
  · rintro s t c b n hlive hb hdue rfl
    change execRefresh c b n s = _
    have hcond : ((((s.dmc c).bank b).q.isEmpty && decide (-8 < ((s.dmc c).bank b).owed + n)) ||
        decide (8 ≤ ((s.dmc c).bank b).owed + n)) = true := by
      simpa using hdue
    simp only [execRefresh, hcond, if_true, decide_eq_true_eq]
    rw [if_neg (by have := State.lt_nch_of_dmcLive hlive; omega), if_neg (by simp [hlive])]
  · intro s c b row hc hrow hq hidle
    change execRowClose c b s = _
    simp only [execRowClose]
    rw [if_neg (by simp [hc, hrow, hq, hidle])]
  · rintro s t c u ce ue hlive hecc hon hdue rfl rfl hgood
    change execDmcScrub c ce ue s = _
    simp only [execDmcScrub, hgood]
    rw [if_neg (by simp [hlive, hecc, hon, hdue])]
  · rintro s t c w ok htrain rfl
    have hend : exec (.dramTraining c w ok) s = .next (if ((s.trained c w ok).page (pgDMC c)).en &&
        ((s.trained c w ok).page (pgDMC c)).state == .off then (s.trained c w ok).settlePage (pgDMC c)
        else s.trained c w ok) := if_pos htrain
    exact ⟨fun hen hoff => hend.trans (congrArg _ (if_pos (by simp [hen, hoff]))),
      fun hen => hend.trans (congrArg _ (if_neg (by simp [hen])))⟩
  · rintro s t c rate hc hrate hnew rfl
    have hset : exec (.derateChange c rate) s = .next (if (s.setFl (pgDMC c) Reg.DMC.DSTAT 5 4 rate).fb pgCALC
        Reg.CALC.CFG 13 then (s.setFl (pgDMC c) Reg.DMC.DSTAT 5 4 rate).calRequest 5 c false false
        else s.setFl (pgDMC c) Reg.DMC.DSTAT 5 4 rate) := if_neg (by omega)
    exact ⟨fun h => hset.trans (congrArg _ (if_pos h)),
      fun h => hset.trans (congrArg _ (if_neg (Bool.eq_false_iff.1 h)))⟩

end Sys2Proof.Machine
end

section
/-!
PROOFS. Calibration and Lantern (21): R423 to R437.
-/

namespace Sys2Proof.Machine

/-- LANT reads monitors in RUN as in DRAIN. -/
theorem State.lantLive_of_running {s : State} (hrun : s.running pgLANT = true) : s.lantLive = true := by
  obtain ⟨hstate, hworks⟩ := (State.running_iff s pgLANT).1 hrun
  simp [State.lantLive, hstate, hworks]

/-- A calibration that ends in time and was not lost gives its result. -/
theorem execCalEnd_due {s : State} {d w : Nat} {ok : Bool} {j : CalJob}
    (hrun : s.cal.running.find? (·.dom == d) = some j) (hkept : j.lost = false)
    (hserves : s.calServes d j.inst = true) (hdue : s.calDue j = true) :
    execCalEnd d w ok s = .next (((s.calResult j w ok).calRelease j).calPump d) := by
  simp only [execCalEnd, hrun]
  rw [if_neg (by simp [hkept, hserves]), if_pos hdue]

/-- Settles O48: a calibration's start and end, and what a monitor, a plan step or a PMBus transaction leaves. -/
theorem calibrationAndLanternCommandsComplete : Obligations.CalibrationAndLanternCommandsComplete := by
  refine ⟨?_, ?_, ?_, ?_, ?_, ?_, ?_, ?_, ?_, ?_, ?_, ?_⟩
  · intro s t d i req f h
    exact congrArg Host.Outcome.next (gateH_meets h)
  · intro s d i w hd hi hserves hon heye
    exact if_pos ⟨hd, hi, hserves, hon, heye⟩
  · intro s d w ok j hrun hkept hserves hdue
    exact execCalEnd_due hrun hkept hserves hdue
  · rintro s t j hnext hfree hstate hlane hgap rfl
    change execRecalStart s = _
    simp only [execRecalStart, hnext]
    rw [if_neg (Bool.eq_false_iff.1 hfree), if_neg (not_not_intro hstate), if_pos ⟨hlane, .inl hgap⟩]
  · intro s j hnext hwait hdue
    change execGapwaitExpiry s = _
    simp only [execGapwaitExpiry, hnext]
    exact if_pos ⟨hwait, hdue⟩
  · rintro s t j hnext hfree hearly hserves rfl
    change execDramRetrain s = _
    simp only [execDramRetrain, hnext, hearly]
    rw [if_neg (by simp [hfree]), if_neg (by simp [hserves])]
  · rintro s k i v z hk hrun hi hslack rfl
    change execMonitorRead k i v s = _
    have hlive := State.lantLive_of_running hrun
    rcases hk with rfl | rfl
    · simp only [execMonitorRead]
      rw [if_neg (by simp [hlive, hi])]
      simp [hslack]
    · simp only [execMonitorRead]
      rw [if_neg (by simp [hlive, hi])]
      simp [hslack]
  · intro s hon hdue
    exact if_pos ⟨hon, hdue⟩
  · intro s t req h
    exact congrArg Host.Outcome.next (gateH_meets h)
  · intro s x hplan hlive hphase hwait
    have hstep : exec .planStep s =
        .next ((if x.noAvs then s else s.setVout x.vout).planMove { x with wait := none }) := by
      change execPlanStep s = _
      simp only [execPlanStep, hplan]
      rw [if_neg (by simp [hlive, hphase, hwait])]
    exact ⟨fun h => hstep.trans (by simp only [h, Bool.false_eq_true, if_false]),
      fun h => hstep.trans (by simp only [h, if_true])⟩
  · intro s cmd v hlive
    have hon : ¬ s.lantLive = false := by simp [hlive]
    refine ⟨?_, fun hmode => ?_, if_neg hon, if_neg hon⟩
    · change execPmbusTransaction 2 0 v s = _
      rw [execPmbusTransaction, if_neg hon]
      rfl
    · change execPmbusTransaction 3 0 v s = _
      rw [execPmbusTransaction, if_neg hon]
      simp [hmode]
  · intro s hlive
    exact congrArg Host.Outcome.next (if_pos hlive)

end Sys2Proof.Machine
end

section
/-!
PROOFS. Boot (22): objects and the attestation key (R441 to R456).
-/

namespace Sys2Proof.Machine

/-- Settles O49: an object's check decides between its acceptance and its rejection. -/
theorem bootCommandsComplete : Obligations.BootCommandsComplete := by
  refine ⟨?_, ?_, ?_, ?_, ?_, ?_, ?_⟩
  · intro s t src bs pm ht hstage hsrc hx hboot hfail
    have hturn : ¬ (t.stage ≠ 2 ∧ t.stage ≠ 4) := by omega
    have hread : ¬ (t.xspiOk = false ∨ t.bootSrc ≠ src ∨ t.bootFail = true) := by simp [hx, hboot, hfail]
    refine ⟨fun hgood => ?_, fun c hcode hbad => ?_⟩
    · change execObjectVerify src bs pm s = _
      simp only [execObjectVerify, ← ht, hgood]
      rw [if_neg hturn, if_pos hsrc, if_neg hread]
    · obtain ⟨n, rfl⟩ := Nat.exists_eq_succ_of_ne_zero hbad
      change execObjectVerify src bs pm s = _
      simp only [execObjectVerify, ← ht, hcode]
      rw [if_neg hturn, if_pos hsrc, if_neg hread]
  · intro s t n bs pm ht hstage hlen
    have hturn : ¬ (t.stage ≠ 2 ∧ t.stage ≠ 4) := by omega
    refine ⟨fun hgood => ?_, fun c hcode hbad => ?_⟩
    · change execObjectVerify 2 bs pm s = _
      simp only [execObjectVerify, ← ht, hlen, hgood]
      rw [if_neg hturn, if_neg (Nat.lt_irrefl 2)]
    · obtain ⟨m, rfl⟩ := Nat.exists_eq_succ_of_ne_zero hbad
      change execObjectVerify 2 bs pm s = _
      simp only [execObjectVerify, ← ht, hlen, hcode]
      rw [if_neg hturn, if_neg (Nat.lt_irrefl 2)]
  · intro s t ht hx hstage hsrc hfail
    change execDqsTimeout 1 s = _
    simp only [execDqsTimeout, ← ht]
    rw [if_neg (by simp [hx, hfail]; omega), if_pos trivial]
  · intro s t req h
    exact congrArg Host.Outcome.next (gateH_meets h)
  · intro s t v req h
    exact congrArg Host.Outcome.next (gateW_meets h)
  · intro s t v req h
    exact congrArg Host.Outcome.next (gateH_meets h)
  · intro s t n hsub hdue ht
    have hkey : ¬ s.cycle < n + 355246040 := by omega
    refine ⟨fun hfirst hstage => ?_, fun hfirst hstage => ?_, fun hready => ?_⟩
    · change execAttready s = _
      simp only [execAttready, hsub, ← ht, hfirst, Bool.not_false, if_true, if_pos hstage]
      exact if_neg hkey
    · change execAttready s = _
      simp only [execAttready, hsub, ← ht, hfirst, Bool.not_false, if_true, if_neg hstage]
      exact if_neg hkey
    · change execAttready s = _
      simp only [execAttready, hsub, ← ht, hready, Bool.not_true, Bool.false_eq_true, if_false]
      exact if_neg hkey

end Sys2Proof.Machine
end

section
/-!
PROOFS. Keep's queue (22): its commands (R454 to R461).
-/

namespace Sys2Proof.Machine

section
variable {s t : State} {e : List Byte}

/-- A row executes the entry at the front when it is its own and its reserved bytes are 0. -/
theorem State.keepRow_mine {mine : State → List Byte → Bool} {f : State → List Byte → Option State}
    (htakes : s.keepTakes = true) (hpeek : s.peek pgKEEP 0 = (t, some e)) (hres : leAt e 1 7 = 0)
    (hmine : mine t e = true) : s.keepRow mine f = (f t e).getD t := by
  simp only [State.keepRow, hpeek]
  rw [if_neg (by simp [htakes]), if_neg (by simp [hmine]), if_neg (not_not_intro hres)]

/-- The row of one OP. -/
theorem State.keepRow_op {n : Nat} {f : State → List Byte → Option State} (htakes : s.keepTakes = true)
    (hpeek : s.peek pgKEEP 0 = (t, some e)) (hres : leAt e 1 7 = 0) (hop : leAt e 0 1 = n) :
    s.keepRow (isOp n) f = (f t e).getD t :=
  State.keepRow_mine htakes hpeek hres (beq_iff_eq.2 hop)

/-- The row of a SIGNED command with one payload OP. -/
theorem State.keepRow_signed {n : Nat} (htakes : s.keepTakes = true) (hpeek : s.peek pgKEEP 0 = (t, some e))
    (hres : leAt e 1 7 = 0) (hop : leAt e 0 1 = 4) (hpayload : t.signedOp e = n) :
    s.keepRow (isSigned n) (fun t e => some (t.signed e)) = t.signed e :=
  State.keepRow_mine htakes hpeek hres (by simp [isSigned, hop, hpayload])

end

/-- Settles O50: each OP of an entry at the front has its own row. -/
theorem keepQueueCommandsComplete : Obligations.KeepQueueCommandsComplete := by
  intro s t e htakes hpeek hres
  have hsigned : ∀ n, leAt e 0 1 = 4 → t.signedOp e = n →
      Host.Outcome.next (s.keepRow (isSigned n) (fun t e => some (t.signed e))) =
        (.next (t.signed e) : Host.Outcome State Fault Refusal) := fun n hop hpayload =>
    congrArg Host.Outcome.next (State.keepRow_signed htakes hpeek hres hop hpayload)
  refine ⟨fun hop => ?_, fun hop => ?_, fun hop => ?_, fun hop => ?_, fun hop => ?_, hsigned 1, hsigned 2, hsigned 3,
    hsigned 4, hsigned 5, hsigned 6⟩
  · exact congrArg Host.Outcome.next (State.keepRow_op htakes hpeek hres hop)
  · exact congrArg Host.Outcome.next (State.keepRow_op htakes hpeek hres hop)
  · exact congrArg Host.Outcome.next (State.keepRow_op htakes hpeek hres hop)
  · exact congrArg Host.Outcome.next (State.keepRow_op htakes hpeek hres hop)
  · change execCommit s = _
    rw [execCommit, State.keepRow_mine htakes hpeek hres (by simp [hop]), if_pos hop]
    rfl

end Sys2Proof.Machine
end

section
/-!
PROOFS. The TAP (23): R463, R468, R469.
-/

namespace Sys2Proof.Machine

/-- The TAP answers while the clocks run. -/
theorem State.tapOn_of_clocked {s : State} (h : s.clocked = true) : s.tapOn = true := by
  refine State.tapOn_of_ne fun hoff => ?_
  simp [State.clocked, hoff] at h

/-- A boundary instruction that is granted acts with its own code in the instruction register. -/
theorem State.tapBoundary_granted {s : State} (hclk : s.clocked = true) (hlevel : 1 ≤ s.level) (ir : Nat)
    (f : State → State) : s.tapBoundary ir f = f (s.tapIr ir) := by
  rw [State.tapBoundary, if_neg (by simp [State.tapOn_of_clocked hclk]),
    if_pos (by simp [State.tapScan, hclk, hlevel])]

/-- What a DMI scan shifts out shows the data of the access before it in its low half. -/
theorem State.dmiOut_readData_low (s : State) : s.dmiOut.readData % 2 ^ 32 = s.dbg.dmiData % 2 ^ 32 := by
  change (s.dbg.dmiData % 2 ^ 32 + s.draw 12 * 2 ^ 32 + s.dbg.dmiStat * 2 ^ 44) % 2 ^ 32 = _
  omega

/-- A DMI access passes the tests of the TAP and of its own code. -/
theorem execDmi_access {s t : State} {op a : Nat} (d : Nat) (hop : op = 1 ∨ op = 2) (hclk : s.clocked = true)
    (ht : t = (s.tapIr 0x10).dmiOut) (hreach : t.dmiReaches (a % 4096) = true) (hopen : t.windowOpen 7 = true) :
    execDmi op a d s = .next
      (let u := if op = 2 then t.regWrite (pageBase pgDBGC + a % 4096) 4 (d % 2 ^ 32) 7
        else t.regRead (pageBase pgDBGC + a % 4096) 4 7
      { u with readData := t.readData, dbg := { u.dbg with
        dmiData := if op = 2 then t.dbg.dmiData else u.readData
        dmiStat := if (if op = 2 then t.ownerRefuses pgDBGC 7 else t.readRefused pgDBGC 7) then 2 else 0 } }) := by
  simp only [execDmi, ← ht]
  rw [if_neg (by simp [State.tapOn_of_clocked hclk]), if_neg (by simp [hclk]), if_neg (by omega),
    if_neg (by simp [hreach, hopen])]

/-- Settles O51: an instruction takes effect where its grant holds, a DMI access reaches the DBGC page. -/
theorem tapCommandsComplete : Obligations.TapCommandsComplete := by
  refine ⟨?_, ?_, ?_, ?_, ?_⟩
  · intro s hst
    have hon := State.tapOn_of_ne hst
    have hawake : ¬ s.tapOn = false := by simp [hon]
    exact ⟨execIdcode_on hon, execBypass_on hon, congrArg Host.Outcome.next (if_pos hon),
      congrArg Host.Outcome.next ((if_neg hawake).trans (if_pos rfl)),
      congrArg Host.Outcome.next ((if_neg hawake).trans (if_neg Bool.false_ne_true))⟩
  · intro s pins shift hclk hlevel
    have hgrant := fun ir f => congrArg (@Host.Outcome.next State Fault Refusal)
      (State.tapBoundary_granted hclk hlevel ir f)
    exact ⟨hgrant _ _, hgrant _ _, hgrant _ _, hgrant _ _⟩
  · rintro s t u a d hclk ht hreach hopen hgood rfl
    change execDmi 1 a d s = _
    rw [execDmi_access d (.inl rfl) hclk ht hreach hopen]
    simp only [hgood]
    rfl
  · rintro s t u a d hclk ht hreach hopen hgood rfl
    change execDmi 2 a d s = _
    rw [execDmi_access d (.inr rfl) hclk ht hreach hopen]
    simp only [hgood]
    rfl
  · intro s a d hclk
    refine ⟨?_, State.dmiOut_readData_low _⟩
    change execDmi 0 a d s = _
    rw [execDmi, if_neg (by simp [State.tapOn_of_clocked hclk]), if_neg (by simp [hclk]), if_pos (by decide)]

end Sys2Proof.Machine
end

section
/-!
PROOFS. Debug port (23): tokens, cores, freezes and the system bus (R464 to R473).
-/

namespace Sys2Proof.Machine

/-- The breakpoint that matches an address: the lowest enabled one with its upper bits. -/
theorem breakpoint_lowest {s : State} {c a i : Nat} (hi : i < 8)
    (hbelow : ∀ j < i, bit (s.rg64 pgDBGC (Reg.DBGC.coreBP c j)) 0 = false)
    (hon : bit (s.rg64 pgDBGC (Reg.DBGC.coreBP c i)) 0 = true)
    (haddr : s.rg64 pgDBGC (Reg.DBGC.coreBP c i) / 2 = a % 2 ^ 64 / 2) :
    (List.range 8).find? (fun i => bit (s.rg64 pgDBGC (Reg.DBGC.coreBP c i)) 0 &&
      s.rg64 pgDBGC (Reg.DBGC.coreBP c i) / 2 == a % 2 ^ 64 / 2) = some i := by
  rw [List.find?_range_eq_some]
  exact ⟨by simp only [hon, haddr, beq_self_eq_true, Bool.and_self], List.mem_range.2 hi,
    fun j hj => by simp only [hbelow j hj, Bool.false_and, Bool.not_false]⟩

/-- Settles O54: a token decides the level, a core is stopped by what its rule names. -/
theorem debugModuleCommandsComplete : Obligations.DebugModuleCommandsComplete := by
  refine ⟨?_, ?_, ?_, ?_, ?_, ?_, ?_, ?_, ?_, ?_, ?_, ?_, ?_⟩
  · intro s t v req h
    exact congrArg Host.Outcome.next (gateH_meets h)
  · intro s t req h hidle
    exact congrArg Host.Outcome.next ((gateH_meets h).trans (if_neg (Bool.eq_false_iff.1 hidle)))
  · intro s t v req h hidle hopen hlen
    refine congrArg Host.Outcome.next ((gateW_meets h).trans ?_)
    rw [State.tkWord, if_neg (Bool.eq_false_iff.1 hidle), if_neg (by simp [hopen]), if_neg (Nat.not_lt.2 hlen)]
  · intro s t v req h
    exact congrArg Host.Outcome.next (gateH_meets h)
  · rintro s t u n hlen rfl rfl
    refine ⟨fun hgood => ?_, fun hbad => ?_⟩
    · change execToken s = _
      simp only [execToken, hlen, if_pos hgood]
    · change execToken s = _
      simp only [execToken, hlen, if_neg hbad]
  · intro s t c req hc h hreach
    change execHaltreq c req s = _
    rw [execHaltreq, if_pos hc, gateH_meets h, State.haltReq, if_pos hreach]
  · intro s t c req hc h
    change execResumereq c req s = _
    rw [execResumereq, if_pos hc, gateH_meets h]
  · intro s t c v req hc h
    change execRegselGo c v req s = _
    rw [execRegselGo, if_pos hc, gateH_meets h]
  · intro s c a i hwatch hi hbelow hon haddr
    change execBreakpoint c a s = _
    simp only [execBreakpoint, breakpoint_lowest hi hbelow hon haddr, hwatch]
  · intro s c a n st hwatch hon hkind hone hn haddr
    change execWatchpoint c a n st s = _
    have hrange : List.range 4 = [0, 1, 2, 3] := rfl
    have hmeets : (a < a + n) ∧ (a < a + 1) := by omega
    simp only [execWatchpoint, hrange, List.find?_cons, hon, hkind, hone, haddr, hmeets, hwatch, Nat.min_zero,
      Nat.pow_zero, Nat.div_one, Nat.mul_one, Bool.and_self, decide_true]
  · intro s t g
    refine ⟨fun htrig => ?_, fun htrig => ?_⟩
    · change execHalt s = _
      simp only [execHalt, htrig]
    · change execResume s = _
      simp only [execResume, htrig]
  · intro s t req
    exact ⟨fun h => congrArg Host.Outcome.next (gateH_meets h), fun h => congrArg Host.Outcome.next (gateH_meets h)⟩
  · intro s t v req
    refine ⟨fun h => congrArg Host.Outcome.next (gateW_meets h), fun h => ?_,
      fun h => congrArg Host.Outcome.next (readGate_readable h)⟩
    refine congrArg Host.Outcome.next ((gateW_meets h).trans ?_)
    simp only [State.sbWrite, if_true]
    rw [if_neg (by decide)]

end Sys2Proof.Machine
end

section
/-!
PROOFS. Power states (23): requests and wakes (R475 to R479).
-/

namespace Sys2Proof.Machine

/-- The state in which a granted request leaves the power unit: an entry to its target is under way. -/
def State.enteringPower (s : State) (target : Nat) : State :=
  State.showPwr { s with pwr := { s.pwr with entering := true, target := target } }

/-- A request from RUN that no rule refuses begins an entry; OFF keeps the error summary first (R408). -/
theorem State.powerReq_granted {s : State} {k : Nat} (hwake : s.pwr.wake = none) (hidle : s.pwr.entering = false)
    (hrun : s.pwr.state = 0) (hmin : 1 ≤ k) (hmax : k ≤ 4) (hgood : s.reqBad k = none) :
    s.powerReq k =
      (if k = 4 then { s with keep := { s.keep with errSum := s.keep.errSum.put s.errSummary } } else s).enteringPower
        k := by
  have hclk : s.clocked = true := by simp [State.clocked, hrun]
  simp only [State.powerReq, hgood]
  rw [if_neg (by simp [hwake, hclk]; omega), if_neg (by omega), if_neg (by simp [hidle, hrun]; omega)]
  split <;> rfl

/-- A wake that is enabled and works in the state it meets begins. -/
theorem State.wake_wakeBy {s : State} {cause : Nat} {works : List Nat}
    (hen : s.fb pgPWRC Reg.PWRC.WAKEEN cause = true) (hmet : s.pwr.met ∈ works) (hnone : s.pwr.wake = none) :
    (s.wakeBy cause works).pwr.wake = some cause := by
  simp only [State.wakeBy]
  rw [if_neg (by simp [hen, hmet, hnone])]
  rfl

/-- Settles O55: a granted request enters its state, an enabled wake begins, its end restores RUN. -/
theorem powerCommandsComplete : Obligations.PowerCommandsComplete := by
  refine ⟨?_, ?_, ?_, ?_, ?_, ?_, ?_, ?_⟩
  · intro s t req k hwake hidle hrun hmin hmax h hgood
    have hreq : t.powerReq k = t.enteringPower k :=
      (State.powerReq_granted hwake hidle hrun hmin (by omega) hgood).trans
        (congrArg (State.enteringPower · k) (if_neg (by omega)))
    obtain rfl | rfl | rfl : k = 1 ∨ k = 2 ∨ k = 3 := by omega
    · exact congrArg Host.Outcome.next ((gateH_meets h).trans hreq)
    · exact congrArg Host.Outcome.next ((gateH_meets h).trans hreq)
    · exact congrArg Host.Outcome.next ((gateH_meets h).trans hreq)
  · intro s t req hwake hidle hrun h hgood
    exact congrArg Host.Outcome.next
      ((gateH_meets h).trans (State.powerReq_granted hwake hidle hrun (by omega) (Nat.le_refl _) hgood))
  · intro s t req hwake hstate hmet h
    refine congrArg Host.Outcome.next ((gateH_meets h).trans ?_)
    have hclk : t.clocked = true := by simp [State.clocked, hstate]
    simp only [State.powerReq]
    rw [if_neg (by simp [hwake, hclk]), if_pos trivial, if_pos hmet]
  · intro s hent htarget
    change execPowerEntryDone s = _
    simp only [execPowerEntryDone, if_pos htarget]
    rw [if_neg (by simp [hent]), if_neg (by omega), htarget]
  · intro s t g htrig hen hnone hmet
    refine ⟨?_, State.wake_wakeBy hen (by simp [hmet]) hnone⟩
    change execWake s = _
    simp only [execWake, htrig]
  · intro s hen hnone hmet
    exact ⟨rfl, State.wake_wakeBy hen hmet hnone⟩
  · intro s n htimer hdue hen hnone hmet
    exact ⟨congrArg Host.Outcome.next (if_pos ⟨htimer, hdue⟩), State.wake_wakeBy hen hmet hnone⟩
  · rintro s t n c hwake hstate hearly rfl
    change execWakeComplete n s = _
    have hclocks : (2 ≤ s.pwr.state ∧ s.pwr.early = false) = (s.pwr.state = 2) := by
      simp only [hearly, and_true, eq_iff_iff]; omega
    have hoff : ¬ (s.pwr.state = 4 ∧ s.pwr.early = false) := by omega
    have hasleep : ¬ (s.pwr.state = 3 ∧ s.pwr.early = false) := by omega
    simp only [execWakeComplete, hwake, if_neg hoff, if_neg hasleep, hclocks]

end Sys2Proof.Machine
end

section
/-!
PROOFS. Resets and start-up (24): R480 to R490.
-/

namespace Sys2Proof.Machine

/-- While the clocks run the part is in no state in which they stop. -/
theorem State.inLow_off_of_clocked {s : State} (hclk : s.clocked = true) : s.inLow 4 = false := by
  simp only [State.clocked, Bool.or_eq_true, beq_iff_eq] at hclk
  rcases hclk with hrun | hidle
  · simp [State.inLow, hrun]
  · simp [State.inLow, hidle]

/-- A write that is admitted meets running clocks. -/
theorem State.clocked_of_meets32 {s t : State} {p req off v : Nat} (h : s.meets32 p req off v t) :
    t.clocked = true := by
  obtain ⟨-, hadm⟩ := h
  simp only [State.admits, State.reaches, Bool.and_eq_true] at hadm
  exact hadm.1.1.2.2

/-- A reset that no stronger one holds back runs and is counted. -/
theorem State.resetBy_run {s : State} {strength : Nat} (cause : Nat) (f : State → State) (hon : s.inLow 4 = false)
    (hweak : s.rst < strength) :
    s.resetBy cause strength f = ((f s).resetCause cause).sat pgRSTC Reg.RSTC.RSTCNT 1 := by
  rw [State.resetBy, if_neg (by simp [hon]), if_neg (Nat.not_le.2 hweak)]

/-- A reset under a stronger one only shows its cause. -/
theorem State.resetBy_held {s : State} {strength : Nat} (cause : Nat) (f : State → State) (hon : s.inLow 4 = false)
    (hstrong : strength ≤ s.rst) : s.resetBy cause strength f = s.resetCause cause := by
  rw [State.resetBy, if_neg (by simp [hon]), if_pos hstrong]

/-- A watchdog that has run out: its first expiry warns, its second resets. -/
theorem execWatchdogExpiry_due {s : State} (hon : s.fb pgRSTC Reg.RSTC.CFG 1 = true) (hheld : s.wdog.held = none)
    (hclk : s.clocked = true) (hdue : s.wdog.at_ + 4096 * s.fl pgRSTC Reg.RSTC.WDTO 23 0 ≤ s.cycle) :
    execWatchdogExpiry s =
      (let t := { s with wdog := { s.wdog with at_ := s.cycle, warned := !s.wdog.warned } }
      if s.wdog.warned then .next (t.resetBy 3 3 (·.warm true false))
      else .next ((t.logOnly pgRSTC 0x351 0).happen pgRSTC 0 0)) := by
  simp only [execWatchdogExpiry]
  rw [if_neg (by simp [hon, hheld, hclk, hdue])]

/-- Settles O57: each reset runs or only shows its cause, by its strength. -/
theorem resetCommandsComplete : Obligations.ResetCommandsComplete := by
  refine ⟨?_, ?_, ?_, ?_, ?_, ?_, ?_, ?_, ?_, ?_, ?_, ?_⟩
  · intro s b
    rfl
  · intro s hon hrst
    exact congrArg Host.Outcome.next (State.resetBy_run 1 _ hon hrst)
  · intro s hon hrst
    exact congrArg Host.Outcome.next (State.resetBy_held 1 _ hon hrst)
  · intro s t v req h hkey hreset hcore hrst
    have hon := State.inLow_off_of_clocked (State.clocked_of_meets32 h)
    refine congrArg Host.Outcome.next ((gateH_meets h).trans ?_)
    simp only [State.rstcCmd]
    rw [if_neg (not_not_intro hkey), if_pos hreset, if_neg (Bool.eq_false_iff.1 hcore), State.resetBy_run 2 _ hon hrst]
  · intro s t v req h hkey hreset hcore
    refine congrArg Host.Outcome.next ((gateH_meets h).trans ?_)
    simp only [State.rstcCmd]
    rw [if_neg (not_not_intro hkey), if_neg (Bool.eq_false_iff.1 hreset), if_pos hcore]
  · intro s hon
    have hawake : ¬ s.inLow 4 = true := by simp [hon]
    refine ⟨?_, ?_, fun hrst pll => ?_⟩
    · change execClkLoss false false s = _
      rw [execClkLoss, if_neg Bool.false_ne_true, if_neg hawake]
      rfl
    · change execClkLoss true false s = _
      rw [execClkLoss, if_neg Bool.false_ne_true, if_neg hawake]
      rfl
    · change execClkLoss pll true s = _
      rw [execClkLoss, if_pos rfl, State.resetBy_run 4 _ hon hrst]
  · intro s hon
    refine ⟨fun hcfg hrst => ?_, fun hcfg hrst => ?_⟩
    · change execPerst s = _
      rw [execPerst, if_pos hcfg, State.resetBy_run 6 _ hon hrst]
    · change execPerst s = _
      rw [execPerst, if_neg (Bool.eq_false_iff.1 hcfg), if_neg (Bool.eq_false_iff.1 hon), if_neg (Nat.not_le.2 hrst)]
  · rintro s t hon hheld hclk hdue rfl
    have hexpiry := execWatchdogExpiry_due hon hheld hclk hdue
    refine ⟨fun hfirst => hexpiry.trans (if_neg (Bool.eq_false_iff.1 hfirst)),
      fun hsecond hrst => hexpiry.trans ((if_pos hsecond).trans ?_)⟩
    exact congrArg Host.Outcome.next (State.resetBy_run 3 _ (State.inLow_off_of_clocked hclk) hrst)
  · intro s t req h hheld
    refine congrArg Host.Outcome.next ((gateH_meets h).trans ((if_pos rfl).trans ?_))
    simp only [hheld, Option.map_none]
  · intro s t v req h hkey
    exact congrArg Host.Outcome.next ((gateH_meets h).trans (if_neg hkey))
  · intro s t v req h
    exact congrArg Host.Outcome.next (gateH_meets h)
  · rintro s t hshut rfl
    exact if_neg (Bool.eq_false_iff.1 hshut)

end Sys2Proof.Machine
end
